-- ==== Sys2Proof/Word.lean ====
section
/-! DEFINITION. The words the spec's tables are made of: bytes and 32-bit register words (R6). -/

namespace Sys2Proof

/-- A byte of memory, of a frame or of flash. -/
abbrev Byte := BitVec 8

/-- A register word: every register is 32 bits wide (R6). -/
abbrev Word := BitVec 32

end Sys2Proof
end

