-- ==== Sys2Proof/Syntax.lean ====
section
/-! DEFINITION. The commands of the hub, whole: one constructor per row of the operation table, with the operands
their senders supply. -/

namespace Sys2Proof

/-- The three access paths of the register map (R427). -/
inductive Path where
  /-- BAR0 of the PCI Express endpoint. -/
  | bar0
  /-- The management port. -/
  | mgmt
  /-- The JTAG REGACC instruction. -/
  | jtag
  deriving DecidableEq, Repr

/-- The fields of a CAPS block (R93). -/
structure Caps where
  uid : BitVec 64
  maxStep : BitVec 3
  loop : Bool
  relay : Bool
  vcMask : BitVec 4
  ls : BitVec 16
  asym : BitVec 16
  segMax : Nat
  rev : Byte
  vendor : BitVec 16
  product : BitVec 16
  deriving DecidableEq, Repr

/-- The fields of an ACK block (R93). -/
structure AckBlock where
  type : Nat
  sub : Nat
  seq : Nat
  status : Nat
  deriving DecidableEq, Repr


/-- One fragment of a KEY message (R117). -/
structure KeyFrag where
  frag : Nat
  count : Nat
  data : List Byte
  deriving DecidableEq, Repr

/-- The fields of an SOF block (R93), and the TU since its first header bit crossed the boundary. -/
structure SofBlock where
  vc : Fin 4
  dt : BitVec 6
  frame : BitVec 32
  lines : BitVec 16
  width : BitVec 16
  herd : Byte
  res : BitVec 32
  age : Nat
  deriving DecidableEq, Repr

/-- The fields of an EOF block (R93). -/
structure EofBlock where
  vc : Fin 4
  frame : BitVec 32
  linesSent : BitVec 16
  trunc : Bool
  sensorErr : Bool
  deriving DecidableEq, Repr

/-- What one scrub pass finds in a row of the line store (R142): its bank, its row, the corrections made, which of
its 16 words are beyond correction. -/
structure RowErr where
  bank : Fin 64
  row : Fin 1536
  fixed : Nat
  lost : List (Fin 16)
  deriving DecidableEq, Repr

/-- The status of a completion. -/
inductive CplStatus where
  /-- Successful Completion. -/
  | sc
  /-- Unsupported Request. -/
  | ur
  /-- Completer Abort. -/
  | ca
  deriving DecidableEq, Repr

/-- What the endpoint buffer that held an inbound TLP did to it (R284): nothing, a single-bit error corrected, an uncorrectable
error. -/
inductive BufErr where
  | none
  | corrected
  | uncorrectable
  deriving DecidableEq, Repr

/-- An error that the host link's line and transaction layers report (R284). -/
inductive LinkErr where
  | receiver
  | badTlp
  | badDllp
  | replayTimeout
  | replayRollover
  | dlProtocol
  | flowControl
  | malformed
  | overflow
  deriving DecidableEq, Repr

/-- A request to BAR2 or BAR4: a write of `data`, or a read of `len` bytes, at an offset of the BAR; the TLP's header, and what
its endpoint buffer did to it. -/
structure BarRequest where
  write : Bool
  ofs : Nat
  len : Nat
  data : List Byte
  poisoned : Bool
  hdr : List Word
  buf : BufErr
  deriving DecidableEq, Repr

/-- What the parts around and inside the hub turn out to be when a start tests them (R198, R289, R314, R315): the flash meets
R289; the line-store rows that fail BIST, as bank and row; a row of management memory fails; the slices that fail BIST; the
flash declares no erase suspend (R395); whether the CRC-32C over the OTP shadow, the repair map, the composed image or the
session table fails; the log slots whose open program, or close program, the flash will report as failed (R385); and how long
the start takes from its trigger to the end of step 11, in ms. -/
structure Found where
  flashOk : Bool
  badRows : List (Fin 64 × Fin 1536)
  mgmtBad : Bool
  badSlices : List (Fin 34)
  noSusp : Bool
  shadowBad : Bool
  repairBad : Bool
  imageBad : Bool
  sessBad : Bool
  badOpens : List (Fin 32768)
  badCloses : List (Fin 32768)
  ms : Nat
  deriving DecidableEq, Repr

/-- The commands and events of the hub: one constructor per row of the operation table, in its order. An operand
is what the sender of the command supplies; what it means is the meaning's own (Machine/Dispatch.lean). -/
inductive Instr where
  /-- VDD_AON_POWER_UP (R436). VDD_AON reaches 0.76 V; the always-on reset is released and a cold start begins. -/
  | vddAonPowerUp (addrPins : Fin 8)
  /-- START_WATCHDOG (R323). Step 11 has not ended 2 s after step 1 began, so the start fails with WATCHDOG. -/
  | startWatchdog
  /-- START_RETRY (R324). 100 ms after a failed start, the hub begins a new cold start from the bank that the fail counts select. -/
  | startRetry
  /-- FAIL_COUNT_CLEAR (R324). 10 s after a start ends step 11 without failing, that bank's fail count clears. -/
  | failCountClear
  /-- VDD_AON_BROWN_OUT (R436). VDD_AON stays below 0.70 V for 10 µs, and every PC_GATE and PS_EN is driven off until the next power-up. -/
  | vddAonBrownOut
  /-- START_WARM (R316). A keyed GLB_START_CTRL.WARM write begins a commanded warm start, which first ends the running work. -/
  | startWarm (path : Path) (key : BitVec 16) (found : Found)
  /-- START_COLD (R313). A keyed GLB_START_CTRL.COLD write begins a cold start and clears both fail counts. -/
  | startCold (path : Path) (key : BitVec 16) (warm : Bool)
  /-- FW_RESTART (R326). A keyed FW_RESTART write restarts the Umalomond firmware under the running data path. -/
  | fwRestart (path : Path) (key : BitVec 16) (found : Found)
  /-- FW_WATCHDOG_EXPIRY (R326). The firmware watchdog expires and the firmware restarts. -/
  | fwWatchdogExpiry (found : Found)
  /-- FW_PROCESSOR_FAULT (R326). A processor fault restarts the firmware. -/
  | fwProcessorFault (found : Found)
  /-- FW_RESTART_DONE (R326). The firmware restart completes, and held runs, mode requests and events proceed. -/
  | fwRestartDone
  /-- FW_RESTART_ESCALATE (R327). A restart not complete in 50 ms, or a fourth restart within 10 s, escalates to a commanded warm start. -/
  | fwRestartEscalate (found : Found)
  /-- QUORUM_LIMIT (R322). The quorum is still absent QUORUM_MS after step 11, so QUORUM_LATE is set and an event is logged. -/
  | quorumLimit
  /-- POC_GROUP_ON (R320). A POC_SEQ group's delay after step 11 expires and its channels enter the soft-start queue. -/
  | pocGroupOn (g : Fin 16)
  /-- DISCOVERY_START (R320). BOOT_MS after its channel switches on, a camera port starts discovery. -/
  | discoveryStart (p : Fin 64)
  /-- TICK_BOUNDARY (R13). Device time passes a grid point that is acted on, and the herd number advances. -/
  | tickBoundary (limpN : Bool)
  /-- HERD_DEADLINE (R22). A herd's deadline passes and the herd closes with outcome DEADLINE. -/
  | herdDeadline (herd : Nat)
  /-- PLACEMENT_PUBLISH (R194). A run's result is published at the next boundary as a new generation. -/
  | placementPublish
  /-- TIME_INC_HI_WRITE (R46). The write commits TIME_INC, which applies from the next cycle or is rejected as out of range. -/
  | timeIncHiWrite (path : Path) (v : Word)
  /-- TIME_ADJ_HI_WRITE (R48). The write commits a TIME_ADJ offset, or is rejected while the previous one is busy. -/
  | timeAdjHiWrite (path : Path) (v : Word)
  /-- TIME_ADJ_APPLY (R48). In the second cycle after the commit, device time steps by the offset. -/
  | timeAdjApply
  /-- DEVICE_SECOND (R43). At a whole second of device time, the always-on counter loads, PPS_OUT rises and the REF10M count latches. -/
  | deviceSecond
  /-- AON_RC_SECOND (R43). With the core off, the always-on counter advances by one second of the RC clock. -/
  | aonRcSecond
  /-- ALARM_ARM (R44). A write of ARM arms the always-on alarm with GLB_AON_ALARM. -/
  | alarmArm (path : Path) (v : Word)
  /-- ALARM_DISARM (R44). A write of DISARM clears ARMED without a fire. -/
  | alarmDisarm (path : Path) (v : Word)
  /-- TIME_CMP_TGT_HI_WRITE (R50). The write commits the target and arms the unit in ONESHOT or PERIODIC mode, or refuses it as PAST. -/
  | timeCmpTgtHiWrite (path : Path) (n : Fin 64) (v : Word)
  /-- CMP_ARM (R50). A write of CTRL.ARM arms a compare unit, choosing the first TICK target where applicable. -/
  | cmpArm (path : Path) (n : Fin 64) (v : Word)
  /-- CMP_MODE_OFF (R49). A write of MODE = 0 disarms the compare unit. -/
  | cmpModeOff (path : Path) (n : Fin 64) (v : Word)
  /-- CMP_MATCH (R51). An armed unit matches its target, sets FIRED, drives its TRIG edge and re-arms or disarms. -/
  | cmpMatch (n : Fin 64)
  /-- CMP_PULSE_END (R52). WIDTH after a fire, the TRIG pulse's trailing edge falls. -/
  | cmpPulseEnd (n : Fin 64)
  /-- CAPT_EDGE (R55). An accepted capture edge writes its ST48 into the FIFO, or is lost when the FIFO is full. -/
  | captEdge (n : Fin 32) (falling : Bool) (sub : Fin 16) (held : Nat)
  /-- TIME_CAPT_FIFO_LO_READ (R55). The read pops the oldest capture entry and latches FIFO_HI. -/
  | timeCaptFifoLoRead (path : Path) (n : Fin 32)
  /-- PPS_IN_EDGE (R56). A PPS_IN rising edge is timestamped into TIME_PPS_CAP. -/
  | ppsInEdge (sub : Fin 16)
  /-- LOW_WORD_READ (R7). A read of the low word of a 64-bit quantity latches the high word for the reading path. -/
  | lowWordRead (path : Path) (addr : BitVec 26) (be : BitVec 4) (more : List (BitVec 4)) (buf : BufErr)
  /-- PTM_GO (R57). A write of GO starts one PTM measurement. -/
  | ptmGo (path : Path) (v : Word)
  /-- PTM_PERIOD (R57). The PTM automatic period expires and a measurement starts. -/
  | ptmPeriod
  /-- PTM_RESPONSE (R57). A PTM ResponseD arrives, and T1, MASTER and DELAY are reported. -/
  | ptmResponse (rtt turn : Nat) (master : BitVec 64)
  /-- PTM_TIMEOUT (R57). No PTM response arrives within 10 ms, so the measurement ends FAIL. -/
  | ptmTimeout
  /-- TIME_ROUND_DUE (R59). The exchange period expires, or a remeasurement is needed, and a delay round starts. -/
  | timeRoundDue (na : Fin 512)
  /-- TIME_REPLY (R58). A TIME REPLY arrives; the round trip is recorded, and a complete round publishes the delay. -/
  | timeReply (na : Fin 512) (seq : Byte) (turnaround : BitVec 32) (age : Nat)
  /-- TIME_REPLY_TIMEOUT (R59). No reply arrives within 100 µs, so the attempt is lost. -/
  | timeReplyTimeout (na : Fin 512)
  /-- BLOCK_TRANSMIT (R70). A transmitter sends its next 260-bit block. -/
  | blockTransmit (p : Fin 80)
  /-- BLOCK_RECEIVE (R78). A receiver takes one destuffed block and runs the lock, SYNC and descrambling rules. -/
  | blockReceive (p : Fin 80) (bits : List Bool)
  /-- HUNT_TIMEOUT (R79). HUNT lasts 65,536 blocks, so HUNT_TO is set and an event is logged. -/
  | huntTimeout (p : Fin 80)
  /-- DIE_TEMP_SAMPLE (R85). A die sensor sample updates the temperature band and the thermal protection. -/
  | dieTempSample (quadrant : Fin 4) (tempC : Int) (held : Bool)
  /-- EYE_SCAN_GO (R88). A write of GO starts a row eye scan. -/
  | eyeScanGo (path : Path) (p : Fin 80) (v : Word)
  /-- EYE_POINT_DONE (R88). The dwell of one eye-scan point ends and its mismatch count is written. -/
  | eyePointDone (p : Fin 80) (mism : Nat)
  /-- LOOP_NEAR_END_SERIAL (R90). A TRL_TEST write with LOOP = 1 starts the near-end serial loop, or refuses it. -/
  | loopNearEndSerial (path : Path) (p : Fin 80) (v : Word)
  /-- LOOP_NEAR_END_PARALLEL (R90). A TRL_TEST write with LOOP = 2 starts the near-end parallel loop, or refuses it. -/
  | loopNearEndParallel (path : Path) (p : Fin 80) (v : Word)
  /-- LOOP_FAR_END (R119). A TRL_TEST write with LOOP = 3 starts the far-end loop through LOOP_REQ and a step-0 RATE SWITCH. -/
  | loopFarEnd (path : Path) (p : Fin 80) (v : Word)
  /-- LOOP_END (R90). A write of LOOP = 0 ends the loop, and the port runs bring-up from step 0. -/
  | loopEnd (path : Path) (p : Fin 80) (v : Word)
  /-- CAPS (R99). A CAPS answer to QUERY is recorded and the hub sends ASSIGN. -/
  | caps (p : Fin 80) (c : Caps)
  /-- ACK (R98). An ACK to a reverse block advances discovery, a pronk or a poll. -/
  | ack (p : Fin 80) (pos : Fin 8) (a : AckBlock)
  /-- ANSWER_LATE (R94). A reverse block's answer is late, so the block is resent, or the operation fails after three resends. -/
  | answerLate (p : Fin 80) (k : Nat)
  /-- HOP_STEP_SWITCH (R101). At the end of the AT SYNC, the selected hops switch step and hunt. -/
  | hopStepSwitch (p : Fin 80)
  /-- TRAIN_PATTERN (R101). A TRAIN PATTERN block is checked for counter continuity during training. -/
  | trainPattern (p : Fin 80) (counter : BitVec 32)
  /-- TRAIN_PERIOD_END (R101). The hub's receiver ends its two-interval training of hop 0 and records pass or fail. -/
  | trainPeriodEnd (p : Fin 80)
  /-- TRAIN_RESULT (R102). A hop's training result arrives, and the hub sends COMMIT, or REVERT and a retry or cap. -/
  | trainResult (p : Fin 80) (hop : Fin 8) (step : Nat) (pass : Bool)
  /-- PRONK_SWITCH_TIMEOUT (R102). Neither COMMIT nor REVERT arrives within 5 ms, so the end returns to step s. -/
  | pronkSwitchTimeout (p : Fin 80)
  /-- GLITCH_WINDOW_EXPIRE (R103). A hop has not relocked within 2 SYNC intervals, so it is retrained, falls back or goes down. -/
  | glitchWindowExpire (p : Fin 80) (hop : Fin 8)
  /-- UP_HOLD_EXPIRE (R103). UP_HOLD_S after a fallback, the hop is pronked up again. -/
  | upHoldExpire (p : Fin 80) (hop : Fin 8)
  /-- DISC_POLL_TIMER (R107). The poll interval expires, so DISC POLL is sent, and a node with three missed polls fails. -/
  | discPollTimer (p : Fin 80) (pos : Fin 8)
  /-- REVERSE_STOP_END (R107). The 20 ms stop of the reverse transmitter ends, resetting the chain. -/
  | reverseStopEnd (p : Fin 80)
  /-- REDISCOVERY_TIMER (R108). The REDISC interval expires, so EXTEND or QUERY is resent to find a lost position. -/
  | rediscoveryTimer (p : Fin 80)
  /-- ERR_DOWN_LOST (R106). A node reports loss of its downstream hop, and the nodes beyond it are set LOST. -/
  | errDownLost (p : Fin 64) (pos : Fin 8)
  /-- ERR_OVERFLOW (R118). A sensor-end overflow adds DETAIL to NODE_OVFL. -/
  | errOverflow (p : Fin 80) (pos : Fin 8) (detail : BitVec 32)
  /-- ERR_SENSOR (R118). A sensor error ends the VC's open frame incomplete and discards containers until its next SOF. -/
  | errSensor (p : Fin 80) (pos : Fin 8) (vc : Fin 4) (detail : BitVec 32)
  /-- ERR_BUS_STUCK (R118). A stuck node bus fails the pending CTRL transactions with timeout. -/
  | errBusStuck (p : Fin 64) (pos : Fin 8)
  /-- ERR_TRIG_LATE (R118). A late trigger counts as missed, and the frame is ABSENT. -/
  | errTrigLate (p : Fin 64) (pos : Fin 8) (vc : Fin 4)
  /-- ERR_SESSION (R338). A node session error ends the session with REASON NODE. -/
  | errSession (p : Fin 80) (pos : Fin 8) (detail : BitVec 32)
  /-- ERR_TEMP (R118). A node temperature report is logged. -/
  | errTemp (p : Fin 64) (pos : Fin 8) (detail : BitVec 32)
  /-- ERR_UNKNOWN (R118). An ERR with an unknown code is logged as an unknown error. -/
  | errUnknown (p : Fin 64) (pos : Fin 8) (code : Byte) (detail : BitVec 32)
  /-- DISC_QUERY (R120). A sensor-end port answers QUERY with CAPS for its next virtual node. -/
  | discQuery (p : Fin 80)
  /-- DISC_ASSIGN (R98). An unassigned sensor end takes its position, NA, ISIDs and SEG_LEN, and answers ACK. -/
  | discAssign (p : Fin 80) (na : Nat) (isids : List (Option Nat)) (segLen : Nat) (stepCap : Nat)
  /-- DISC_EXTEND (R120). A sensor end answers ACK OK while further virtual nodes remain, and NO_PARTNER after the last. -/
  | discExtend (p : Fin 80) (pos : Fin 8)
  /-- DISC_CUT (R107). A sensor end disables its downstream hop. -/
  | discCut (p : Fin 80) (pos : Fin 8)
  /-- DISC_RESET (R98). A sensor end becomes unassigned. -/
  | discReset (p : Fin 80)
  /-- DISC_POLL (R107). A sensor end answers a poll with ACK. -/
  | discPoll (p : Fin 80) (pos : Fin 8)
  /-- TRIG_RECEIVE (R120). A sensor-end port acknowledges and counts a TRIG block without acting on it. -/
  | trigReceive (p : Fin 80) (pos : Fin 8)
  /-- TIME_REQ (R62). A sensor-end port answers TIME REQ with its turnaround and asymmetry. -/
  | timeReq (p : Fin 80) (pos : Fin 8) (seq : Byte)
  /-- TIME_RESULT (R60). A sensor end receives its measured delay. -/
  | timeResult (p : Fin 80) (pos : Fin 8) (delay : BitVec 24)
  /-- RATE_SWITCH (R101). A sensor end schedules its step switch at the named SYNC. -/
  | rateSwitch (p : Fin 80) (hops : Byte) (step : Nat) (atSync : BitVec 16)
  /-- RATE_COMMIT (R102). A sensor end commits the new step, and traffic resumes. -/
  | rateCommit (p : Fin 80)
  /-- RATE_REVERT (R102). A sensor end returns to step s and hunts. -/
  | rateRevert (p : Fin 80)
  /-- TRAIN_LOOP_REQ (R119). A sensor end accepts or refuses a far-end loop request. -/
  | trainLoopReq (p : Fin 80) (pos : Fin 8)
  /-- TRAIN_LOOP_END (R119). A looping sensor end leaves the loop and becomes unassigned. -/
  | trainLoopEnd (p : Fin 80) (pos : Fin 8)
  /-- SESSION_START (R320). A public-key engine takes the next queued node and sends KEY HELLO. -/
  | sessionStart
  /-- KEY_HELLO (R341). A sensor-end or trunk port answers HELLO with the device certificate chain, or with ERR SESSION in Returned. -/
  | keyHello (p : Fin 80) (pos : Fin 8) (frags : List KeyFrag)
  /-- KEY_CERT (R338). The hub checks a node's CERT chain and proof, then sends FINISH, or END with a reason. -/
  | keyCert (p : Fin 80) (pos : Fin 8) (frags : List KeyFrag)
  /-- KEY_FINISH (R339). A sensor-end port checks CONF_H and answers DONE, or ERR SESSION. -/
  | keyFinish (p : Fin 80) (pos : Fin 8) (frags : List KeyFrag)
  /-- KEY_DONE (R339). A correct DONE establishes the session. -/
  | keyDone (p : Fin 80) (pos : Fin 8) (frags : List KeyFrag)
  /-- KEY_END (R338). A sensor-end port receives END and drops the session. -/
  | keyEnd (p : Fin 80) (pos : Fin 8) (frags : List KeyFrag)
  /-- SESSION_RETRY (R338). RETRY_S after a failed session, a new session begins. -/
  | sessionRetry (n : Fin 516)
  /-- REKEY_DUE (R340). REKEY_H hours after establishment, the session is re-established. -/
  | rekeyDue (n : Fin 516)
  /-- OLD_KEY_EXPIRE (R340). Two tick periods after DONE, the previous line key is dropped. -/
  | oldKeyExpire (n : Fin 516)
  /-- SOF (R125). An SOF is tested, stamped and matched to a herd, and begins a frame. -/
  | sof (p : Fin 80) (pos : Fin 8) (b : SofBlock)
  /-- EOF (R131). A matching EOF ends the open frame and judges its completeness. -/
  | eof (p : Fin 80) (pos : Fin 8) (b : EofBlock)
  /-- CONTAINER_RECEIVE (R112). A container is checked in order and handed to ingress. -/
  | containerReceive (p : Fin 80) (data : List Byte) (backlog : Bool) (age : Nat)
  /-- LST_Q_CTRL_FLUSH (R139). A write of FLUSH sets FLUSH_PEND for the next SOF. -/
  | lstQCtrlFlush (path : Path) (isid : Fin 1024) (v : Word)
  /-- LST_Q_WM_STAT_NOTICE_CLEAR (R143). Clearing NOTICE also clears CROSS and PEAK. -/
  | lstQWmStatNoticeClear (path : Path) (isid : Fin 1024) (v : Word)
  /-- SCRUB_PASS (R142). The scrubber's pass over every bank is due, and weak rows are repaired. -/
  | scrubPass (found : List RowErr)
  /-- SLICE_LINE_READ (R144). A slice takes a stored input line through the twelve stages. -/
  | sliceLineRead (isid : Fin 1024) (fixed : Nat) (lost : Bool)
  /-- AUDIT_COMPARE (R200). An audit compares its bytes, and a mismatch raises or confirms suspicion. -/
  | auditCompare (mismatch : Bool)
  /-- SUSPECT_TIMEOUT (R200). 64 boundaries pass without confirmation, so the target returns to ACTIVE and a strike may be given. -/
  | suspectTimeout
  /-- SLC_STR_LIVE_COMMIT (R174). A write of COMMIT sets PEND for the next SOF. -/
  | slcStrLiveCommit (path : Path) (isid : Fin 1024) (v : Word)
  /-- ROI_POS_WRITE (R166). A position write is checked and staged, or rejected. -/
  | roiPosWrite (path : Path) (roi : Fin 4096) (v : Word)
  /-- TABLE_WRITE (R152). A table-memory write is applied, or discarded when its table set is in use, and sets or clears POISON. -/
  | tableWrite (path : Path) (addr : Nat) (data : List Byte)
  /-- SLICE_BIST (R413). A write of BIST starts the BIST of a retired or spare slice. -/
  | sliceBist (path : Path) (sl : Fin 34) (v : Word)
  /-- SLICE_BIST_DONE (R413). A slice BIST ends with PASS or FAIL. -/
  | sliceBistDone (sl : Fin 34) (pass : Bool)
  /-- SLICE_RETURN (R414). A write of RETURN requests that a tested retired slice return to service. -/
  | sliceReturn (path : Path) (sl : Fin 34) (v : Word)
  /-- PLC_CTRL_SUBMIT (R183). A write of SUBMIT triggers a run with the EN bits and staged pool changes. -/
  | plcCtrlSubmit (path : Path) (v : Word)
  /-- PLC_LOG_CFG_ENABLE (R197). Setting EN from 0 to 1 resets IDX and PHASE. -/
  | plcLogCfgEnable (path : Path) (v : Word)
  /-- GRZ_PI_WRITE (R206). A ring-path PI write makes requests pending, or is rejected. -/
  | grzPiWrite (path : Path) (v : Word)
  /-- GRZ_SUBMIT (R206). A register-path submit copies the path's staged request into the queue. -/
  | grzSubmit (path : Path) (v : Word)
  /-- GRZ_RING_CHANGE (R206). A change of RING is accepted only while the queue is empty. -/
  | grzRingChange (path : Path) (v : Word)
  /-- ABORT_ALL (R214). The request in service and every pending graze request end ABORTED. -/
  | abortAll (path : Path) (v : Word)
  /-- GRAZE_TAKE (R207). The hub takes the next graze request, checks it, matches its frame and chooses a slice. -/
  | grazeTake
  /-- GRAZE_LINE_READ (R211). A crop's next input line is read once its charges fit the remaining budgets. -/
  | grazeLineRead (fixed : Nat) (lost : Bool)
  /-- LINE_COMMIT (R232). A line is written to host memory and committed with its watermark. -/
  | lineCommit (ch : Fin 256)
  /-- DMA_CH_PI_WRITE (R224). A doorbell hands descriptors to a general channel, or is rejected. -/
  | dmaChPiWrite (path : Path) (c : Fin 256) (v : Word)
  /-- DMA_POOL_PI_WRITE (R228). A pool doorbell adds buffers, and channels without a buffer retry. -/
  | dmaPoolPiWrite (path : Path) (p : Fin 64) (v : Word)
  /-- DMA_CH_CFG_WRITE (R226). Setting or clearing EN starts or stops a general channel. -/
  | dmaChCfgWrite (path : Path) (c : Fin 256) (v : Word)
  /-- H2I (R236). An H2I descriptor is checked and copies host bytes to internal memory. -/
  | h2i (c : Fin 256)
  /-- I2H (R220). An I2H descriptor copies internal bytes to the host. -/
  | i2h (c : Fin 256) (ue : Option Nat)
  /-- FILL_H (R236). A FILL_H descriptor writes the pattern over host memory. -/
  | fillH (c : Fin 256)
  /-- FILL_I (R236). A FILL_I descriptor writes the pattern over internal memory. -/
  | fillI (c : Fin 256)
  /-- COMPARE (R236). A COMPARE descriptor compares host and internal bytes. -/
  | compare (c : Fin 256) (ue : Option Nat)
  /-- LINK (R240). A LINK descriptor moves the fetch address, or halts the channel on a loop. -/
  | link (c : Fin 256)
  /-- NOP (R220). A NOP descriptor is only written back. -/
  | nop (c : Fin 256)
  /-- DESCRIPTOR_DONE (R221). A descriptor's transfer ends and it is written back with its record. -/
  | descriptorDone (c : Fin 256)
  /-- PAUSE (R244). A write of PAUSE stops new requests, and the channel enters PAUSING. -/
  | pause (path : Path) (c : Fin 256) (v : Word)
  /-- DMA_PAUSED (R244). In-flight reads drain, and the channel enters PAUSED with a CHAN record. -/
  | dmaPaused (c : Fin 256)
  /-- RESUME (R244). A write of RESUME continues a paused or host-paused channel. -/
  | resume (path : Path) (c : Fin 256) (v : Word)
  /-- ABORT (R245). A write of ABORT ends the descriptor in progress and stops the channel. -/
  | abort (path : Path) (c : Fin 256) (v : Word)
  /-- REQ (R247). One pacing request lets the channel move one burst. -/
  | req (path : Path) (c : Fin 256) (v : Word)
  /-- CQ_CFG_ENABLE (R248). Enabling a queue resets its indices and sequence. -/
  | cqCfgEnable (path : Path) (q : Fin 64) (v : Word)
  /-- CQ_CI_WRITE (R251). A CI write consumes records and clears, or re-raises, IRQ_PEND. -/
  | cqCiWrite (path : Path) (q : Fin 64) (v : Word)
  /-- CQ_WM_STAT_NOTICE_CLEAR (R252). Clearing a completion-queue notice also clears CROSS and PEAK. -/
  | cqWmStatNoticeClear (path : Path) (q : Fin 64) (v : Word)
  /-- DMA_POOL_WM_STAT_NOTICE_CLEAR (R252). Clearing a pool notice also clears CROSS and TROUGH. -/
  | dmaPoolWmStatNoticeClear (path : Path) (p : Fin 64) (v : Word)
  /-- HEP_IRQ_PEND_CLEAR (R283). A W1C of pending bits may deassert INTA. -/
  | hepIrqPendClear (path : Path) (w : Fin 42) (v : Word)
  /-- COMPLETION_RECEIVE (R267). A completion is matched to its tag, dropped in quarantine, or counted as unexpected. -/
  | completionReceive (tag : Nat) (status : CplStatus) (data : List Byte) (poisoned : Bool)
  /-- COMPLETION_TIMEOUT (R266). A read times out, ending its descriptor BAD or halting a fetch. -/
  | completionTimeout (tag : Nat)
  /-- UNSUPPORTED_REQUEST (R254). An unsupported or illegal request ends with UR. -/
  | unsupportedRequest (posted : Bool) (vdm1 : Bool) (hdr : List Word)
  /-- BAR2_REQUEST (R258). An access to the MSI-X table or PBA is applied, and an unmask sends any pending message. -/
  | bar2Request (r : BarRequest)
  /-- BAR4_REQUEST (R259). An inbound window request is translated by its bound ATT generation, or fails. -/
  | bar4Request (r : BarRequest) (old : Bool)
  /-- HEP_ATT_COMMIT (R261). GO checks the shadow table and commits it, or refuses it. -/
  | hepAttCommit (path : Path) (v : Word)
  /-- ATT_OLD_GENERATION_RELEASE (R262). The last TLP bound to the old generation executes, and a waiting commit applies. -/
  | attOldGenerationRelease
  /-- BUS_MASTER_ENABLE_CLEAR (R269). BME falls, so requests stop, queued writes are dropped and channels abort. -/
  | busMasterEnableClear
  /-- BUS_MASTER_ENABLE_SET (R270). BME rises, so aborted descriptors are written back and held records and messages are sent. -/
  | busMasterEnableSet
  /-- FUNCTION_LEVEL_RESET (R274). An FLR resets the endpoint state and quarantines outstanding tags. -/
  | functionLevelReset
  /-- FLR_COMPLETE (R274). The FLR completes within 100 µs, and the heartbeat timer restarts. -/
  | flrComplete
  /-- TAG_QUARANTINE_END (R274). A quarantined tag returns to the free pool. -/
  | tagQuarantineEnd (tag : Nat)
  /-- PERST_N_ASSERT (R273). PERST_N takes the link down and resets the endpoint. -/
  | perstNAssert
  /-- PERST_N_DEASSERT (R273). PERST_N deasserts; link training starts, or the hub wakes from Standby. -/
  | perstNDeassert
  /-- HOT_RESET (R271). A hot reset resets the endpoint items and retrains the link. -/
  | hotReset
  /-- DL_DOWN (R287). The data link goes down, and link-down time starts running. -/
  | dlDown (errs : List LinkErr)
  /-- DL_UP (R288). The data link comes up, and the heartbeat timer restarts. -/
  | dlUp (width : Fin 5) (rate : Fin 6) (flit : Bool)
  /-- HOST_LINK_RETRAIN (R20). The host link retrains to another width or rate. -/
  | hostLinkRetrain (width : Fin 5) (rate : Fin 6) (flit : Bool) (errs : List LinkErr)
  /-- L0P_WIDTH_CHANGE (R280). The hub accepts an L0p width change, which counts as a width change. -/
  | l0pWidthChange (width : Fin 5)
  /-- ASPM_L1_ENTRY (R279). After L1_IDLE_US of idleness, the hub initiates ASPM L1. -/
  | aspmL1Entry
  /-- POWER_STATE_D3HOT (R275). D3hot aborts channels as a BME clear does, and the link enters L1. -/
  | powerStateD3hot
  /-- POWER_STATE_D0 (R276). A return to D0 keeps all state and resumes under BME. -/
  | powerStateD0
  /-- HEP_PM_CTRL_WAKE (R278). A write of WAKE asserts WAKE_N, sets PME_Status and may send PM_PME. -/
  | hepPmCtrlWake (path : Path) (v : Word)
  /-- GLB_HEARTBEAT_WRITE (R38). A heartbeat through BAR0 restarts the heartbeat timer and counts toward leaving Limp. -/
  | glbHeartbeatWrite (path : Path)
  /-- LINK_DOWN_LIMIT (R38). The link has been down longer than LINK_MS, so the host is lost and Limp is requested. -/
  | linkDownLimit
  /-- HEARTBEAT_LIMIT (R38). No heartbeat arrives within HB_MS, so the host is lost and Limp is requested. -/
  | heartbeatLimit
  /-- GLB_MODE_REQ_WRITE (R31). A host or management-port write registers a mode request on its path. -/
  | glbModeReqWrite (path : Path) (v : Word)
  /-- LIMP_N_ASSERT (R38). LIMP_N held low for 10 µs requests Limp, or wakes the hub into Limp. -/
  | limpNAssert
  /-- WAKE_IN_ASSERT (R31). WAKE_IN wakes the hub from Standby. -/
  | wakeInAssert
  /-- CFG_SEL_WRITE (R309). A PRIMARY write changes the boot selector, or is refused for an unverified bank. -/
  | cfgSelWrite (path : Path) (v : Word)
  /-- ERASE (R311). A flash ERASE command erases one sector, or is refused. -/
  | erase (path : Path)
  /-- PROGRAM (R311). A flash PROGRAM command writes the buffer to one page, or is refused. -/
  | program (path : Path)
  /-- READ (R310). A flash READ command reads 256 bytes into the buffer. -/
  | read (path : Path)
  /-- VERIFY (R310). A flash VERIFY command runs the image checks on one bank. -/
  | verify (path : Path)
  /-- FLASH_COMMAND_DONE (R310). A flash command ends OK, or FAIL at its time limit. -/
  | flashCommandDone (late : Bool)
  /-- GEN_DUS (R331). GEN_DUS fills the device unique secret from the DRBG. -/
  | genDus (path : Path) (key : BitVec 16)
  /-- PROVISION (R329). PROVISION moves the lifecycle from Blank to Provisioned. -/
  | provision (path : Path) (key : BitVec 16)
  /-- FIELD (R329). FIELD moves the lifecycle to Field and locks JTAG. -/
  | field (path : Path) (key : BitVec 16)
  /-- SEC_OTP_PROG (R332). GO programs one OTP word, or refuses the write. -/
  | secOtpProg (path : Path)
  /-- SEC_ROLL_CTRL_COMMIT (R333). COMMIT raises the security version floor to the image's SEC_VER, or is refused. -/
  | secRollCtrlCommit (path : Path)
  /-- SEC_CHAL_CTRL_NEW (R335). NEW draws a fresh 32-byte challenge. -/
  | secChalCtrlNew (path : Path)
  /-- CHALLENGE_EXPIRE (R335). 60 s after it was drawn, the challenge stops being current. -/
  | challengeExpire
  /-- DEBUG_UNLOCK (R347). A checked DEBUG_UNLOCK token opens debug scopes. -/
  | debugUnlock (path : Path)
  /-- LOG_CLEAR (R394). A checked LOG_CLEAR token, or REC_CTRL.CLEAR in Returned, begins a log clear. -/
  | logClear (path : Path) (byToken : Bool) (v : Word)
  /-- LOG_CLEAR_ERASE_DONE (R394). The log erase ends; slot 0 records the clear and held events are written. -/
  | logClearEraseDone
  /-- RETURN (R329). A checked RETURN token moves the lifecycle to Returned. -/
  | returnPart (path : Path)
  /-- REVOKE (R332). A checked REVOKE token revokes a key slot, or is refused. -/
  | revoke (path : Path)
  /-- SEC_DBG_CTRL_RELOCK (R347). RELOCK closes every debug scope. -/
  | secDbgCtrlRelock (path : Path)
  /-- BYPASS (R346). The JTAG BYPASS instruction. -/
  | bypass
  /-- IDCODE (R346). The JTAG IDCODE instruction. -/
  | idcode
  /-- SAMPLE_PRELOAD (R346). The JTAG SAMPLE/PRELOAD instruction. -/
  | samplePreload
  /-- EXTEST (R346). The JTAG EXTEST instruction, which acts as BYPASS where it is not allowed. -/
  | extest
  /-- INTEST (R346). The JTAG INTEST instruction, which acts as BYPASS where it is not allowed. -/
  | intest
  /-- CLAMP (R346). The JTAG CLAMP instruction, which acts as BYPASS where it is not allowed. -/
  | clamp
  /-- HIGHZ (R346). The JTAG HIGHZ instruction, which acts as BYPASS where it is not allowed. -/
  | highz
  /-- REGACC (R347). The JTAG REGACC instruction, an internal register access on the third access path. -/
  | regacc (addr : BitVec 26) (w : Option Word)
  /-- TRACE (R346). The JTAG TRACE instruction, which enables the debug trace port where allowed. -/
  | trace
  /-- MGT_WRITE_FRAME (R355). A management write frame commits its registers at the final acknowledge, or is NACKed. -/
  | mgtWriteFrame (bytes : List Byte)
  /-- MGT_READ_FRAME (R356). A management read frame reads its registers in one step and sends them. -/
  | mgtReadFrame (header : List Byte) (second : Byte) (taken : Nat)
  /-- MGT_FRAME_CUTOFF (R358). An unexpected START or STOP ends a frame without committing it. -/
  | mgtFrameCutoff (bytes : List Byte) (second : Option Byte) (taken : Nat)
  /-- MGT_TIMEOUT (R359). A stretch of 20 ms or a clock-low of 25 ms ends the frame as a timeout. -/
  | mgtTimeout
  /-- MG_RST_N_ASSERT (R360). MG_RST_N resets the port state machine and releases the bus. -/
  | mgRstNAssert (inFrame : Bool)
  /-- MGT_WAKE_ADDRESS_MATCH (R362). In Standby, a matching address wakes the hub, and the port stretches SCL. -/
  | mgtWakeAddressMatch
  /-- MGT_WAKE_STRETCH_END (R362). At t1 + 3 ms the port releases SCL and the frame continues, or ends as a timeout. -/
  | mgtWakeStretchEnd (ready : Bool)
  /-- LW_WRITE (R364). A GO with OP 0 starts a local write transaction. -/
  | lwWrite (path : Path) (w : Fin 16) (v : Word)
  /-- LW_READ (R364). A GO with OP 1 starts a local read transaction. -/
  | lwRead (path : Path) (w : Fin 16) (v : Word)
  /-- LW_WRITE_READ (R364). A GO with OP 2 starts a local write then repeated-START read. -/
  | lwWriteRead (path : Path) (w : Fin 16) (v : Word)
  /-- LW_TRANSACTION_DONE (R364). A local transaction ends with its result. -/
  | lwTransactionDone (w : Fin 16) (result : Fin 4) (acked : Fin 64) (data : List Byte) (clr : Bool)
  /-- LW_ARBITRATION_RETRY (R366). After lost arbitration and bus free, the port repeats the transaction. -/
  | lwArbitrationRetry (w : Fin 16)
  /-- LW_STRETCH_TIMEOUT (R367). A target stretch beyond STRETCH_MS ends the transaction TIMEOUT and clears the bus. -/
  | lwStretchTimeout (w : Fin 16) (acked : Fin 64) (sdaLow : Bool)
  /-- LW_STUCK (R367). SCL stays low a further 25 ms, so the result becomes STUCK. -/
  | lwStuck (w : Fin 16)
  /-- TUN_WRITE (R368). A tunnel GO with OP 0 queues a tunnelled write. -/
  | tunWrite (path : Path) (k : Fin 64) (v : Word)
  /-- TUN_READ (R368). A tunnel GO with OP 1 queues a tunnelled read. -/
  | tunRead (path : Path) (k : Fin 64) (v : Word)
  /-- TUN_WRITE_READ (R368). A tunnel GO with OP 2 queues a tunnelled write then read. -/
  | tunWriteRead (path : Path) (k : Fin 64) (v : Word)
  /-- CTRL_REPLY (R369). A forward CTRL reply ends its tunnel slot, or is counted as stray. -/
  | ctrlReply (p : Fin 64) (pos : Fin 8) (txn : Byte) (status : Fin 6) (count : Fin 32) (data : List Byte)
  /-- TUNNEL_TIMEOUT (R369). No reply arrives within 10 ms, so the slot ends TIMEOUT. -/
  | tunnelTimeout (k : Fin 64)
  /-- RAIL_ENABLE_NEXT (R370). 0.5 ms after a rail's PS_PG rises, the next rail is enabled. -/
  | railEnableNext (found : Found)
  /-- PS_PG_TIMEOUT (R372). A PS_PG fails to rise in time, which is a rail fault. -/
  | psPgTimeout
  /-- PS_PG_FALL (R372). A PS_PG falls while its rail is enabled, which is a rail fault. -/
  | psPgFall (r : Fin 6)
  /-- RAIL_SAMPLE (R372). A 10 µs rail sample updates the readings and checks the warning and fault windows. -/
  | railSample (mv : List (BitVec 12))
  /-- RAIL_FAULT_RESTART (R372). After the fault wait, a cold start begins. -/
  | railFaultRestart
  /-- POC_SAMPLE (R373). A 1 ms sample of every channel checks overcurrent, open and supply faults. -/
  | pocSample (vin : BitVec 10) (ch : List (BitVec 10 × BitVec 10))
  /-- SHORT_COMPARATOR (R376). The analog comparator sees a short, and the gate turns off within 10 µs. -/
  | shortComparator (n : Fin 64)
  /-- SOFTSTART_BEGIN (R380). The queue head starts its soft-start once the inrush budget allows. -/
  | softstartBegin
  /-- SOFTSTART_END (R375). At the end of SS_MS the channel goes ON, or faults SHORT. -/
  | softstartEnd (n : Fin 64) (v : BitVec 10)
  /-- RETRY_WAIT_END (R377). RETRY_S passes, and the channel queues for a new soft-start. -/
  | retryWaitEnd (n : Fin 64)
  /-- RETRIES_CLEAR (R377). After 10 s ON, the channel's retry count clears. -/
  | retriesClear (n : Fin 64)
  /-- VIN_OV_RELEASE (R377). The supply stays at 16.5 V or below for 100 ms, and every channel re-queues. -/
  | vinOvRelease
  /-- FORCE_OFF (R410). A FORCE_OFF write turns a channel off, or releases it to the queue. -/
  | forceOff (path : Path) (n : Fin 64) (off : Bool)
  /-- CLR (R377). A write of CLR clears LATCHED and RETRIES and queues the channel. -/
  | clr (path : Path) (n : Fin 64) (v : Word)
  /-- TRL_BRUP_CTRL_RETRAIN (R412). RETRAIN retrains every hop at its step, or is discarded during bring-up. -/
  | trlBrupCtrlRetrain (path : Path) (p : Fin 80) (v : Word)
  /-- TRL_BRUP_CTRL_REDISCOVER (R412). REDISCOVER sends DISC RESET and runs full discovery. -/
  | trlBrupCtrlRediscover (path : Path) (p : Fin 80) (v : Word)
  /-- OPERATING_SECOND (R398). Each operating second advances OPSEC, a TEMP bin, the record rate window and calendar checks. -/
  | operatingSecond
  /-- LEDGER_SNAPSHOT (R397). A due ledger snapshot is written to the next sector. -/
  | ledgerSnapshot
  /-- AGE_MEASURE (R401). Every 86,400 operating seconds the ageing monitors are read and compared. -/
  | ageMeasure
  /-- LED_CAL_CFG_COMMIT (R402). COMMIT clears FIRED and persists the calendar entry. -/
  | ledCalCfgCommit (path : Path) (slot : Fin 32) (v : Word)
  /-- REC_CURSOR_WRITE (R392). A write of IDX loads a slot into the path's window. -/
  | recCursorWrite (path : Path) (v : Word)
  /-- REC_WINDOW_LOADED (R392). The window load ends and READY reads 1. -/
  | recWindowLoaded (path : Path)
  /-- REC_WINDOW7_READ (R392). With AUTOINC, a read of word 7 advances IDX and starts the next load. -/
  | recWindow7Read (path : Path)
  /-- REGISTER_WRITE (R10). A write to a register with no row of its own applies by access type, or is discarded as image-owned, reserved or partial. -/
  | registerWrite (path : Path) (addr : BitVec 26) (be : BitVec 4) (v : Word) (more : List (BitVec 4 × Word)) (poisoned : Bool) (buf : BufErr)
  /-- PPS_OUT_PULSE_END (R56). OUT_MS ms after its rising edge, the PPS_OUT pulse ends and the pin falls. -/
  | ppsOutPulseEnd
  /-- REF10M_IN_EDGE (R56). A REF10M_IN rising edge increments the count that DEVICE_SECOND latches into TIME_REF10M_CNT. -/
  | ref10mInEdge
  /-- CONFIGURATION_WRITE (R283). A configuration write to Interrupt Disable, the MSI Mask Bits, the MSI-X Function Mask or the interrupt enables deasserts INTA or sends a held message. -/
  | configurationWrite (ofs : Fin 4096) (v : Word) (be : Fin 16)
  /-- COUNTER_READ (R408). The first read of a counter or register through any path clears its event suppression bit. -/
  | counterRead (path : Path) (addr : BitVec 26) (be : BitVec 4) (more : List (BitVec 4)) (buf : BufErr)
  /-- SECURITY_OPERATION_DONE (R335). A lifecycle, OTP-program or token operation ends, BUSY clears and RESULT is written. -/
  | securityOperationDone
  /-- MG_RST_N_DEASSERT (R352). MG_RST_N rises and the hub samples MG_ADDR to set the management port's address. -/
  | mgRstNDeassert (pins : Fin 8)
  deriving DecidableEq, Repr

end Sys2Proof
end

