-- ==== Sys2Proof/WellFormed.lean ====
section
/-! DEFINITION. Well-formed commands: operands that the interface of each command can carry. A meaning answers on any
operands; well-formedness says which of them a sender can supply. -/

namespace Sys2Proof

/-- A field of one byte. -/
def byteOk (n : Nat) : Bool := decide (n < 256)

/-- A tag of 14 bits at most (R265). -/
def tagOk (n : Nat) : Bool := decide (n < 2 ^ 14)

/-- The fields of DISC ASSIGN (R93): a 16-bit NA, four stream words, SEG_LEN, STEP_CAP. -/
def assignOk (na : Nat) (isids : List (Option Nat)) (segLen stepCap : Nat) : Bool :=
  decide (na < 65536) && decide (isids.length = 4) && (isids.all fun i => decide (i.getD 0 < 1024)) &&
    decide (segLen < 65536) && byteOk stepCap

/-- A fragment carries 1 to 20 bytes (R93, R117). -/
def KeyFrag.wf (f : KeyFrag) : Bool :=
  byteOk f.frag && byteOk f.count && decide (1 ≤ f.data.length) && decide (f.data.length ≤ 20)

/-- A write carries its bytes; a read carries none; a header is four words at most. -/
def BarRequest.wf (r : BarRequest) : Bool :=
  (if r.write then decide (r.len = r.data.length) else r.data.isEmpty) && decide (r.hdr.length ≤ 4)

/-- What a start finds names no row, slice or slot twice. -/
def Found.wf (f : Found) : Bool :=
  decide f.badRows.Nodup && decide f.badSlices.Nodup && decide f.badOpens.Nodup && decide f.badCloses.Nodup

/-- Whether a command is well formed. -/
def Instr.wf (i : Instr) : Bool :=
  match i with
  | .herdDeadline herd => decide (herd < 2 ^ 48)
  | .ptmResponse rtt turn _ => decide (turn ≤ rtt)
  | .blockReceive _ bits => !bits.isEmpty
  | .caps _ c => decide (1 ≤ c.segMax) && decide (c.segMax ≤ 16)
  | .ack _ _ a => byteOk a.type && byteOk a.sub && byteOk a.seq && byteOk a.status
  | .trainResult _ _ step _ => byteOk step
  | .discAssign _ na isids segLen stepCap => assignOk na isids segLen stepCap
  | .rateSwitch _ _ step _ => byteOk step
  | .tableWrite _ addr data => !data.isEmpty && decide (addr + data.length ≤ 2 ^ 26)
  | .keyHello _ _ frags => frags.all KeyFrag.wf
  | .keyCert _ _ frags => frags.all KeyFrag.wf
  | .keyFinish _ _ frags => frags.all KeyFrag.wf
  | .keyDone _ _ frags => frags.all KeyFrag.wf
  | .keyEnd _ _ frags => frags.all KeyFrag.wf
  | .containerReceive _ data _ _ => !data.isEmpty
  | .scrubPass found => decide (found.map fun e => (e.bank, e.row)).Nodup
  | .completionReceive tag _ data _ => tagOk tag && decide (data.length ≤ 4096)
  | .completionTimeout tag => tagOk tag
  | .tagQuarantineEnd tag => tagOk tag
  | .unsupportedRequest _ _ hdr => decide (hdr.length ≤ 4)
  | .bar2Request r => r.wf
  | .bar4Request r _ => r.wf
  | .railSample mv => decide (mv.length = 6)
  | .pocSample _ ch => decide (ch.length = 64)
  | .railEnableNext found => found.wf
  | .startWarm _ _ found => found.wf
  | .fwRestart _ _ found => found.wf
  | .fwWatchdogExpiry found => found.wf
  | .fwProcessorFault found => found.wf
  | .fwRestartEscalate found => found.wf
  | .lwTransactionDone _ _ acked data _ => decide (acked.val ≤ 32) && decide (data.length ≤ 32)
  | .ctrlReply _ _ _ _ count data => decide (data.length = count.val)
  | .mgtWriteFrame bytes => !bytes.isEmpty
  | .mgtReadFrame header _ taken => !header.isEmpty && decide (1 ≤ taken)
  | .mgtFrameCutoff bytes _ _ => !bytes.isEmpty
  | .vddAonPowerUp .. | .startWatchdog .. | .startRetry .. | .failCountClear .. | .vddAonBrownOut ..
  | .startCold .. | .fwRestartDone .. | .quorumLimit .. | .pocGroupOn .. | .discoveryStart ..
  | .tickBoundary .. | .placementPublish .. | .timeIncHiWrite .. | .timeAdjHiWrite .. | .timeAdjApply ..
  | .deviceSecond .. | .aonRcSecond .. | .alarmArm .. | .alarmDisarm .. | .timeCmpTgtHiWrite .. | .cmpArm ..
  | .cmpModeOff .. | .cmpMatch .. | .cmpPulseEnd .. | .captEdge .. | .timeCaptFifoLoRead .. | .ppsInEdge ..
  | .lowWordRead .. | .ptmGo .. | .ptmPeriod .. | .ptmTimeout .. | .timeRoundDue .. | .timeReply ..
  | .timeReplyTimeout .. | .blockTransmit .. | .huntTimeout .. | .dieTempSample .. | .eyeScanGo ..
  | .eyePointDone .. | .loopNearEndSerial .. | .loopNearEndParallel .. | .loopFarEnd .. | .loopEnd ..
  | .answerLate .. | .hopStepSwitch .. | .trainPattern .. | .trainPeriodEnd .. | .pronkSwitchTimeout ..
  | .glitchWindowExpire .. | .upHoldExpire .. | .discPollTimer .. | .reverseStopEnd .. | .rediscoveryTimer ..
  | .errDownLost .. | .errOverflow .. | .errSensor .. | .errBusStuck .. | .errTrigLate .. | .errSession ..
  | .errTemp .. | .errUnknown .. | .discQuery .. | .discExtend .. | .discCut .. | .discReset .. | .discPoll ..
  | .trigReceive .. | .timeReq .. | .timeResult .. | .rateCommit .. | .rateRevert .. | .trainLoopReq ..
  | .trainLoopEnd .. | .sessionStart .. | .sessionRetry .. | .rekeyDue .. | .oldKeyExpire .. | .sof ..
  | .eof .. | .lstQCtrlFlush .. | .lstQWmStatNoticeClear .. | .sliceLineRead .. | .auditCompare ..
  | .suspectTimeout .. | .slcStrLiveCommit .. | .roiPosWrite .. | .sliceBist .. | .sliceBistDone ..
  | .sliceReturn .. | .plcCtrlSubmit .. | .plcLogCfgEnable .. | .grzPiWrite .. | .grzSubmit ..
  | .grzRingChange .. | .abortAll .. | .grazeTake .. | .grazeLineRead .. | .lineCommit .. | .dmaChPiWrite ..
  | .dmaPoolPiWrite .. | .dmaChCfgWrite .. | .h2i .. | .i2h .. | .fillH .. | .fillI .. | .compare .. | .link ..
  | .nop .. | .descriptorDone .. | .pause .. | .dmaPaused .. | .resume .. | .abort .. | .req ..
  | .cqCfgEnable .. | .cqCiWrite .. | .cqWmStatNoticeClear .. | .dmaPoolWmStatNoticeClear ..
  | .hepIrqPendClear .. | .hepAttCommit .. | .attOldGenerationRelease .. | .busMasterEnableClear ..
  | .busMasterEnableSet .. | .functionLevelReset .. | .flrComplete .. | .perstNAssert .. | .perstNDeassert ..
  | .hotReset .. | .dlDown .. | .dlUp .. | .hostLinkRetrain .. | .l0pWidthChange .. | .aspmL1Entry ..
  | .powerStateD3hot .. | .powerStateD0 .. | .hepPmCtrlWake .. | .glbHeartbeatWrite .. | .linkDownLimit ..
  | .heartbeatLimit .. | .glbModeReqWrite .. | .limpNAssert .. | .wakeInAssert .. | .cfgSelWrite .. | .erase ..
  | .program .. | .read .. | .verify .. | .flashCommandDone .. | .genDus .. | .provision .. | .field ..
  | .secOtpProg .. | .secRollCtrlCommit .. | .secChalCtrlNew .. | .challengeExpire .. | .debugUnlock ..
  | .logClear .. | .logClearEraseDone .. | .returnPart .. | .revoke .. | .secDbgCtrlRelock .. | .bypass ..
  | .idcode .. | .samplePreload .. | .extest .. | .intest .. | .clamp .. | .highz .. | .regacc .. | .trace ..
  | .mgtTimeout .. | .mgRstNAssert .. | .mgtWakeAddressMatch .. | .mgtWakeStretchEnd .. | .lwWrite ..
  | .lwRead .. | .lwWriteRead .. | .lwArbitrationRetry .. | .lwStretchTimeout .. | .lwStuck .. | .tunWrite ..
  | .tunRead .. | .tunWriteRead .. | .tunnelTimeout .. | .psPgTimeout .. | .psPgFall .. | .railFaultRestart ..
  | .shortComparator .. | .softstartBegin .. | .softstartEnd .. | .retryWaitEnd .. | .retriesClear ..
  | .vinOvRelease .. | .forceOff .. | .clr .. | .trlBrupCtrlRetrain .. | .trlBrupCtrlRediscover ..
  | .operatingSecond .. | .ledgerSnapshot .. | .ageMeasure .. | .ledCalCfgCommit .. | .recCursorWrite ..
  | .recWindowLoaded .. | .recWindow7Read .. | .registerWrite .. | .ppsOutPulseEnd .. | .ref10mInEdge ..
  | .configurationWrite .. | .counterRead .. | .securityOperationDone .. | .mgRstNDeassert .. => true

end Sys2Proof
end

