-- ==== Sys2Proof/Machine/RegMap.lean ====
section
/-! DEFINITION. The register map (chapter 18, R422–R426, with the field tables of chapters 01–18):
one row per register the spec names, with its offset, the stride and count of each index, whether it is
image-owned (R425), which half of a 64-bit pair it is (R7), and each field's position, access type (R10)
and reset value (R424).  Bits no field covers are reserved (R8). -/

namespace Sys2Proof.Machine

/-- The register access types of R10 that the register tables use. -/
inductive Acc where
  | ro | rw | rws | w1c | w1s | wo
  deriving DecidableEq, Repr

/-- One field of a register table: its lowest bit, width, access type and reset value. -/
structure FieldRow where
  lo : Nat
  w : Nat
  acc : Acc
  rst : Nat
  deriving DecidableEq, Repr

/-- Whether a register is one half of a quantity wider than 32 bits (R7). -/
inductive Half where
  | none | lo | hi
  deriving DecidableEq, Repr

/-- The registers whose read or write does more than their fields' access types say; `plain` is every other. -/
inductive RegTag where
  | plain
  | alarmCtrl | aonSec | attCommit | brupCtrl | calCfg | captFifo | cfgSel | chCfg | chCtrl | chPi | chRing 
  | chStat | chalCtrl | cmpCtrl | cmpTgtHi | cmpUnit | cqBase | cqCfg | cqCi | cqWm | cto | dbgCtrl | eyeCtrl 
  | flCmd | fnStat | glbStat | grzCfg | grzCtrl | grzPi | grzQ | grzReq | grzSubmit | heartbeat | herdNum 
  | herdStat | irqMap | irqPend | keyCfg | keyHash | lcCtrl | ledAge | ledClears | ledErase | ledGen | ledOpsec 
  | ledPoc | ledPwrcyc | ledRetrain | ledStat | ledTemp | linkDown | linkStat | lstCtrl | lstNew | lstOld 
  | lstRepair | lstStat | lstWm | lwCmd | mgtStat | modeReq | otpData | otpProg | pcCtrl | plcCtrl | plcLog 
  | pmCtrl | poolPi | poolWm | ptmCtrl | ptmSet | recCtrl | recCursor | recDropped | recSeq | recStat 
  | recWindow | roiPos | rollCtrl | secStat | secUid | sliceSvc | startCtrl | startStat | strCfg0 | strLive | strMem
  | tblPstat | tickNext | timeAdj | timeInc | timeNow | timeSt48 | timeStat | tokBuf | tokCtrl | trlCfg 
  | trlStat | trlTest | tunCmd | tunStat
  deriving DecidableEq, Repr

/-- One row of the register index. `dims` lists (stride, count) of each index, widest stride first (R423). -/
structure RegRow where
  name : String
  base : Nat
  dims : List (Nat × Nat)
  image : Bool
  half : Half
  tag : RegTag
  fields : List FieldRow
  deriving DecidableEq, Repr

def fRO (lo w rst : Nat) : FieldRow := ⟨lo, w, .ro, rst⟩
def fRW (lo w rst : Nat) : FieldRow := ⟨lo, w, .rw, rst⟩
def fRWS (lo w rst : Nat) : FieldRow := ⟨lo, w, .rws, rst⟩
def fW1C (lo w rst : Nat) : FieldRow := ⟨lo, w, .w1c, rst⟩
def fW1S (lo w rst : Nat) : FieldRow := ⟨lo, w, .w1s, rst⟩
def fWO (lo w rst : Nat) : FieldRow := ⟨lo, w, .wo, rst⟩

/-- The rows of the GLB block of R422. -/
def rowsGlb : List RegRow := [
  ⟨"GLB_ID", 0x0, [], false, .none, .plain,
    [fRO 0 16 0x640, fRO 16 8 1, fRO 24 8 0x21]⟩,
  ⟨"GLB_STAT", 0x4, [], false, .none, .glbStat,
    [fW1C 0 1 0, fW1C 1 1 0, fW1C 2 1 0]⟩,
  ⟨"GLB_BE_REJ", 0x8, [], false, .none, .plain,
    [fRO 0 31 0, fW1C 31 1 0]⟩,
  ⟨"GLB_MODE_REQ", 0x100, [], false, .none, .modeReq,
    [fRW 0 3 1]⟩,
  ⟨"GLB_MODE_STAT", 0x104, [], false, .none, .plain,
    [fRO 0 3 0, fRO 4 3 0, fRO 7 1 0, fRO 8 3 5, fRO 12 4 1, fRO 16 4 0]⟩,
  ⟨"GLB_TICK_CFG", 0x110, [], true, .none, .plain,
    [fRW 0 8 0x1e]⟩,
  ⟨"GLB_TICK_EPOCH_LO", 0x118, [], true, .lo, .plain,
    [fRW 0 32 0]⟩,
  ⟨"GLB_TICK_EPOCH_HI", 0x11c, [], true, .hi, .plain,
    [fRW 0 16 0]⟩,
  ⟨"GLB_HERD_CFG", 0x120, [], true, .none, .plain,
    [fRW 0 10 0x100]⟩,
  ⟨"GLB_HERD_NUM_LO", 0x128, [], false, .lo, .herdNum,
    [fRO 0 32 0]⟩,
  ⟨"GLB_HERD_NUM_HI", 0x12c, [], false, .hi, .herdNum,
    [fRO 0 16 0]⟩,
  ⟨"GLB_HERD_STAT", 0x130, [], false, .none, .herdStat,
    [fRO 0 2 0, fRO 8 1 0, fRO 9 1 0]⟩,
  ⟨"GLB_HERD_DL_CNT_LO", 0x138, [], false, .lo, .plain,
    [fRO 0 32 0]⟩,
  ⟨"GLB_HERD_DL_CNT_HI", 0x13c, [], false, .hi, .plain,
    [fRO 0 16 0, fW1C 31 1 0]⟩,
  ⟨"GLB_HEARTBEAT", 0x140, [], false, .none, .heartbeat,
    [fWO 0 32 0]⟩,
  ⟨"GLB_LIMP_CFG", 0x144, [], true, .none, .plain,
    [fRW 0 16 0, fRW 16 16 0]⟩,
  ⟨"GLB_PARK_CFG", 0x150, [], true, .none, .plain,
    [fRW 0 16 0xffff, fRW 16 4 1]⟩,
  ⟨"GLB_WAKE_CFG", 0x154, [], true, .none, .plain,
    [fRW 0 3 1]⟩,
  ⟨"GLB_AON_SEC_LO", 0x160, [], false, .lo, .aonSec,
    [fRO 0 32 0]⟩,
  ⟨"GLB_AON_SEC_HI", 0x164, [], false, .hi, .aonSec,
    [fRO 0 16 0]⟩,
  ⟨"GLB_AON_ALARM_LO", 0x168, [], false, .lo, .plain,
    [fRWS 0 32 0]⟩,
  ⟨"GLB_AON_ALARM_HI", 0x16c, [], false, .hi, .plain,
    [fRWS 0 16 0]⟩,
  ⟨"GLB_AON_ALARM_CTRL", 0x170, [], false, .none, .alarmCtrl,
    [fW1S 0 1 0, fRO 1 1 0, fW1C 2 1 0, fW1S 3 1 0]⟩,
  ⟨"GLB_START_CFG", 0x200, [], false, .none, .plain,
    [fRWS 0 1 0, fRWS 1 1 0, fRWS 2 1 1]⟩,
  ⟨"GLB_START_CTRL", 0x204, [], false, .none, .startCtrl,
    [fW1S 0 1 0, fW1S 1 1 0, fW1S 2 1 0, fWO 16 16 0]⟩] ++ [
  ⟨"GLB_START_STAT", 0x208, [], false, .none, .startStat,
    [fRO 0 2 0, fRO 2 1 0, fRO 3 4 1, fRO 7 1 0, fRO 8 1 0, fRO 9 1 0, fRO 10 1 0, fRO 11 1 0, fRO 12 1 0]⟩,
  ⟨"GLB_START_FAIL", 0x20c, [], false, .none, .plain,
    [fRO 0 2 0, fRO 2 2 0, fRO 4 4 0, fRO 8 4 0, fRO 12 1 0]⟩,
  ⟨"GLB_START_MS", 0x210, [], false, .none, .plain,
    [fRO 0 16 0, fRO 16 16 0]⟩,
  ⟨"GLB_FW_STAT", 0x214, [], false, .none, .plain,
    [fRO 0 1 0, fRO 1 3 0, fRO 8 16 0]⟩,
  ⟨"GLB_QUORUM_CFG", 0x218, [], true, .none, .plain,
    [fRW 0 16 0]⟩]

/-- The rows of the TIME block of R422. -/
def rowsTime : List RegRow := [
  ⟨"TIME_STAT", 0x100000, [], false, .none, .timeStat,
    [fRO 0 1 0, fRO 1 1 0, fW1C 2 1 0, fW1C 3 1 0, fRO 4 1 0, fRO 5 1 0]⟩,
  ⟨"TIME_NOW_W0", 0x100010, [], false, .none, .timeNow,
    [fRO 0 4 0]⟩,
  ⟨"TIME_NOW_W1", 0x100014, [], false, .none, .timeNow,
    [fRO 0 30 0]⟩,
  ⟨"TIME_NOW_W2", 0x100018, [], false, .none, .timeNow,
    [fRO 0 32 0]⟩,
  ⟨"TIME_NOW_W3", 0x10001c, [], false, .none, .timeNow,
    [fRO 0 16 0]⟩,
  ⟨"TIME_ST48_LO", 0x100020, [], false, .lo, .timeSt48,
    [fRO 0 32 0]⟩,
  ⟨"TIME_ST48_HI", 0x100024, [], false, .hi, .timeSt48,
    [fRO 0 16 0]⟩,
  ⟨"TIME_INC_LO", 0x100030, [], false, .lo, .timeInc,
    [fRW 0 32 0]⟩,
  ⟨"TIME_INC_HI", 0x100034, [], false, .hi, .timeInc,
    [fRW 0 8 0x10]⟩,
  ⟨"TIME_ADJ_LO", 0x100038, [], false, .lo, .timeAdj,
    [fWO 0 32 0]⟩,
  ⟨"TIME_ADJ_HI", 0x10003c, [], false, .hi, .timeAdj,
    [fWO 0 32 0]⟩,
  ⟨"TIME_TICK_NEXT_LO", 0x100040, [], false, .lo, .tickNext,
    [fRO 0 32 0]⟩,
  ⟨"TIME_TICK_NEXT_HI", 0x100044, [], false, .hi, .tickNext,
    [fRO 0 16 0]⟩,
  ⟨"TIME_XCHG_CFG", 0x100060, [], true, .none, .plain,
    [fRW 0 16 0x3e8, fRW 16 16 0x10]⟩,
  ⟨"TIME_PTM_CTRL", 0x100080, [], false, .none, .ptmCtrl,
    [fRW 0 16 0, fW1S 16 1 0]⟩,
  ⟨"TIME_PTM_STAT", 0x100084, [], false, .none, .plain,
    [fRO 0 2 0, fRO 2 1 0, fRO 8 8 0]⟩,
  ⟨"TIME_PTM_T1_LO", 0x100088, [], false, .lo, .ptmSet,
    [fRO 0 32 0]⟩,
  ⟨"TIME_PTM_T1_HI", 0x10008c, [], false, .hi, .ptmSet,
    [fRO 0 16 0]⟩,
  ⟨"TIME_PTM_MASTER_LO", 0x100090, [], false, .lo, .ptmSet,
    [fRO 0 32 0]⟩,
  ⟨"TIME_PTM_MASTER_HI", 0x100094, [], false, .hi, .ptmSet,
    [fRO 0 32 0]⟩,
  ⟨"TIME_PTM_DELAY", 0x100098, [], false, .none, .ptmSet,
    [fRO 0 32 0]⟩,
  ⟨"TIME_PPS_CFG", 0x1000a0, [], true, .none, .plain,
    [fRW 0 9 0x64]⟩,
  ⟨"TIME_PPS_CAP_LO", 0x1000a8, [], false, .lo, .plain,
    [fRO 0 32 0]⟩,
  ⟨"TIME_PPS_CAP_HI", 0x1000ac, [], false, .hi, .plain,
    [fRO 0 16 0]⟩,
  ⟨"TIME_REF10M_CNT", 0x1000b0, [], false, .none, .plain,
    [fRO 0 32 0]⟩] ++ [
  ⟨"TIME_CMP_RSV_LO", 0x1000c0, [], true, .lo, .plain,
    [fRW 0 32 0]⟩,
  ⟨"TIME_CMP_RSV_HI", 0x1000c4, [], true, .hi, .plain,
    [fRW 0 32 0]⟩,
  ⟨"TIME_CMP_CTRL", 0x101000, [(0x20, 64)], false, .none, .cmpCtrl,
    [fRW 0 2 0, fRW 2 1 0, fRW 3 1 0, fRW 4 1 0, fRW 5 1 0, fRW 6 1 0, fRW 7 4 1, fRW 11 3 0, fW1S 16 1 0]⟩,
  ⟨"TIME_CMP_STAT", 0x101004, [(0x20, 64)], false, .none, .plain,
    [fRO 0 1 0, fW1C 1 1 0, fW1C 2 1 0, fW1C 3 1 0, fW1C 4 1 0, fW1C 5 1 0, fW1C 6 1 0, fRO 7 1 0]⟩,
  ⟨"TIME_CMP_TGT_LO", 0x101008, [(0x20, 64)], false, .lo, .cmpUnit,
    [fRW 0 32 0]⟩,
  ⟨"TIME_CMP_TGT_HI", 0x10100c, [(0x20, 64)], false, .hi, .cmpTgtHi,
    [fRW 0 16 0]⟩,
  ⟨"TIME_CMP_PERIOD_LO", 0x101010, [(0x20, 64)], false, .lo, .cmpUnit,
    [fRW 0 32 0]⟩,
  ⟨"TIME_CMP_PERIOD_HI", 0x101014, [(0x20, 64)], false, .hi, .cmpUnit,
    [fRW 0 15 0]⟩,
  ⟨"TIME_CMP_WIDTH", 0x101018, [(0x20, 64)], false, .none, .cmpUnit,
    [fRW 0 32 0]⟩,
  ⟨"TIME_CMP_OFS", 0x10101c, [(0x20, 64)], false, .none, .cmpUnit,
    [fRW 0 32 0]⟩,
  ⟨"TIME_CAPT_CFG", 0x102000, [(0x10, 32)], true, .none, .plain,
    [fRW 0 2 0, fRW 2 4 0, fRW 6 1 0]⟩,
  ⟨"TIME_CAPT_FIFO_LO", 0x102004, [(0x10, 32)], false, .lo, .captFifo,
    [fRO 0 32 0]⟩,
  ⟨"TIME_CAPT_FIFO_HI", 0x102008, [(0x10, 32)], false, .hi, .plain,
    [fRO 0 16 0, fRO 16 1 0, fRO 17 3 0, fRO 31 1 0]⟩,
  ⟨"TIME_CAPT_LOST", 0x10200c, [(0x10, 32)], false, .none, .plain,
    [fRO 0 31 0, fW1C 31 1 0]⟩,
  ⟨"TIME_NODE_OFS", 0x104000, [(8, 512)], true, .none, .plain,
    [fRW 0 32 0]⟩,
  ⟨"TIME_NODE_DLY", 0x104004, [(8, 512)], false, .none, .plain,
    [fRO 0 24 0, fRO 31 1 0]⟩,
  ⟨"TIME_ASYM", 0x105000, [(4, 68)], true, .none, .plain,
    [fRW 0 16 0]⟩]

/-- The rows of the TRL block of R422. -/
def rowsTrl : List RegRow := [
  ⟨"TRL_CFG", 0x200000, [(0x4000, 64)], true, .none, .trlCfg,
    [fRW 0 1 0, fRW 1 1 0, fRW 2 1 0, fRW 4 3 4]⟩,
  ⟨"TRL_STAT", 0x200004, [(0x4000, 64)], false, .none, .trlStat,
    [fRO 0 1 0, fRO 1 1 0, fRO 2 3 0, fRO 5 2 1, fRO 7 1 0, fRO 8 5 0, fW1C 13 1 0]⟩,
  ⟨"TRL_BLK_CNT_LO", 0x200010, [(0x4000, 64)], false, .lo, .plain,
    [fRO 0 32 0]⟩,
  ⟨"TRL_BLK_CNT_HI", 0x200014, [(0x4000, 64)], false, .hi, .plain,
    [fRO 0 16 0, fW1C 31 1 0]⟩,
  ⟨"TRL_STUFF_CNT_LO", 0x200018, [(0x4000, 64)], false, .lo, .plain,
    [fRO 0 32 0]⟩,
  ⟨"TRL_STUFF_CNT_HI", 0x20001c, [(0x4000, 64)], false, .hi, .plain,
    [fRO 0 16 0, fW1C 31 1 0]⟩,
  ⟨"TRL_HDR_ERR", 0x200020, [(0x4000, 64)], false, .none, .plain,
    [fRO 0 31 0, fW1C 31 1 0]⟩,
  ⟨"TRL_STUFF_VIOL", 0x200024, [(0x4000, 64)], false, .none, .plain,
    [fRO 0 31 0, fW1C 31 1 0]⟩,
  ⟨"TRL_SYNC_MISS", 0x200028, [(0x4000, 64)], false, .none, .plain,
    [fRO 0 31 0, fW1C 31 1 0]⟩,
  ⟨"TRL_SYNC_SEQ", 0x20002c, [(0x4000, 64)], false, .none, .plain,
    [fRO 0 31 0, fW1C 31 1 0]⟩,
  ⟨"TRL_LOCK_LOSS", 0x200030, [(0x4000, 64)], false, .none, .plain,
    [fRO 0 31 0, fW1C 31 1 0]⟩,
  ⟨"TRL_TEST_ERR", 0x200034, [(0x4000, 64)], false, .none, .plain,
    [fRO 0 31 0, fW1C 31 1 0]⟩,
  ⟨"TRL_CRC_ERR", 0x200040, [(0x4000, 64)], false, .none, .plain,
    [fRO 0 31 0, fW1C 31 1 0]⟩,
  ⟨"TRL_HCRC_ERR", 0x200044, [(0x4000, 64)], false, .none, .plain,
    [fRO 0 31 0, fW1C 31 1 0]⟩,
  ⟨"TRL_CTL_CRC_ERR", 0x200048, [(0x4000, 64)], false, .none, .plain,
    [fRO 0 31 0, fW1C 31 1 0]⟩,
  ⟨"TRL_PRONK_FAIL", 0x20004c, [(0x4000, 64)], false, .none, .plain,
    [fRO 0 31 0, fW1C 31 1 0]⟩,
  ⟨"TRL_RETRAIN", 0x200050, [(0x4000, 64)], false, .none, .plain,
    [fRO 0 31 0, fW1C 31 1 0]⟩,
  ⟨"TRL_EQ_LO", 0x200100, [(0x4000, 64), (8, 15)], true, .none, .plain,
    [fRW 0 5 0, fRW 5 6 0, fRW 11 4 0, fRW 15 5 0, fRW 20 5 0, fRW 31 1 0]⟩,
  ⟨"TRL_EQ_HI", 0x200104, [(0x4000, 64), (8, 15)], true, .none, .plain,
    [fRW 0 7 0, fRW 7 6 0, fRW 13 6 0, fRW 19 6 0, fRW 25 3 0, fRW 28 4 0]⟩,
  ⟨"TRL_TEST", 0x200200, [(0x4000, 64)], true, .none, .trlTest,
    [fRW 0 2 0, fRW 2 3 0, fRW 5 1 0, fRW 8 3 0]⟩,
  ⟨"TRL_TEST_STAT", 0x200204, [(0x4000, 64)], false, .none, .plain,
    [fRO 0 2 0, fRO 2 1 0]⟩,
  ⟨"TRL_EYE_CTRL", 0x200300, [(0x4000, 64)], true, .none, .eyeCtrl,
    [fRW 0 6 0, fRW 6 5 0x14, fRW 11 2 0, fW1S 13 1 0]⟩,
  ⟨"TRL_EYE_STAT", 0x200304, [(0x4000, 64)], false, .none, .plain,
    [fRO 0 2 0, fRO 2 7 0]⟩,
  ⟨"TRL_EYE_ROW", 0x200400, [(0x4000, 64), (4, 128)], false, .none, .plain,
    [fRO 0 16 0, fRO 16 1 0, fRO 17 1 0]⟩,
  ⟨"TRL_BRUP_CFG", 0x200600, [(0x4000, 64)], true, .none, .plain,
    [fRW 0 3 2, fRW 4 4 1, fRW 8 8 0xa, fRW 16 4 8, fRW 20 4 0xa, fRW 24 5 0x10]⟩] ++ [
  ⟨"TRL_BRUP_STAT", 0x200604, [(0x4000, 64)], false, .none, .plain,
    [fRO 0 3 0, fRO 4 4 0, fRO 8 3 0, fRO 12 3 4, fRO 16 4 0]⟩,
  ⟨"TRL_BRUP_CTRL", 0x200608, [(0x4000, 64)], false, .none, .brupCtrl,
    [fW1S 0 1 0, fW1S 1 1 0]⟩,
  ⟨"TRL_HOP_STEP", 0x20060c, [(0x4000, 64)], false, .none, .plain,
    [fRO 0 24 0, fRO 24 8 0]⟩]

/-- The rows of the TRK block of R422. -/
def rowsTrk : List RegRow := [
  ⟨"TRK_CFG", 0x300000, [(0x4000, 4), (0x800, 4)], true, .none, .trlCfg,
    [fRW 0 1 0, fRW 1 1 0, fRW 2 1 0, fRW 4 3 4]⟩,
  ⟨"TRK_STAT", 0x300004, [(0x4000, 4), (0x800, 4)], false, .none, .trlStat,
    [fRO 0 1 0, fRO 1 1 0, fRO 2 3 0, fRO 5 2 1, fRO 7 1 0, fRO 8 5 0, fW1C 13 1 0]⟩,
  ⟨"TRK_BLK_CNT_LO", 0x300010, [(0x4000, 4), (0x800, 4)], false, .lo, .plain,
    [fRO 0 32 0]⟩,
  ⟨"TRK_BLK_CNT_HI", 0x300014, [(0x4000, 4), (0x800, 4)], false, .hi, .plain,
    [fRO 0 16 0, fW1C 31 1 0]⟩,
  ⟨"TRK_STUFF_CNT_LO", 0x300018, [(0x4000, 4), (0x800, 4)], false, .lo, .plain,
    [fRO 0 32 0]⟩,
  ⟨"TRK_STUFF_CNT_HI", 0x30001c, [(0x4000, 4), (0x800, 4)], false, .hi, .plain,
    [fRO 0 16 0, fW1C 31 1 0]⟩,
  ⟨"TRK_HDR_ERR", 0x300020, [(0x4000, 4), (0x800, 4)], false, .none, .plain,
    [fRO 0 31 0, fW1C 31 1 0]⟩,
  ⟨"TRK_STUFF_VIOL", 0x300024, [(0x4000, 4), (0x800, 4)], false, .none, .plain,
    [fRO 0 31 0, fW1C 31 1 0]⟩,
  ⟨"TRK_SYNC_MISS", 0x300028, [(0x4000, 4), (0x800, 4)], false, .none, .plain,
    [fRO 0 31 0, fW1C 31 1 0]⟩,
  ⟨"TRK_SYNC_SEQ", 0x30002c, [(0x4000, 4), (0x800, 4)], false, .none, .plain,
    [fRO 0 31 0, fW1C 31 1 0]⟩,
  ⟨"TRK_LOCK_LOSS", 0x300030, [(0x4000, 4), (0x800, 4)], false, .none, .plain,
    [fRO 0 31 0, fW1C 31 1 0]⟩,
  ⟨"TRK_TEST_ERR", 0x300034, [(0x4000, 4), (0x800, 4)], false, .none, .plain,
    [fRO 0 31 0, fW1C 31 1 0]⟩,
  ⟨"TRK_CRC_ERR", 0x300040, [(0x4000, 4), (0x800, 4)], false, .none, .plain,
    [fRO 0 31 0, fW1C 31 1 0]⟩,
  ⟨"TRK_HCRC_ERR", 0x300044, [(0x4000, 4), (0x800, 4)], false, .none, .plain,
    [fRO 0 31 0, fW1C 31 1 0]⟩,
  ⟨"TRK_CTL_CRC_ERR", 0x300048, [(0x4000, 4), (0x800, 4)], false, .none, .plain,
    [fRO 0 31 0, fW1C 31 1 0]⟩,
  ⟨"TRK_PRONK_FAIL", 0x30004c, [(0x4000, 4), (0x800, 4)], false, .none, .plain,
    [fRO 0 31 0, fW1C 31 1 0]⟩,
  ⟨"TRK_RETRAIN", 0x300050, [(0x4000, 4), (0x800, 4)], false, .none, .plain,
    [fRO 0 31 0, fW1C 31 1 0]⟩,
  ⟨"TRK_EQ_LO", 0x300100, [(0x4000, 4), (0x800, 4), (8, 15)], true, .none, .plain,
    [fRW 0 5 0, fRW 5 6 0, fRW 11 4 0, fRW 15 5 0, fRW 20 5 0, fRW 31 1 0]⟩,
  ⟨"TRK_EQ_HI", 0x300104, [(0x4000, 4), (0x800, 4), (8, 15)], true, .none, .plain,
    [fRW 0 7 0, fRW 7 6 0, fRW 13 6 0, fRW 19 6 0, fRW 25 3 0, fRW 28 4 0]⟩,
  ⟨"TRK_TEST", 0x300200, [(0x4000, 4), (0x800, 4)], true, .none, .trlTest,
    [fRW 0 2 0, fRW 2 3 0, fRW 5 1 0, fRW 8 3 0]⟩,
  ⟨"TRK_TEST_STAT", 0x300204, [(0x4000, 4), (0x800, 4)], false, .none, .plain,
    [fRO 0 2 0, fRO 2 1 0]⟩,
  ⟨"TRK_EYE_CTRL", 0x300300, [(0x4000, 4), (0x800, 4)], true, .none, .eyeCtrl,
    [fRW 0 6 0, fRW 6 5 0x14, fRW 11 2 0, fW1S 13 1 0]⟩,
  ⟨"TRK_EYE_STAT", 0x300304, [(0x4000, 4), (0x800, 4)], false, .none, .plain,
    [fRO 0 2 0, fRO 2 7 0]⟩,
  ⟨"TRK_EYE_ROW", 0x300400, [(0x4000, 4), (0x800, 4), (4, 128)], false, .none, .plain,
    [fRO 0 16 0, fRO 16 1 0, fRO 17 1 0]⟩,
  ⟨"TRK_BRUP_CFG", 0x300600, [(0x4000, 4), (0x800, 4)], true, .none, .plain,
    [fRW 0 3 2, fRW 4 4 1, fRW 8 8 0xa, fRW 16 4 8, fRW 20 4 0xa, fRW 24 5 0x10]⟩] ++ [
  ⟨"TRK_BRUP_STAT", 0x300604, [(0x4000, 4), (0x800, 4)], false, .none, .plain,
    [fRO 0 3 0, fRO 4 4 0, fRO 8 3 0, fRO 12 3 4, fRO 16 4 0]⟩,
  ⟨"TRK_BRUP_CTRL", 0x300608, [(0x4000, 4), (0x800, 4)], false, .none, .brupCtrl,
    [fW1S 0 1 0, fW1S 1 1 0]⟩,
  ⟨"TRK_HOP_STEP", 0x30060c, [(0x4000, 4), (0x800, 4)], false, .none, .plain,
    [fRO 0 24 0, fRO 24 8 0]⟩,
  ⟨"TRK_BOND_CFG", 0x302000, [(0x4000, 4)], true, .none, .plain,
    [fRW 0 4 0xf, fRW 4 1 0, fRW 8 2 0]⟩,
  ⟨"TRK_BOND_STAT", 0x302004, [(0x4000, 4)], false, .none, .plain,
    [fRO 0 2 0, fRO 2 4 0, fRO 6 2 0, fRO 8 4 0, fRO 12 4 0, fRO 16 1 0, fRO 17 5 0]⟩,
  ⟨"TRK_DESKEW_ERR", 0x302008, [(0x4000, 4)], false, .none, .plain,
    [fRO 0 31 0, fW1C 31 1 0]⟩]

/-- The rows of the NODE block of R422. -/
def rowsNode : List RegRow := [
  ⟨"NODE_ENT", 0x400000, [(0x40, 512)], false, .none, .plain,
    [fRO 0 1 0, fRO 1 3 0, fRO 4 3 0, fRO 7 3 0, fW1C 10 1 0, fRO 11 1 0, fRO 12 4 0]⟩,
  ⟨"NODE_UID_LO", 0x400004, [(0x40, 512)], false, .lo, .plain,
    [fRO 0 32 0]⟩,
  ⟨"NODE_UID_HI", 0x400008, [(0x40, 512)], false, .hi, .plain,
    [fRO 0 32 0]⟩,
  ⟨"NODE_CAPS0", 0x40000c, [(0x40, 512)], false, .none, .plain,
    [fRO 0 16 0, fRO 16 16 0]⟩,
  ⟨"NODE_CAPS1", 0x400010, [(0x40, 512)], false, .none, .plain,
    [fRO 0 16 0, fRO 16 16 0]⟩,
  ⟨"NODE_CAPS2", 0x400014, [(0x40, 512)], false, .none, .plain,
    [fRO 0 3 0, fRO 3 1 0, fRO 4 1 0, fRO 8 8 0]⟩,
  ⟨"NODE_CRC_ERR", 0x400018, [(0x40, 512)], false, .none, .plain,
    [fRO 0 31 0, fW1C 31 1 0]⟩,
  ⟨"NODE_SEQ_ERR", 0x40001c, [(0x40, 512)], false, .none, .plain,
    [fRO 0 31 0, fW1C 31 1 0]⟩,
  ⟨"NODE_OVFL", 0x400020, [(0x40, 512)], false, .none, .plain,
    [fRO 0 31 0, fW1C 31 1 0]⟩,
  ⟨"NODE_LOSS", 0x400024, [(0x40, 512)], false, .none, .plain,
    [fRO 0 31 0, fW1C 31 1 0]⟩]

/-- The rows of the ING block of R422. -/
def rowsIng : List RegRow := [
  ⟨"ING_ENT0", 0x500000, [(0x80, 1024)], true, .none, .plain,
    [fRW 0 1 0, fRW 1 9 0, fRW 10 2 0, fRW 12 6 0, fRW 18 1 0, fRW 19 1 0, fRW 20 1 0, fRW 21 1 0, fRW 22 4 1, fRW 26 3 0]⟩,
  ⟨"ING_ENT1", 0x500004, [(0x80, 1024)], true, .none, .plain,
    [fRW 0 15 0, fRW 16 15 0]⟩,
  ⟨"ING_ENT2", 0x500008, [(0x80, 1024)], true, .none, .plain,
    [fRW 0 32 0]⟩,
  ⟨"ING_ENT3", 0x50000c, [(0x80, 1024)], true, .none, .plain,
    [fRW 0 4 1]⟩,
  ⟨"ING_SOF_TS_LO", 0x500010, [(0x80, 1024)], false, .lo, .plain,
    [fRO 0 32 0]⟩,
  ⟨"ING_SOF_TS_HI", 0x500014, [(0x80, 1024)], false, .hi, .plain,
    [fRO 0 16 0]⟩,
  ⟨"ING_LAST_FRAME", 0x500018, [(0x80, 1024)], false, .none, .plain,
    [fRO 0 32 0]⟩,
  ⟨"ING_LAST_HERD_LO", 0x50001c, [(0x80, 1024)], false, .lo, .plain,
    [fRO 0 32 0]⟩,
  ⟨"ING_LAST_HERD_HI", 0x500020, [(0x80, 1024)], false, .hi, .plain,
    [fRO 0 16 0]⟩,
  ⟨"ING_GSP", 0x500024, [(0x80, 1024)], false, .none, .plain,
    [fRO 0 16 0, fRO 16 6 0]⟩,
  ⟨"ING_OVERRUN", 0x500028, [(0x80, 1024)], false, .none, .plain,
    [fRO 0 31 0, fW1C 31 1 0]⟩,
  ⟨"ING_LATE_DROP", 0x50002c, [(0x80, 1024)], false, .none, .plain,
    [fRO 0 31 0, fW1C 31 1 0]⟩,
  ⟨"ING_LINE_DROP", 0x500030, [(0x80, 1024)], false, .none, .plain,
    [fRO 0 31 0, fW1C 31 1 0]⟩,
  ⟨"ING_FMT_ERR", 0x500034, [(0x80, 1024)], false, .none, .plain,
    [fRO 0 31 0, fW1C 31 1 0]⟩,
  ⟨"ING_LINES_LO", 0x500038, [(0x80, 1024)], false, .lo, .plain,
    [fRO 0 32 0]⟩,
  ⟨"ING_LINES_HI", 0x50003c, [(0x80, 1024)], false, .hi, .plain,
    [fRO 0 16 0, fW1C 31 1 0]⟩,
  ⟨"ING_NOENT", 0x580000, [], false, .none, .plain,
    [fRO 0 31 0, fW1C 31 1 0]⟩]

/-- The rows of the LST block of R422. -/
def rowsLst : List RegRow := [
  ⟨"LST_STAT", 0x600000, [], false, .none, .plain,
    [fRO 0 11 0x600, fW1C 16 1 0, fW1C 17 1 0]⟩,
  ⟨"LST_SCRUB_CFG", 0x600004, [], true, .none, .plain,
    [fRW 0 8 0xa, fRW 8 4 4]⟩,
  ⟨"LST_CE_CNT", 0x600008, [], false, .none, .plain,
    [fRO 0 31 0, fW1C 31 1 0]⟩,
  ⟨"LST_UE_CNT", 0x60000c, [], false, .none, .plain,
    [fRO 0 31 0, fW1C 31 1 0]⟩,
  ⟨"LST_REPAIR_STAT", 0x600010, [], false, .none, .lstRepair,
    [fRO 0 6 0x20, fRO 6 6 0, fW1C 12 1 0]⟩,
  ⟨"LST_REPAIR_CNT", 0x600014, [], false, .none, .plain,
    [fRO 0 31 0, fW1C 31 1 0]⟩,
  ⟨"LST_BANK_SPARE", 0x600100, [(4, 64)], false, .none, .plain,
    [fRO 0 6 0, fRO 6 6 0]⟩,
  ⟨"LST_Q_STAT", 0x610000, [(0x40, 1024)], false, .none, .lstStat,
    [fRO 0 11 0, fRO 11 11 0, fRO 22 1 0, fRO 23 1 0, fRO 24 4 0]⟩,
  ⟨"LST_Q_CTRL", 0x610004, [(0x40, 1024)], false, .none, .lstCtrl,
    [fW1S 0 1 0]⟩,
  ⟨"LST_Q_RET_OLD_LO", 0x610008, [(0x40, 1024)], false, .lo, .lstOld,
    [fRO 0 32 0]⟩,
  ⟨"LST_Q_RET_OLD_HI", 0x61000c, [(0x40, 1024)], false, .hi, .lstOld,
    [fRO 0 16 0, fRO 31 1 0]⟩,
  ⟨"LST_Q_RET_NEW_LO", 0x610010, [(0x40, 1024)], false, .lo, .lstNew,
    [fRO 0 32 0]⟩,
  ⟨"LST_Q_RET_NEW_HI", 0x610014, [(0x40, 1024)], false, .hi, .lstNew,
    [fRO 0 16 0, fRO 31 1 0]⟩,
  ⟨"LST_Q_WM", 0x610018, [(0x40, 1024)], false, .none, .plain,
    [fRW 0 11 0, fRW 11 1 0]⟩,
  ⟨"LST_Q_WM_STAT", 0x61001c, [(0x40, 1024)], false, .none, .lstWm,
    [fW1C 0 1 0, fRO 8 8 0, fRO 16 11 0]⟩,
  ⟨"LST_LOST", 0x610020, [(0x40, 1024)], false, .none, .plain,
    [fRO 0 31 0, fW1C 31 1 0]⟩,
  ⟨"LST_FLUSHED", 0x610024, [(0x40, 1024)], false, .none, .plain,
    [fRO 0 31 0, fW1C 31 1 0]⟩,
  ⟨"LST_Q_RESETS", 0x610028, [(0x40, 1024)], false, .none, .plain,
    [fRO 0 31 0, fW1C 31 1 0]⟩]

/-- The rows of the SLC block of R422. -/
def rowsSlc : List RegRow := [
  ⟨"SLC_STAT", 0x800000, [(0x10000, 34)], false, .none, .plain,
    [fRO 0 3 0, fRO 3 1 0, fRO 4 6 0, fRO 10 9 0]⟩,
  ⟨"SLC_LINES_LO", 0x800008, [(0x10000, 34)], false, .lo, .plain,
    [fRO 0 32 0]⟩,
  ⟨"SLC_LINES_HI", 0x80000c, [(0x10000, 34)], false, .hi, .plain,
    [fRO 0 16 0, fW1C 31 1 0]⟩,
  ⟨"SLC_CYC_LO", 0x800010, [(0x10000, 34)], false, .lo, .plain,
    [fRO 0 32 0]⟩,
  ⟨"SLC_CYC_HI", 0x800014, [(0x10000, 34)], false, .hi, .plain,
    [fRO 0 16 0, fW1C 31 1 0]⟩,
  ⟨"SLC_SVC_CTRL", 0x800020, [(0x10000, 34)], true, .none, .sliceSvc,
    [fW1S 0 1 0, fW1S 1 1 0]⟩,
  ⟨"SLC_SVC_STAT", 0x800024, [(0x10000, 34)], false, .none, .plain,
    [fRO 0 2 0, fW1C 2 1 0, fRO 3 1 0, fRO 4 4 0]⟩,
  ⟨"SLC_STR_CFG0", 0xb00000, [(0x80, 1024)], true, .none, .strCfg0,
    [fRW 0 1 1, fRW 1 1 1, fRW 2 1 1, fRW 3 1 1, fRW 4 1 1, fRW 5 1 1, fRW 6 1 1, fRW 8 2 0, fRW 10 2 3]⟩,
  ⟨"SLC_STR_CFG1", 0xb00004, [(0x80, 1024)], true, .none, .plain,
    [fRW 0 12 0, fRW 12 5 0, fRW 17 1 0, fRW 18 4 0, fRW 22 1 0]⟩,
  ⟨"SLC_STR_TSET", 0xb00008, [(0x80, 1024)], true, .none, .plain,
    [fRW 0 14 0, fRW 16 14 0]⟩,
  ⟨"SLC_STR_DEF0", 0xb0000c, [(0x80, 1024)], true, .none, .plain,
    [fRW 0 18 0]⟩,
  ⟨"SLC_STR_DEF1", 0xb00010, [(0x80, 1024)], true, .none, .plain,
    [fRW 0 19 0]⟩,
  ⟨"SLC_STR_DYN", 0xb00014, [(0x80, 1024)], true, .none, .plain,
    [fRW 0 24 0]⟩,
  ⟨"SLC_STR_HRATIO", 0xb00018, [(0x80, 1024)], true, .none, .plain,
    [fRW 0 20 0x10000]⟩,
  ⟨"SLC_STR_VRATIO", 0xb0001c, [(0x80, 1024)], true, .none, .plain,
    [fRW 0 20 0x10000]⟩,
  ⟨"SLC_STR_BLACK", 0xb00020, [(0x80, 1024), (4, 4)], true, .none, .plain,
    [fRW 0 24 0]⟩,
  ⟨"SLC_STR_LIVE", 0xb00030, [(0x80, 1024)], false, .none, .strLive,
    [fRW 0 1 0, fW1S 1 1 0, fRO 2 1 0, fRO 3 1 0, fW1C 4 1 0]⟩,
  ⟨"SLC_STR_GAIN01", 0xb00034, [(0x80, 1024)], false, .none, .plain,
    [fRW 0 16 0x1000, fRW 16 16 0x1000]⟩,
  ⟨"SLC_STR_GAIN23", 0xb00038, [(0x80, 1024)], false, .none, .plain,
    [fRW 0 16 0x1000, fRW 16 16 0x1000]⟩,
  ⟨"SLC_STR_MEM", 0xb0003c, [(0x80, 1024)], false, .none, .strMem,
    [fRO 0 19 0]⟩,
  ⟨"SLC_STR_FILL_CNT", 0xb00040, [(0x80, 1024)], false, .none, .plain,
    [fRO 0 31 0, fW1C 31 1 0]⟩,
  ⟨"SLC_STR_DOVF_CNT", 0xb00044, [(0x80, 1024)], false, .none, .plain,
    [fRO 0 31 0, fW1C 31 1 0]⟩,
  ⟨"SLC_STR_POISON_CNT", 0xb00048, [(0x80, 1024)], false, .none, .plain,
    [fRO 0 31 0, fW1C 31 1 0]⟩,
  ⟨"SLC_STR_DYN_CNT_LO", 0xb00050, [(0x80, 1024)], false, .lo, .plain,
    [fRO 0 32 0]⟩,
  ⟨"SLC_STR_DYN_CNT_HI", 0xb00054, [(0x80, 1024)], false, .hi, .plain,
    [fRO 0 16 0, fW1C 31 1 0]⟩] ++ [
  ⟨"ROI_CFG", 0xb40000, [(0x20, 4096)], true, .none, .plain,
    [fRW 0 1 0, fRW 1 10 0, fRW 11 3 4, fRW 14 1 0, fRW 15 10 0]⟩,
  ⟨"ROI_SIZE", 0xb40004, [(0x20, 4096)], true, .none, .plain,
    [fRW 0 15 0, fRW 16 15 0]⟩,
  ⟨"ROI_POS", 0xb40008, [(0x20, 4096)], false, .none, .roiPos,
    [fRW 0 15 0, fRW 16 15 0]⟩,
  ⟨"ROI_CUR", 0xb4000c, [(0x20, 4096)], false, .none, .plain,
    [fRO 0 15 0, fRO 16 15 0]⟩,
  ⟨"ROI_STAT", 0xb40010, [(0x20, 4096)], false, .none, .plain,
    [fW1C 0 1 0]⟩,
  ⟨"SLC_TBL_PSTAT", 0xbf0000, [], false, .none, .tblPstat,
    [fRO 0 15 0, fRO 31 1 0]⟩,
  ⟨"SLC_TBL_WREJ", 0xbf0004, [], false, .none, .plain,
    [fRO 0 31 0, fW1C 31 1 0]⟩]

/-- The rows of the PLC block of R422. -/
def rowsPlc : List RegRow := [
  ⟨"PLC_CFG", 0xc00000, [], true, .none, .plain,
    [fRW 0 9 0x80, fRW 9 1 1, fRW 10 1 0]⟩,
  ⟨"PLC_CTRL", 0xc00004, [], false, .none, .plcCtrl,
    [fW1S 0 1 0]⟩,
  ⟨"PLC_STAT", 0xc00008, [], false, .none, .plain,
    [fRO 0 1 0, fRO 1 1 0, fW1C 2 1 0, fRO 4 4 0, fRO 8 6 0, fRO 14 2 0, fRO 16 16 0]⟩,
  ⟨"PLC_GEN", 0xc0000c, [], false, .none, .plain,
    [fRO 0 32 0]⟩,
  ⟨"PLC_GEN_HERD_LO", 0xc00010, [], false, .lo, .plain,
    [fRO 0 32 0]⟩,
  ⟨"PLC_GEN_HERD_HI", 0xc00014, [], false, .hi, .plain,
    [fRO 0 16 0]⟩,
  ⟨"PLC_LOAD0", 0xc00018, [], false, .none, .plain,
    [fRO 0 16 0, fRO 16 16 0]⟩,
  ⟨"PLC_LOAD1", 0xc0001c, [], false, .none, .plain,
    [fRO 0 16 0, fRO 16 16 0]⟩,
  ⟨"PLC_LOG_BASE_LO", 0xc00020, [], false, .lo, .plain,
    [fRW 6 26 0]⟩,
  ⟨"PLC_LOG_BASE_HI", 0xc00024, [], false, .hi, .plain,
    [fRW 0 32 0]⟩,
  ⟨"PLC_LOG_CFG", 0xc00028, [], false, .none, .plcLog,
    [fRW 0 1 0, fRW 1 4 4]⟩,
  ⟨"PLC_LOG_IDX", 0xc0002c, [], false, .none, .plain,
    [fRO 0 16 0, fRO 16 1 0]⟩,
  ⟨"PLC_AUDIT_STAT", 0xc00030, [], false, .none, .plain,
    [fRO 0 6 0x3f, fRO 6 6 0x3f, fRO 12 6 0x3f, fRO 18 6 0x3f, fRO 24 2 0, fRO 26 2 0]⟩,
  ⟨"PLC_AUDIT_CNT_LO", 0xc00034, [], false, .lo, .plain,
    [fRO 0 32 0]⟩,
  ⟨"PLC_AUDIT_CNT_HI", 0xc00038, [], false, .hi, .plain,
    [fRO 0 16 0, fW1C 31 1 0]⟩,
  ⟨"PLC_AUDIT_MISM", 0xc0003c, [], false, .none, .plain,
    [fRO 0 31 0, fW1C 31 1 0]⟩,
  ⟨"PLC_REFUSE_CNT", 0xc00040, [], false, .none, .plain,
    [fRO 0 31 0, fW1C 31 1 0]⟩,
  ⟨"PLC_LOG_LOST", 0xc00044, [], false, .none, .plain,
    [fRO 0 31 0, fW1C 31 1 0]⟩,
  ⟨"PLC_POOL_CFG", 0xc01000, [(0x10, 64)], false, .none, .plain,
    [fRW 0 1 0, fRW 1 5 4, fRW 6 6 0, fRW 12 20 0]⟩,
  ⟨"PLC_POOL_BASE_LO", 0xc01004, [(0x10, 64)], false, .lo, .plain,
    [fRW 12 20 0]⟩,
  ⟨"PLC_POOL_BASE_HI", 0xc01008, [(0x10, 64)], false, .hi, .plain,
    [fRW 0 32 0]⟩,
  ⟨"PLC_POOL_STAT", 0xc0100c, [(0x10, 64)], false, .none, .plain,
    [fRO 0 20 0, fRO 20 9 0]⟩,
  ⟨"PLC_OSID_CFG", 0xc10000, [(0x10, 1024)], true, .none, .plain,
    [fRW 0 2 0, fRW 2 6 0, fRW 8 1 0, fRW 9 2 0, fRW 11 1 0]⟩,
  ⟨"PLC_OSID_CTRL", 0xc10004, [(0x10, 1024)], false, .none, .plain,
    [fRW 0 1 1]⟩,
  ⟨"PLC_OSID_STAT", 0xc10008, [(0x10, 1024)], false, .none, .plain,
    [fRO 0 3 0, fRO 3 8 0, fRO 11 5 0, fRO 16 1 0, fRO 17 4 0]⟩] ++ [
  ⟨"PLC_OSID_OFS", 0xc1000c, [(0x10, 1024)], false, .none, .plain,
    [fRO 0 20 0]⟩,
  ⟨"PLC_ISID_MAP_LO", 0xc20000, [(0x10, 1024)], false, .lo, .plain,
    [fRO 0 32 0]⟩,
  ⟨"PLC_ISID_MAP_HI", 0xc20004, [(0x10, 1024)], false, .hi, .plain,
    [fRO 0 2 0, fRO 2 4 0, fRO 6 1 0]⟩]

/-- The rows of the GRZ block of R422. -/
def rowsGrz : List RegRow := [
  ⟨"GRZ_CFG", 0xd00000, [], true, .none, .grzCfg,
    [fRW 0 8 0xff, fRW 8 1 0]⟩,
  ⟨"GRZ_BUDGET_CYC", 0xd00004, [], true, .none, .grzCfg,
    [fRW 0 32 0]⟩,
  ⟨"GRZ_BUDGET_LST", 0xd00008, [], true, .none, .grzCfg,
    [fRW 0 32 0]⟩,
  ⟨"GRZ_BUDGET_HOST", 0xd0000c, [], true, .none, .grzCfg,
    [fRW 0 32 0]⟩,
  ⟨"GRZ_CTRL", 0xd00010, [], false, .none, .grzCtrl,
    [fRW 0 1 0, fW1S 1 1 0]⟩,
  ⟨"GRZ_PI", 0xd00014, [], false, .none, .grzPi,
    [fRW 0 8 0, fRW 8 1 0]⟩,
  ⟨"GRZ_CI", 0xd00018, [], false, .none, .plain,
    [fRO 0 8 0, fRO 8 1 0]⟩,
  ⟨"GRZ_STAT", 0xd0001c, [], false, .none, .plain,
    [fRO 0 9 0, fRO 9 1 0, fW1C 10 1 0, fW1C 11 1 0, fRO 12 4 0, fRO 16 8 0]⟩,
  ⟨"GRZ_REQ_W", 0xd00020, [(4, 8)], false, .none, .grzReq,
    [fRW 0 32 0]⟩,
  ⟨"GRZ_SUBMIT", 0xd00040, [], false, .none, .grzSubmit,
    [fW1S 0 1 0]⟩,
  ⟨"GRZ_DONE_CNT_LO", 0xd00048, [], false, .lo, .plain,
    [fRO 0 32 0]⟩,
  ⟨"GRZ_DONE_CNT_HI", 0xd0004c, [], false, .hi, .plain,
    [fRO 0 16 0, fW1C 31 1 0]⟩,
  ⟨"GRZ_GONE_CNT", 0xd00050, [], false, .none, .plain,
    [fRO 0 31 0, fW1C 31 1 0]⟩,
  ⟨"GRZ_REJ_CNT", 0xd00054, [], false, .none, .plain,
    [fRO 0 31 0, fW1C 31 1 0]⟩,
  ⟨"GRZ_Q", 0xd10000, [(0x20, 256), (4, 8)], false, .none, .grzQ,
    [fRW 0 32 0]⟩]

/-- The rows of the DMA block of R422. -/
def rowsDma : List RegRow := [
  ⟨"DMA_CH_CFG", 0x1000000, [(0x1000, 256)], false, .none, .chCfg,
    [fRW 0 1 0, fRW 1 1 0, fRW 2 4 9, fRW 6 7 0, fRW 13 8 0x3f, fRW 21 1 0, fRW 22 5 4, fRW 27 5 0]⟩,
  ⟨"DMA_CH_CTRL", 0x1000004, [(0x1000, 256)], false, .none, .chCtrl,
    [fW1S 0 1 0, fW1S 1 1 0, fW1S 2 1 0, fW1S 3 1 0]⟩,
  ⟨"DMA_CH_STAT", 0x1000008, [(0x1000, 256)], false, .none, .chStat,
    [fRO 0 3 0, fRO 3 3 0, fW1C 6 1 0, fW1C 7 1 0, fW1C 8 1 0, fW1C 9 1 0, fRO 10 2 0, fRO 12 1 0, fRO 13 2 0, fRO 15 8 0, fRO 23 5 0]⟩,
  ⟨"DMA_CH_BASE_LO", 0x100000c, [(0x1000, 256)], false, .lo, .chRing,
    [fRW 6 26 0]⟩,
  ⟨"DMA_CH_BASE_HI", 0x1000010, [(0x1000, 256)], false, .hi, .chRing,
    [fRW 0 32 0]⟩,
  ⟨"DMA_CH_PI", 0x1000014, [(0x1000, 256)], false, .none, .chPi,
    [fRW 0 16 0, fRW 16 1 0]⟩,
  ⟨"DMA_CH_CI", 0x1000018, [(0x1000, 256)], false, .none, .chRing,
    [fRW 0 16 0, fRW 16 1 0]⟩,
  ⟨"DMA_CH_RATE", 0x100001c, [(0x1000, 256)], false, .none, .plain,
    [fRW 0 8 0, fRW 8 1 0]⟩,
  ⟨"DMA_CH_CUR_LO", 0x1000020, [(0x1000, 256)], false, .lo, .plain,
    [fRO 0 32 0]⟩,
  ⟨"DMA_CH_CUR_HI", 0x1000024, [(0x1000, 256)], false, .hi, .plain,
    [fRO 0 32 0]⟩,
  ⟨"DMA_CH_DONE", 0x1000028, [(0x1000, 256)], false, .none, .plain,
    [fRO 0 32 0]⟩,
  ⟨"DMA_CH_BYTES_LO", 0x1000030, [(0x1000, 256)], false, .lo, .plain,
    [fRO 0 32 0]⟩,
  ⟨"DMA_CH_BYTES_HI", 0x1000034, [(0x1000, 256)], false, .hi, .plain,
    [fRO 0 16 0, fW1C 31 1 0]⟩,
  ⟨"DMA_CH_LINES_LO", 0x1000038, [(0x1000, 256)], false, .lo, .plain,
    [fRO 0 32 0]⟩,
  ⟨"DMA_CH_LINES_HI", 0x100003c, [(0x1000, 256)], false, .hi, .plain,
    [fRO 0 16 0, fW1C 31 1 0]⟩,
  ⟨"DMA_CH_BAD", 0x1000040, [(0x1000, 256)], false, .none, .plain,
    [fRO 0 31 0, fW1C 31 1 0]⟩,
  ⟨"DMA_CH_NOBUF", 0x1000044, [(0x1000, 256)], false, .none, .plain,
    [fRO 0 31 0, fW1C 31 1 0]⟩,
  ⟨"DMA_CH_LATE_DROP", 0x1000048, [(0x1000, 256)], false, .none, .plain,
    [fRO 0 31 0, fW1C 31 1 0]⟩,
  ⟨"DMA_CH_DISC", 0x100004c, [(0x1000, 256)], false, .none, .plain,
    [fRO 0 31 0, fW1C 31 1 0]⟩]

/-- The rows of the CQ block of R422. -/
def rowsCq : List RegRow := [
  ⟨"CQ_CFG", 0x1100000, [(0x1000, 64)], false, .none, .cqCfg,
    [fRW 0 1 0, fRW 1 5 4, fRW 6 1 0]⟩,
  ⟨"CQ_BASE_LO", 0x1100004, [(0x1000, 64)], false, .lo, .cqBase,
    [fRW 6 26 0]⟩,
  ⟨"CQ_BASE_HI", 0x1100008, [(0x1000, 64)], false, .hi, .cqBase,
    [fRW 0 32 0]⟩,
  ⟨"CQ_PI", 0x110000c, [(0x1000, 64)], false, .none, .plain,
    [fRO 0 17 0]⟩,
  ⟨"CQ_CI", 0x1100010, [(0x1000, 64)], false, .none, .cqCi,
    [fRW 0 17 0]⟩,
  ⟨"CQ_HEAD", 0x1100014, [(0x1000, 64)], false, .none, .plain,
    [fRO 0 17 0]⟩,
  ⟨"CQ_STAT", 0x1100018, [(0x1000, 64)], false, .none, .plain,
    [fRO 0 1 0, fW1C 1 1 0, fW1C 2 1 0, fRO 16 16 0]⟩,
  ⟨"CQ_FILL", 0x110001c, [(0x1000, 64)], false, .none, .plain,
    [fRO 0 17 0]⟩,
  ⟨"CQ_LOST", 0x1100020, [(0x1000, 64)], false, .none, .plain,
    [fRO 0 31 0, fW1C 31 1 0]⟩,
  ⟨"CQ_WM", 0x1100024, [(0x1000, 64)], false, .none, .plain,
    [fRW 0 17 0, fRW 17 1 0]⟩,
  ⟨"CQ_WM_STAT", 0x1100028, [(0x1000, 64)], false, .none, .cqWm,
    [fW1C 0 1 0, fRO 1 8 0, fRO 9 17 0]⟩,
  ⟨"CQ_REC_LO", 0x110002c, [(0x1000, 64)], false, .lo, .plain,
    [fRO 0 32 0]⟩,
  ⟨"CQ_REC_HI", 0x1100030, [(0x1000, 64)], false, .hi, .plain,
    [fRO 0 16 0, fW1C 31 1 0]⟩,
  ⟨"DMA_CFG", 0x1140000, [], false, .none, .plain,
    [fRW 0 1 0, fRW 1 1 0]⟩,
  ⟨"DMA_WMK_BASE_LO", 0x1140004, [], false, .lo, .plain,
    [fRW 13 19 0]⟩,
  ⟨"DMA_WMK_BASE_HI", 0x1140008, [], false, .hi, .plain,
    [fRW 0 32 0]⟩,
  ⟨"DMA_POOL_PI", 0x1141000, [(0x20, 64)], false, .none, .poolPi,
    [fRW 0 16 0, fRW 16 1 0]⟩,
  ⟨"DMA_POOL_CI", 0x1141004, [(0x20, 64)], false, .none, .plain,
    [fRO 0 16 0, fRO 16 1 0]⟩,
  ⟨"DMA_POOL_STAT", 0x1141008, [(0x20, 64)], false, .none, .plain,
    [fRO 0 17 0, fW1C 17 1 0, fW1C 18 1 0]⟩,
  ⟨"DMA_POOL_WM", 0x114100c, [(0x20, 64)], false, .none, .plain,
    [fRW 0 17 0, fRW 17 1 0]⟩,
  ⟨"DMA_POOL_WM_STAT", 0x1141010, [(0x20, 64)], false, .none, .poolWm,
    [fW1C 0 1 0, fRO 1 8 0, fRO 9 17 0x1ffff]⟩]

/-- The rows of the HEP block of R422. -/
def rowsHep : List RegRow := [
  ⟨"HEP_LINK_STAT", 0x1400000, [], false, .none, .linkStat,
    [fRO 0 1 0, fRO 1 3 0, fRO 4 3 0, fRO 7 1 0, fRO 8 3 0, fRO 11 2 3, fRO 13 1 0, fRO 14 1 0]⟩,
  ⟨"HEP_LINK_DOWN_MS", 0x1400004, [], false, .none, .linkDown,
    [fRO 0 32 0]⟩,
  ⟨"HEP_FN_STAT", 0x1400008, [], false, .none, .fnStat,
    [fRO 0 1 0, fRO 1 1 0, fRO 2 2 0, fRO 4 2 0, fRO 6 1 0, fRO 7 1 0, fRO 8 15 0]⟩,
  ⟨"HEP_LINK_CFG", 0x140000c, [], true, .none, .plain,
    [fRW 0 16 0]⟩,
  ⟨"HEP_ID_CFG", 0x1400010, [], true, .none, .plain,
    [fRW 0 16 0x1f3a, fRW 16 16 0x640]⟩,
  ⟨"HEP_CTO", 0x1400014, [], false, .none, .cto,
    [fRO 0 26 0x2710]⟩,
  ⟨"HEP_PM_CTRL", 0x1400018, [], false, .none, .pmCtrl,
    [fW1S 0 1 0, fRO 1 1 0]⟩,
  ⟨"HEP_ATT_MISS", 0x1400020, [], false, .none, .plain,
    [fRO 0 31 0, fW1C 31 1 0]⟩,
  ⟨"HEP_BAR_UR", 0x1400024, [], false, .none, .plain,
    [fRO 0 31 0, fW1C 31 1 0]⟩,
  ⟨"HEP_LATE_CPL", 0x1400028, [], false, .none, .plain,
    [fRO 0 31 0, fW1C 31 1 0]⟩,
  ⟨"HEP_UNEXP_CPL", 0x140002c, [], false, .none, .plain,
    [fRO 0 31 0, fW1C 31 1 0]⟩,
  ⟨"HEP_POISON_IN", 0x1400030, [], false, .none, .plain,
    [fRO 0 31 0, fW1C 31 1 0]⟩,
  ⟨"HEP_LINK_DOWN_CNT", 0x1400034, [], false, .none, .plain,
    [fRO 0 31 0, fW1C 31 1 0]⟩,
  ⟨"HEP_INT_ERR", 0x1400038, [], false, .none, .plain,
    [fRO 0 31 0, fW1C 31 1 0]⟩,
  ⟨"HEP_ATT_COMMIT", 0x1400100, [], false, .none, .attCommit,
    [fW1S 0 1 0]⟩,
  ⟨"HEP_ATT_STAT", 0x1400104, [], false, .none, .plain,
    [fRO 0 16 0, fRO 16 1 0, fW1C 17 1 0, fRO 18 6 0]⟩,
  ⟨"HEP_ATT_SH_CTL", 0x1401000, [(0x10, 64)], false, .none, .plain,
    [fRW 0 1 0, fRW 1 1 0, fRW 2 1 0, fRW 4 13 0]⟩,
  ⟨"HEP_ATT_SH_BASE", 0x1401004, [(0x10, 64)], false, .none, .plain,
    [fRW 12 20 0]⟩,
  ⟨"HEP_ATT_ACT_CTL", 0x1401008, [(0x10, 64)], false, .none, .plain,
    [fRO 0 1 0, fRO 1 1 0, fRO 2 1 0, fRO 4 13 0]⟩,
  ⟨"HEP_ATT_ACT_BASE", 0x140100c, [(0x10, 64)], false, .none, .plain,
    [fRO 12 20 0]⟩,
  ⟨"HEP_IRQ_MAP", 0x1440000, [(4, 1316)], false, .none, .irqMap,
    [fRW 0 11 0, fRW 16 1 1]⟩,
  ⟨"HEP_IRQ_PEND", 0x1444000, [(4, 42)], false, .none, .irqPend,
    [fW1C 0 32 0]⟩]

/-- The rows of the SEC block of R422. -/
def rowsSec : List RegRow := [
  ⟨"SEC_STAT", 0x1800000, [], false, .none, .secStat,
    [fRO 0 2 0, fRO 2 1 0, fRO 3 3 0, fRO 6 1 0, fRO 7 9 0, fW1C 16 1 0]⟩,
  ⟨"SEC_LC_CTRL", 0x1800004, [], false, .none, .lcCtrl,
    [fWO 0 2 0, fWO 16 16 0]⟩,
  ⟨"SEC_OP_STAT", 0x1800008, [], false, .none, .plain,
    [fRO 0 1 0, fRO 1 3 0, fRO 4 4 0, fW1C 8 1 0]⟩,
  ⟨"SEC_ROLL_CTRL", 0x180000c, [], false, .none, .rollCtrl,
    [fW1S 0 1 0]⟩,
  ⟨"SEC_UID_LO", 0x1800010, [], false, .lo, .secUid,
    [fRO 0 32 0]⟩,
  ⟨"SEC_UID_HI", 0x1800014, [], false, .hi, .secUid,
    [fRO 0 32 0]⟩,
  ⟨"SEC_VFY_BACKLOG", 0x1800018, [], false, .none, .plain,
    [fRO 0 31 0, fW1C 31 1 0]⟩,
  ⟨"SEC_KEY_HASH", 0x1800100, [(0x40, 4), (4, 12)], false, .none, .keyHash,
    [fRO 0 32 0]⟩,
  ⟨"SEC_KEY_CFG", 0x1800200, [(4, 4)], false, .none, .keyCfg,
    [fRO 0 1 0, fRO 1 1 0, fRO 7 1 0, fRO 8 1 0]⟩,
  ⟨"SEC_OTP_ADDR", 0x1800300, [], false, .none, .plain,
    [fRW 2 12 0]⟩,
  ⟨"SEC_OTP_DATA", 0x1800304, [], false, .none, .otpData,
    [fRW 0 32 0]⟩,
  ⟨"SEC_OTP_PROG", 0x1800308, [], false, .none, .otpProg,
    [fW1S 0 1 0]⟩,
  ⟨"SEC_CHAL", 0x1800400, [(4, 8)], false, .none, .plain,
    [fRO 0 32 0]⟩,
  ⟨"SEC_CHAL_CTRL", 0x1800420, [], false, .none, .chalCtrl,
    [fW1S 0 1 0, fRO 1 1 0]⟩,
  ⟨"SEC_TOK_BUF", 0x1800500, [(4, 68)], false, .none, .tokBuf,
    [fWO 0 32 0]⟩,
  ⟨"SEC_TOK_CTRL", 0x1800610, [], false, .none, .tokCtrl,
    [fW1S 0 1 0]⟩,
  ⟨"SEC_DBG_CTRL", 0x1800614, [], false, .none, .dbgCtrl,
    [fW1S 0 1 0]⟩,
  ⟨"SEC_SESS_CFG", 0x1800700, [], true, .none, .plain,
    [fRW 0 8 0x18, fRW 8 8 1, fRW 16 8 0x40]⟩,
  ⟨"SEC_NODE_STAT", 0x1801000, [(0x10, 512)], false, .none, .plain,
    [fRO 0 2 0, fRO 2 3 0, fRO 5 1 0, fRO 8 4 0, fRO 12 8 0]⟩,
  ⟨"SEC_NODE_SESS", 0x1801004, [(0x10, 512)], false, .none, .plain,
    [fRO 0 31 0, fW1C 31 1 0]⟩,
  ⟨"SEC_NODE_TFAIL", 0x1801008, [(0x10, 512)], false, .none, .plain,
    [fRO 0 31 0, fW1C 31 1 0]⟩,
  ⟨"SEC_TRUNK_STAT", 0x1803000, [(0x10, 4)], false, .none, .plain,
    [fRO 0 2 0, fRO 2 3 0, fRO 5 1 0, fRO 8 4 0, fRO 12 8 0]⟩,
  ⟨"SEC_TRUNK_SESS", 0x1803004, [(0x10, 4)], false, .none, .plain,
    [fRO 0 31 0, fW1C 31 1 0]⟩,
  ⟨"SEC_TRUNK_TFAIL", 0x1803008, [(0x10, 4)], false, .none, .plain,
    [fRO 0 31 0, fW1C 31 1 0]⟩,
  ⟨"SEC_STR_CFG", 0x1804000, [(0x10, 1024)], true, .none, .plain,
    [fRW 0 1 0, fRW 1 1 0]⟩] ++ [
  ⟨"SEC_STR_DROP", 0x1804004, [(0x10, 1024)], false, .none, .plain,
    [fRO 0 31 0, fW1C 31 1 0]⟩,
  ⟨"SEC_STR_UNAUTH", 0x1804008, [(0x10, 1024)], false, .none, .plain,
    [fRO 0 31 0, fW1C 31 1 0]⟩]

/-- The rows of the CFG block of R422. -/
def rowsCfg : List RegRow := [
  ⟨"CFG_STAT", 0x1c00000, [], false, .none, .plain,
    [fRO 0 1 0, fRO 1 1 0, fRO 2 1 0, fRO 3 1 0, fRO 4 2 0, fRO 8 8 0, fRO 16 3 0]⟩,
  ⟨"CFG_IMG_VER", 0x1c00004, [], false, .none, .plain,
    [fRO 0 32 0]⟩,
  ⟨"CFG_SEC_VER", 0x1c00008, [], false, .none, .plain,
    [fRO 0 32 0]⟩,
  ⟨"CFG_DIGEST", 0x1c00010, [(4, 12)], false, .none, .plain,
    [fRO 0 32 0]⟩,
  ⟨"CFG_VAL_STAT", 0x1c00040, [], false, .none, .plain,
    [fRO 0 4 0, fRO 4 1 0]⟩,
  ⟨"CFG_VAL_OFS", 0x1c00044, [], false, .none, .plain,
    [fRO 0 23 0]⟩,
  ⟨"CFG_SEL", 0x1c00048, [], false, .none, .cfgSel,
    [fRWS 0 1 0, fW1C 1 1 0]⟩,
  ⟨"CFG_FL_ADDR", 0x1c00080, [], false, .none, .plain,
    [fRW 0 26 0]⟩,
  ⟨"CFG_FL_CMD", 0x1c00084, [], false, .none, .flCmd,
    [fWO 0 3 0]⟩,
  ⟨"CFG_FL_STAT", 0x1c00088, [], false, .none, .plain,
    [fRO 0 1 0, fRO 1 3 0, fRO 4 2 0, fW1C 6 1 0, fRO 7 1 0, fRO 8 1 0, fRO 9 4 0]⟩,
  ⟨"CFG_FL_BUF", 0x1c00100, [(4, 64)], false, .none, .plain,
    [fRW 0 32 0]⟩]

/-- The rows of the MGT block of R422. -/
def rowsMgt : List RegRow := [
  ⟨"MGT_TGT_CFG", 0x1d00000, [], true, .none, .plain,
    [fRW 0 1 0]⟩,
  ⟨"MGT_TGT_STAT", 0x1d00004, [], false, .none, .mgtStat,
    [fRO 0 3 0, fRO 3 1 0, fRO 4 3 0]⟩,
  ⟨"MGT_FRAMES_LO", 0x1d00008, [], false, .lo, .plain,
    [fRO 0 32 0]⟩,
  ⟨"MGT_FRAMES_HI", 0x1d0000c, [], false, .hi, .plain,
    [fRO 0 16 0, fW1C 31 1 0]⟩,
  ⟨"MGT_NACK_CNT", 0x1d00010, [], false, .none, .plain,
    [fRO 0 31 0, fW1C 31 1 0]⟩,
  ⟨"MGT_PEC_ERR", 0x1d00014, [], false, .none, .plain,
    [fRO 0 31 0, fW1C 31 1 0]⟩,
  ⟨"MGT_ABORT_CNT", 0x1d00018, [], false, .none, .plain,
    [fRO 0 31 0, fW1C 31 1 0]⟩,
  ⟨"MGT_TO_CNT", 0x1d0001c, [], false, .none, .plain,
    [fRO 0 31 0, fW1C 31 1 0]⟩,
  ⟨"MGT_SHORT_RD", 0x1d00020, [], false, .none, .plain,
    [fRO 0 31 0, fW1C 31 1 0]⟩,
  ⟨"MGT_TUN_STRAY", 0x1d00024, [], false, .none, .plain,
    [fRO 0 31 0, fW1C 31 1 0]⟩,
  ⟨"MGT_TUN_STAT", 0x1d00028, [], false, .none, .tunStat,
    [fW1C 0 1 0, fRO 8 7 0]⟩,
  ⟨"LW_CFG", 0x1d01000, [(0x100, 16)], true, .none, .plain,
    [fRW 0 1 0, fRW 1 2 0, fRW 3 1 0, fRW 4 4 3, fRW 8 5 0x19]⟩,
  ⟨"LW_CMD", 0x1d01004, [(0x100, 16)], false, .none, .lwCmd,
    [fRW 0 7 0, fRW 8 2 0, fRW 10 6 0, fRW 16 6 0, fW1S 31 1 0]⟩,
  ⟨"LW_STAT", 0x1d01008, [(0x100, 16)], false, .none, .plain,
    [fRO 0 2 0, fRO 2 3 0, fRO 5 6 0, fRO 11 4 0, fW1C 15 1 0, fW1C 16 1 0]⟩,
  ⟨"LW_WBUF", 0x1d01020, [(0x100, 16), (4, 8)], false, .none, .plain,
    [fRW 0 32 0]⟩,
  ⟨"LW_RBUF", 0x1d01040, [(0x100, 16), (4, 8)], false, .none, .plain,
    [fRO 0 32 0]⟩,
  ⟨"LW_ARB_LOST", 0x1d01060, [(0x100, 16)], false, .none, .plain,
    [fRO 0 31 0, fW1C 31 1 0]⟩,
  ⟨"LW_TIMEOUT", 0x1d01064, [(0x100, 16)], false, .none, .plain,
    [fRO 0 31 0, fW1C 31 1 0]⟩,
  ⟨"TUN_CMD", 0x1d02000, [(0x40, 64)], false, .none, .tunCmd,
    [fRW 0 9 0, fRW 9 2 0, fRW 11 7 0, fRW 18 5 0, fRW 23 5 0, fRW 28 2 0, fW1S 31 1 0]⟩,
  ⟨"TUN_STAT", 0x1d02004, [(0x40, 64)], false, .none, .plain,
    [fRO 0 2 0, fRO 2 4 0, fRO 6 5 0, fRO 11 8 0]⟩,
  ⟨"TUN_WDATA", 0x1d02010, [(0x40, 64), (4, 4)], false, .none, .plain,
    [fRW 0 32 0]⟩,
  ⟨"TUN_RDATA", 0x1d02020, [(0x40, 64), (4, 4)], false, .none, .plain,
    [fRO 0 32 0]⟩]

/-- The rows of the PWR block of R422. -/
def rowsPwr : List RegRow := [
  ⟨"PWR_RAIL_STAT", 0x1e00000, [], false, .none, .plain,
    [fRO 0 6 0, fW1C 8 6 0]⟩,
  ⟨"PWR_RAIL_FAULT", 0x1e00004, [], false, .none, .plain,
    [fRO 0 3 0, fRO 3 2 0]⟩,
  ⟨"PWR_RAIL_MV", 0x1e00010, [(4, 6)], false, .none, .plain,
    [fRO 0 12 0]⟩,
  ⟨"PWR_GLB", 0x1e00040, [], false, .none, .plain,
    [fRO 0 10 0, fW1C 10 1 0, fRO 11 1 0, fRO 12 7 0, fRO 19 13 0]⟩,
  ⟨"PWR_PC_CFG", 0x1e01000, [(0x20, 64)], true, .none, .plain,
    [fRW 0 7 0xa, fRW 7 4 2, fRW 11 4 3, fRW 15 6 5, fRW 21 4 0xa, fRW 25 1 0, fRW 26 4 3, fRW 30 2 0]⟩,
  ⟨"PWR_PC_CTRL", 0x1e01004, [(0x20, 64)], false, .none, .pcCtrl,
    [fRW 0 1 0, fW1S 1 1 0]⟩,
  ⟨"PWR_PC_STAT", 0x1e01008, [(0x20, 64)], false, .none, .plain,
    [fRO 0 3 0, fRO 3 3 0, fRO 6 1 0, fRO 7 4 0]⟩,
  ⟨"PWR_PC_MEAS", 0x1e0100c, [(0x20, 64)], false, .none, .plain,
    [fRO 0 10 0, fRO 16 10 0]⟩,
  ⟨"PWR_PC_FAULT_CNT", 0x1e01010, [(0x20, 64)], false, .none, .plain,
    [fRO 0 31 0, fW1C 31 1 0]⟩]

/-- The rows of the REC block of R422. -/
def rowsRec : List RegRow := [
  ⟨"REC_STAT", 0x1f00000, [], false, .none, .recStat,
    [fRO 0 16 0, fRO 16 1 0, fRO 17 1 0, fRO 18 1 0, fRO 19 1 0, fRO 20 10 0]⟩,
  ⟨"REC_CURSOR", 0x1f00004, [], false, .none, .recCursor,
    [fRW 0 15 0, fRW 16 1 0, fRO 17 1 0]⟩,
  ⟨"REC_SEQ_NEXT", 0x1f00008, [], false, .none, .recSeq,
    [fRO 0 32 0]⟩,
  ⟨"REC_DROPPED", 0x1f0000c, [], false, .none, .recDropped,
    [fRO 0 32 0]⟩,
  ⟨"REC_WINDOW", 0x1f00010, [(4, 8)], false, .none, .recWindow,
    [fRO 0 32 0xffffffff]⟩,
  ⟨"REC_CFG", 0x1f00030, [], true, .none, .plain,
    [fRW 0 8 0x40]⟩,
  ⟨"REC_CTRL", 0x1f00034, [], false, .none, .recCtrl,
    [fW1S 0 1 0, fWO 16 16 0]⟩,
  ⟨"LED_STAT", 0x1f10000, [], false, .none, .ledStat,
    [fRO 0 1 0, fRO 1 1 0, fRO 2 6 0]⟩,
  ⟨"LED_GEN", 0x1f10004, [], false, .none, .ledGen,
    [fRO 0 32 0]⟩,
  ⟨"LED_OPSEC", 0x1f10008, [], false, .none, .ledOpsec,
    [fRO 0 32 0]⟩,
  ⟨"LED_PWRCYC", 0x1f1000c, [], false, .none, .ledPwrcyc,
    [fRO 0 24 0]⟩,
  ⟨"LED_LOG_CLEARS", 0x1f10010, [], false, .none, .ledClears,
    [fRO 0 32 0]⟩,
  ⟨"LED_RETRAIN", 0x1f10100, [(4, 68)], false, .none, .ledRetrain,
    [fRO 0 32 0]⟩,
  ⟨"LED_POC", 0x1f10300, [(4, 64)], false, .none, .ledPoc,
    [fRO 0 32 0]⟩,
  ⟨"LED_ERASE", 0x1f10400, [(4, 256)], false, .none, .ledErase,
    [fRO 0 32 0]⟩,
  ⟨"LED_TEMP", 0x1f10800, [(4, 16)], false, .none, .ledTemp,
    [fRO 0 32 0]⟩,
  ⟨"LED_AGE", 0x1f10840, [(4, 8)], false, .none, .ledAge,
    [fRO 0 16 0, fRO 16 16 0]⟩,
  ⟨"LED_AGE_CFG", 0x1f10860, [], true, .none, .plain,
    [fRW 0 10 0x32]⟩,
  ⟨"LED_CAL_DUE_LO", 0x1f10900, [(0x10, 32)], false, .lo, .plain,
    [fRW 0 32 0]⟩,
  ⟨"LED_CAL_DUE_HI", 0x1f10904, [(0x10, 32)], false, .hi, .plain,
    [fRW 0 16 0]⟩,
  ⟨"LED_CAL_CFG", 0x1f10908, [(0x10, 32)], false, .none, .calCfg,
    [fRW 0 1 0, fRW 1 1 0, fRO 2 1 0, fW1S 3 1 0, fRW 16 16 0]⟩]

/-- The block spans of R422 that hold registers: first address, length, rows. -/
def blocks : List (Nat × Nat × List RegRow) := [
  (0, 0x100000, rowsGlb),
  (0x100000, 0x100000, rowsTime),
  (0x200000, 0x100000, rowsTrl),
  (0x300000, 0x100000, rowsTrk),
  (0x400000, 0x100000, rowsNode),
  (0x500000, 0x100000, rowsIng),
  (0x600000, 0x200000, rowsLst),
  (0x800000, 0x400000, rowsSlc),
  (0xc00000, 0x100000, rowsPlc),
  (0xd00000, 0x100000, rowsGrz),
  (0x1000000, 0x100000, rowsDma),
  (0x1100000, 0x300000, rowsCq),
  (0x1400000, 0x400000, rowsHep),
  (0x1800000, 0x400000, rowsSec),
  (0x1c00000, 0x100000, rowsCfg),
  (0x1d00000, 0x100000, rowsMgt),
  (0x1e00000, 0x100000, rowsPwr),
  (0x1f00000, 0x100000, rowsRec)]

/-- The indices of `off` in an array of registers with these strides and counts; `none` where `off` is on
no register, an index at or above its count included (R423). -/
def indicesAt : List (Nat × Nat) → Nat → Option (List Nat)
  | [], off => if off = 0 then some [] else none
  | (stride, count) :: rest, off =>
    if off / stride < count then (indicesAt rest (off % stride)).map (off / stride :: ·) else none

/-- The indices `addr` names in row `r`, if it names any. -/
def RegRow.hit (r : RegRow) (addr : Nat) : Option (List Nat) :=
  if r.base ≤ addr then indicesAt r.dims (addr - r.base) else none

/-- The first row of a list that `addr` names, with its indices. -/
def rowIn : List RegRow → Nat → Option (RegRow × List Nat)
  | [], _ => none
  | r :: rs, addr => match r.hit addr with
    | some ix => some (r, ix)
    | none => rowIn rs addr

/-- The register at `addr`, with its indices; `none` for a reserved address (R8, R422). -/
def rowAt (addr : Nat) : Option (RegRow × List Nat) :=
  match blocks.find? (fun b => b.1 ≤ addr ∧ addr < b.1 + b.2.1) with
  | some (_, _, rs) => rowIn rs addr
  | none => none

/-- The whole 32-bit reset value of a row (R424). -/
def RegRow.resetWord (r : RegRow) : Nat := r.fields.foldl (fun a f => a + f.rst * 2 ^ f.lo) 0

/-- What a register holds after power-up of the core (R424); HEP_IRQ_MAP[src] resets to its own number. -/
def regReset (addr : Nat) : Word :=
  match rowAt addr with
  | some (r, ix) =>
    BitVec.ofNat 32 (r.resetWord + (if r.base = 0x1440000 then ix.headD 0 else 0))
  | none => 0#32

end Sys2Proof.Machine
end

