-- ==== Sys2Proof/Machine/Operands.lean ====
section
/-! DEFINITION. The operand forms of the register interface: the address of each register that a meaning names
(`A.…`, the offsets of chapter 18) and the place of each field (`F.…`, the field tables of the owning chapter; an index is taken together with the wrap phase above it).
Trunk lane l of port t is port 64 + 4t + l (R384), and a trunk port's session registers are node 512 + t
(chapter 13). -/

namespace Sys2Proof.Machine

/-- A field of a register: the register's address, the field's lowest bit and its width. -/
structure Fld where
  addr : Nat
  lo : Nat
  w : Nat
  deriving DecidableEq, Repr

/-- The base of a TRL receiver's registers: camera port p < 64, or trunk lane p − 64 (R422, R426). -/
def trlBase (p : Nat) : Nat :=
  if p < 64 then 0x200000 + p * 0x4000 else 0x300000 + (p - 64) / 4 * 0x4000 + (p - 64) % 4 * 0x800

/-- The base of a node's session registers: node na < 512, or trunk port na − 512 (chapter 13). -/
def secNodeBase (n : Nat) : Nat := if n < 512 then 0x1801000 + n * 0x10 else 0x1803000 + (n - 512) * 0x10


def A.GLB_STAT : Nat := 0x4
def A.GLB_BE_REJ : Nat := 0x8
def A.GLB_MODE_REQ : Nat := 0x100
def A.GLB_MODE_STAT : Nat := 0x104
def A.GLB_TICK_CFG : Nat := 0x110
def A.GLB_TICK_EPOCH_LO : Nat := 0x118
def A.GLB_HERD_CFG : Nat := 0x120
def A.GLB_HERD_STAT : Nat := 0x130
def A.GLB_HERD_DL_CNT_LO : Nat := 0x138
def A.GLB_HEARTBEAT : Nat := 0x140
def A.GLB_LIMP_CFG : Nat := 0x144
def A.GLB_PARK_CFG : Nat := 0x150
def A.GLB_WAKE_CFG : Nat := 0x154
def A.GLB_AON_ALARM_LO : Nat := 0x168
def A.GLB_AON_ALARM_HI : Nat := 0x16c
def A.GLB_AON_ALARM_CTRL : Nat := 0x170
def A.GLB_START_CFG : Nat := 0x200
def A.GLB_START_CTRL : Nat := 0x204
def A.GLB_START_STAT : Nat := 0x208
def A.GLB_START_FAIL : Nat := 0x20c
def A.GLB_START_MS : Nat := 0x210
def A.GLB_FW_STAT : Nat := 0x214
def A.GLB_QUORUM_CFG : Nat := 0x218
def A.TIME_STAT : Nat := 0x100000
def A.TIME_NOW_W0 : Nat := 0x100010
def A.TIME_NOW_W1 : Nat := 0x100014
def A.TIME_NOW_W2 : Nat := 0x100018
def A.TIME_NOW_W3 : Nat := 0x10001c
def A.TIME_INC_LO : Nat := 0x100030
def A.TIME_INC_HI : Nat := 0x100034
def A.TIME_ADJ_HI : Nat := 0x10003c
def A.TIME_XCHG_CFG : Nat := 0x100060
def A.TIME_PTM_CTRL : Nat := 0x100080
def A.TIME_PTM_STAT : Nat := 0x100084
def A.TIME_PTM_T1_LO : Nat := 0x100088
def A.TIME_PTM_T1_HI : Nat := 0x10008c
def A.TIME_PTM_MASTER_LO : Nat := 0x100090
def A.TIME_PTM_MASTER_HI : Nat := 0x100094
def A.TIME_PTM_DELAY : Nat := 0x100098
def A.TIME_PPS_CFG : Nat := 0x1000a0
def A.TIME_PPS_CAP_LO : Nat := 0x1000a8
def A.TIME_REF10M_CNT : Nat := 0x1000b0
def A.TIME_CMP_RSV_LO : Nat := 0x1000c0
def A.TIME_CMP_CTRL (n : Nat) : Nat := 0x101000 + n * 0x20
def A.TIME_CMP_STAT (n : Nat) : Nat := 0x101004 + n * 0x20
def A.TIME_CMP_TGT_LO (n : Nat) : Nat := 0x101008 + n * 0x20
def A.TIME_CMP_TGT_HI (n : Nat) : Nat := 0x10100c + n * 0x20
def A.TIME_CMP_PERIOD_LO (n : Nat) : Nat := 0x101010 + n * 0x20
def A.TIME_CMP_WIDTH (n : Nat) : Nat := 0x101018 + n * 0x20
def A.TIME_CMP_OFS (n : Nat) : Nat := 0x10101c + n * 0x20
def A.TIME_CAPT_CFG (n : Nat) : Nat := 0x102000 + n * 0x10
def A.TIME_CAPT_FIFO_LO (n : Nat) : Nat := 0x102004 + n * 0x10
def A.TIME_CAPT_FIFO_HI (n : Nat) : Nat := 0x102008 + n * 0x10
def A.TIME_CAPT_LOST (n : Nat) : Nat := 0x10200c + n * 0x10
def A.TIME_NODE_OFS (n : Nat) : Nat := 0x104000 + n * 0x8
def A.TIME_NODE_DLY (n : Nat) : Nat := 0x104004 + n * 0x8
def A.TIME_ASYM (n : Nat) : Nat := 0x105000 + n * 0x4
def A.TRL_CFG (p : Nat) : Nat := trlBase p + 0x0
def A.TRL_STAT (p : Nat) : Nat := trlBase p + 0x4
def A.TRL_BLK_CNT_LO (p : Nat) : Nat := trlBase p + 0x10
def A.TRL_STUFF_CNT_LO (p : Nat) : Nat := trlBase p + 0x18
def A.TRL_HDR_ERR (p : Nat) : Nat := trlBase p + 0x20
def A.TRL_STUFF_VIOL (p : Nat) : Nat := trlBase p + 0x24
def A.TRL_SYNC_MISS (p : Nat) : Nat := trlBase p + 0x28
def A.TRL_SYNC_SEQ (p : Nat) : Nat := trlBase p + 0x2c
def A.TRL_LOCK_LOSS (p : Nat) : Nat := trlBase p + 0x30
def A.TRL_TEST_ERR (p : Nat) : Nat := trlBase p + 0x34
def A.TRL_CRC_ERR (p : Nat) : Nat := trlBase p + 0x40
def A.TRL_HCRC_ERR (p : Nat) : Nat := trlBase p + 0x44
def A.TRL_CTL_CRC_ERR (p : Nat) : Nat := trlBase p + 0x48
def A.TRL_PRONK_FAIL (p : Nat) : Nat := trlBase p + 0x4c
def A.TRL_RETRAIN (p : Nat) : Nat := trlBase p + 0x50
def A.TRL_EQ_LO (p n : Nat) : Nat := trlBase p + 0x100 + n * 0x8
def A.TRL_TEST (p : Nat) : Nat := trlBase p + 0x200
def A.TRL_TEST_STAT (p : Nat) : Nat := trlBase p + 0x204
def A.TRL_EYE_CTRL (p : Nat) : Nat := trlBase p + 0x300
def A.TRL_EYE_STAT (p : Nat) : Nat := trlBase p + 0x304
def A.TRL_EYE_ROW (p n : Nat) : Nat := trlBase p + 0x400 + n * 0x4
def A.TRL_BRUP_CFG (p : Nat) : Nat := trlBase p + 0x600
def A.TRL_BRUP_STAT (p : Nat) : Nat := trlBase p + 0x604
def A.TRL_BRUP_CTRL (p : Nat) : Nat := trlBase p + 0x608
def A.TRL_HOP_STEP (p : Nat) : Nat := trlBase p + 0x60c
def A.TRK_BOND_CFG (n : Nat) : Nat := 0x302000 + n * 0x4000
def A.TRK_BOND_STAT (n : Nat) : Nat := 0x302004 + n * 0x4000
def A.TRK_DESKEW_ERR (n : Nat) : Nat := 0x302008 + n * 0x4000
def A.NODE_ENT (n : Nat) : Nat := 0x400000 + n * 0x40
def A.NODE_UID_LO (n : Nat) : Nat := 0x400004 + n * 0x40
def A.NODE_UID_HI (n : Nat) : Nat := 0x400008 + n * 0x40
def A.NODE_CAPS0 (n : Nat) : Nat := 0x40000c + n * 0x40
def A.NODE_CAPS1 (n : Nat) : Nat := 0x400010 + n * 0x40
def A.NODE_CAPS2 (n : Nat) : Nat := 0x400014 + n * 0x40
def A.NODE_CRC_ERR (n : Nat) : Nat := 0x400018 + n * 0x40
def A.NODE_SEQ_ERR (n : Nat) : Nat := 0x40001c + n * 0x40
def A.NODE_OVFL (n : Nat) : Nat := 0x400020 + n * 0x40
def A.NODE_LOSS (n : Nat) : Nat := 0x400024 + n * 0x40
def A.ING_ENT0 (n : Nat) : Nat := 0x500000 + n * 0x80
def A.ING_ENT1 (n : Nat) : Nat := 0x500004 + n * 0x80
def A.ING_ENT2 (n : Nat) : Nat := 0x500008 + n * 0x80
def A.ING_ENT3 (n : Nat) : Nat := 0x50000c + n * 0x80
def A.ING_SOF_TS_LO (n : Nat) : Nat := 0x500010 + n * 0x80
def A.ING_LAST_FRAME (n : Nat) : Nat := 0x500018 + n * 0x80
def A.ING_LAST_HERD_LO (n : Nat) : Nat := 0x50001c + n * 0x80
def A.ING_GSP (n : Nat) : Nat := 0x500024 + n * 0x80
def A.ING_OVERRUN (n : Nat) : Nat := 0x500028 + n * 0x80
def A.ING_LATE_DROP (n : Nat) : Nat := 0x50002c + n * 0x80
def A.ING_LINE_DROP (n : Nat) : Nat := 0x500030 + n * 0x80
def A.ING_FMT_ERR (n : Nat) : Nat := 0x500034 + n * 0x80
def A.ING_LINES_LO (n : Nat) : Nat := 0x500038 + n * 0x80
def A.ING_NOENT : Nat := 0x580000
def A.LST_STAT : Nat := 0x600000
def A.LST_SCRUB_CFG : Nat := 0x600004
def A.LST_CE_CNT : Nat := 0x600008
def A.LST_UE_CNT : Nat := 0x60000c
def A.LST_REPAIR_STAT : Nat := 0x600010
def A.LST_REPAIR_CNT : Nat := 0x600014
def A.LST_BANK_SPARE (n : Nat) : Nat := 0x600100 + n * 0x4
def A.LST_Q_STAT (n : Nat) : Nat := 0x610000 + n * 0x40
def A.LST_Q_CTRL (n : Nat) : Nat := 0x610004 + n * 0x40
def A.LST_Q_WM (n : Nat) : Nat := 0x610018 + n * 0x40
def A.LST_Q_WM_STAT (n : Nat) : Nat := 0x61001c + n * 0x40
def A.LST_LOST (n : Nat) : Nat := 0x610020 + n * 0x40
def A.LST_FLUSHED (n : Nat) : Nat := 0x610024 + n * 0x40
def A.LST_Q_RESETS (n : Nat) : Nat := 0x610028 + n * 0x40
def A.SLC_STAT (n : Nat) : Nat := 0x800000 + n * 0x10000
def A.SLC_LINES_LO (n : Nat) : Nat := 0x800008 + n * 0x10000
def A.SLC_CYC_LO (n : Nat) : Nat := 0x800010 + n * 0x10000
def A.SLC_SVC_CTRL (n : Nat) : Nat := 0x800020 + n * 0x10000
def A.SLC_SVC_STAT (n : Nat) : Nat := 0x800024 + n * 0x10000
def A.SLC_STR_CFG0 (n : Nat) : Nat := 0xb00000 + n * 0x80
def A.SLC_STR_CFG1 (n : Nat) : Nat := 0xb00004 + n * 0x80
def A.SLC_STR_TSET (n : Nat) : Nat := 0xb00008 + n * 0x80
def A.SLC_STR_DEF0 (n : Nat) : Nat := 0xb0000c + n * 0x80
def A.SLC_STR_DEF1 (n : Nat) : Nat := 0xb00010 + n * 0x80
def A.SLC_STR_DYN (n : Nat) : Nat := 0xb00014 + n * 0x80
def A.SLC_STR_HRATIO (n : Nat) : Nat := 0xb00018 + n * 0x80
def A.SLC_STR_VRATIO (n : Nat) : Nat := 0xb0001c + n * 0x80
def A.SLC_STR_BLACK (n i : Nat) : Nat := 0xb00020 + n * 0x80 + i * 0x4
def A.SLC_STR_LIVE (n : Nat) : Nat := 0xb00030 + n * 0x80
def A.SLC_STR_GAIN01 (n : Nat) : Nat := 0xb00034 + n * 0x80
def A.SLC_STR_GAIN23 (n : Nat) : Nat := 0xb00038 + n * 0x80
def A.SLC_STR_MEM (n : Nat) : Nat := 0xb0003c + n * 0x80
def A.SLC_STR_FILL_CNT (n : Nat) : Nat := 0xb00040 + n * 0x80
def A.SLC_STR_DOVF_CNT (n : Nat) : Nat := 0xb00044 + n * 0x80
def A.SLC_STR_POISON_CNT (n : Nat) : Nat := 0xb00048 + n * 0x80
def A.SLC_STR_DYN_CNT_LO (n : Nat) : Nat := 0xb00050 + n * 0x80
def A.ROI_CFG (n : Nat) : Nat := 0xb40000 + n * 0x20
def A.ROI_SIZE (n : Nat) : Nat := 0xb40004 + n * 0x20
def A.ROI_POS (n : Nat) : Nat := 0xb40008 + n * 0x20
def A.ROI_CUR (n : Nat) : Nat := 0xb4000c + n * 0x20
def A.ROI_STAT (n : Nat) : Nat := 0xb40010 + n * 0x20
def A.SLC_TBL_WREJ : Nat := 0xbf0004
def A.PLC_CFG : Nat := 0xc00000
def A.PLC_CTRL : Nat := 0xc00004
def A.PLC_STAT : Nat := 0xc00008
def A.PLC_GEN : Nat := 0xc0000c
def A.PLC_GEN_HERD_LO : Nat := 0xc00010
def A.PLC_LOAD0 : Nat := 0xc00018
def A.PLC_LOAD1 : Nat := 0xc0001c
def A.PLC_LOG_BASE_LO : Nat := 0xc00020
def A.PLC_LOG_CFG : Nat := 0xc00028
def A.PLC_LOG_IDX : Nat := 0xc0002c
def A.PLC_AUDIT_STAT : Nat := 0xc00030
def A.PLC_AUDIT_CNT_LO : Nat := 0xc00034
def A.PLC_AUDIT_MISM : Nat := 0xc0003c
def A.PLC_REFUSE_CNT : Nat := 0xc00040
def A.PLC_LOG_LOST : Nat := 0xc00044
def A.PLC_POOL_CFG (n : Nat) : Nat := 0xc01000 + n * 0x10
def A.PLC_POOL_BASE_LO (n : Nat) : Nat := 0xc01004 + n * 0x10
def A.PLC_POOL_STAT (n : Nat) : Nat := 0xc0100c + n * 0x10
def A.PLC_OSID_CFG (n : Nat) : Nat := 0xc10000 + n * 0x10
def A.PLC_OSID_CTRL (n : Nat) : Nat := 0xc10004 + n * 0x10
def A.PLC_OSID_STAT (n : Nat) : Nat := 0xc10008 + n * 0x10
def A.PLC_OSID_OFS (n : Nat) : Nat := 0xc1000c + n * 0x10
def A.PLC_ISID_MAP_LO (n : Nat) : Nat := 0xc20000 + n * 0x10
def A.PLC_ISID_MAP_HI (n : Nat) : Nat := 0xc20004 + n * 0x10
def A.GRZ_CFG : Nat := 0xd00000
def A.GRZ_BUDGET_CYC : Nat := 0xd00004
def A.GRZ_BUDGET_LST : Nat := 0xd00008
def A.GRZ_BUDGET_HOST : Nat := 0xd0000c
def A.GRZ_CTRL : Nat := 0xd00010
def A.GRZ_PI : Nat := 0xd00014
def A.GRZ_CI : Nat := 0xd00018
def A.GRZ_STAT : Nat := 0xd0001c
def A.GRZ_SUBMIT : Nat := 0xd00040
def A.GRZ_DONE_CNT_LO : Nat := 0xd00048
def A.GRZ_GONE_CNT : Nat := 0xd00050
def A.GRZ_REJ_CNT : Nat := 0xd00054
def A.GRZ_REQ_W (n : Nat) : Nat := 0xd00020 + n * 0x4
def A.GRZ_Q (n i : Nat) : Nat := 0xd10000 + n * 0x20 + i * 0x4
def A.DMA_CH_CFG (n : Nat) : Nat := 0x1000000 + n * 0x1000
def A.DMA_CH_CTRL (n : Nat) : Nat := 0x1000004 + n * 0x1000
def A.DMA_CH_STAT (n : Nat) : Nat := 0x1000008 + n * 0x1000
def A.DMA_CH_BASE_LO (n : Nat) : Nat := 0x100000c + n * 0x1000
def A.DMA_CH_PI (n : Nat) : Nat := 0x1000014 + n * 0x1000
def A.DMA_CH_CI (n : Nat) : Nat := 0x1000018 + n * 0x1000
def A.DMA_CH_RATE (n : Nat) : Nat := 0x100001c + n * 0x1000
def A.DMA_CH_CUR_LO (n : Nat) : Nat := 0x1000020 + n * 0x1000
def A.DMA_CH_DONE (n : Nat) : Nat := 0x1000028 + n * 0x1000
def A.DMA_CH_BYTES_LO (n : Nat) : Nat := 0x1000030 + n * 0x1000
def A.DMA_CH_LINES_LO (n : Nat) : Nat := 0x1000038 + n * 0x1000
def A.DMA_CH_BAD (n : Nat) : Nat := 0x1000040 + n * 0x1000
def A.DMA_CH_NOBUF (n : Nat) : Nat := 0x1000044 + n * 0x1000
def A.DMA_CH_LATE_DROP (n : Nat) : Nat := 0x1000048 + n * 0x1000
def A.DMA_CH_DISC (n : Nat) : Nat := 0x100004c + n * 0x1000
def A.CQ_CFG (n : Nat) : Nat := 0x1100000 + n * 0x1000
def A.CQ_BASE_LO (n : Nat) : Nat := 0x1100004 + n * 0x1000
def A.CQ_PI (n : Nat) : Nat := 0x110000c + n * 0x1000
def A.CQ_CI (n : Nat) : Nat := 0x1100010 + n * 0x1000
def A.CQ_HEAD (n : Nat) : Nat := 0x1100014 + n * 0x1000
def A.CQ_STAT (n : Nat) : Nat := 0x1100018 + n * 0x1000
def A.CQ_FILL (n : Nat) : Nat := 0x110001c + n * 0x1000
def A.CQ_LOST (n : Nat) : Nat := 0x1100020 + n * 0x1000
def A.CQ_WM (n : Nat) : Nat := 0x1100024 + n * 0x1000
def A.CQ_WM_STAT (n : Nat) : Nat := 0x1100028 + n * 0x1000
def A.CQ_REC_LO (n : Nat) : Nat := 0x110002c + n * 0x1000
def A.DMA_CFG : Nat := 0x1140000
def A.DMA_WMK_BASE_LO : Nat := 0x1140004
def A.DMA_WMK_BASE_HI : Nat := 0x1140008
def A.DMA_POOL_PI (n : Nat) : Nat := 0x1141000 + n * 0x20
def A.DMA_POOL_CI (n : Nat) : Nat := 0x1141004 + n * 0x20
def A.DMA_POOL_STAT (n : Nat) : Nat := 0x1141008 + n * 0x20
def A.DMA_POOL_WM (n : Nat) : Nat := 0x114100c + n * 0x20
def A.DMA_POOL_WM_STAT (n : Nat) : Nat := 0x1141010 + n * 0x20
def A.HEP_LINK_STAT : Nat := 0x1400000
def A.HEP_FN_STAT : Nat := 0x1400008
def A.HEP_LINK_CFG : Nat := 0x140000c
def A.HEP_ID_CFG : Nat := 0x1400010
def A.HEP_PM_CTRL : Nat := 0x1400018
def A.HEP_ATT_MISS : Nat := 0x1400020
def A.HEP_BAR_UR : Nat := 0x1400024
def A.HEP_LATE_CPL : Nat := 0x1400028
def A.HEP_UNEXP_CPL : Nat := 0x140002c
def A.HEP_POISON_IN : Nat := 0x1400030
def A.HEP_LINK_DOWN_CNT : Nat := 0x1400034
def A.HEP_INT_ERR : Nat := 0x1400038
def A.HEP_ATT_COMMIT : Nat := 0x1400100
def A.HEP_ATT_STAT : Nat := 0x1400104
def A.HEP_ATT_SH_CTL (n : Nat) : Nat := 0x1401000 + n * 0x10
def A.HEP_ATT_SH_BASE (n : Nat) : Nat := 0x1401004 + n * 0x10
def A.HEP_ATT_ACT_CTL (n : Nat) : Nat := 0x1401008 + n * 0x10
def A.HEP_ATT_ACT_BASE (n : Nat) : Nat := 0x140100c + n * 0x10
def A.HEP_IRQ_MAP (n : Nat) : Nat := 0x1440000 + n * 0x4
def A.HEP_IRQ_PEND (n : Nat) : Nat := 0x1444000 + n * 0x4
def A.SEC_STAT : Nat := 0x1800000
def A.SEC_LC_CTRL : Nat := 0x1800004
def A.SEC_OP_STAT : Nat := 0x1800008
def A.SEC_ROLL_CTRL : Nat := 0x180000c
def A.SEC_UID_LO : Nat := 0x1800010
def A.SEC_VFY_BACKLOG : Nat := 0x1800018
def A.SEC_OTP_ADDR : Nat := 0x1800300
def A.SEC_OTP_DATA : Nat := 0x1800304
def A.SEC_OTP_PROG : Nat := 0x1800308
def A.SEC_CHAL (n : Nat) : Nat := 0x1800400 + n * 0x4
def A.SEC_CHAL_CTRL : Nat := 0x1800420
def A.SEC_TOK_BUF (n : Nat) : Nat := 0x1800500 + n * 0x4
def A.SEC_TOK_CTRL : Nat := 0x1800610
def A.SEC_DBG_CTRL : Nat := 0x1800614
def A.SEC_SESS_CFG : Nat := 0x1800700
def A.SEC_NODE_STAT (n : Nat) : Nat := secNodeBase n + 0x0
def A.SEC_NODE_SESS (n : Nat) : Nat := secNodeBase n + 0x4
def A.SEC_NODE_TFAIL (n : Nat) : Nat := secNodeBase n + 0x8
def A.SEC_STR_CFG (n : Nat) : Nat := 0x1804000 + n * 0x10
def A.SEC_STR_DROP (n : Nat) : Nat := 0x1804004 + n * 0x10
def A.SEC_STR_UNAUTH (n : Nat) : Nat := 0x1804008 + n * 0x10
def A.CFG_STAT : Nat := 0x1c00000
def A.CFG_IMG_VER : Nat := 0x1c00004
def A.CFG_SEC_VER : Nat := 0x1c00008
def A.CFG_DIGEST (n : Nat) : Nat := 0x1c00010 + n * 0x4
def A.CFG_VAL_STAT : Nat := 0x1c00040
def A.CFG_VAL_OFS : Nat := 0x1c00044
def A.CFG_SEL : Nat := 0x1c00048
def A.CFG_FL_ADDR : Nat := 0x1c00080
def A.CFG_FL_CMD : Nat := 0x1c00084
def A.CFG_FL_STAT : Nat := 0x1c00088
def A.CFG_FL_BUF (n : Nat) : Nat := 0x1c00100 + n * 0x4
def A.MGT_TGT_CFG : Nat := 0x1d00000
def A.MGT_TGT_STAT : Nat := 0x1d00004
def A.MGT_FRAMES_LO : Nat := 0x1d00008
def A.MGT_NACK_CNT : Nat := 0x1d00010
def A.MGT_PEC_ERR : Nat := 0x1d00014
def A.MGT_ABORT_CNT : Nat := 0x1d00018
def A.MGT_TO_CNT : Nat := 0x1d0001c
def A.MGT_SHORT_RD : Nat := 0x1d00020
def A.MGT_TUN_STRAY : Nat := 0x1d00024
def A.MGT_TUN_STAT : Nat := 0x1d00028
def A.LW_CFG (n : Nat) : Nat := 0x1d01000 + n * 0x100
def A.LW_CMD (n : Nat) : Nat := 0x1d01004 + n * 0x100
def A.LW_STAT (n : Nat) : Nat := 0x1d01008 + n * 0x100
def A.LW_WBUF (n i : Nat) : Nat := 0x1d01020 + n * 0x100 + i * 0x4
def A.LW_RBUF (n i : Nat) : Nat := 0x1d01040 + n * 0x100 + i * 0x4
def A.LW_ARB_LOST (n : Nat) : Nat := 0x1d01060 + n * 0x100
def A.LW_TIMEOUT (n : Nat) : Nat := 0x1d01064 + n * 0x100
def A.TUN_CMD (n : Nat) : Nat := 0x1d02000 + n * 0x40
def A.TUN_STAT (n : Nat) : Nat := 0x1d02004 + n * 0x40
def A.TUN_WDATA (n i : Nat) : Nat := 0x1d02010 + n * 0x40 + i * 0x4
def A.TUN_RDATA (n i : Nat) : Nat := 0x1d02020 + n * 0x40 + i * 0x4
def A.PWR_RAIL_STAT : Nat := 0x1e00000
def A.PWR_RAIL_FAULT : Nat := 0x1e00004
def A.PWR_RAIL_MV (n : Nat) : Nat := 0x1e00010 + n * 0x4
def A.PWR_GLB : Nat := 0x1e00040
def A.PWR_PC_CFG (n : Nat) : Nat := 0x1e01000 + n * 0x20
def A.PWR_PC_CTRL (n : Nat) : Nat := 0x1e01004 + n * 0x20
def A.PWR_PC_STAT (n : Nat) : Nat := 0x1e01008 + n * 0x20
def A.PWR_PC_MEAS (n : Nat) : Nat := 0x1e0100c + n * 0x20
def A.PWR_PC_FAULT_CNT (n : Nat) : Nat := 0x1e01010 + n * 0x20
def A.REC_STAT : Nat := 0x1f00000
def A.REC_CURSOR : Nat := 0x1f00004
def A.REC_WINDOW (n : Nat) : Nat := 0x1f00010 + n * 0x4
def A.REC_CFG : Nat := 0x1f00030
def A.REC_CTRL : Nat := 0x1f00034
def A.LED_STAT : Nat := 0x1f10000
def A.LED_AGE_CFG : Nat := 0x1f10860
def A.LED_CAL_DUE_LO (n : Nat) : Nat := 0x1f10900 + n * 0x10
def A.LED_CAL_CFG (n : Nat) : Nat := 0x1f10908 + n * 0x10

def F.GLB_STAT_IOW_REJ : Fld := ⟨A.GLB_STAT, 0, 1⟩
def F.GLB_STAT_RSV_WR : Fld := ⟨A.GLB_STAT, 1, 1⟩
def F.GLB_STAT_BE_REJ : Fld := ⟨A.GLB_STAT, 2, 1⟩
def F.GLB_MODE_STAT_CUR_MODE : Fld := ⟨A.GLB_MODE_STAT, 0, 3⟩
def F.GLB_MODE_STAT_PEND_MODE : Fld := ⟨A.GLB_MODE_STAT, 4, 3⟩
def F.GLB_MODE_STAT_PENDING : Fld := ⟨A.GLB_MODE_STAT, 7, 1⟩
def F.GLB_MODE_STAT_LAST_SRC : Fld := ⟨A.GLB_MODE_STAT, 8, 3⟩
def F.GLB_MODE_STAT_LAST_RESULT : Fld := ⟨A.GLB_MODE_STAT, 12, 4⟩
def F.GLB_MODE_STAT_LIMP_CAUSE : Fld := ⟨A.GLB_MODE_STAT, 16, 4⟩
def F.GLB_TICK_CFG_RATE_HZ : Fld := ⟨A.GLB_TICK_CFG, 0, 8⟩
def F.GLB_HERD_CFG_DEADLINE : Fld := ⟨A.GLB_HERD_CFG, 0, 10⟩
def F.GLB_HERD_STAT_OPEN : Fld := ⟨A.GLB_HERD_STAT, 0, 2⟩
def F.GLB_HERD_STAT_QUORUM_MET : Fld := ⟨A.GLB_HERD_STAT, 8, 1⟩
def F.GLB_HERD_STAT_SHED : Fld := ⟨A.GLB_HERD_STAT, 9, 1⟩
def F.GLB_LIMP_CFG_LINK_MS : Fld := ⟨A.GLB_LIMP_CFG, 0, 16⟩
def F.GLB_LIMP_CFG_HB_MS : Fld := ⟨A.GLB_LIMP_CFG, 16, 16⟩
def F.GLB_PARK_CFG_THRESH : Fld := ⟨A.GLB_PARK_CFG, 0, 16⟩
def F.GLB_PARK_CFG_PERSIST : Fld := ⟨A.GLB_PARK_CFG, 16, 4⟩
def F.GLB_WAKE_CFG_WAKE_MODE : Fld := ⟨A.GLB_WAKE_CFG, 0, 3⟩
def F.GLB_AON_ALARM_CTRL_ARMED : Fld := ⟨A.GLB_AON_ALARM_CTRL, 1, 1⟩
def F.GLB_AON_ALARM_CTRL_FIRED : Fld := ⟨A.GLB_AON_ALARM_CTRL, 2, 1⟩
def F.GLB_START_CFG_FORCE_BIST : Fld := ⟨A.GLB_START_CFG, 0, 1⟩
def F.GLB_START_CFG_FORCE_READ : Fld := ⟨A.GLB_START_CFG, 1, 1⟩
def F.GLB_START_CFG_KEEP_LINKS : Fld := ⟨A.GLB_START_CFG, 2, 1⟩
def F.GLB_START_STAT_KIND : Fld := ⟨A.GLB_START_STAT, 0, 2⟩
def F.GLB_START_STAT_DONE : Fld := ⟨A.GLB_START_STAT, 2, 1⟩
def F.GLB_START_STAT_STEP : Fld := ⟨A.GLB_START_STAT, 3, 4⟩
def F.GLB_START_STAT_SKIP_OTP : Fld := ⟨A.GLB_START_STAT, 7, 1⟩
def F.GLB_START_STAT_SKIP_BIST : Fld := ⟨A.GLB_START_STAT, 8, 1⟩
def F.GLB_START_STAT_SKIP_READ : Fld := ⟨A.GLB_START_STAT, 9, 1⟩
def F.GLB_START_STAT_SKIP_SIG : Fld := ⟨A.GLB_START_STAT, 10, 1⟩
def F.GLB_START_STAT_LINKS_KEPT : Fld := ⟨A.GLB_START_STAT, 11, 1⟩
def F.GLB_START_STAT_QUORUM_LATE : Fld := ⟨A.GLB_START_STAT, 12, 1⟩
def F.GLB_START_FAIL_FAILS_A : Fld := ⟨A.GLB_START_FAIL, 0, 2⟩
def F.GLB_START_FAIL_FAILS_B : Fld := ⟨A.GLB_START_FAIL, 2, 2⟩
def F.GLB_START_FAIL_LAST_CAUSE : Fld := ⟨A.GLB_START_FAIL, 4, 4⟩
def F.GLB_START_FAIL_LAST_STEP : Fld := ⟨A.GLB_START_FAIL, 8, 4⟩
def F.GLB_START_FAIL_LAST_BANK : Fld := ⟨A.GLB_START_FAIL, 12, 1⟩
def F.GLB_START_MS_IMG_MS : Fld := ⟨A.GLB_START_MS, 0, 16⟩
def F.GLB_START_MS_HERD_MS : Fld := ⟨A.GLB_START_MS, 16, 16⟩
def F.GLB_FW_STAT_RESTARTING : Fld := ⟨A.GLB_FW_STAT, 0, 1⟩
def F.GLB_FW_STAT_LAST_CAUSE : Fld := ⟨A.GLB_FW_STAT, 1, 3⟩
def F.GLB_FW_STAT_RESTARTS : Fld := ⟨A.GLB_FW_STAT, 8, 16⟩
def F.GLB_QUORUM_CFG_QUORUM_MS : Fld := ⟨A.GLB_QUORUM_CFG, 0, 16⟩
def F.TIME_STAT_SYNCED : Fld := ⟨A.TIME_STAT, 0, 1⟩
def F.TIME_STAT_ADJ_BUSY : Fld := ⟨A.TIME_STAT, 1, 1⟩
def F.TIME_STAT_INC_REJ : Fld := ⟨A.TIME_STAT, 2, 1⟩
def F.TIME_STAT_ADJ_REJ : Fld := ⟨A.TIME_STAT, 3, 1⟩
def F.TIME_STAT_PPS_OK : Fld := ⟨A.TIME_STAT, 4, 1⟩
def F.TIME_STAT_REF10M_OK : Fld := ⟨A.TIME_STAT, 5, 1⟩
def F.TIME_INC_HI_INT : Fld := ⟨A.TIME_INC_HI, 0, 8⟩
def F.TIME_XCHG_CFG_JUMP_NS : Fld := ⟨A.TIME_XCHG_CFG, 16, 16⟩
def F.TIME_PTM_CTRL_PERIOD_MS : Fld := ⟨A.TIME_PTM_CTRL, 0, 16⟩
def F.TIME_PTM_STAT_STATE : Fld := ⟨A.TIME_PTM_STAT, 0, 2⟩
def F.TIME_PTM_STAT_DISABLED : Fld := ⟨A.TIME_PTM_STAT, 2, 1⟩
def F.TIME_PTM_STAT_SEQ : Fld := ⟨A.TIME_PTM_STAT, 8, 8⟩
def F.TIME_PPS_CFG_OUT_MS : Fld := ⟨A.TIME_PPS_CFG, 0, 9⟩
def F.TIME_CMP_CTRL_MODE (n : Nat) : Fld := ⟨A.TIME_CMP_CTRL n, 0, 2⟩
def F.TIME_CMP_CTRL_PIN_EN (n : Nat) : Fld := ⟨A.TIME_CMP_CTRL n, 2, 1⟩
def F.TIME_CMP_CTRL_POL (n : Nat) : Fld := ⟨A.TIME_CMP_CTRL n, 3, 1⟩
def F.TIME_CMP_CTRL_STEP (n : Nat) : Fld := ⟨A.TIME_CMP_CTRL n, 4, 1⟩
def F.TIME_CMP_CTRL_IRQ_EN (n : Nat) : Fld := ⟨A.TIME_CMP_CTRL n, 5, 1⟩
def F.TIME_CMP_CTRL_RATIO (n : Nat) : Fld := ⟨A.TIME_CMP_CTRL n, 6, 1⟩
def F.TIME_CMP_CTRL_K (n : Nat) : Fld := ⟨A.TIME_CMP_CTRL n, 7, 4⟩
def F.TIME_CMP_CTRL_P (n : Nat) : Fld := ⟨A.TIME_CMP_CTRL n, 11, 3⟩
def F.TIME_CMP_STAT_ARMED (n : Nat) : Fld := ⟨A.TIME_CMP_STAT n, 0, 1⟩
def F.TIME_CMP_STAT_FIRED (n : Nat) : Fld := ⟨A.TIME_CMP_STAT n, 1, 1⟩
def F.TIME_CMP_STAT_LATE (n : Nat) : Fld := ⟨A.TIME_CMP_STAT n, 2, 1⟩
def F.TIME_CMP_STAT_MISSED (n : Nat) : Fld := ⟨A.TIME_CMP_STAT n, 3, 1⟩
def F.TIME_CMP_STAT_RANGE (n : Nat) : Fld := ⟨A.TIME_CMP_STAT n, 4, 1⟩
def F.TIME_CMP_STAT_PAST (n : Nat) : Fld := ⟨A.TIME_CMP_STAT n, 5, 1⟩
def F.TIME_CMP_STAT_OVERLAP (n : Nat) : Fld := ⟨A.TIME_CMP_STAT n, 6, 1⟩
def F.TIME_CMP_STAT_PIN (n : Nat) : Fld := ⟨A.TIME_CMP_STAT n, 7, 1⟩
def F.TIME_CAPT_CFG_EDGE (n : Nat) : Fld := ⟨A.TIME_CAPT_CFG n, 0, 2⟩
def F.TIME_CAPT_CFG_FILT (n : Nat) : Fld := ⟨A.TIME_CAPT_CFG n, 2, 4⟩
def F.TIME_CAPT_CFG_IRQ_EN (n : Nat) : Fld := ⟨A.TIME_CAPT_CFG n, 6, 1⟩
def F.TIME_NODE_OFS_OFS (n : Nat) : Fld := ⟨A.TIME_NODE_OFS n, 0, 32⟩
def F.TIME_NODE_DLY_DLY (n : Nat) : Fld := ⟨A.TIME_NODE_DLY n, 0, 24⟩
def F.TIME_NODE_DLY_VALID (n : Nat) : Fld := ⟨A.TIME_NODE_DLY n, 31, 1⟩
def F.TIME_ASYM_ASYM (n : Nat) : Fld := ⟨A.TIME_ASYM n, 0, 16⟩
def F.TRL_CFG_EN (p : Nat) : Fld := ⟨A.TRL_CFG p, 0, 1⟩
def F.TRL_CFG_ROLE (p : Nat) : Fld := ⟨A.TRL_CFG p, 1, 1⟩
def F.TRL_CFG_MEDIUM (p : Nat) : Fld := ⟨A.TRL_CFG p, 2, 1⟩
def F.TRL_CFG_MAX_STEP (p : Nat) : Fld := ⟨A.TRL_CFG p, 4, 3⟩
def F.TRL_STAT_LOCK (p : Nat) : Fld := ⟨A.TRL_STAT p, 0, 1⟩
def F.TRL_STAT_SCR_SYNC (p : Nat) : Fld := ⟨A.TRL_STAT p, 1, 1⟩
def F.TRL_STAT_STEP (p : Nat) : Fld := ⟨A.TRL_STAT p, 2, 3⟩
def F.TRL_STAT_BAND (p : Nat) : Fld := ⟨A.TRL_STAT p, 5, 2⟩
def F.TRL_STAT_LOOP (p : Nat) : Fld := ⟨A.TRL_STAT p, 7, 1⟩
def F.TRL_STAT_STEPS_AVAIL (p : Nat) : Fld := ⟨A.TRL_STAT p, 8, 5⟩
def F.TRL_STAT_HUNT_TO (p : Nat) : Fld := ⟨A.TRL_STAT p, 13, 1⟩
def F.TRL_EQ_LO_VALID (p n : Nat) : Fld := ⟨A.TRL_EQ_LO p n, 31, 1⟩
def F.TRL_TEST_LOOP (p : Nat) : Fld := ⟨A.TRL_TEST p, 0, 2⟩
def F.TRL_TEST_LOOP_POS (p : Nat) : Fld := ⟨A.TRL_TEST p, 2, 3⟩
def F.TRL_TEST_FORCE (p : Nat) : Fld := ⟨A.TRL_TEST p, 5, 1⟩
def F.TRL_TEST_STEP (p : Nat) : Fld := ⟨A.TRL_TEST p, 8, 3⟩
def F.TRL_TEST_STAT_STATE (p : Nat) : Fld := ⟨A.TRL_TEST_STAT p, 0, 2⟩
def F.TRL_TEST_STAT_CHK_LOCK (p : Nat) : Fld := ⟨A.TRL_TEST_STAT p, 2, 1⟩
def F.TRL_EYE_STAT_STATE (p : Nat) : Fld := ⟨A.TRL_EYE_STAT p, 0, 2⟩
def F.TRL_EYE_STAT_PH_NEXT (p : Nat) : Fld := ⟨A.TRL_EYE_STAT p, 2, 7⟩
def F.TRL_BRUP_CFG_TRAIN_TRIES (p : Nat) : Fld := ⟨A.TRL_BRUP_CFG p, 0, 3⟩
def F.TRL_BRUP_CFG_UP_HOLD_S (p : Nat) : Fld := ⟨A.TRL_BRUP_CFG p, 8, 8⟩
def F.TRL_BRUP_CFG_CHAIN_MAX (p : Nat) : Fld := ⟨A.TRL_BRUP_CFG p, 16, 4⟩
def F.TRL_BRUP_CFG_SEG_KIB (p : Nat) : Fld := ⟨A.TRL_BRUP_CFG p, 24, 5⟩
def F.TRL_BRUP_STAT_STATE (p : Nat) : Fld := ⟨A.TRL_BRUP_STAT p, 0, 3⟩
def F.TRL_BRUP_STAT_NODES (p : Nat) : Fld := ⟨A.TRL_BRUP_STAT p, 4, 4⟩
def F.TRL_BRUP_STAT_FAIL_HOP (p : Nat) : Fld := ⟨A.TRL_BRUP_STAT p, 8, 3⟩
def F.TRL_BRUP_STAT_CAP_STEP (p : Nat) : Fld := ⟨A.TRL_BRUP_STAT p, 12, 3⟩
def F.TRL_BRUP_STAT_LAST_FAIL (p : Nat) : Fld := ⟨A.TRL_BRUP_STAT p, 16, 4⟩
def F.TRK_BOND_CFG_LANE_EN (n : Nat) : Fld := ⟨A.TRK_BOND_CFG n, 0, 4⟩
def F.TRK_BOND_CFG_ROLE (n : Nat) : Fld := ⟨A.TRK_BOND_CFG n, 4, 1⟩
def F.TRK_BOND_CFG_MIN_W (n : Nat) : Fld := ⟨A.TRK_BOND_CFG n, 8, 2⟩
def F.TRK_BOND_STAT_TX_W (n : Nat) : Fld := ⟨A.TRK_BOND_STAT n, 0, 2⟩
def F.TRK_BOND_STAT_TX_SET (n : Nat) : Fld := ⟨A.TRK_BOND_STAT n, 2, 4⟩
def F.TRK_BOND_STAT_RX_W (n : Nat) : Fld := ⟨A.TRK_BOND_STAT n, 6, 2⟩
def F.TRK_BOND_STAT_RX_SET (n : Nat) : Fld := ⟨A.TRK_BOND_STAT n, 8, 4⟩
def F.TRK_BOND_STAT_PARTNER_OK (n : Nat) : Fld := ⟨A.TRK_BOND_STAT n, 12, 4⟩
def F.TRK_BOND_STAT_DOWN (n : Nat) : Fld := ⟨A.TRK_BOND_STAT n, 16, 1⟩
def F.TRK_BOND_STAT_SKEW (n : Nat) : Fld := ⟨A.TRK_BOND_STAT n, 17, 5⟩
def F.NODE_ENT_PRESENT (n : Nat) : Fld := ⟨A.NODE_ENT n, 0, 1⟩
def F.NODE_ENT_STATE (n : Nat) : Fld := ⟨A.NODE_ENT n, 1, 3⟩
def F.NODE_ENT_POS (n : Nat) : Fld := ⟨A.NODE_ENT n, 4, 3⟩
def F.NODE_ENT_PATH_STEP (n : Nat) : Fld := ⟨A.NODE_ENT n, 7, 3⟩
def F.NODE_ENT_UID_CHG (n : Nat) : Fld := ⟨A.NODE_ENT n, 10, 1⟩
def F.NODE_ENT_LOOP_OK (n : Nat) : Fld := ⟨A.NODE_ENT n, 11, 1⟩
def F.NODE_ENT_VC_MASK (n : Nat) : Fld := ⟨A.NODE_ENT n, 12, 4⟩
def F.NODE_CAPS0_L_S (n : Nat) : Fld := ⟨A.NODE_CAPS0 n, 0, 16⟩
def F.NODE_CAPS0_ASYM (n : Nat) : Fld := ⟨A.NODE_CAPS0 n, 16, 16⟩
def F.NODE_CAPS1_VENDOR (n : Nat) : Fld := ⟨A.NODE_CAPS1 n, 0, 16⟩
def F.NODE_CAPS1_PRODUCT (n : Nat) : Fld := ⟨A.NODE_CAPS1 n, 16, 16⟩
def F.NODE_CAPS2_MAX_STEP (n : Nat) : Fld := ⟨A.NODE_CAPS2 n, 0, 3⟩
def F.NODE_CAPS2_LOOP (n : Nat) : Fld := ⟨A.NODE_CAPS2 n, 3, 1⟩
def F.NODE_CAPS2_RELAY (n : Nat) : Fld := ⟨A.NODE_CAPS2 n, 4, 1⟩
def F.NODE_CAPS2_SEG_MAX (n : Nat) : Fld := ⟨A.NODE_CAPS2 n, 8, 8⟩
def F.ING_ENT0_VALID (n : Nat) : Fld := ⟨A.ING_ENT0 n, 0, 1⟩
def F.ING_ENT0_NA (n : Nat) : Fld := ⟨A.ING_ENT0 n, 1, 9⟩
def F.ING_ENT0_VC (n : Nat) : Fld := ⟨A.ING_ENT0 n, 10, 2⟩
def F.ING_ENT0_DT (n : Nat) : Fld := ⟨A.ING_ENT0 n, 12, 6⟩
def F.ING_ENT0_EMB_EN (n : Nat) : Fld := ⟨A.ING_ENT0 n, 18, 1⟩
def F.ING_ENT0_RETAIN (n : Nat) : Fld := ⟨A.ING_ENT0 n, 19, 1⟩
def F.ING_ENT0_LATE_POL (n : Nat) : Fld := ⟨A.ING_ENT0 n, 20, 1⟩
def F.ING_ENT0_RATIO (n : Nat) : Fld := ⟨A.ING_ENT0 n, 21, 1⟩
def F.ING_ENT0_K (n : Nat) : Fld := ⟨A.ING_ENT0 n, 22, 4⟩
def F.ING_ENT0_P (n : Nat) : Fld := ⟨A.ING_ENT0 n, 26, 3⟩
def F.ING_ENT1_WIDTH (n : Nat) : Fld := ⟨A.ING_ENT1 n, 0, 15⟩
def F.ING_ENT1_LINES (n : Nat) : Fld := ⟨A.ING_ENT1 n, 16, 15⟩
def F.ING_ENT3_RET_FRAMES (n : Nat) : Fld := ⟨A.ING_ENT3 n, 0, 4⟩
def F.ING_GSP_DATA (n : Nat) : Fld := ⟨A.ING_GSP n, 0, 16⟩
def F.ING_GSP_DT (n : Nat) : Fld := ⟨A.ING_GSP n, 16, 6⟩
def F.LST_STAT_FREE : Fld := ⟨A.LST_STAT, 0, 11⟩
def F.LST_STAT_QERR : Fld := ⟨A.LST_STAT, 16, 1⟩
def F.LST_STAT_UE : Fld := ⟨A.LST_STAT, 17, 1⟩
def F.LST_SCRUB_CFG_ROW_CE_LIM : Fld := ⟨A.LST_SCRUB_CFG, 8, 4⟩
def F.LST_REPAIR_STAT_FREE_MIN : Fld := ⟨A.LST_REPAIR_STAT, 0, 6⟩
def F.LST_REPAIR_STAT_BANK_MIN : Fld := ⟨A.LST_REPAIR_STAT, 6, 6⟩
def F.LST_REPAIR_STAT_EXH : Fld := ⟨A.LST_REPAIR_STAT, 12, 1⟩
def F.LST_BANK_SPARE_USED (n : Nat) : Fld := ⟨A.LST_BANK_SPARE n, 0, 6⟩
def F.LST_BANK_SPARE_ONLINE (n : Nat) : Fld := ⟨A.LST_BANK_SPARE n, 6, 6⟩
def F.LST_Q_STAT_PAGES (n : Nat) : Fld := ⟨A.LST_Q_STAT n, 0, 11⟩
def F.LST_Q_STAT_OCC (n : Nat) : Fld := ⟨A.LST_Q_STAT n, 11, 11⟩
def F.LST_Q_STAT_FLUSH_PEND (n : Nat) : Fld := ⟨A.LST_Q_STAT n, 22, 1⟩
def F.LST_Q_STAT_RET_OK (n : Nat) : Fld := ⟨A.LST_Q_STAT n, 23, 1⟩
def F.LST_Q_STAT_RET_CNT (n : Nat) : Fld := ⟨A.LST_Q_STAT n, 24, 4⟩
def F.LST_Q_WM_HIGH (n : Nat) : Fld := ⟨A.LST_Q_WM n, 0, 11⟩
def F.LST_Q_WM_IRQ_EN (n : Nat) : Fld := ⟨A.LST_Q_WM n, 11, 1⟩
def F.LST_Q_WM_STAT_NOTICE (n : Nat) : Fld := ⟨A.LST_Q_WM_STAT n, 0, 1⟩
def F.LST_Q_WM_STAT_CROSS (n : Nat) : Fld := ⟨A.LST_Q_WM_STAT n, 8, 8⟩
def F.LST_Q_WM_STAT_PEAK (n : Nat) : Fld := ⟨A.LST_Q_WM_STAT n, 16, 11⟩
def F.SLC_STAT_STATE (n : Nat) : Fld := ⟨A.SLC_STAT n, 0, 3⟩
def F.SLC_STAT_REPL (n : Nat) : Fld := ⟨A.SLC_STAT n, 3, 1⟩
def F.SLC_STAT_STREAMS (n : Nat) : Fld := ⟨A.SLC_STAT n, 4, 6⟩
def F.SLC_STAT_MEM_USED (n : Nat) : Fld := ⟨A.SLC_STAT n, 10, 9⟩
def F.SLC_SVC_STAT_STATE (n : Nat) : Fld := ⟨A.SLC_SVC_STAT n, 0, 2⟩
def F.SLC_SVC_STAT_REJ (n : Nat) : Fld := ⟨A.SLC_SVC_STAT n, 2, 1⟩
def F.SLC_SVC_STAT_LOCK (n : Nat) : Fld := ⟨A.SLC_SVC_STAT n, 3, 1⟩
def F.SLC_SVC_STAT_RETURNS (n : Nat) : Fld := ⟨A.SLC_SVC_STAT n, 4, 4⟩
def F.SLC_STR_CFG0_DECOMP_BYP (n : Nat) : Fld := ⟨A.SLC_STR_CFG0 n, 0, 1⟩
def F.SLC_STR_CFG0_BLACK_BYP (n : Nat) : Fld := ⟨A.SLC_STR_CFG0 n, 1, 1⟩
def F.SLC_STR_CFG0_SDEF_BYP (n : Nat) : Fld := ⟨A.SLC_STR_CFG0 n, 2, 1⟩
def F.SLC_STR_CFG0_DDEF_BYP (n : Nat) : Fld := ⟨A.SLC_STR_CFG0 n, 3, 1⟩
def F.SLC_STR_CFG0_SHADE_BYP (n : Nat) : Fld := ⟨A.SLC_STR_CFG0 n, 4, 1⟩
def F.SLC_STR_CFG0_GAIN_BYP (n : Nat) : Fld := ⟨A.SLC_STR_CFG0 n, 5, 1⟩
def F.SLC_STR_CFG0_CURVE_BYP (n : Nat) : Fld := ⟨A.SLC_STR_CFG0 n, 6, 1⟩
def F.SLC_STR_CFG0_SCALE (n : Nat) : Fld := ⟨A.SLC_STR_CFG0 n, 8, 2⟩
def F.SLC_STR_CFG0_OUT_BITS (n : Nat) : Fld := ⟨A.SLC_STR_CFG0 n, 10, 2⟩
def F.SLC_STR_CFG1_ROI_BASE (n : Nat) : Fld := ⟨A.SLC_STR_CFG1 n, 0, 12⟩
def F.SLC_STR_CFG1_ROI_CNT (n : Nat) : Fld := ⟨A.SLC_STR_CFG1 n, 12, 5⟩
def F.SLC_STR_CFG1_FILL_MODE (n : Nat) : Fld := ⟨A.SLC_STR_CFG1 n, 17, 1⟩
def F.SLC_STR_CFG1_EMB_ROI (n : Nat) : Fld := ⟨A.SLC_STR_CFG1 n, 18, 4⟩
def F.SLC_STR_CFG1_EMB_OUT (n : Nat) : Fld := ⟨A.SLC_STR_CFG1 n, 22, 1⟩
def F.SLC_STR_TSET_TSET_A (n : Nat) : Fld := ⟨A.SLC_STR_TSET n, 0, 14⟩
def F.SLC_STR_TSET_TSET_B (n : Nat) : Fld := ⟨A.SLC_STR_TSET n, 16, 14⟩
def F.SLC_STR_DEF0_DEF_BASE (n : Nat) : Fld := ⟨A.SLC_STR_DEF0 n, 0, 18⟩
def F.SLC_STR_DEF1_DEF_COUNT (n : Nat) : Fld := ⟨A.SLC_STR_DEF1 n, 0, 19⟩
def F.SLC_STR_DYN_DYN_T (n : Nat) : Fld := ⟨A.SLC_STR_DYN n, 0, 24⟩
def F.SLC_STR_HRATIO_RATIO (n : Nat) : Fld := ⟨A.SLC_STR_HRATIO n, 0, 20⟩
def F.SLC_STR_VRATIO_RATIO (n : Nat) : Fld := ⟨A.SLC_STR_VRATIO n, 0, 20⟩
def F.SLC_STR_BLACK_BL (n i : Nat) : Fld := ⟨A.SLC_STR_BLACK n i, 0, 24⟩
def F.SLC_STR_LIVE_TSEL (n : Nat) : Fld := ⟨A.SLC_STR_LIVE n, 0, 1⟩
def F.SLC_STR_LIVE_PEND (n : Nat) : Fld := ⟨A.SLC_STR_LIVE n, 2, 1⟩
def F.SLC_STR_LIVE_TSEL_CUR (n : Nat) : Fld := ⟨A.SLC_STR_LIVE n, 3, 1⟩
def F.SLC_STR_LIVE_TREJ (n : Nat) : Fld := ⟨A.SLC_STR_LIVE n, 4, 1⟩
def F.SLC_STR_GAIN01_G0 (n : Nat) : Fld := ⟨A.SLC_STR_GAIN01 n, 0, 16⟩
def F.SLC_STR_GAIN01_G1 (n : Nat) : Fld := ⟨A.SLC_STR_GAIN01 n, 16, 16⟩
def F.SLC_STR_GAIN23_G2 (n : Nat) : Fld := ⟨A.SLC_STR_GAIN23 n, 0, 16⟩
def F.SLC_STR_GAIN23_G3 (n : Nat) : Fld := ⟨A.SLC_STR_GAIN23 n, 16, 16⟩
def F.ROI_CFG_VALID (n : Nat) : Fld := ⟨A.ROI_CFG n, 0, 1⟩
def F.ROI_CFG_OSID (n : Nat) : Fld := ⟨A.ROI_CFG n, 1, 10⟩
def F.ROI_CFG_PACK (n : Nat) : Fld := ⟨A.ROI_CFG n, 11, 3⟩
def F.ROI_CFG_STATS_EN (n : Nat) : Fld := ⟨A.ROI_CFG n, 14, 1⟩
def F.ROI_CFG_S_OSID (n : Nat) : Fld := ⟨A.ROI_CFG n, 15, 10⟩
def F.ROI_SIZE_W (n : Nat) : Fld := ⟨A.ROI_SIZE n, 0, 15⟩
def F.ROI_SIZE_H (n : Nat) : Fld := ⟨A.ROI_SIZE n, 16, 15⟩
def F.ROI_POS_X (n : Nat) : Fld := ⟨A.ROI_POS n, 0, 15⟩
def F.ROI_POS_Y (n : Nat) : Fld := ⟨A.ROI_POS n, 16, 15⟩
def F.ROI_CUR_X (n : Nat) : Fld := ⟨A.ROI_CUR n, 0, 15⟩
def F.ROI_CUR_Y (n : Nat) : Fld := ⟨A.ROI_CUR n, 16, 15⟩
def F.ROI_STAT_POS_REJ (n : Nat) : Fld := ⟨A.ROI_STAT n, 0, 1⟩
def F.PLC_CFG_DC_NUM : Fld := ⟨A.PLC_CFG, 0, 9⟩
def F.PLC_CFG_AUDIT_EN : Fld := ⟨A.PLC_CFG, 9, 1⟩
def F.PLC_CFG_IRQ_EN : Fld := ⟨A.PLC_CFG, 10, 1⟩
def F.PLC_STAT_RUN : Fld := ⟨A.PLC_STAT, 1, 1⟩
def F.PLC_STAT_REFUSED : Fld := ⟨A.PLC_STAT, 2, 1⟩
def F.PLC_STAT_REASON : Fld := ⟨A.PLC_STAT, 4, 4⟩
def F.PLC_STAT_USABLE : Fld := ⟨A.PLC_STAT, 8, 6⟩
def F.PLC_STAT_SPARES : Fld := ⟨A.PLC_STAT, 14, 2⟩
def F.PLC_STAT_GEN_LO : Fld := ⟨A.PLC_STAT, 16, 16⟩
def F.PLC_LOG_CFG_EN : Fld := ⟨A.PLC_LOG_CFG, 0, 1⟩
def F.PLC_LOG_CFG_SIZE_LOG2 : Fld := ⟨A.PLC_LOG_CFG, 1, 4⟩
def F.PLC_LOG_IDX_IDX : Fld := ⟨A.PLC_LOG_IDX, 0, 17⟩
def F.PLC_AUDIT_STAT_AUDITOR : Fld := ⟨A.PLC_AUDIT_STAT, 0, 6⟩
def F.PLC_AUDIT_STAT_TARGET : Fld := ⟨A.PLC_AUDIT_STAT, 6, 6⟩
def F.PLC_AUDIT_STAT_SUSPECT : Fld := ⟨A.PLC_AUDIT_STAT, 12, 6⟩
def F.PLC_AUDIT_STAT_RAISED_BY : Fld := ⟨A.PLC_AUDIT_STAT, 18, 6⟩
def F.PLC_AUDIT_STAT_STRIKES_LO : Fld := ⟨A.PLC_AUDIT_STAT, 24, 2⟩
def F.PLC_AUDIT_STAT_STRIKES_HI : Fld := ⟨A.PLC_AUDIT_STAT, 26, 2⟩
def F.PLC_POOL_CFG_VALID (n : Nat) : Fld := ⟨A.PLC_POOL_CFG n, 0, 1⟩
def F.PLC_OSID_CFG_DEST (n : Nat) : Fld := ⟨A.PLC_OSID_CFG n, 0, 2⟩
def F.PLC_OSID_CFG_POOL (n : Nat) : Fld := ⟨A.PLC_OSID_CFG n, 2, 6⟩
def F.PLC_OSID_CFG_OWN (n : Nat) : Fld := ⟨A.PLC_OSID_CFG n, 8, 1⟩
def F.PLC_OSID_CFG_TRK (n : Nat) : Fld := ⟨A.PLC_OSID_CFG n, 9, 2⟩
def F.PLC_OSID_CFG_QUORUM (n : Nat) : Fld := ⟨A.PLC_OSID_CFG n, 11, 1⟩
def F.PLC_OSID_CTRL_EN (n : Nat) : Fld := ⟨A.PLC_OSID_CTRL n, 0, 1⟩
def F.PLC_ISID_MAP_HI_MOVE_PEND (n : Nat) : Fld := ⟨A.PLC_ISID_MAP_HI n, 6, 1⟩
def F.GRZ_CFG_CH : Fld := ⟨A.GRZ_CFG, 0, 8⟩
def F.GRZ_CFG_EN : Fld := ⟨A.GRZ_CFG, 8, 1⟩
def F.GRZ_CTRL_RING : Fld := ⟨A.GRZ_CTRL, 0, 1⟩
def F.GRZ_PI_IDX : Fld := ⟨A.GRZ_PI, 0, 9⟩
def F.GRZ_PI_PHASE : Fld := ⟨A.GRZ_PI, 8, 1⟩
def F.GRZ_CI_IDX : Fld := ⟨A.GRZ_CI, 0, 9⟩
def F.GRZ_CI_PHASE : Fld := ⟨A.GRZ_CI, 8, 1⟩
def F.GRZ_STAT_PENDING : Fld := ⟨A.GRZ_STAT, 0, 9⟩
def F.GRZ_STAT_BUSY : Fld := ⟨A.GRZ_STAT, 9, 1⟩
def F.GRZ_STAT_SUBMIT_REJ : Fld := ⟨A.GRZ_STAT, 10, 1⟩
def F.GRZ_STAT_PI_REJ : Fld := ⟨A.GRZ_STAT, 11, 1⟩
def F.GRZ_STAT_LAST_STATUS : Fld := ⟨A.GRZ_STAT, 12, 4⟩
def F.GRZ_STAT_LAST_IDX : Fld := ⟨A.GRZ_STAT, 16, 8⟩
def F.DMA_CH_CFG_EN (n : Nat) : Fld := ⟨A.DMA_CH_CFG n, 0, 1⟩
def F.DMA_CH_CFG_PACE (n : Nat) : Fld := ⟨A.DMA_CH_CFG n, 1, 1⟩
def F.DMA_CH_CFG_BURST_LOG2 (n : Nat) : Fld := ⟨A.DMA_CH_CFG n, 2, 4⟩
def F.DMA_CH_CFG_REQ_SRC (n : Nat) : Fld := ⟨A.DMA_CH_CFG n, 6, 7⟩
def F.DMA_CH_CFG_MAX_RD (n : Nat) : Fld := ⟨A.DMA_CH_CFG n, 13, 8⟩
def F.DMA_CH_CFG_RO (n : Nat) : Fld := ⟨A.DMA_CH_CFG n, 21, 1⟩
def F.DMA_CH_CFG_ENT_LOG2 (n : Nat) : Fld := ⟨A.DMA_CH_CFG n, 22, 5⟩
def F.DMA_CH_CFG_HCQ (n : Nat) : Fld := ⟨A.DMA_CH_CFG n, 27, 5⟩
def F.DMA_CH_STAT_STATE (n : Nat) : Fld := ⟨A.DMA_CH_STAT n, 0, 3⟩
def F.DMA_CH_STAT_HALT_CAUSE (n : Nat) : Fld := ⟨A.DMA_CH_STAT n, 3, 3⟩
def F.DMA_CH_STAT_OWN_MISS (n : Nat) : Fld := ⟨A.DMA_CH_STAT n, 6, 1⟩
def F.DMA_CH_STAT_CTRL_REJ (n : Nat) : Fld := ⟨A.DMA_CH_STAT n, 7, 1⟩
def F.DMA_CH_STAT_PI_REJ (n : Nat) : Fld := ⟨A.DMA_CH_STAT n, 8, 1⟩
def F.DMA_CH_STAT_REQ_OVF (n : Nat) : Fld := ⟨A.DMA_CH_STAT n, 9, 1⟩
def F.DMA_CH_STAT_LAST_ABORT (n : Nat) : Fld := ⟨A.DMA_CH_STAT n, 10, 2⟩
def F.DMA_CH_STAT_DLV (n : Nat) : Fld := ⟨A.DMA_CH_STAT n, 12, 1⟩
def F.DMA_CH_STAT_BUF (n : Nat) : Fld := ⟨A.DMA_CH_STAT n, 13, 2⟩
def F.DMA_CH_STAT_REQ_PEND (n : Nat) : Fld := ⟨A.DMA_CH_STAT n, 15, 8⟩
def F.DMA_CH_STAT_LINKS (n : Nat) : Fld := ⟨A.DMA_CH_STAT n, 23, 5⟩
def F.DMA_CH_PI_IDX (n : Nat) : Fld := ⟨A.DMA_CH_PI n, 0, 17⟩
def F.DMA_CH_CI_IDX (n : Nat) : Fld := ⟨A.DMA_CH_CI n, 0, 17⟩
def F.DMA_CH_RATE_HCQ5 (n : Nat) : Fld := ⟨A.DMA_CH_RATE n, 8, 1⟩
def F.DMA_CH_RATE_SHARE (n : Nat) : Fld := ⟨A.DMA_CH_RATE n, 0, 8⟩
def F.CQ_CFG_EN (n : Nat) : Fld := ⟨A.CQ_CFG n, 0, 1⟩
def F.CQ_CFG_ENT_LOG2 (n : Nat) : Fld := ⟨A.CQ_CFG n, 1, 5⟩
def F.CQ_CFG_IRQ_EN (n : Nat) : Fld := ⟨A.CQ_CFG n, 6, 1⟩
def F.CQ_PI_IDX (n : Nat) : Fld := ⟨A.CQ_PI n, 0, 17⟩
def F.CQ_CI_IDX (n : Nat) : Fld := ⟨A.CQ_CI n, 0, 17⟩
def F.CQ_HEAD_IDX (n : Nat) : Fld := ⟨A.CQ_HEAD n, 0, 17⟩
def F.CQ_STAT_IRQ_PEND (n : Nat) : Fld := ⟨A.CQ_STAT n, 0, 1⟩
def F.CQ_STAT_OVR (n : Nat) : Fld := ⟨A.CQ_STAT n, 1, 1⟩
def F.CQ_STAT_CI_REJ (n : Nat) : Fld := ⟨A.CQ_STAT n, 2, 1⟩
def F.CQ_STAT_SEQ (n : Nat) : Fld := ⟨A.CQ_STAT n, 16, 16⟩
def F.CQ_FILL_LEVEL (n : Nat) : Fld := ⟨A.CQ_FILL n, 0, 17⟩
def F.CQ_WM_HIGH (n : Nat) : Fld := ⟨A.CQ_WM n, 0, 17⟩
def F.CQ_WM_IRQ_EN (n : Nat) : Fld := ⟨A.CQ_WM n, 17, 1⟩
def F.CQ_WM_STAT_NOTICE (n : Nat) : Fld := ⟨A.CQ_WM_STAT n, 0, 1⟩
def F.CQ_WM_STAT_CROSS (n : Nat) : Fld := ⟨A.CQ_WM_STAT n, 1, 8⟩
def F.CQ_WM_STAT_PEAK (n : Nat) : Fld := ⟨A.CQ_WM_STAT n, 9, 17⟩
def F.DMA_CFG_DLV_RO : Fld := ⟨A.DMA_CFG, 0, 1⟩
def F.DMA_CFG_WMK_EN : Fld := ⟨A.DMA_CFG, 1, 1⟩
def F.DMA_POOL_PI_IDX (n : Nat) : Fld := ⟨A.DMA_POOL_PI n, 0, 17⟩
def F.DMA_POOL_CI_IDX (n : Nat) : Fld := ⟨A.DMA_POOL_CI n, 0, 17⟩
def F.DMA_POOL_STAT_AVAIL (n : Nat) : Fld := ⟨A.DMA_POOL_STAT n, 0, 17⟩
def F.DMA_POOL_STAT_OWN_MISS (n : Nat) : Fld := ⟨A.DMA_POOL_STAT n, 17, 1⟩
def F.DMA_POOL_STAT_PI_REJ (n : Nat) : Fld := ⟨A.DMA_POOL_STAT n, 18, 1⟩
def F.DMA_POOL_WM_LOW (n : Nat) : Fld := ⟨A.DMA_POOL_WM n, 0, 17⟩
def F.DMA_POOL_WM_IRQ_EN (n : Nat) : Fld := ⟨A.DMA_POOL_WM n, 17, 1⟩
def F.DMA_POOL_WM_STAT_NOTICE (n : Nat) : Fld := ⟨A.DMA_POOL_WM_STAT n, 0, 1⟩
def F.DMA_POOL_WM_STAT_CROSS (n : Nat) : Fld := ⟨A.DMA_POOL_WM_STAT n, 1, 8⟩
def F.DMA_POOL_WM_STAT_TROUGH (n : Nat) : Fld := ⟨A.DMA_POOL_WM_STAT n, 9, 17⟩
def F.HEP_LINK_STAT_DL_UP : Fld := ⟨A.HEP_LINK_STAT, 0, 1⟩
def F.HEP_LINK_STAT_RATE : Fld := ⟨A.HEP_LINK_STAT, 1, 3⟩
def F.HEP_LINK_STAT_WIDTH : Fld := ⟨A.HEP_LINK_STAT, 4, 3⟩
def F.HEP_LINK_STAT_FLIT : Fld := ⟨A.HEP_LINK_STAT, 7, 1⟩
def F.HEP_LINK_STAT_L0P_W : Fld := ⟨A.HEP_LINK_STAT, 8, 3⟩
def F.HEP_LINK_STAT_LSTATE : Fld := ⟨A.HEP_LINK_STAT, 11, 2⟩
def F.HEP_LINK_STAT_TAG14 : Fld := ⟨A.HEP_LINK_STAT, 13, 1⟩
def F.HEP_LINK_STAT_TAG10 : Fld := ⟨A.HEP_LINK_STAT, 14, 1⟩
def F.HEP_FN_STAT_MSE : Fld := ⟨A.HEP_FN_STAT, 0, 1⟩
def F.HEP_FN_STAT_BME : Fld := ⟨A.HEP_FN_STAT, 1, 1⟩
def F.HEP_FN_STAT_DSTATE : Fld := ⟨A.HEP_FN_STAT, 2, 2⟩
def F.HEP_FN_STAT_IRQ_MODE : Fld := ⟨A.HEP_FN_STAT, 4, 2⟩
def F.HEP_FN_STAT_FLR_BUSY : Fld := ⟨A.HEP_FN_STAT, 6, 1⟩
def F.HEP_FN_STAT_QUAR : Fld := ⟨A.HEP_FN_STAT, 7, 1⟩
def F.HEP_FN_STAT_NP_OUT : Fld := ⟨A.HEP_FN_STAT, 8, 15⟩
def F.HEP_LINK_CFG_L1_IDLE_US : Fld := ⟨A.HEP_LINK_CFG, 0, 16⟩
def F.HEP_PM_CTRL_WAKE_ACT : Fld := ⟨A.HEP_PM_CTRL, 1, 1⟩
def F.HEP_ATT_STAT_GEN : Fld := ⟨A.HEP_ATT_STAT, 0, 16⟩
def F.HEP_ATT_STAT_BUSY : Fld := ⟨A.HEP_ATT_STAT, 16, 1⟩
def F.HEP_ATT_STAT_COMMIT_REJ : Fld := ⟨A.HEP_ATT_STAT, 17, 1⟩
def F.HEP_ATT_STAT_BAD_ENT : Fld := ⟨A.HEP_ATT_STAT, 18, 6⟩
def F.HEP_ATT_SH_CTL_VALID (n : Nat) : Fld := ⟨A.HEP_ATT_SH_CTL n, 0, 1⟩
def F.HEP_ATT_SH_CTL_LIM_4K (n : Nat) : Fld := ⟨A.HEP_ATT_SH_CTL n, 4, 13⟩
def F.HEP_IRQ_MAP_VECTOR (n : Nat) : Fld := ⟨A.HEP_IRQ_MAP n, 0, 11⟩
def F.HEP_IRQ_MAP_EN (n : Nat) : Fld := ⟨A.HEP_IRQ_MAP n, 16, 1⟩
def F.SEC_STAT_LC : Fld := ⟨A.SEC_STAT, 0, 2⟩
def F.SEC_STAT_DBG_OPEN : Fld := ⟨A.SEC_STAT, 2, 1⟩
def F.SEC_STAT_DBG_SCOPE : Fld := ⟨A.SEC_STAT, 3, 3⟩
def F.SEC_STAT_DUS_OK : Fld := ⟨A.SEC_STAT, 6, 1⟩
def F.SEC_STAT_FLOOR : Fld := ⟨A.SEC_STAT, 7, 9⟩
def F.SEC_STAT_OTP_ERR : Fld := ⟨A.SEC_STAT, 16, 1⟩
def F.SEC_OP_STAT_BUSY : Fld := ⟨A.SEC_OP_STAT, 0, 1⟩
def F.SEC_OP_STAT_LAST_OP : Fld := ⟨A.SEC_OP_STAT, 1, 3⟩
def F.SEC_OP_STAT_RESULT : Fld := ⟨A.SEC_OP_STAT, 4, 4⟩
def F.SEC_OP_STAT_REJ : Fld := ⟨A.SEC_OP_STAT, 8, 1⟩
def F.SEC_OTP_ADDR_WORD : Fld := ⟨A.SEC_OTP_ADDR, 2, 12⟩
def F.SEC_CHAL_CTRL_CURRENT : Fld := ⟨A.SEC_CHAL_CTRL, 1, 1⟩
def F.SEC_SESS_CFG_FAIL_LIM : Fld := ⟨A.SEC_SESS_CFG, 16, 8⟩
def F.SEC_NODE_STAT_STATE (n : Nat) : Fld := ⟨A.SEC_NODE_STAT n, 0, 2⟩
def F.SEC_NODE_STAT_ROOT_ID (n : Nat) : Fld := ⟨A.SEC_NODE_STAT n, 2, 3⟩
def F.SEC_NODE_STAT_REKEYING (n : Nat) : Fld := ⟨A.SEC_NODE_STAT n, 5, 1⟩
def F.SEC_NODE_STAT_REASON (n : Nat) : Fld := ⟨A.SEC_NODE_STAT n, 8, 4⟩
def F.SEC_NODE_STAT_SID (n : Nat) : Fld := ⟨A.SEC_NODE_STAT n, 12, 8⟩
def F.SEC_STR_CFG_DROP_FAIL (n : Nat) : Fld := ⟨A.SEC_STR_CFG n, 0, 1⟩
def F.SEC_STR_CFG_DROP_NONE (n : Nat) : Fld := ⟨A.SEC_STR_CFG n, 1, 1⟩
def F.SEC_STR_UNAUTH_COUNT (n : Nat) : Fld := ⟨A.SEC_STR_UNAUTH n, 0, 31⟩
def F.SEC_STR_UNAUTH_OVF (n : Nat) : Fld := ⟨A.SEC_STR_UNAUTH n, 31, 1⟩
def F.CFG_STAT_REFUGE : Fld := ⟨A.CFG_STAT, 2, 1⟩
def F.CFG_VAL_STAT_CAUSE : Fld := ⟨A.CFG_VAL_STAT, 0, 4⟩
def F.CFG_VAL_STAT_BANK : Fld := ⟨A.CFG_VAL_STAT, 4, 1⟩
def F.CFG_VAL_OFS_OFS : Fld := ⟨A.CFG_VAL_OFS, 0, 23⟩
def F.CFG_SEL_PRIMARY : Fld := ⟨A.CFG_SEL, 0, 1⟩
def F.CFG_SEL_SEL_REJ : Fld := ⟨A.CFG_SEL, 1, 1⟩
def F.CFG_FL_ADDR_ADDR : Fld := ⟨A.CFG_FL_ADDR, 0, 26⟩
def F.CFG_FL_STAT_BUSY : Fld := ⟨A.CFG_FL_STAT, 0, 1⟩
def F.CFG_FL_STAT_LAST_CMD : Fld := ⟨A.CFG_FL_STAT, 1, 3⟩
def F.CFG_FL_STAT_RESULT : Fld := ⟨A.CFG_FL_STAT, 4, 2⟩
def F.CFG_FL_STAT_CMD_REJ : Fld := ⟨A.CFG_FL_STAT, 6, 1⟩
def F.CFG_FL_STAT_VER_A_OK : Fld := ⟨A.CFG_FL_STAT, 7, 1⟩
def F.CFG_FL_STAT_VER_B_OK : Fld := ⟨A.CFG_FL_STAT, 8, 1⟩
def F.CFG_FL_STAT_VCAUSE : Fld := ⟨A.CFG_FL_STAT, 9, 4⟩
def F.MGT_TGT_CFG_PEC_REQ : Fld := ⟨A.MGT_TGT_CFG, 0, 1⟩
def F.MGT_TGT_STAT_ADDR_PINS : Fld := ⟨A.MGT_TGT_STAT, 0, 3⟩
def F.MGT_TGT_STAT_CORE_READY : Fld := ⟨A.MGT_TGT_STAT, 3, 1⟩
def F.MGT_TGT_STAT_LAST : Fld := ⟨A.MGT_TGT_STAT, 4, 3⟩
def F.MGT_TUN_STAT_GO_REJ : Fld := ⟨A.MGT_TUN_STAT, 0, 1⟩
def F.MGT_TUN_STAT_BUSY_SLOTS : Fld := ⟨A.MGT_TUN_STAT, 8, 7⟩
def F.LW_CFG_EN (n : Nat) : Fld := ⟨A.LW_CFG n, 0, 1⟩
def F.LW_CFG_SPEED (n : Nat) : Fld := ⟨A.LW_CFG n, 1, 2⟩
def F.LW_CFG_MULTI (n : Nat) : Fld := ⟨A.LW_CFG n, 3, 1⟩
def F.LW_CFG_RETRY_LIM (n : Nat) : Fld := ⟨A.LW_CFG n, 4, 4⟩
def F.LW_STAT_STATE (n : Nat) : Fld := ⟨A.LW_STAT n, 0, 2⟩
def F.LW_STAT_RESULT (n : Nat) : Fld := ⟨A.LW_STAT n, 2, 3⟩
def F.LW_STAT_ACKED (n : Nat) : Fld := ⟨A.LW_STAT n, 5, 6⟩
def F.LW_STAT_RETRIES (n : Nat) : Fld := ⟨A.LW_STAT n, 11, 4⟩
def F.LW_STAT_BUS_CLR (n : Nat) : Fld := ⟨A.LW_STAT n, 15, 1⟩
def F.LW_STAT_GO_REJ (n : Nat) : Fld := ⟨A.LW_STAT n, 16, 1⟩
def F.TUN_STAT_STATE (n : Nat) : Fld := ⟨A.TUN_STAT n, 0, 2⟩
def F.TUN_STAT_RESULT (n : Nat) : Fld := ⟨A.TUN_STAT n, 2, 4⟩
def F.TUN_STAT_ACKED (n : Nat) : Fld := ⟨A.TUN_STAT n, 6, 5⟩
def F.TUN_STAT_TXN (n : Nat) : Fld := ⟨A.TUN_STAT n, 11, 8⟩
def F.PWR_RAIL_STAT_PG : Fld := ⟨A.PWR_RAIL_STAT, 0, 6⟩
def F.PWR_RAIL_STAT_WARN : Fld := ⟨A.PWR_RAIL_STAT, 8, 6⟩
def F.PWR_RAIL_FAULT_RAIL : Fld := ⟨A.PWR_RAIL_FAULT, 0, 3⟩
def F.PWR_RAIL_FAULT_KIND : Fld := ⟨A.PWR_RAIL_FAULT, 3, 2⟩
def F.PWR_RAIL_MV_MV (n : Nat) : Fld := ⟨A.PWR_RAIL_MV n, 0, 12⟩
def F.PWR_GLB_VIN : Fld := ⟨A.PWR_GLB, 0, 10⟩
def F.PWR_GLB_VIN_UV : Fld := ⟨A.PWR_GLB, 10, 1⟩
def F.PWR_GLB_VIN_OV : Fld := ⟨A.PWR_GLB, 11, 1⟩
def F.PWR_GLB_QUEUED : Fld := ⟨A.PWR_GLB, 12, 7⟩
def F.PWR_GLB_BUDGET_USED : Fld := ⟨A.PWR_GLB, 19, 13⟩
def F.PWR_PC_CFG_ILIM (n : Nat) : Fld := ⟨A.PWR_PC_CFG n, 0, 7⟩
def F.PWR_PC_CFG_OC_MS (n : Nat) : Fld := ⟨A.PWR_PC_CFG n, 11, 4⟩
def F.PWR_PC_CFG_OPEN_MA (n : Nat) : Fld := ⟨A.PWR_PC_CFG n, 15, 6⟩
def F.PWR_PC_CFG_OPEN_MS (n : Nat) : Fld := ⟨A.PWR_PC_CFG n, 21, 4⟩
def F.PWR_PC_CFG_OPEN_ACT (n : Nat) : Fld := ⟨A.PWR_PC_CFG n, 25, 1⟩
def F.PWR_PC_CFG_RETRY_LIM (n : Nat) : Fld := ⟨A.PWR_PC_CFG n, 26, 4⟩
def F.PWR_PC_CTRL_FORCE_OFF (n : Nat) : Fld := ⟨A.PWR_PC_CTRL n, 0, 1⟩
def F.PWR_PC_STAT_STATE (n : Nat) : Fld := ⟨A.PWR_PC_STAT n, 0, 3⟩
def F.PWR_PC_STAT_FAULT (n : Nat) : Fld := ⟨A.PWR_PC_STAT n, 3, 3⟩
def F.PWR_PC_STAT_OPEN (n : Nat) : Fld := ⟨A.PWR_PC_STAT n, 6, 1⟩
def F.PWR_PC_STAT_RETRIES (n : Nat) : Fld := ⟨A.PWR_PC_STAT n, 7, 4⟩
def F.PWR_PC_MEAS_V (n : Nat) : Fld := ⟨A.PWR_PC_MEAS n, 16, 10⟩
def F.REC_STAT_NEXT : Fld := ⟨A.REC_STAT, 0, 16⟩
def F.REC_STAT_OPEN : Fld := ⟨A.REC_STAT, 16, 1⟩
def F.REC_STAT_FULL : Fld := ⟨A.REC_STAT, 17, 1⟩
def F.REC_STAT_CLEARING : Fld := ⟨A.REC_STAT, 18, 1⟩
def F.REC_STAT_NO_SUSP : Fld := ⟨A.REC_STAT, 19, 1⟩
def F.REC_STAT_HELD : Fld := ⟨A.REC_STAT, 20, 10⟩
def F.REC_CFG_RATE_MAX : Fld := ⟨A.REC_CFG, 0, 8⟩
def F.LED_STAT_PEND : Fld := ⟨A.LED_STAT, 0, 1⟩
def F.LED_STAT_LOADED : Fld := ⟨A.LED_STAT, 1, 1⟩
def F.LED_STAT_SECTOR : Fld := ⟨A.LED_STAT, 2, 6⟩
def F.LED_AGE_CFG_WARN_PM : Fld := ⟨A.LED_AGE_CFG, 0, 10⟩

end Sys2Proof.Machine
end

