-- ==== Sys2Proof/Config.lean ====
section
/-! DEFINITION. What the spec leaves open or each part fixes for itself: free values, which have no body, so a
claim holds whatever they are. -/

namespace Sys2Proof

/-- The n-th free value of width w: a value that the spec requires and does not state (a random draw of the
DRBG, R331, R335, R336; a scrambler seed, R72; a measurement of R401).  Log entry 2. -/
opaque Config.freeBits (w : Nat) : Nat → BitVec w

/-- The serialiser quadrant of a port or lane, whose die sensor sets its band: the spec does not place the ports
(R85, R448).  Log entry 17. -/
opaque Config.portQuadrant : Nat → Fin 4

end Sys2Proof
end

