-- ==== Sys2Proof/Machine/State.lean ====
section
/-! DEFINITION. The state of the hub: every register, counter, queue, mode and pin the spec gives it, as plain data;
the faults and refusals a command may end in; and the state at reset. -/

namespace Sys2Proof.Machine

/-- A sparse array in canonical form: keys strictly rising, no entry equal to what an unlisted key reads as. -/
abbrev Tbl (α : Type) := List (Nat × α)

/-! ### Device time, compares, captures, link delay (chapter 02) -/

/-- One entry of a capture FIFO (R55): its ST48 and whether the edge fell. -/
structure CaptEnt where
  ts : Nat
  fall : Bool
  deriving DecidableEq, Repr

/-- What an armed compare unit holds beside its registers: its target as a whole TU count (R54 compares in full
width) and, in TICK mode, the boundary the target derives from (R453). -/
structure CmpTarget where
  target : Nat
  base : Nat
  deriving DecidableEq, Repr

/-- A delay round of one node (R59): attempts made, round trips recorded, the send time of the request out. -/
structure DelayRound where
  attempts : Nat
  trips : List Int
  t1 : Option Nat
  deriving DecidableEq, Repr

/-- A TRIG block scheduled on a port (R63): its slot start, its reference time t_L, the exposure target, all in TU,
the position and channels it triggers, and its herd number. -/
structure TrigBlock where
  slot : Nat
  tl : Nat
  expo : Nat
  pos : Nat
  vcMask : Nat
  herd : Nat
  /-- The boundary the exposure belongs to. -/
  base : Nat
  /-- TIME_INC in force when it was scheduled (R47). -/
  inc : Nat
  deriving DecidableEq, Repr

/-- A boundary acted on: its instant, its herd number, and the tick rate its frames' offsets run by (R17, R453). -/
structure Bnd where
  at' : Nat
  herd : Nat
  rate : Nat
  deriving DecidableEq, Repr

/-- Device time and what runs by it. -/
structure TimeSt where
  /-- Total TU count (R40). -/
  tu : Nat
  /-- TU elapsed, which no TIME_ADJ step moves: what intervals such as LINK_MS are measured by. -/
  elapsed : Nat
  /-- Fraction of a TU carried from cycle to cycle, in 2^-32 TU (R46). -/
  frac : Nat
  /-- TIME_INC in force, in 2^-32 TU per cycle. -/
  inc : Nat
  /-- Staged TIME_INC_LO. -/
  incLo : Word
  /-- A committed TIME_INC that takes effect in the next cycle. -/
  incNext : Option Nat
  /-- Staged TIME_ADJ_LO. -/
  adjLo : Word
  /-- A committed TIME_ADJ and the cycles left before it is applied (R48). -/
  adj : Option (Int × Nat)
  /-- The tick rate in force (R16). -/
  rate : Nat
  /-- Grid points at or before this TU count are not acted on any more (R13–R15). -/
  gridFrom : Nat
  /-- Boundaries acted on, newest first; at most 40 are kept. -/
  hist : List Bnd
  /-- Triggers are planned for the boundaries up to this one (R63). -/
  planTo : Nat
  cmp : Tbl CmpTarget
  /-- The trailing edge of each unit's active pulse. -/
  pulseEnd : Tbl Nat
  capt : Tbl (List CaptEnt)
  /-- Capture inputs whose last edge began a level that the filter ignores (R55). -/
  captShort : List Nat
  ppsIn : Option Nat
  /-- PPS_OUT is high until this TU count. -/
  ppsOut : Option Nat
  ref10m : Nat
  /-- The T1 of the PTM measurement in progress, and t4 − t1 of its first dialog once that has its response (R57). -/
  ptmT1 : Option Nat
  ptmRtt : Option Nat
  rounds : Tbl DelayRound
  /-- Nodes whose delays are to be measured at once, rising (R60); nodes that have had a delay published (R59). -/
  due : List Nat
  measured : List Nat
  /-- Consecutive failed rounds per node (R59). -/
  roundFails : Tbl Nat
  /-- Missed triggers per node (R63, R64). -/
  missed : Tbl Nat
  deriving DecidableEq, Repr

/-! ### Start, restart and the hub's own supply (chapters 12 and 15) -/

/-- Where the hub stands between power-up and running (R312, R314, R325, R371). -/
inductive Phase where
  /-- VDD_AON is absent, or browned out (R436). -/
  | off
  /-- A start runs and its rails come up (R370); `railsUp` counts them. -/
  | rails
  /-- The core is off and a cold start follows: after a failed start, a rail fault or a thermal fault. -/
  | wait
  /-- Step 11 has ended. -/
  | run
  | refuge
  | standby
  deriving DecidableEq, Repr


/-- The start machinery. -/
structure StartSt where
  phase : Phase
  /-- Rails whose PS_PG has risen in the sequence in progress. -/
  railsUp : Nat
  /-- What the wait before a cold start follows: 0 a failed start, 1 a rail fault, 2 a thermal fault. -/
  waitFor : Nat
  /-- The start in progress is a warm start from Standby; its wake mode is forced to Limp (R38). -/
  warm : Bool
  toLimp : Bool
  /-- The firmware restarts (R326); the times of the last restarts (R327). -/
  fwBusy : Bool
  fwTimes : List Nat
  /-- Commands to the bring-up engines, and timers, that wait for the restart to complete (R326, R412). -/
  fwHeld : List Instr
  /-- When step 11 last ended, in elapsed TU; the banks whose fail counts are still to be cleared, 10 s after each successful
  start from them, in the order of those starts (R324). -/
  step11 : Nat
  clearDue : List Nat
  /-- A start that began with step 1 has not ended step 11 (R323), and VDD_AON was absent since the ledger was loaded. -/
  watch : Bool
  fresh : Bool
  /-- What the last start found (log entry 58), and the level of MG_ADDR. -/
  hw : Found
  addrPins : Nat
  deriving DecidableEq, Repr

/-! ### The always-on island -/

/-- What the always-on island keeps (R14, R43, R44). -/
structure AonSt where
  herd : Nat
  sec : Nat
  alarm : Nat
  armed : Bool
  fired : Bool
  deriving DecidableEq, Repr

/-! ### Traori Link: line layer (chapter 03)

A port number p below 64 is camera port CPp; 64 + 4t + l is lane l of trunk port t. -/

/-- One receiver: destuffing, block lock, SYNC and descrambling (R74, R76, R78). -/
structure RxSt where
  /-- Run length and last bit of the destuffer. -/
  run : Nat
  last : Bool
  /-- Destuffed bits not yet taken as a block, bits to skip before the next block, and whether a stuffing
  violation fell in the block being gathered. -/
  buf : List Bool
  skip : Nat
  viol : Bool
  /-- HUNT: consecutive valid headers. LOCKED: validity of the last headers, newest first, at most 64. -/
  good : Nat
  window : List Bool
  /-- Descrambler state, blocks since the last expected or valid SYNC, its INTERVAL, consecutive misses. -/
  scr : Nat
  blk : Nat
  interval : Nat
  misses : Nat
  /-- The last block delivered: whether it is a control block, and its 32 payload bytes. -/
  got : Option (Bool × List Byte)
  /-- A band change waits for the next SYNC received; the equalisation band and step in use (R86). -/
  eqPend : Bool
  eqBand : Nat
  eqStep : Nat
  /-- When the lane's last SYNC arrived, and its SYNCs in a row that disagree with the bond (R84). -/
  syncAt : Nat
  disagree : Nat
  deriving DecidableEq, Repr

/-- One transmitter (R70, R72, R75). -/
structure TxSt where
  scr : Nat
  run : Nat
  last : Bool
  /-- Blocks since the last SYNC sent; 0 means a SYNC is next. -/
  blk : Nat
  /-- INTERVAL of the next SYNC. -/
  interval : Nat
  /-- Blocks waiting: whether each is a control block, and its payload. -/
  queue : List (Bool × List Byte)
  /-- Device time at which the next slot starts (R63, R77), and the fraction of a TU beyond it, in units of 1/(48 · 2^32). -/
  slot : Nat
  frac : Nat
  /-- Control blocks sent since the last SYNC that R115 limits. -/
  ctl : Nat
  trigs : List TrigBlock
  eqPend : Bool
  /-- The equalisation band and step in use. -/
  eqBand : Nat
  eqStep : Nat
  /-- While training: the counter of the next TRAIN PATTERN (R101). -/
  train : Option Nat
  deriving DecidableEq, Repr

/-- The bond of one trunk port (R83, R84). -/
structure BondSt where
  /-- LANE_OK the partner reported in its most recent SYNC, and in that lane's SYNC of the interval before. -/
  prevOk : Nat
  lastOk : Nat
  /-- The last SYNC of each receive lane: INTERVAL and LANE_OK. -/
  reports : Tbl (Nat × Nat)
  /-- Receive lanes dropped for skew or disagreement. -/
  dropped : List Nat
  /-- Blocks waiting to be dealt over the lanes, and those dealt to each lane and not yet sent. -/
  queue : List (Bool × List Byte)
  dealt : Tbl (List (Bool × List Byte))
  deriving DecidableEq, Repr

/-! ### Traori Link: chains (chapter 04) -/

/-- The reverse block whose answer a port's engine waits for (R94). -/
inductive Await where
  | query
  | assign
  | extend
  | cut
  | commit
  | revert
  | keyHello (na : Nat)
  | keyFinish (na : Nat)
  deriving DecidableEq, Repr

/-- A request awaiting its answer: what it is, its blocks, resends so far. -/
structure Waiting where
  what : Await
  blocks : List (List Byte)
  resends : Nat
  deriving DecidableEq, Repr

/-- A pronk or retrain in progress (R101–R103). -/
structure Pronk where
  from' : Nat
  goal : Nat
  hops : Nat
  /-- INTERVAL of the reverse SYNC at which to switch. -/
  atSync : Nat
  switched : Bool
  /-- Hops reported, and hops reported failed. -/
  seen : List Nat
  failed : List Nat
  tries : Nat
  retrain : Bool
  /-- Hop 0 training: last PATTERN counter, a discontinuity, and the error counts at its start, the first SYNC. -/
  lastCtr : Option Nat
  bad : Bool
  errs0 : Option Nat
  deriving DecidableEq, Repr

/-- A test loop (R89, R119): its LOOP value and position; a far-end loop is asked for until the node answers, then switches,
then runs. -/
structure LoopSt where
  kind : Nat
  pos : Nat
  asked : Bool
  running : Bool
  deriving DecidableEq, Repr

/-- The bring-up engine of one camera port (R98–R108). -/
structure PortSt where
  /-- The position being discovered. -/
  pos : Nat
  waits : List Waiting
  pronk : Option Pronk
  /-- Positions whose poll answers have been missed, with the count (R107). -/
  polls : Tbl Nat
  /-- Discovery is to be retried from `pos` at the REDISC interval (R108). -/
  redisc : Bool
  /-- The reverse transmitter is stopped (R107). -/
  stopped : Bool
  loop : Option LoopSt
  /-- Container receiver: hunting for a header after a header failure (R113). -/
  hunt : Bool
  /-- Expected SEQ per position (R112, R455). -/
  seq : Tbl Nat
  /-- VCs, as 4·position + vc, that discard containers until their next SOF (R118). -/
  mute : List Nat
  /-- Hops fallen below the target since their last fallback (R103). -/
  fallen : List Nat
  /-- Retrains still to be started, as a step and its hops (R412). -/
  more : List (Nat × Nat)
  /-- The target step, fixed when discovery of the chain ends (R100). -/
  target : Nat
  /-- The step to which each hop found is raised (R100, R108, R411). -/
  goals : Tbl Nat
  /-- UID and NA of the virtual node at position 0 of a trunk partner (R99, R120), and the NA and SEG_LEN given to each of its
  positions. -/
  peer : Option (Nat × Nat)
  nas : Tbl (Nat × Nat)
  deriving DecidableEq, Repr

/-- One virtual node of a port in the sensor-end role: what ASSIGN gave it (R120). -/
structure VNode where
  na : Nat
  isids : List (Option Nat)
  segLen : Nat
  stepCap : Nat
  delay : Nat
  deriving DecidableEq, Repr

/-- The node's side of a session (R341): the HELLO answered, its nonce and ephemeral key, and after FINISH the line key, the
one before it, and the VCs that have gone over to it at an SOF, as 4·position + VC (R340). -/
structure NodeSess where
  sid : Nat
  hello : List Byte
  cert : List Byte
  nonce : List Byte
  eph : Nat
  key : List Byte
  old : List Byte
  moved : List Nat
  deriving DecidableEq, Repr

/-- A port in the sensor-end role (R62, R120). -/
structure SensorSt where
  nodes : List VNode
  /-- The session of each position. -/
  sess : Tbl NodeSess
  /-- Its step switch: the SYNC it is scheduled at and the step to take; its hops, the step to return to, and the SYNCs sent
  since it switched. -/
  sched : Option (Nat × Nat)
  hops : Nat
  back : Nat
  training : Bool
  syncs : Nat
  /-- A far-end loop is accepted for a position; after COMMIT it returns the blocks it receives from the next reverse SYNC
  on (R119). -/
  looping : Bool
  loopPos : Nat
  loopArm : Bool
  loopOn : Bool
  /-- Elapsed TU at which reverse lock was lost (R98). -/
  lostAt : Option Nat
  /-- Own lines lost to a full queue since the last line taken, per virtual node (R97). -/
  lost : Tbl Nat
  /-- TRIG blocks acknowledged (R120), and lines sent per virtual node SEQ. -/
  trigs : Nat
  seq : Tbl Nat
  deriving DecidableEq, Repr

/-- One session, of node n < 512 or of trunk port n − 512 (R336–R344). Byte strings are empty while unset. -/
structure SessSt where
  sid : Nat
  /-- A public-key engine is held; the session replaces one in force (R340). -/
  engine : Bool
  rekey : Bool
  /-- HELLO body sent, K_conf and TH of the exchange in progress, and the K_line it will put in force (R339). -/
  hello : List Byte
  kConf : List Byte
  th : List Byte
  kNext : List Byte
  /-- The key in force, the previous one, and the streams that have sent an SOF since DONE (R340). -/
  key : List Byte
  old : List Byte
  switched : List Nat
  /-- Consecutive TAG_FAIL lines (R344). -/
  fails : Nat
  /-- Per stream, the last two frames that had a line pass under this session, newest first: record number, FRAME
  (R344); and those of the session before, for frames that still run under its key. -/
  passed : Tbl (List (Nat × Nat))
  oldPassed : Tbl (List (Nat × Nat))
  /-- Elapsed TU at establishment. -/
  born : Nat
  deriving DecidableEq, Repr

/-- All links. -/
structure LinkSt where
  rx : Tbl RxSt
  tx : Tbl TxSt
  bond : Tbl BondSt
  port : Tbl PortSt
  sensor : Tbl SensorSt
  /-- UID last seen per NA since cold start (R99). -/
  lastUid : Tbl Nat
  /-- Last reading of each die sensor in °C, and whether it stands at or above 128 (R85, R449). -/
  dieTemp : Tbl Int
  dieHot : List Nat
  sess : Tbl SessSt
  /-- Nodes waiting for a public-key engine (R320): first sessions, then rekeys, each in ascending order. -/
  keyQueue : List Nat
  rekeyQueue : List Nat
  /-- The session counter of each node (chapter 13). -/
  sids : Tbl Nat
  deriving DecidableEq, Repr

/-! ### Hoofprint log and life ledger (chapter 16) -/

/-- A hoofprint event: CODE, SRC, DETAIL bytes (R384). -/
structure Event where
  code : Nat
  src : Nat
  detail : List Byte
  deriving DecidableEq, Repr

/-- The open record (R386): its slot, its bytes 0–25 and the running REPEAT. -/
structure OpenRec where
  slot : Nat
  code : Nat
  src : Nat
  bytes : List Byte
  rep : Nat
  deriving DecidableEq, Repr

/-- A log clear in progress (R394): first and last SEQ cleared, the authority, the token's key slot. -/
structure ClearSt where
  firstSeq : Nat
  lastSeq : Nat
  authority : Nat
  keySlot : Nat
  deriving DecidableEq, Repr

/-- The hoofprint log's working state. -/
structure RecSt where
  /-- Next slot to open (REC_STAT.NEXT). -/
  next : Nat
  openRec : Option OpenRec
  /-- The always-on copy of the open record (R386, R387). -/
  aonCopy : Option OpenRec
  full : Bool
  clear : Option ClearSt
  /-- Events held under R390, oldest first, and the count beyond 512. -/
  held : List Event
  heldOver : Nat
  /-- Records opened in this operating second (R389), and whether its limit record is open. -/
  rateCount : Nat
  rateHit : Bool
  /-- Suppression bits (R408): rule and register address. -/
  suppress : List (Nat × Nat)
  deriving DecidableEq, Repr

/-- A calendar entry (R402). -/
structure CalEnt where
  due : Nat
  valid : Bool
  basis : Bool
  fired : Bool
  tag : Nat
  deriving DecidableEq, Repr

/-- The life ledger (R396) and its snapshot state (R397). -/
structure LedSt where
  gen : Nat
  opsec : Nat
  pwrcyc : Nat
  /-- PRIMARY boot selector of R309: bank B. -/
  primaryB : Bool
  recSeq : Nat
  dropped : Nat
  clears : Nat
  retrain : Tbl Nat
  poc : Tbl Nat
  erase : Tbl Nat
  temp : Tbl Nat
  /-- Monitor m: READ and REF. -/
  age : Tbl (Nat × Nat)
  cal : Tbl CalEnt
  /-- Monitors past their warning threshold (R401). -/
  ageWarned : List Nat
  /-- A snapshot waits; a valid one was loaded; OPSEC of the last; the sector it went to. -/
  pend : Bool
  /-- The snapshot that waits is exempt from the 60 s spacing. -/
  urgent : Bool
  loaded : Bool
  lastOpsec : Nat
  sector : Nat
  deriving DecidableEq, Repr

/-! ### Ingress, the line store and the slices (chapters 05 and 06) -/

/-- A line held in a queue (R133): its word position in the ring's running count, its record, its payload. -/
structure QLine where
  pos : Nat
  /-- The number of the frame record it belongs to. -/
  fid : Nat
  frame : Nat
  line : Nat
  sofTs : Nat
  lineTs : Nat
  herd : Nat
  /-- FLAGS of the record: EMB, LATE, TAG_NONE, TAG_FAIL, FIRST_OF_FRAME, GAP in bits 0–5. -/
  flags : Nat
  dt : Nat
  tag : List Byte
  data : List Byte
  /-- A word of it holds an uncorrectable error that no reader has met yet (R141, R415). -/
  ue : Bool
  /-- Lost to an uncorrectable error (R141). -/
  lost : Bool
  deriving DecidableEq, Repr

/-- The live parameters that a frame takes at its SOF (R174): gains, table set, ROI positions. -/
structure Live where
  gains : List Nat
  tsel : Nat
  rois : List (Nat × Nat)
  deriving DecidableEq, Repr

/-- An input line as a slice holds it: its number, the bytes stored, FLAGS, TAG, and whether it is a substitute
(R175; bytes empty: BLACK). -/
structure SrcLine where
  line : Nat
  data : List Byte
  flags : Nat
  tag : List Byte
  fill : Bool
  deriving DecidableEq, Repr

/-- The statistics of one ROI over one frame (R167): histogram counts, zone sums and counts, pixels per phase, the
OR of its lines' flags. -/
structure StatAcc where
  hist : Tbl Nat
  zsum : Tbl Nat
  zcnt : Tbl Nat
  phase : Tbl Nat
  flags : Nat
  deriving DecidableEq, Repr

/-- An accepted frame of an input stream, from its SOF until its herd can no longer ask about it. -/
structure FrameRec where
  id : Nat
  frame : Nat
  /-- The session its lines are checked under: of node n < 512, or of trunk port n − 512; and the line key in force at its SOF
  (R340), empty with no session. -/
  ses : Nat
  key : List Byte
  herd : Nat
  /-- Index of the frame within its herd (R17). -/
  sub : Nat
  sofTs : Nat
  live : Live
  /-- Live commits applied before or at its SOF (R204). -/
  commits : Nat
  /-- The slice of each share that processes it (R189, R190). -/
  shares : List Nat
  /-- Position of its first stored line; last stored pixel line; pixel lines stored. -/
  first : Nat
  last : Option Nat
  stored : Nat
  lastEmb : Option Nat
  embs : Nat
  /-- A stored line of it was lost before it was read (R136, R141). -/
  cut : Bool
  ended : Bool
  /-- Judged incomplete when it ended (R131). -/
  bad : Bool
  /-- Its SOF was accepted before its herd closed (R25). -/
  inTime : Bool
  /-- It is a retained complete frame (R138). -/
  retained : Bool
  /-- Output streams that lost a line of it on the way to the host, and those that lost the last one so far. -/
  failed : List Nat
  lastFailed : List Nat
  /-- Slice context: input lines taken, the next output line of each ROI, statistics; `done` when the slices have
  finished the frame. -/
  ctx : List SrcLine
  emitted : Tbl Nat
  stats : Tbl StatAcc
  /-- ROIs whose statistics frame has been emitted (R168). -/
  statSent : List Nat
  /-- The next input line whose stage 4 counts are due (R157, R158), and routed streams whose SOF has been sent. -/
  s4 : Nat
  routed : List Nat
  /-- Lines of it that did not go out of the trunk slot, by routed stream: late, lost to a full queue, or never produced
  before one that was. -/
  unsent : Tbl Nat
  done : Bool
  deriving DecidableEq, Repr

/-- A line in assembly (R129). -/
structure LineAsm where
  frame : Nat
  line : Nat
  dt : Nat
  data : List Byte
  /-- A container of it found the tag engines backlogged (R343). -/
  backlog : Bool
  deriving DecidableEq, Repr

/-- One queue (R135, R140): its word pointers W, R, K with their second copies, the lines from K on, and the
positions readers hold. -/
structure QueueSt where
  w : Nat
  r : Nat
  k : Nat
  w' : Nat
  r' : Nat
  k' : Nat
  lines : List QLine
  held : List Nat
  /-- The pages of the ring in force, rising (R191). -/
  ring : List Nat
  deriving DecidableEq, Repr

/-- One input stream. -/
structure StreamSt where
  nextId : Nat
  /-- Its frames, oldest first; the open frame is the last one while it has not ended. -/
  frames : List FrameRec
  /-- FRAME of the rejected frame whose containers are discarded until the next SOF (R125). -/
  rejected : Option Nat
  /-- Containers are discarded until the next SOF, after ERR SENSOR or a queue reset (R118, R140). -/
  mute : Bool
  asm : Option LineAsm
  /-- FRAME and LINE of the frame's incomplete lines already counted, and whether each is an embedded one. -/
  badLines : List (Nat × Nat × Bool)
  /-- Frames accepted per herd, newest first. -/
  counts : List (Nat × Nat)
  commits : Nat
  /-- The gains in force (R174). -/
  gains : List Nat
  q : QueueSt
  deriving DecidableEq, Repr

/-- An output line that awaits its commit (R232). -/
structure OutLine where
  osid : Nat
  isid : Nat
  /-- The number of the frame record it comes from, and its ROI entry. -/
  fid : Nat
  roi : Nat
  herd : Nat
  sub : Nat
  frame : Nat
  line : Nat
  kind : Nat
  flags : Nat
  sofTs : Nat
  tag : List Byte
  payload : List Byte
  deriving DecidableEq, Repr

/-- What a bank row of the line store has been through: spare rows used per bank, unrepaired rows (R415, R416). -/
structure DataSt where
  str : Tbl StreamSt
  outq : List OutLine
  /-- Table memory bytes that are not 0, and poisoned blocks, rising (R148, R151). -/
  tbl : Tbl Byte
  poison : List Nat
  /-- Line-store rows in use as spares, by bank: the rows they replace. -/
  spares : Tbl (List Nat)
  deriving DecidableEq, Repr

/-! ### Herds and modes (chapter 01) -/

/-- A fetched descriptor (R219): its host address and ring index, and its 32 bytes. -/
structure Desc where
  at' : Nat
  idx : Nat
  bytes : List Byte
  deriving DecidableEq, Repr

/-- A pool descriptor taken for a herd (R227) by a delivery channel, and its pool. -/
structure HerdBuf where
  ch : Nat
  pool : Nat
  d : Desc
  deriving DecidableEq, Repr

/-- An open herd (R21–R23), or a closed one whose late lines may still be written (R233). -/
structure Herd where
  num : Nat
  base : Nat
  deadline : Nat
  /-- Generation of its layout (R195), and the mode it formed under. -/
  gen : Nat
  mode : Nat
  closed : Bool
  /-- It delivers (R27). -/
  delivers : Bool
  bufs : List HerdBuf
  /-- Delivery channels that found no buffer at some point (R228), and those still without one. -/
  noBuf : List Nat
  waiting : List Nat
  /-- The completion queues of its HERD records (R234). -/
  queues : List Nat
  deriving DecidableEq, Repr

/-- Modes: requests, host loss, Limp exit (R31–R39), quorum and Park. -/
structure ModeSt where
  /-- Pending requests by precedence 1–4: source and mode. -/
  reqs : List (Nat × Nat × Nat)
  /-- The switch in progress: its mode, source, and the boundary it is to complete at; whether it was applied. -/
  switching : Option (Nat × Nat)
  limpN : Bool
  /-- Host-loss causes that hold now: bit 0 link, 1 heartbeat, 2 LIMP_N, 3 request. -/
  loss : Nat
  /-- Heartbeats since Limp was entered that count, and the time of the last heartbeat or restart of its timer. -/
  beats : Nat
  lastBeat : Nat
  /-- When the last heartbeat that counts came. -/
  prevBeat : Option Nat
  /-- The quorum set is present: delivery begins with the next herd. -/
  quorum : Bool
  /-- Modes whose admission failed at start (R34). -/
  barred : List Nat
  /-- Park, by OSID of each statistics stream: the reference histogram and the consecutive herds above threshold
  (R29). -/
  parkRef : Tbl (Tbl Nat)
  parkRun : Tbl Nat
  deriving DecidableEq, Repr

/-! ### The image in force and the key store (chapters 11 and 13) -/

/-- An overlay (R298, R299, R304): the fields it sets, as address, mask, value, in image order. -/
structure Overlay where
  mode : Nat
  fields : List (Nat × Word × Word)
  deriving DecidableEq, Repr

/-- POC_SEQ (R303): the groups' channel masks and delays. -/
structure PocSeq where
  inrush : Nat
  bootMs : Nat
  groups : List (Nat × Nat)
  deriving DecidableEq, Repr

/-- An image as management memory keeps it (R291): the words its base gives the registers it writes, its table
memory, its overlays. -/
structure Image where
  bank : Nat
  enc : Bool
  keyIdx : Nat
  startMode : Nat
  imgVer : Nat
  secVer : Nat
  digest : List Byte
  base : Tbl Word
  /-- What the base sets in registers whose reset value is not fixed: CFG_SEL and GLB_AON_ALARM (R12). -/
  held : List (Nat × Word × Word)
  tbl : Tbl Byte
  overlays : List Overlay
  roots : List (Nat × List Byte)
  poc : PocSeq
  deriving DecidableEq, Repr

/-- The instruction that the JTAG port acts on (R346). -/
inductive Jtag where
  | bypass | idcode | sample | extest | intest | clamp | highz | regacc | trace
  deriving DecidableEq, Repr

/-- The OTP and what security operations hold (R328–R335, R347). -/
structure SecSt where
  /-- OTP bytes that are not 0 (R330), and words with an uncorrectable error. -/
  otp : Tbl Byte
  otpBad : List Nat
  /-- The operation in progress, with the result it will end with; its token. -/
  op : Option (Nat × Nat × List Byte)
  /-- Elapsed TU at which the current challenge was drawn. -/
  chalAt : Option Nat
  /-- The always-on island's copies for warm starts: OTP shadow valid, repair map valid, digest and key slot retained. -/
  shadow : Bool
  repair : Bool
  digest : List Byte
  keyIdx : Nat
  /-- The OTP is as it was when they were retained. -/
  otpSame : Bool
  /-- The image in force was started by a cold start (R333). -/
  coldImage : Bool
  /-- The JTAG instruction in force. -/
  jtag : Jtag
  deriving DecidableEq, Repr

/-! ### Rails and camera power (chapter 15) -/

/-- Rails, PoC channels and their queue. -/
structure PwrSt where
  /-- Consecutive samples of each rail outside ±5% and ±10%. -/
  warnRun : Tbl Nat
  faultRun : Tbl Nat
  /-- Channels queued for a soft-start, head first. -/
  queue : List Nat
  /-- Channels that wait out their group's delay: its end in elapsed TU, channel. -/
  due : List (Nat × Nat)
  /-- Ports that wait out BOOT_MS before discovery. -/
  boot : List Nat
  /-- Consecutive samples above ILIM and below OPEN_MA, by channel. -/
  oc : Tbl Nat
  opn : Tbl Nat
  /-- Consecutive supply samples above 16.5 V and below 8.5 V. -/
  vinHi : Nat
  vinLo : Nat
  /-- Faults of the present 1 ms sample that its end records, with whether their retries count; and the channels that had CLR in
  it (R379). -/
  faults : Tbl (Nat × Bool)
  clrs : List Nat
  deriving DecidableEq, Repr

/-! ### Placement (chapter 07) -/

/-- An input stream's place: the slice of each share, its pages, how many of them are extras, and the slices it still
runs on while a move awaits its SOF. -/
structure InPlace where
  shares : List Nat
  pages : List Nat
  extra : Nat
  moving : Option (List Nat)
  /-- Its single-slice charge per due tick and its M when it was placed (R188). -/
  charge : Nat
  mem : Nat
  deriving DecidableEq, Repr

/-- What an output stream carries under a placement: its input stream, its ROI entry or the statistics of it, its
ROI's size, its padded payload and embedded slot bytes (R170, R192), its input's ratio to the tick (R17). -/
structure OutForm where
  isid : Nat
  roi : Nat
  stats : Bool
  w : Nat
  h : Nat
  pay : Nat
  emb : Nat
  div : Bool
  k : Nat
  p : Nat
  deriving DecidableEq, Repr

/-- An output stream's place: STATE, WAIT_REASON, channel, trunk port and slot, region offset in 4 KiB units, and whether
it is in the quorum set. -/
structure OutPlace where
  state : Nat
  reason : Nat
  ch : Option Nat
  slot : Option Nat
  trk : Nat
  ofs : Nat
  quorum : Bool
  form : OutForm
  deriving DecidableEq, Repr

/-- A pool's staged or in-force registers (R183): CFG and BASE. -/
structure PoolReg where
  cfg : Word
  base : Nat
  deriving DecidableEq, Repr

/-- A placement: inputs, outputs, and each delivery channel's pool with the OWN stream it serves, if any. -/
structure Placement where
  ins : Tbl InPlace
  outs : Tbl OutPlace
  chans : Tbl (Nat × Option Nat)
  deriving DecidableEq, Repr

/-- A run in progress (R178): its result, its causes, the pools it puts in force, the slices it retires and makes
replacements. -/
structure RunSt where
  result : Placement
  causes : Nat
  pools : Option (Tbl PoolReg)
  retire : List Nat
  promote : List Nat
  change : Bool
  deriving DecidableEq, Repr

/-- The audit of a tick (R199): its slices, the input line number it waits for, its seed; input lines that the target has read
since it began; the first line of each frame, by stream and frame, at or after that number; the audited line, by stream and
LINE, once the target has emitted it. -/
structure AuditSt where
  auditor : Nat
  target : Nat
  ordinal : Nat
  seed : Nat
  reads : Nat
  firsts : List (Nat × Nat × Nat)
  line : Option (Nat × Nat)
  deriving DecidableEq, Repr

/-- The placement machinery and the slice audit. -/
structure PlcSt where
  force : Placement
  /-- The layout of each generation still needed by an open herd, newest first: generation, channels, region offsets. -/
  layouts : List (Nat × Placement)
  pools : Tbl PoolReg
  run : Option RunSt
  /-- Triggers since the last run started, as the CAUSE bits of R196. -/
  trig : Nat
  submit : Bool
  /-- Output streams whose EN is 0 in the demand in force, rising; streams refused at a submit (R186). -/
  off : List Nat
  refused : List Nat
  /-- Nodes that have joined. -/
  joined : List Nat
  /-- Pools that a reset invalidated, until the next submit (R272). -/
  poolReset : List Nat
  /-- Trained host link as placement knows it: width, and rate in half GT/s. -/
  width : Nat
  gts : Nat
  /-- Slices confirmed faulty, and slices retired in the placement that still finish old lines (R201). -/
  confirmed : List Nat
  leaving : List Nat
  audit : Option AuditSt
  /-- The suspicion: target, raising spare, boundaries left, whether two spares existed. -/
  suspect : Option (Nat × Nat × Nat × Bool)
  /-- Strikes of a spare: herd numbers at which they were given. -/
  strikes : Tbl (List Nat)
  /-- The boundary at which PLACEMENT_PUBLISH last published ahead of TICK_BOUNDARY, in TU (R178). -/
  pubAt : Option Nat
  /-- Slice returns accepted for the next boundary (R414). -/
  returns : List Nat
  /-- The operating second at which a slice last returned. -/
  returned : Tbl Nat
  deriving DecidableEq, Repr

/-! ### Graze (chapter 08) -/

/-- The graze request in service (R207): its 32 bytes, queue index, slice, the next input line, output lines written,
flags, input lines read. -/
structure GrzServe where
  req : List Byte
  /-- The number of its frame record. -/
  fid : Nat
  idx : Nat
  slice : Nat
  next : Nat
  done : Nat
  flags : Nat
  /-- Live commits applied up to its frame's SOF (R204). -/
  commits : Nat
  ctx : List SrcLine
  deriving DecidableEq, Repr

/-- Graze serving: the request in service, the poisoned words of the queue (entry · 8 + word), the budgets left. -/
structure GrzSt where
  serve : Option GrzServe
  poisoned : List Nat
  cyc : Nat
  lst : Nat
  host : Nat
  /-- The completion record of an aborted request that awaits Bus Master Enable (R270): its queue and body. -/
  held : Option (Nat × List Byte)
  deriving DecidableEq, Repr

/-! ### Channels and completion queues (chapter 09) -/

/-- A descriptor in progress: what has been asked for, read and written, and how it stands. -/
structure DescRun where
  d : Desc
  /-- Bytes it may move (all, or the bursts requested so far, R247); bytes asked for; bytes written or compared from
  the start without a hole. -/
  granted : Nat
  asked : Nat
  done : Nat
  /-- Blocks received beyond the first hole: offset, bytes, poisoned. -/
  ahead : List (Nat × List Byte × Bool)
  /-- The lowest offset whose read failed, and its CAUSE. -/
  fail : Option (Nat × Nat)
  /-- Offset of the first difference of a COMPARE. -/
  diff : Option Nat
  /-- Offset of the first poisoned byte met, and the offset of an uncorrectable internal error to be met (R241,
  R243). -/
  poisonAt : Option Nat
  ueAt : Option Nat
  /-- STATUS and CAUSE when it has ended and awaits its write-back. -/
  ended : Option (Nat × Nat)
  deriving DecidableEq, Repr

/-- A general channel. -/
structure ChanSt where
  /-- The descriptor fetched and not begun. -/
  head : Option Desc
  cur : Option DescRun
  /-- The address of the next descriptor once a LINK has moved it (R240). -/
  linked : Option Nat
  /-- A descriptor with OWN = 0 stops fetching until the next doorbell (R225). -/
  ownWait : Bool
  /-- Descriptors ended by R269 whose write-back waits for Bus Master Enable: STATUS, CAUSE, DONE, failing address. -/
  held : List (Desc × Nat × Nat × Nat × Nat)
  /-- It owes its HOST_PAUSED record (R270). -/
  hostPaused : Bool
  /-- What R246 lets it move: when that was last reckoned, in elapsed TU, and what it had spent of its 4,096 bytes then, as
  `shareUnit` has it. -/
  shareAt : Nat
  spent : Nat
  deriving DecidableEq, Repr

/-- Descriptors of a pool fetched and not taken, in the order they came; the next to fetch; and OWN stalls. -/
structure PoolSt where
  cache : List Desc
  fetchIdx : Nat
  ownWait : Bool
  deriving DecidableEq, Repr

/-- Channels, pools, and the DMA registers as in force since the last boundary. -/
structure DmaSt where
  chan : Tbl ChanSt
  pool : Tbl PoolSt
  /-- How many records each completion queue's PI is ahead of its CI (R250). -/
  cqLag : Tbl Nat
  /-- Herd buffers ended by R269 whose write-back waits for Bus Master Enable, with their herds and NOBUF. -/
  heldBufs : List (HerdBuf × Nat × Bool)
  dlvRo : Bool
  wmkEn : Bool
  wmkBase : Nat
  deriving DecidableEq, Repr

/-! ### The PCI Express endpoint (chapter 10) -/

/-- What an outstanding non-posted request was sent for (R239, R242, R265). -/
inductive TagUse where
  /-- A descriptor fetch of general channel c: ring index. -/
  | fetchCh (c idx : Nat)
  /-- A descriptor fetch of pool p: ring index. -/
  | fetchPool (p idx : Nat)
  /-- H2I or COMPARE data of channel c: offset in its descriptor and length. -/
  | data (c ofs len : Nat)
  deriving DecidableEq, Repr

/-- One outstanding request: its tag, its use, and whether its data is to be discarded (R269). -/
structure TagSt where
  tag : Nat
  use : TagUse
  discard : Bool
  deriving DecidableEq, Repr

/-- The PCI Express function and link. -/
structure EpSt where
  /-- The writable bits of the BAR registers, by index 0–5 (R256). -/
  bars : Tbl Word
  mse : Bool
  bme : Bool
  intDis : Bool
  d3 : Bool
  pmeEn : Bool
  pmeSts : Bool
  /-- Max_Payload_Size and Max_Read_Request_Size, as encoded: 128 shifted left by the value. -/
  mps : Nat
  mrrs : Nat
  roEn : Bool
  cto : Nat
  tag10 : Bool
  tag14 : Bool
  aspmL1 : Bool
  ptmEn : Bool
  /-- Device Control: reporting enables of correctable, non-fatal, fatal errors, and unsupported requests; and the four
  bits of Device Status that say one was detected. -/
  errEn : Nat
  errSts : Nat
  /-- Cache Line Size and Interrupt Line, which the hub does not use. -/
  cacheLine : Nat
  intLine : Nat
  /-- Lane Margining at the Receiver (R253): each lane's control word, and above it its status word, where they are not at
  their defaults. -/
  margin : Tbl Word
  msiEn : Bool
  msiMme : Nat
  msiMask : Word
  msiPend : Word
  msiAddr : BitVec 64
  msiData : Word
  msixEn : Bool
  msixFm : Bool
  deriving DecidableEq, Repr

/-- The endpoint's working state. -/
structure HepSt where
  /-- MSI-X table words that differ from reset (every vector masked, all else 0), by word index. -/
  msixTbl : Tbl Word
  /-- Vectors pending in the PBA, and sources pending in HEP_IRQ_PEND, both rising. -/
  pba : List Nat
  irqPend : List Nat
  inta : Bool
  wakeN : Bool
  flrBusy : Bool
  /-- PERST_N is asserted. -/
  perst : Bool
  /-- Device time at which the link went down (R287). -/
  downSince : Option Nat
  /-- AER status words, uncorrectable and correctable, their masks, the severities, and the header log (R284). -/
  aerUnc : Word
  aerCor : Word
  aerUncMask : Word
  aerSev : Word
  aerCorMask : Word
  aerHdr : List Word
  aerHdrOvf : Bool
  /-- Tags outstanding, oldest first; tags quarantined (R274); tags freed, least recently first (R265). -/
  tags : List TagSt
  quar : List Nat
  freed : List Nat
  /-- The previous ATT generation while TLPs bound to it remain, and a commit that waits for it (R262). -/
  attOld : Option (Tbl Word)
  attWait : Bool
  deriving DecidableEq, Repr

/-! ### Access paths -/

/-- What each access path holds for itself (R427). -/
structure PathSt where
  /-- Latched high words by register address (R7, R57), since start. -/
  latch : Tbl Word
  modeReq : Nat
  grzReq : Tbl Word
  cursor : Nat
  autoInc : Bool
  /-- READY, a load in progress, and what the window shows (empty: the slot as it stands). -/
  ready : Bool
  loading : Bool
  window : List Word
  /-- A write to a reserved address was logged since start (R8). -/
  rsvLogged : Bool
  deriving DecidableEq, Repr

/-! ### Two-wire buses (chapter 14) -/

/-- What the two-wire ports hold beside their registers. -/
structure BusSt where
  /-- The management port holds SCL low during a wake; it has released it, and serves its own block before step 11 ends
  (R362, R363); MG_RST_N is low (R360). -/
  stretch : Bool
  served : Bool
  rst : Bool
  /-- Local ports whose bus was left STUCK (R367). -/
  stuck : List Nat
  /-- Tunnel slots in the order of their GO writes, while they are QUEUED, and the uses of each slot (R368). -/
  order : List Nat
  uses : Tbl Nat
  /-- The LW_CMD and TUN_CMD words as the last GO found them. -/
  lwCmd : Tbl Word
  tunCmd : Tbl Word
  deriving DecidableEq, Repr

/-! ### What the hub sends -/

/-- One thing the hub has put on an interface, in the model's own record `sent` (log entry 5). -/
inductive Out where
  /-- A posted write to host memory: address, bytes, Relaxed Ordering, poisoned (EP). -/
  | hostWrite (addr : Nat) (data : List Byte) (ro ep : Bool)
  /-- A read request to host memory: tag, address, length. -/
  | hostRead (tag addr len : Nat)
  /-- An MSI-X message: vector, address, data. -/
  | msix (vec addr : Nat) (data : Word)
  /-- An MSI message: vector. -/
  | msi (vec : Nat)
  | assertInta
  | deassertInta
  /-- A completion to a host request; `none` is Unsupported Request. -/
  | completion (data : Option (List Byte)) (ep : Bool)
  /-- A configuration completion with Request Retry Status. -/
  | retryStatus
  /-- A PM_PME message, a PTM Request message, an error message (0 correctable, 1 non-fatal, 2 fatal). -/
  | pmPme
  | ptmRequest
  | errMsg (sev : Nat)
  /-- The value a register read returned on a path. -/
  | readData (path : Path) (v : Word)
  /-- The bytes `be` of a register that a read on a path asked for, the others 0; poisoned (EP) or not (R9, R286). -/
  | readPart (path : Path) (be : BitVec 4) (v : Word) (ep : Bool)
  /-- A pin edge at a device time in TU: pin name, index, level. -/
  | pin (name : String) (idx : Nat) (level : Bool) (at48 : Nat)
  /-- A transaction begun on local port w: target, OP, bytes to write, bytes to read. -/
  | lw (w target op : Nat) (data : List Byte) (rlen : Nat)
  /-- What the management port drove in the acknowledge slots of a frame (R354): ACK in so many, and then NACK or nothing. -/
  | mgtAcks (acks : Nat) (nack : Bool)
  /-- Bytes that the management port sent in a read frame, PEC included. -/
  | mgt (bytes : List Byte)
  /-- Line bits a transmitter of port p sent. -/
  | line (p : Nat) (bits : List Bool)
  deriving DecidableEq, Repr

/-- The whole hub. -/
structure State where
  /-- Every register's stored word, by address, where it differs from its reset value (R6, R422, R424). -/
  regs : Tbl Word
  aon : AonSt
  start : StartSt
  time : TimeSt
  recs : RecSt
  led : LedSt
  link : LinkSt
  ep : EpSt
  hep : HepSt
  data : DataSt
  herds : List Herd
  modes : ModeSt
  plc : PlcSt
  grz : GrzSt
  dma : DmaSt
  /-- The image in force; `none` in Refuge and before the first start. -/
  image : Option Image
  sec : SecSt
  pwr : PwrSt
  bus : BusSt
  pBar0 : PathSt
  pMgmt : PathSt
  pJtag : PathSt
  /-- The external flash: bytes that do not read 0xFF (R290), and log slots whose open or close programs fail (R385), as the last
  start found. -/
  flash : Tbl Byte
  badSlots : List Nat
  badTails : List Nat
  /-- The address and page of the flash command in progress (R310). -/
  flCmd : Option (Nat × List Byte)
  /-- Free values drawn so far (log entry 2). -/
  freeCtr : Nat
  /-- What the hub has sent, oldest first (log entry 5). -/
  sent : List Out
  /-- The commands that wait, first in first out. -/
  pending : List Instr
  deriving DecidableEq, Repr

/-- No command of this block ends the hub in a fault: a start that fails, a rail fault, Refuge are states of it. -/
inductive Fault where
  deriving DecidableEq, Repr

/-- Why a command has no meaning. -/
inductive Refusal where
  /-- Raised only by an arm of Machine/Dispatch.lean for a row that has no meaning yet; safe, since nothing about the
  hub follows from it. -/
  | notModelled (mnemonic : String)
  deriving DecidableEq, Repr

/-- What a command answers. -/
abbrev Result := Host.Outcome State Fault Refusal

/-! ### Reset -/

/-- The endpoint's non-sticky configuration at its defaults (R271). -/
def epReset : EpSt where
  bars := []
  mse := false
  bme := false
  intDis := false
  d3 := false
  pmeEn := false
  pmeSts := false
  mps := 0
  mrrs := 2
  roEn := true
  cto := 0
  tag10 := false
  tag14 := false
  aspmL1 := false
  ptmEn := false
  errEn := 0
  errSts := 0
  cacheLine := 0
  intLine := 0
  margin := []
  msiEn := false
  msiMme := 0
  msiMask := 0
  msiPend := 0
  msiAddr := 0
  msiData := 0
  msixEn := false
  msixFm := false

/-- Device time before a start (R42). -/
def timeReset : TimeSt :=
  { tu := 0, elapsed := 0, frac := 0, inc := 16 * 2 ^ 32, incLo := 0, incNext := none, adjLo := 0, adj := none, rate := 30
    gridFrom := 0, hist := [], planTo := 0, cmp := [], pulseEnd := [], capt := [], captShort := [], ppsIn := none, ppsOut := none
    ref10m := 0, ptmT1 := none, ptmRtt := none, rounds := [], due := [], measured := [], roundFails := [], missed := [] }

/-- Parts that pass every test of a start (log entry 58). -/
def hwReset : Found :=
  { flashOk := true, badRows := [], mgmtBad := false, badSlices := [], noSusp := false, shadowBad := false, repairBad := false
    imageBad := false, sessBad := false, badOpens := [], badCloses := [], ms := 0 }

/-- No start has begun: VDD_AON is absent. -/
def startReset : StartSt :=
  { phase := .off, railsUp := 0, waitFor := 0, warm := false, toLimp := false, fwBusy := false, fwTimes := [], fwHeld := []
    step11 := 0, clearDue := [], watch := false, fresh := true, hw := hwReset, addrPins := 0 }

/-- The always-on island after VDD_AON was absent (R43, R44). -/
def aonReset : AonSt := { herd := 0, sec := 0, alarm := 0, armed := false, fired := false }

/-- The hoofprint log before a start opens it. -/
def recReset : RecSt :=
  { next := 0, openRec := none, aonCopy := none, full := false, clear := none, held := [], heldOver := 0, rateCount := 0
    rateHit := false, suppress := [] }

/-- An empty ledger: zeros, bank A primary (R397). -/
def ledZero : LedSt :=
  { gen := 0, opsec := 0, pwrcyc := 0, primaryB := false, recSeq := 0, dropped := 0, clears := 0, retrain := [], poc := []
    erase := [], temp := [], age := [], cal := [], ageWarned := [], pend := false, urgent := false, loaded := false
    lastOpsec := 0, sector := 0 }

/-- Every link idle. -/
def linkReset : LinkSt :=
  { rx := [], tx := [], bond := [], port := [], sensor := [], lastUid := [], dieTemp := [], dieHot := [], sess := []
    keyQueue := [], rekeyQueue := [], sids := [] }

/-- The endpoint's working state after a cold start: Advisory Non-Fatal and internal errors masked, the severities of PCI
Express Base 6.0 (R284; log entry 32). -/
def hepReset : HepSt :=
  { msixTbl := [], pba := [], irqPend := [], inta := false, wakeN := false, flrBusy := false, perst := false, downSince := none
    aerUnc := 0, aerCor := 0, aerUncMask := 0x00400000#32, aerSev := 0x00462030#32, aerCorMask := 0x0000E000#32, aerHdr := []
    aerHdrOvf := false, tags := [], quar := [], freed := [], attOld := none, attWait := false }

/-- No stream has sent anything; table memory reads 0. -/
def dataReset : DataSt := { str := [], outq := [], tbl := [], poison := [], spares := [] }

/-- No request, no switch, no host loss. -/
def modeReset : ModeSt :=
  { reqs := [], switching := none, limpN := false, loss := 0, beats := 0, lastBeat := 0, prevBeat := none
    quorum := false, barred := [], parkRef := [], parkRun := [] }

/-- Nothing is placed. -/
def placeNone : Placement := { ins := [], outs := [], chans := [] }

/-- Placement before its first run; the host link counts as x16 at 64 GT/s until it has trained (log entry 59). -/
def plcReset : PlcSt :=
  { force := placeNone, layouts := [], pools := [], run := none, trig := 0, submit := false, off := [], refused := []
    joined := [], poolReset := [], width := 16, gts := 128, confirmed := [], leaving := [], audit := none, suspect := none
    strikes := [], pubAt := none, returns := [], returned := [] }

/-- No graze request. -/
def grzReset : GrzSt := { serve := none, poisoned := [], cyc := 0, lst := 0, host := 0, held := none }

/-- No channel is enabled. -/
def dmaReset : DmaSt := { chan := [], pool := [], cqLag := [], heldBufs := [], dlvRo := false, wmkEn := false, wmkBase := 0 }

/-- OTP as it leaves manufacture: a UID alone (R330; log entry 65). -/
def secReset : SecSt :=
  { otp := [(0x10, 1#8)], otpBad := [], op := none, chalAt := none, shadow := false, repair := false, digest := [], keyIdx := 0, otpSame := false
    coldImage := false, jtag := .bypass }

/-- No rail and no channel is on. -/
def pwrReset : PwrSt :=
  { warnRun := [], faultRun := [], queue := [], due := [], boot := [], oc := [], opn := [], vinHi := 0, vinLo := 0, faults := []
    clrs := [] }

/-- Every two-wire bus idle. -/
def busReset : BusSt := { stretch := false, served := false, rst := false, stuck := [], order := [], uses := [], lwCmd := [], tunCmd := [] }

/-- A path that has done nothing since the start; GLB_MODE_REQ reads 1. -/
def pathReset : PathSt :=
  { latch := [], modeReq := 1, grzReq := [], cursor := 0, autoInc := false, ready := false, loading := false
    window := List.replicate 8 0xFFFFFFFF#32, rsvLogged := false }

/-- The hub before VDD_AON is applied (log entry 4): every register at its reset value, flash erased. -/
def State.reset : State :=
  { regs := [], aon := aonReset, start := startReset, time := timeReset, recs := recReset, led := ledZero, link := linkReset
    ep := epReset, hep := hepReset, data := dataReset, herds := [], modes := modeReset, plc := plcReset, grz := grzReset
    dma := dmaReset, image := none, sec := secReset, pwr := pwrReset, bus := busReset, pBar0 := pathReset, pMgmt := pathReset, pJtag := pathReset
    flash := [], badSlots := [], badTails := [], flCmd := none, freeCtr := 0, sent := [], pending := [] }

end Sys2Proof.Machine
end

