-- ==== Sys2Proof/Machine/Ops.lean ====
section
/-! DEFINITION. The named operations over the hub's state that every meaning is written with: sparse arrays,
registers and their fields, bytes, flash, the access paths, the record of what is sent, free values. -/

namespace Sys2Proof.Machine

/-! ### Sparse arrays -/

/-- What key `a` reads as; `d` gives the value of an unlisted key. -/
def tblGet {α : Type} (d : Nat → α) : Tbl α → Nat → α
  | [], a => d a
  | (k, v) :: t, a => if k = a then v else tblGet d t a

/-- Insert an entry where its key belongs; the key is not in the list. -/
def tblIns {α : Type} (a : Nat) (v : α) : Tbl α → Tbl α
  | [] => [(a, v)]
  | (k, w) :: t => if a < k then (a, v) :: (k, w) :: t else (k, w) :: tblIns a v t

/-- Drop every entry of key `a`. -/
def tblDel {α : Type} (a : Nat) : Tbl α → Tbl α
  | [] => []
  | (k, w) :: t => if k = a then tblDel a t else (k, w) :: tblDel a t

/-- Write `v` at key `a`, keeping the canonical form: the value an unlisted key reads as is not listed. -/
def tblSet {α : Type} [DecidableEq α] (d : Nat → α) (t : Tbl α) (a : Nat) (v : α) : Tbl α :=
  if v = d a then tblDel a t else tblIns a v (tblDel a t)

/-- The canonical form: keys strictly rising from `lo`, no entry equal to what an unlisted key reads as. -/
def tblWfFrom {α : Type} [DecidableEq α] (d : Nat → α) : Nat → Tbl α → Bool
  | _, [] => true
  | lo, (k, v) :: t => decide (lo ≤ k) && (decide (v ≠ d k) && tblWfFrom d (k + 1) t)

/-- The canonical form of a sparse array. -/
def tblWf {α : Type} [DecidableEq α] (d : Nat → α) (t : Tbl α) : Bool := tblWfFrom d 0 t

/-- A counter array reads 0 where nothing is listed. -/
def zeroN : Nat → Nat := fun _ => 0

/-- An array of optional entries reads `none` where nothing is listed. -/
def tblOpt {α : Type} : Tbl α → Nat → Option α
  | [], _ => none
  | (k, v) :: t, a => if k = a then some v else tblOpt t a

/-- Put or drop an optional entry. -/
def tblPut {α : Type} (t : Tbl α) (a : Nat) (v : Option α) : Tbl α :=
  match v with
  | some x => tblIns a x (tblDel a t)
  | none => tblDel a t

/-- Insert into a strictly rising list of numbers. -/
def setIns (a : Nat) : List Nat → List Nat
  | [] => [a]
  | k :: t => if a < k then a :: k :: t else if a = k then k :: t else k :: setIns a t

/-! ### Bits and bytes -/

/-- Bit `i` of `n` as 0 or 1, and bits `lo` up for `w` bits. -/
def bitsOf (n lo w : Nat) : Nat := n / 2 ^ lo % 2 ^ w

/-- Whether bit `i` of a word is 1. -/
def bitOn (v : Word) (i : Nat) : Bool := v.getLsbD i

/-- `n` as `k` bytes, least significant first. -/
def leBytes : Nat → Nat → List Byte
  | 0, _ => []
  | k + 1, n => BitVec.ofNat 8 n :: leBytes k (n / 256)

/-- The number that bytes spell, least significant first. -/
def ofLe : List Byte → Nat
  | [] => 0
  | b :: t => b.toNat + 256 * ofLe t

/-- `n` as `k` bytes, most significant first. -/
def beBytes (k n : Nat) : List Byte := (leBytes k n).reverse

/-- The number that bytes spell, most significant first. -/
def ofBe (l : List Byte) : Nat := ofLe l.reverse

/-- Two's complement of a w-bit field as an integer. -/
def signed (w n : Nat) : Int := if n < 2 ^ (w - 1) then (n : Int) else (n : Int) - (2 ^ w : Nat)

/-- The w-bit two's complement field of an integer. -/
def unsigned (w : Nat) (i : Int) : Nat := (i % ((2 ^ w : Nat) : Int)).toNat

/-- Integer division rounded half up. -/
def divRound (a : Int) (b : Nat) : Int := (2 * a + b) / (2 * b : Nat)

/-- Division of naturals rounded up; 0 where the divisor is 0. -/
def ceilDiv (a b : Nat) : Nat := if b = 0 ∨ a % b = 0 then a / b else a / b + 1

/-- Pad on the right with zero bytes to length `n`, or cut to it. -/
def padTo (n : Nat) (l : List Byte) : List Byte := (l ++ List.replicate (n - l.length) 0#8).take n

/-- One bit into a reflected CRC-32C register. -/
def crcBit (c : Nat) : Nat := if c % 2 = 1 then (c / 2) ^^^ 0x82F63B78 else c / 2

/-- One byte into a reflected CRC-32C register. -/
def crcByte (c : Nat) (b : Byte) : Nat :=
  crcBit (crcBit (crcBit (crcBit (crcBit (crcBit (crcBit (crcBit (c ^^^ b.toNat))))))))

/-- CRC-32C of a byte string (R92). -/
def crc32c (l : List Byte) : Nat := (l.foldl crcByte 0xFFFFFFFF) ^^^ 0xFFFFFFFF

/-! ### Registers and fields -/

/-- A field of a register word. -/
def fldGet (r : Word) (lo w : Nat) : Nat := (r.extractLsb' lo w).toNat

/-- The mask of a field. -/
def fldMask (lo w : Nat) : Word := (BitVec.allOnes w).setWidth 32 <<< lo

/-- A register word with one field replaced. -/
def fldPut (r : Word) (lo w v : Nat) : Word :=
  (r &&& ~~~ fldMask lo w) ||| ((BitVec.ofNat w v).setWidth 32 <<< lo)

/-- The stored word of the register at an address. -/
def State.reg (s : State) (a : Nat) : Word := tblGet regReset s.regs a

/-- Store a register's word. -/
def State.setReg (s : State) (a : Nat) (v : Word) : State := { s with regs := tblSet regReset s.regs a v }

/-- A field of a stored register. -/
def State.fld (s : State) (f : Fld) : Nat := fldGet (s.reg f.addr) f.lo f.w

/-- Whether a one-bit field is 1. -/
def State.flag (s : State) (f : Fld) : Bool := s.fld f != 0

/-- Replace a field of a stored register. -/
def State.setFld (s : State) (f : Fld) (v : Nat) : State := s.setReg f.addr (fldPut (s.reg f.addr) f.lo f.w v)

/-- Set or clear a one-bit field. -/
def State.setFlag (s : State) (f : Fld) (b : Bool) : State := s.setFld f (if b then 1 else 0)

/-- A quantity held in two registers, low word first (R7): the low word and `w` bits of the high one. -/
def State.pair (s : State) (lo w : Nat) : Nat := (s.reg lo).toNat + 2 ^ 32 * fldGet (s.reg (lo + 4)) 0 w

/-- Store a quantity in two registers, keeping the high word's other bits. -/
def State.setPair (s : State) (lo w v : Nat) : State :=
  (s.setReg lo (BitVec.ofNat 32 v)).setReg (lo + 4) (fldPut (s.reg (lo + 4)) 0 w (v / 2 ^ 32))

/-! ### Access paths, the record of what is sent, free values -/

/-- What a path holds for itself. -/
def State.path (s : State) : Path → PathSt
  | .bar0 => s.pBar0
  | .mgmt => s.pMgmt
  | .jtag => s.pJtag

/-- Replace what a path holds. -/
def State.setPath (s : State) (p : Path) (x : PathSt) : State :=
  match p with
  | .bar0 => { s with pBar0 := x }
  | .mgmt => { s with pMgmt := x }
  | .jtag => { s with pJtag := x }

/-- Note one thing sent. -/
def State.emit (s : State) (o : Out) : State := { s with sent := s.sent ++ [o] }

/-- Note several things sent, in order. -/
def State.emits (s : State) (l : List Out) : State := { s with sent := s.sent ++ l }

/-- The next free value of width w. -/
def State.free (s : State) (w : Nat) : Nat := (Config.freeBits w s.freeCtr).toNat

/-- The state after a free value is drawn. -/
def State.drawn (s : State) : State := { s with freeCtr := s.freeCtr + 1 }

/-- `n` free bytes, from the counter on. -/
def State.freeBytes (s : State) (n : Nat) : List Byte :=
  (List.range n).map fun i => Config.freeBits 8 (s.freeCtr + i)

/-- The state after `n` free values are drawn. -/
def State.drawnN (s : State) (n : Nat) : State := { s with freeCtr := s.freeCtr + n }

/-! ### Time -/

/-- Time units in a second (R40). -/
def tuPerSec : Nat := 16000000000

/-- Device time wraps where SEC[47:0] does (R40). -/
def tuMod : Nat := 2 ^ 48 * tuPerSec

/-- ST48 of a TU count (R41). -/
def st48 (t : Nat) : Nat := t % 2 ^ 48

/-- The signed difference of two ST48 values (R45). -/
def sdiff (a b : Nat) : Int := signed 48 (unsigned 48 ((a : Int) - b))

/-- The present device time in TU. -/
def State.now (s : State) : Nat := s.time.tu

/-- Device time in milliseconds. -/
def State.nowMs (s : State) : Nat := s.time.tu / 16000000

/-- Device time reaches `t`, if it has not passed it. The spec carries a fraction of a TU from cycle to cycle (R46) and does not say
what it is at a commanded instant; the model sets it to 0 there (DESIGN CHOICE, log entry 13). -/
def State.advance (s : State) (t : Nat) : State :=
  { s with time := { s.time with
      tu := max s.time.tu t
      frac := if s.time.tu < t then 0 else s.time.frac
      elapsed := s.time.elapsed + (t - s.time.tu)
      inc := if s.time.tu < t then s.time.incNext.getD s.time.inc else s.time.inc
      incNext := if s.time.tu < t then none else s.time.incNext } }

/-! ### OTP and flash -/

/-- Bytes of the OTP (R330). -/
def State.otp (s : State) (o n : Nat) : List Byte := (List.range n).map fun i => tblGet (fun _ => 0#8) s.sec.otp (o + i)

/-- An erased flash byte. -/
def erased : Nat → Byte := fun _ => 0xFF#8

/-- One byte of flash. -/
def State.flashByte (s : State) (a : Nat) : Byte := tblGet erased s.flash a

/-- `n` bytes of flash from `a`. -/
def State.flashRead (s : State) (a n : Nat) : List Byte := (List.range n).map fun i => s.flashByte (a + i)

/-- Program bytes: a program turns 1 bits to 0 and leaves 0 bits. -/
def flashProg (t : Tbl Byte) : Nat → List Byte → Tbl Byte
  | _, [] => t
  | a, b :: l => flashProg (tblSet erased t a (tblGet erased t a &&& b)) (a + 1) l

/-- Program flash from `a`. -/
def State.program (s : State) (a : Nat) (l : List Byte) : State := { s with flash := flashProg s.flash a l }

/-- Erase `n` bytes from `a`. -/
def State.eraseRange (s : State) (a n : Nat) : State :=
  { s with flash := s.flash.filter fun p => p.1 < a || a + n ≤ p.1 }

end Sys2Proof.Machine
end

