-- ==== Sys2Proof/Machine/Crypto.lean ====
section
/-! DEFINITION. The published algorithms that the spec names: SHA-256 and SHA-384, HMAC and HKDF (R336–R339, R341), ECDSA
and ECDH on P-256 and P-384 (R293, R334, R336, R338), AES-256-GCM (R296, R342), and the X.509 items of R337. PRESUMED
from their standards: the spec names them and gives none of their arithmetic. Log entry 33. -/

namespace Sys2Proof.Machine

/-! ### SHA-2 -/

/-- The primes below 410, of which there are 80. -/
def primes : List Nat :=
  ((List.range 408).map (· + 2)).filter fun n => (List.range 19).all fun d => n % (d + 2) != 0 || n == d + 2

/-- The whole part of the k-th root of a number, bit by bit from bit `i` down. -/
def rootFrom (k n : Nat) : Nat → Nat → Nat
  | 0, r => r
  | i + 1, r => rootFrom k n i (if (r + 2 ^ i) ^ k ≤ n then r + 2 ^ i else r)

/-- The first `b` bits of the fraction of the k-th root of a prime below 410. -/
def rootFrac (k b p : Nat) : Nat := rootFrom k (p * 2 ^ (k * b)) (b + 5) 0 % 2 ^ b

/-- The round constants of 64 bits: the fractions of the cube roots of the first 80 primes. SHA-256 uses the upper halves of
the first 64. -/
def shaK : List Nat := primes.map (rootFrac 3 64)

/-- The words that a SHA-2 size starts from: the fractions of the square roots of eight primes from the `from'`-th on. -/
def shaStart (w from' : Nat) : List (BitVec w) := ((primes.drop from').take 8).map fun p => BitVec.ofNat w (rootFrac 2 w p)

/-- The rotations and shifts of one SHA-2 size: Σ0, Σ1, σ0 (its third a shift), σ1 (its third a shift). -/
structure ShaRot where
  S0 : Nat × Nat × Nat
  S1 : Nat × Nat × Nat
  s0 : Nat × Nat × Nat
  s1 : Nat × Nat × Nat

/-- XOR of three rotations. -/
def rot3 {w : Nat} (x : BitVec w) (r : Nat × Nat × Nat) : BitVec w :=
  x.rotateRight r.1 ^^^ x.rotateRight r.2.1 ^^^ x.rotateRight r.2.2

/-- XOR of two rotations and a shift. -/
def rot2 {w : Nat} (x : BitVec w) (r : Nat × Nat × Nat) : BitVec w :=
  x.rotateRight r.1 ^^^ x.rotateRight r.2.1 ^^^ x >>> r.2.2

/-- Extend a message schedule, newest word first. -/
def shaExtend {w : Nat} (r : ShaRot) : Nat → List (BitVec w) → List (BitVec w)
  | 0, l => l
  | n + 1, l =>
    shaExtend r n ((rot2 (l.getD 1 0) r.s1 + l.getD 6 0 + rot2 (l.getD 14 0) r.s0 + l.getD 15 0) :: l)

/-- One round over the eight working words. -/
def shaRound {w : Nat} (r : ShaRot) (v : List (BitVec w)) (kw : BitVec w × BitVec w) : List (BitVec w) :=
  match v with
  | [a, b, c, d, e, f, g, h] =>
    let t1 := h + rot3 e r.S1 + ((e &&& f) ^^^ (~~~e &&& g)) + kw.1 + kw.2
    let t2 := rot3 a r.S0 + ((a &&& b) ^^^ (a &&& c) ^^^ (b &&& c))
    [t1 + t2, a, b, c, d + t1, e, f, g]
  | _ => v

/-- Big-endian words of a byte string. -/
def beWords (w : Nat) : Nat → List Byte → List (BitVec w)
  | 0, _ => []
  | n + 1, l => BitVec.ofNat w (ofBe (l.take (w / 8))) :: beWords w n (l.drop (w / 8))

/-- Compress one block. -/
def shaBlock {w : Nat} (r : ShaRot) (ks : List (BitVec w)) (v : List (BitVec w)) (blk : List Byte) : List (BitVec w) :=
  let sched := (shaExtend r (ks.length - 16) (beWords w 16 blk).reverse).reverse
  List.zipWith (· + ·) v ((ks.zip sched).foldl (shaRound r) v)

/-- Compress every block of a padded message. -/
def shaRun {w : Nat} (r : ShaRot) (ks : List (BitVec w)) : Nat → List (BitVec w) → List Byte → List (BitVec w)
  | 0, v, _ => v
  | n + 1, v, m => shaRun r ks n (shaBlock r ks v (m.take (2 * w))) (m.drop (2 * w))

/-- Pad a message to whole blocks of `b` bytes with a length field of `f` bytes. -/
def shaPad (b f : Nat) (m : List Byte) : List Byte :=
  let z := (b - (m.length + 1 + f) % b) % b
  m ++ [0x80#8] ++ List.replicate z 0#8 ++ beBytes f (8 * m.length)

/-- SHA-256. -/
def sha256 (m : List Byte) : List Byte :=
  let ks := (shaK.take 64).map fun k => BitVec.ofNat 32 (k / 2 ^ 32)
  let p := shaPad 64 8 m
  (shaRun ⟨(2, 13, 22), (6, 11, 25), (7, 18, 3), (17, 19, 10)⟩ ks (p.length / 64) (shaStart 32 0) p).flatMap
    fun x => beBytes 4 x.toNat

/-- SHA-384. -/
def sha384 (m : List Byte) : List Byte :=
  let ks := shaK.map (BitVec.ofNat 64)
  let p := shaPad 128 16 m
  ((shaRun ⟨(28, 34, 39), (14, 18, 41), (1, 8, 7), (19, 61, 6)⟩ ks (p.length / 128) (shaStart 64 8) p).take 6).flatMap
    fun x => beBytes 8 x.toNat

/-! ### HMAC and HKDF -/

/-- The bytes of an ASCII string. -/
def ascii (t : String) : List Byte := t.toList.map fun c => BitVec.ofNat 8 c.toNat

/-- HMAC-SHA-256. -/
def hmac256 (key msg : List Byte) : List Byte :=
  let k := padTo 64 (if key.length > 64 then sha256 key else key)
  sha256 ((k.map (· ^^^ 0x5C#8)) ++ sha256 ((k.map (· ^^^ 0x36#8)) ++ msg))

/-- The blocks of HKDF-Expand. -/
def hkdfBlocks (prk info : List Byte) : Nat → Nat → List Byte → List Byte
  | 0, _, _ => []
  | n + 1, i, prev =>
    let t := hmac256 prk (prev ++ info ++ [BitVec.ofNat 8 i])
    t ++ hkdfBlocks prk info n (i + 1) t

/-- HKDF-SHA-256: `n` bytes (RFC 5869). -/
def hkdf256 (salt ikm info : List Byte) (n : Nat) : List Byte :=
  (hkdfBlocks (hmac256 salt ikm) info (ceilDiv n 32) 1 []).take n

/-! ### AES-256 and GCM -/

/-- Doubling in the field of AES. -/
def aesX (a : Nat) : Nat := if a < 128 then 2 * a else (2 * a) % 256 ^^^ 0x1B

/-- Multiplication in the field of AES. -/
def aesMul : Nat → Nat → Nat → Nat
  | 0, _, _ => 0
  | n + 1, a, b => (if b % 2 = 1 then a else 0) ^^^ aesMul n (aesX a) (b / 2)

/-- The 254th power, which inverts. -/
def aesInv (a : Nat) : Nat :=
  let m := aesMul 8
  let a2 := m a a
  let a3 := m a2 a
  let a6 := m a3 a3
  let a12 := m a6 a6
  let a15 := m a12 a3
  let a30 := m a15 a15
  let a60 := m a30 a30
  let a120 := m a60 a60
  let a126 := m a120 a6
  let a127 := m a126 a
  m a127 a127

/-- One entry of the S-box. -/
def aesSub (b : Byte) : Byte :=
  let i := BitVec.ofNat 8 (aesInv b.toNat)
  i ^^^ i.rotateLeft 1 ^^^ i.rotateLeft 2 ^^^ i.rotateLeft 3 ^^^ i.rotateLeft 4 ^^^ 0x63#8

/-- XOR of byte strings. -/
def xorBytes (a b : List Byte) : List Byte := List.zipWith (· ^^^ ·) a b

/-- Expand a 256-bit key: `n` more words, newest first, with the word count so far and the round constant. -/
def aesExpand : Nat → Nat → Nat → List (List Byte) → List (List Byte)
  | 0, _, _, l => l
  | n + 1, i, rc, l =>
    let t := l.headD []
    let u := l.getD 7 []
    if i % 8 = 0 then
      let r := (t.drop 1 ++ t.take 1).map aesSub
      aesExpand n (i + 1) (aesX rc) (xorBytes u (xorBytes r [BitVec.ofNat 8 rc, 0, 0, 0]) :: l)
    else if i % 8 = 4 then aesExpand n (i + 1) rc (xorBytes u (t.map aesSub) :: l)
    else aesExpand n (i + 1) rc (xorBytes u t :: l)

/-- Cut a byte string into pieces of `k`. -/
def pieces {α : Type} (k : Nat) : Nat → List α → List (List α)
  | 0, _ => []
  | n + 1, l => l.take k :: pieces k n (l.drop k)

/-- The 15 round keys. -/
def aesKeys (key : List Byte) : List (List Byte) :=
  (pieces 4 15 (aesExpand 52 8 1 (pieces 4 8 key).reverse).reverse).map List.flatten

/-- One column of MixColumns. -/
def aesMix (c : List Byte) : List Byte :=
  let g := fun i => (c.getD i 0).toNat
  (List.range 4).map fun i =>
    BitVec.ofNat 8 (aesX (g i) ^^^ (aesX (g ((i + 1) % 4)) ^^^ g ((i + 1) % 4)) ^^^ g ((i + 2) % 4) ^^^ g ((i + 3) % 4))

/-- SubBytes and ShiftRows. -/
def aesShift (s : List Byte) : List Byte :=
  (List.range 16).map fun i => aesSub (s.getD ((i + 4 * (i % 4)) % 16) 0)

/-- AES-256 of one block. -/
def aes256 (key blk : List Byte) : List Byte :=
  match aesKeys key with
  | [] => blk
  | k0 :: ks =>
    let s := (ks.take 13).foldl (fun s k => xorBytes ((pieces 4 4 (aesShift s)).flatMap aesMix) k) (xorBytes blk k0)
    xorBytes (aesShift s) (ks.getD 13 [])

/-- Multiplication in the field of GHASH, bit 0 the most significant. -/
def ghMul : Nat → Nat → Nat → Nat → Nat
  | 0, z, _, _ => z
  | n + 1, z, v, x =>
    ghMul n (if x.testBit n then z ^^^ v else z) (if v % 2 = 1 then v / 2 ^^^ (0xE1 * 2 ^ 120) else v / 2) x

/-- GHASH of whole blocks. -/
def ghash (h : Nat) : Nat → Nat → List Byte → Nat
  | 0, y, _ => y
  | n + 1, y, l => ghash h n (ghMul 128 0 h (y ^^^ ofBe (l.take 16))) (l.drop 16)

/-- Zero-fill to whole 16-byte blocks. -/
def fill16 (l : List Byte) : List Byte := l ++ List.replicate ((16 - l.length % 16) % 16) 0#8

/-- AES-256-GCM: the tag of a ciphertext and its additional data, under a 12-byte nonce. -/
def gcmTag (key nonce aad ct : List Byte) : List Byte :=
  let h := ofBe (aes256 key (List.replicate 16 0#8))
  let d := fill16 aad ++ fill16 ct ++ beBytes 8 (8 * aad.length) ++ beBytes 8 (8 * ct.length)
  xorBytes (beBytes 16 (ghash h (d.length / 16) 0 d)) (aes256 key (nonce ++ [0, 0, 0, 1]))

/-- The AES-256-GCM key stream over whole blocks, from counter `i`. -/
def gcmStream (key nonce : List Byte) : Nat → Nat → List Byte
  | 0, _ => []
  | n + 1, i => aes256 key (nonce ++ beBytes 4 i) ++ gcmStream key nonce n (i + 1)

/-- AES-256-GCM encryption and decryption, which are one operation. -/
def gcmCrypt (key nonce t : List Byte) : List Byte := xorBytes t (gcmStream key nonce (ceilDiv t.length 16) 2)

/-! ### Elliptic curves -/

/-- A curve y² = x³ − 3x + b over p, with base point g of order n, and its width in bytes. -/
structure Curve where
  p : Nat
  b : Nat
  n : Nat
  gx : Nat
  gy : Nat
  bytes : Nat

/-- P-256. -/
def p256 : Curve where
  p := 0xffffffff00000001000000000000000000000000ffffffffffffffffffffffff
  b := 0x5ac635d8aa3a93e7b3ebbd55769886bc651d06b0cc53b0f63bce3c3e27d2604b
  n := 0xffffffff00000000ffffffffffffffffbce6faada7179e84f3b9cac2fc632551
  gx := 0x6b17d1f2e12c4247f8bce6e563a440f277037d812deb33a0f4a13945d898c296
  gy := 0x4fe342e2fe1a7f9b8ee7eb4a7c0f9e162bce33576b315ececbb6406837bf51f5
  bytes := 32

/-- P-384. -/
def p384 : Curve where
  p := 0xfffffffffffffffffffffffffffffffffffffffffffffffffffffffffffffffeffffffff0000000000000000ffffffff
  b := 0xb3312fa7e23ee7e4988e056be3f82d19181d9c6efe8141120314088f5013875ac656398d8a2ed19d2a85c8edd3ec2aef
  n := 0xffffffffffffffffffffffffffffffffffffffffffffffffc7634d81f4372ddf581a0db248b0a77aecec196accc52973
  gx := 0xaa87ca22be8b05378eb1c71ef320ad746e1d3b628ba79b9859f741e082542a385502f25dbf55296c3a545e3872760ab7
  gy := 0x3617de4a96262c6f5d9e98bf9292dc29f8f41dbd289a147ce9da3113b5f0b8c00a60b1ce1d7e819d7a431d7c90ea0e5f
  bytes := 48

/-- A power modulo m, over `fuel` bits of the exponent. -/
def powMod (m : Nat) : Nat → Nat → Nat → Nat
  | 0, _, _ => 1 % m
  | f + 1, b, e => (if e % 2 = 1 then b else 1) * powMod m f (b * b % m) (e / 2) % m

/-- The inverse modulo a prime of at most 384 bits. -/
def invMod (m a : Nat) : Nat := powMod m 384 (a % m) (m - 2)

/-- A point in Jacobian coordinates; z = 0 is the point at infinity. -/
structure JPoint where
  x : Nat
  y : Nat
  z : Nat

/-- Doubling. -/
def Curve.dbl (c : Curve) (q : JPoint) : JPoint :=
  let m := c.p
  if q.z = 0 ∨ q.y = 0 then ⟨1, 1, 0⟩
  else
    let y2 := q.y * q.y % m
    let s := 4 * q.x * y2 % m
    let z2 := q.z * q.z % m
    let t := 3 * (q.x + (m - z2)) * (q.x + z2) % m
    let x3 := (t * t + 2 * (m - s)) % m
    ⟨x3, (t * (s + (m - x3)) + 8 * (m - y2 * y2 % m)) % m, 2 * q.y * q.z % m⟩

/-- Addition. -/
def Curve.add (c : Curve) (q r : JPoint) : JPoint :=
  let m := c.p
  if q.z = 0 then r
  else if r.z = 0 then q
  else
    let z1 := q.z * q.z % m
    let z2 := r.z * r.z % m
    let u1 := q.x * z2 % m
    let u2 := r.x * z1 % m
    let s1 := q.y * z2 * r.z % m
    let s2 := r.y * z1 * q.z % m
    if u1 = u2 then (if s1 = s2 then c.dbl q else ⟨1, 1, 0⟩)
    else
      let h := (u2 + (m - u1)) % m
      let w := (s2 + (m - s1)) % m
      let h2 := h * h % m
      let h3 := h2 * h % m
      let v := u1 * h2 % m
      let x3 := (w * w + (m - h3) + 2 * (m - v)) % m
      ⟨x3, (w * (v + (m - x3)) + (m - s1) * h3) % m, h * q.z * r.z % m⟩

/-- Scalar multiplication over `fuel` bits. -/
def Curve.mul (c : Curve) : Nat → Nat → JPoint → JPoint
  | 0, _, _ => ⟨1, 1, 0⟩
  | f + 1, k, q =>
    let r := c.mul f (k / 2) (c.dbl q)
    if k % 2 = 1 then c.add q r else r

/-- The affine coordinates of a point; `none` at infinity. -/
def Curve.affine (c : Curve) (q : JPoint) : Option (Nat × Nat) :=
  if q.z % c.p = 0 then none
  else
    let i := invMod c.p q.z
    let i2 := i * i % c.p
    some (q.x * i2 % c.p, q.y * i2 * i % c.p)

/-- An uncompressed public key on the curve. -/
def Curve.point (c : Curve) (k : List Byte) : Option JPoint :=
  let x := ofBe ((k.drop 1).take c.bytes)
  let y := ofBe ((k.drop (1 + c.bytes)).take c.bytes)
  if k.length = 1 + 2 * c.bytes ∧ k.headD 0 = 4#8 ∧ x < c.p ∧ y < c.p ∧
      y * y % c.p = (x * x * x + 3 * (c.p - x) + c.b) % c.p then some ⟨x, y, 1⟩
  else none

/-- The uncompressed encoding of a point. -/
def Curve.encode (c : Curve) (q : JPoint) : List Byte :=
  match c.affine q with
  | some (x, y) => 4#8 :: (beBytes c.bytes x ++ beBytes c.bytes y)
  | none => [0#8]

/-- The base point. -/
def Curve.base (c : Curve) : JPoint := ⟨c.gx, c.gy, 1⟩

/-- The leftmost bits of a hash as a number; the hashes used are as wide as the curve or the same width. -/
def Curve.hashNum (c : Curve) (h : List Byte) : Nat := ofBe (h.take c.bytes)

/-- ECDSA verification. -/
def Curve.verify (c : Curve) (key hash sigR sigS : List Byte) : Bool :=
  let r := ofBe sigR
  let t := ofBe sigS
  match c.point key with
  | none => false
  | some q =>
    if r = 0 ∨ c.n ≤ r ∨ t = 0 ∨ c.n ≤ t then false
    else
      let w := invMod c.n t
      let u := c.hashNum hash * w % c.n
      let v := r * w % c.n
      match c.affine (c.add (c.mul (8 * c.bytes) u c.base) (c.mul (8 * c.bytes) v q)) with
      | some (x, _) => x % c.n == r
      | none => false

/-- ECDSA signing with private key `d` and the secret number `k`: r and s. -/
def Curve.sign (c : Curve) (d k : Nat) (hash : List Byte) : List Byte :=
  match c.affine (c.mul (8 * c.bytes) k c.base) with
  | some (x, _) =>
    let r := x % c.n
    let t := invMod c.n k * (c.hashNum hash + r * d) % c.n
    beBytes c.bytes r ++ beBytes c.bytes t
  | none => []

/-- The x-coordinate of an ECDH product. -/
def Curve.shared (c : Curve) (d : Nat) (key : List Byte) : Option (List Byte) :=
  (c.point key).bind fun q => (c.affine (c.mul (8 * c.bytes) d q)).map fun a => beBytes c.bytes a.1

/-! ### DER and X.509 (R337) -/

/-- One DER element: its tag, its content, and all its bytes. -/
structure Der where
  tag : Nat
  body : List Byte
  whole : List Byte

/-- Read one element and what follows it. -/
def derOne (l : List Byte) : Option (Der × List Byte) :=
  match l with
  | t :: n :: rest =>
    let (len, hdr) := if n.toNat < 128 then (n.toNat, 2)
      else (ofBe (rest.take (n.toNat - 128)), 2 + (n.toNat - 128))
    if n.toNat > 130 ∨ l.length < hdr + len then none
    else some (⟨t.toNat, (l.drop hdr).take len, l.take (hdr + len)⟩, l.drop (hdr + len))
  | _ => none

/-- Read every element of a content. -/
def derAll : Nat → List Byte → Option (List Der)
  | 0, l => if l.isEmpty then some [] else none
  | n + 1, l =>
    if l.isEmpty then some []
    else (derOne l).bind fun (d, r) => (derAll n r).map (d :: ·)

/-- The elements inside an element. -/
def Der.kids (d : Der) : Option (List Der) := derAll d.body.length d.body

/-- An unsigned integer's bytes in `n` places. -/
def derInt (n : Nat) (d : Der) : List Byte := beBytes n (ofBe d.body)

/-- What R337 needs of a certificate. -/
structure Cert where
  tbs : List Byte
  issuer : List Byte
  subject : List Byte
  serialAttr : Option (List Byte)
  key : List Byte
  sig : List Byte
  ca : Bool
  digSig : Bool
  unknownCritical : Bool

/-- The object identifiers R337 turns on, as DER content. -/
def oidEcdsaSha256 : List Byte := [0x2A, 0x86, 0x48, 0xCE, 0x3D, 0x04, 0x03, 0x02]
def oidEcKey : List Byte := [0x2A, 0x86, 0x48, 0xCE, 0x3D, 0x02, 0x01]
def oidP256 : List Byte := [0x2A, 0x86, 0x48, 0xCE, 0x3D, 0x03, 0x01, 0x07]
def oidBasic : List Byte := [0x55, 0x1D, 0x13]
def oidKeyUsage : List Byte := [0x55, 0x1D, 0x0F]
def oidSerial : List Byte := [0x55, 0x04, 0x05]

/-- Whether an AlgorithmIdentifier starts with this object identifier. -/
def algIs (o : List Byte) (d : Der) : Bool :=
  match d.kids with
  | some (a :: _) => a.tag == 6 && a.body == o
  | _ => false

/-- An extension: its identifier, whether it is critical, its value. -/
def derExt (d : Der) : Option (List Byte × Bool × List Byte) :=
  match d.kids with
  | some [o, v] => some (o.body, false, v.body)
  | some [o, c, v] => some (o.body, c.body.headD 0 != 0, v.body)
  | _ => none

/-- The value of the serialNumber attribute of a name, if it has one. -/
def serialOf (name : Der) : Option (List Byte) :=
  ((name.kids.getD []).filterMap fun rdn =>
    ((rdn.kids.getD []).filterMap fun a => match a.kids with
      | some [o, v] => if o.body = oidSerial then some v.body else none
      | _ => none).head?).head?

/-- A certificate, where its structure holds. -/
def parseCert (l : List Byte) : Option Cert :=
  (derOne l).bind fun (c, rest) =>
    if !rest.isEmpty ∨ l.length > 1024 then none
    else match c.kids with
      | some [t, alg, sigBits] =>
        let tk := t.kids.getD []
        let (ver, fs) := match tk with
          | v :: fs => if v.tag = 0xA0 then (v.body, fs) else ([], tk)
          | [] => ([], tk)
        match fs with
        | _sn :: alg2 :: issuer :: _val :: subject :: spki :: more =>
          match spki.kids, (sigBits.body.drop 1) |> derOne with
          | some [ka, kb], some (sg, _) =>
            match sg.kids with
            | some [r, t2] =>
              let exts := (more.filter fun d => d.tag == 0xA3).flatMap fun d =>
                (((d.kids.getD []).flatMap fun q => q.kids.getD []).filterMap derExt)
              let ok := ver == [2, 1, 2] && algIs oidEcdsaSha256 alg && algIs oidEcdsaSha256 alg2 &&
                (match ka.kids with | some [x, y] => x.body == oidEcKey && y.body == oidP256 | _ => false)
              if !ok then none
              else some
                { tbs := t.whole, issuer := issuer.whole, subject := subject.whole, serialAttr := serialOf subject
                  key := kb.body.drop 1, sig := derInt 32 r ++ derInt 32 t2
                  ca := exts.any fun e => e.1 == oidBasic && (match derOne e.2.2 with
                    | some (b, _) => (match b.kids with
                      | some (f :: _) => f.tag == 1 && f.body.headD 0 != 0
                      | _ => false)
                    | none => false)
                  digSig := exts.any fun e => e.1 == oidKeyUsage && (match derOne e.2.2 with
                    | some (b, _) => (b.body.getD 1 0).toNat ≥ 128
                    | none => false)
                  unknownCritical := exts.any fun e => e.2.1 && e.1 != oidBasic && e.1 != oidKeyUsage }
            | _ => none
          | _, _ => none
        | _ => none
      | _ => none

/-- Sixteen upper-case hexadecimal digits of a UID (R337). -/
def hex16 (uid : Nat) : List Byte :=
  ((List.range 16).map fun i =>
    let d := uid / 16 ^ i % 16
    BitVec.ofNat 8 (if d < 10 then 48 + d else 55 + d)).reverse

end Sys2Proof.Machine
end

