-- ==== Sys2Proof/Machine/Events.lean ====
section
/-! DEFINITION. Raising an interrupt (R281–R283) and writing the hoofprint log (R382–R393), which every family uses. -/

namespace Sys2Proof.Machine

/-! ### Interrupts -/

/-- The interrupt mechanism in force (R281): 0 none, 1 INTx, 2 MSI, 3 MSI-X. -/
def State.irqMode (s : State) : Nat :=
  if s.ep.msixEn then 3 else if s.ep.msiEn then 2 else if s.ep.intDis then 0 else 1

/-- Whether the function may issue requests (R269, R274, R275). -/
def State.canMaster (s : State) : Bool := s.ep.bme && !s.ep.d3 && !s.hep.flrBusy

/-- MSI-X table words reset to every vector masked (R271). -/
def msixReset (i : Nat) : Word := if i % 4 = 3 then 1#32 else 0#32

/-- A word of the MSI-X table. -/
def State.msixWord (s : State) (i : Nat) : Word := tblGet msixReset s.hep.msixTbl i

/-- Whether an MSI-X vector may not send now (R283). -/
def State.msixHeld (s : State) (vec : Nat) : Bool :=
  bitOn (s.msixWord (4 * vec + 3)) 0 || s.ep.msixFm || !s.canMaster

/-- Whether an MSI vector may not send now (R283). -/
def State.msiHeld (s : State) (vec : Nat) : Bool := bitOn s.ep.msiMask vec || !s.canMaster

/-- WAKE_N is released once the link is in L0 with the function in D0 (R29, R278). -/
def State.settleWake (s : State) : State :=
  if s.hep.wakeN && !s.ep.d3 && s.fld F.HEP_LINK_STAT_LSTATE == 0 then
    { s with hep := { s.hep with wakeN := false } }.emit (.pin "WAKE_N" 0 true (st48 s.now))
  else s

/-- A request issued or received takes the host link out of ASPM L1, to L0 at its trained width (R279); in D3hot it goes
back to L1 (R275). -/
def State.exitL1 (s : State) : State :=
  if s.fld F.HEP_LINK_STAT_LSTATE == 2 && !s.ep.d3 then
    ((s.setFld F.HEP_LINK_STAT_LSTATE 0).setFld F.HEP_LINK_STAT_L0P_W (s.fld F.HEP_LINK_STAT_WIDTH)).settleWake
  else s

/-- An access on a path has arrived: one through BAR0 is a request on the host link (R279). -/
def State.reached (s : State) (p : Path) : State := if p = .bar0 then s.exitL1 else s

/-- Send the MSI-X message of a vector. -/
def State.sendMsix (s : State) (vec : Nat) : State :=
  s.exitL1.emit (.msix vec ((s.msixWord (4 * vec)).toNat + 2 ^ 32 * (s.msixWord (4 * vec + 1)).toNat)
    (s.msixWord (4 * vec + 2)))

/-- Send the MSI message of a vector. -/
def State.sendMsi (s : State) (vec : Nat) : State := s.exitL1.emit (.msi vec)

/-- Whether a source's HEP_IRQ_MAP entry lets it send. -/
def State.irqMapped (s : State) (src : Nat) : Bool := s.flag (F.HEP_IRQ_MAP_EN src)

/-- Send Assert_INTA or Deassert_INTA where the pending bits of enabled sources call for it (R283), over a link that is up
(log entry 180). -/
def State.syncInta (s : State) : State :=
  let want := s.irqMode == 1 && s.flag F.HEP_LINK_STAT_DL_UP && s.hep.irqPend.any s.irqMapped
  if want == s.hep.inta then s
  else { s.exitL1 with hep := { s.exitL1.hep with inta := want } }.emit (if want then .assertInta else .deassertInta)

/-- Raise interrupt source `src`, whose own enable is set (R283). A raise of a vector that is pending joins its one message. -/
def State.raiseIrq (s : State) (src : Nat) : State :=
  let s := { s with hep := { s.hep with irqPend := setIns src s.hep.irqPend } }
  if !s.irqMapped src then s
  else match s.irqMode with
    | 3 =>
      let vec := s.fld (F.HEP_IRQ_MAP_VECTOR src)
      if s.msixHeld vec || vec ∈ s.hep.pba then { s with hep := { s.hep with pba := setIns vec s.hep.pba } }
      else s.sendMsix vec
    | 2 =>
      let vec := s.fld (F.HEP_IRQ_MAP_VECTOR src) % 2 ^ s.ep.msiMme
      if s.msiHeld vec || bitOn s.ep.msiPend vec then
        { s with ep := { s.ep with msiPend := s.ep.msiPend ||| (1#32 <<< vec) } }
      else s.sendMsi vec
    | 1 => s.syncInta
    | _ => s

/-- Send each message held pending whose condition has ended (R283, R270 step 4). -/
def State.flushIrq (s : State) : State :=
  let s := if s.irqMode == 3 then
      let go := s.hep.pba.filter fun v => !s.msixHeld v
      go.foldl State.sendMsix { s with hep := { s.hep with pba := s.hep.pba.filter fun v => s.msixHeld v } }
    else s
  let s := if s.irqMode == 2 then
      let go := (List.range 32).filter fun v => bitOn s.ep.msiPend v && !s.msiHeld v
      let s' := { s with ep := { s.ep with msiPend := go.foldl (fun m v => m &&& ~~~ (1#32 <<< v)) s.ep.msiPend } }
      go.foldl State.sendMsi s'
    else s
  s.syncInta

/-! ### The hoofprint log -/

/-- The flash offset of log slot k (R385). -/
def slotAddr (k : Nat) : Nat := 0x1000000 + k * 32

/-- The SRC of an event whose rule names no instance (R384). -/
def noSrc : Nat := 0xFFF

/-- A DETAIL value in `n` bytes (R384). -/
def det (n v : Nat) : List Byte := leBytes n v

/-- Bytes 0–25 of a record (R382). -/
def recordHead (seq opsec pwrcyc code src : Nat) (detail : List Byte) : List Byte :=
  leBytes 4 seq ++ leBytes 4 opsec ++ leBytes 3 pwrcyc ++ leBytes 3 (code % 4096 + src % 4096 * 4096) ++
    padTo 12 detail

/-- Bytes 26–31 of a record: REPEAT and the CRC over bytes 0–27 (R382, R385). -/
def recordTail (head : List Byte) (rep : Nat) : List Byte :=
  let r := leBytes 2 rep
  r ++ leBytes 4 (crc32c (head ++ r))

/-- The SEQ after `n` (R383). -/
def nextSeq (n : Nat) : Nat := if n + 1 ≥ 0xFFFFFFFF then 0 else n + 1

/-- Count a repeat of the open record (R388). -/
def State.repeatRec (s : State) (r : OpenRec) : State :=
  let r' := { r with rep := min 65535 (r.rep + 1) }
  { s with recs := { s.recs with openRec := some r', aonCopy := some r' } }

/-- A program that the flash reports as failed leaves free bytes behind (R385). -/
def State.programBad (s : State) (a n : Nat) : State := (s.program a (s.freeBytes n)).drawnN n

/-- Open a record in slot NEXT (R382, R383, R385). A slot whose program fails stays used, and the next record
carries CODE 385 and the failed slot. The event that would open slot 32,767 is recorded there under CODE 391, and the log
then takes no more (R391); `fuel` bounds how many slots are tried. -/
def State.openRec : Nat → State → Event → State
  | 0, s, _ => s
  | fuel + 1, s, e =>
    let slot := s.recs.next
    if 32767 < slot then s
    else
      let e : Event := if slot = 32767 then ⟨391, noSrc, det 2 e.code ++ det 2 e.src⟩ else e
      let head := recordHead s.led.recSeq s.led.opsec s.led.pwrcyc e.code e.src e.detail
      let s := { s with recs := { s.recs with next := slot + 1, rateCount := s.recs.rateCount + 1 } }
      if slot ∈ s.badSlots then State.openRec fuel (s.programBad (slotAddr slot) 26) ⟨385, noSrc, det 2 slot⟩
      else
        let r : OpenRec := ⟨slot, e.code % 4096, e.src % 4096, head, 0⟩
        let s := { s with led := { s.led with recSeq := nextSeq s.led.recSeq } }
        let s := s.program (slotAddr slot) head
        { s with recs := { s.recs with openRec := some r, aonCopy := some r } }.raiseIrq 291

/-- Close the open record, if one is open (R385, R386). Where the flash reports the program as failed, the next record carries
CODE 385 and the failed slot, and is the one to close; `fuel` bounds how many slots are tried. -/
def State.closeUpTo : Nat → State → State
  | 0, s => s
  | fuel + 1, s =>
    match s.recs.openRec with
    | none => s
    | some r =>
      let t : State := { s with recs := { s.recs with openRec := none, aonCopy := none } }
      if r.slot ∈ s.badTails then
        State.closeUpTo fuel (State.openRec (s.badSlots.length + 1) (t.programBad (slotAddr r.slot + 26) 6) ⟨385, noSrc, det 2 r.slot⟩)
      else t.program (slotAddr r.slot + 26) (recordTail r.bytes r.rep)

/-- Close the open record (R386): no more programs can fail than there are slots whose closing program fails. -/
def State.closeRec (s : State) : State := State.closeUpTo (s.badTails.length + 1) s

/-- The value of REC_CFG.RATE_MAX. -/
def State.rateMax (s : State) : Nat := s.fld F.REC_CFG_RATE_MAX

/-- An event that the full log does not take (R391). -/
def State.dropEvent (s : State) : State := { s with led := { s.led with dropped := min 0xFFFFFFFF (s.led.dropped + 1) } }

/-- Open a record; the last record of the log is closed at once (R391). -/
def State.newRec (s : State) (e : Event) : State :=
  let s := s.closeRec
  let s := if 32767 < s.recs.next then s.dropEvent else State.openRec (s.badSlots.length + 1) s e
  if 32767 < s.recs.next then
    let s := s.closeRec
    { s with recs := { s.recs with full := true } }
  else s

/-- Open the record that stands for every further event of this second (R389). -/
def State.limitRec (s : State) (e : Event) : State :=
  let s := s.newRec ⟨389, noSrc, det 2 e.code ++ det 2 e.src⟩
  { s with recs := { s.recs with rateHit := true } }

/-- Write one event to the log: repeat, rate limit, full log (R388, R389, R391). -/
def State.logNow (s : State) (e : Event) : State :=
  if s.recs.full then s.dropEvent
  else
    match s.recs.openRec.filter fun r => r.code = e.code % 4096 && r.src = e.src % 4096 with
    | some r => s.repeatRec r
    | none =>
      if s.rateMax = 0 ∨ s.recs.rateCount < s.rateMax then s.newRec e
      else match s.recs.openRec.filter fun r => s.recs.rateHit && r.code == 389 with
        | some r => s.repeatRec r
        | none => s.limitRec e

/-- Whether events are held and not written: a firmware restart, a clear that erases (R390), or the core off,
when the flash cannot be written (R44, R289, R372). -/
def State.logHeld (s : State) : Bool :=
  s.start.fwBusy || s.recs.clear.isSome || !(s.start.phase == .run || s.start.phase == .refuge) || !s.start.hw.flashOk

/-- Log an event of rule `code` at instance `src` (R384), or hold it (R390). -/
def State.log (s : State) (code src : Nat) (detail : List Byte) : State :=
  if s.logHeld then
    if s.recs.held.length < 512 then { s with recs := { s.recs with held := s.recs.held ++ [⟨code, src, detail⟩] } }
    else { s with recs := { s.recs with heldOver := s.recs.heldOver + 1 } }
  else s.logNow ⟨code, src, detail⟩

/-- A request is refused because a table is full: one event names the table (R406). -/
def State.tableFull (s : State) (id : Nat) : State := s.log 406 noSrc (det 1 id)

/-- Write the held events in order, then the overflow record (R390). -/
def State.writeHeld (s : State) : State :=
  if s.logHeld then s
  else
    let excess := s.recs.heldOver
    let s := s.recs.held.foldl State.logNow { s with recs := { s.recs with held := [], heldOver := 0 } }
    if excess = 0 then s
    else
      let s := s.newRec ⟨390, noSrc, []⟩
      match s.recs.openRec with
      | some r =>
        let r' := { r with rep := min 65535 (excess - 1) }
        { s with recs := { s.recs with openRec := some r', aonCopy := some r' } }
      | none => s

/-- Log an event unless its suppression bit is set, and set the bit: one event per register until the register
is read or its bit is cleared (R408). -/
def State.logOnce (s : State) (code src : Nat) (detail : List Byte) (addr : Nat) : State :=
  if (code, addr) ∈ s.recs.suppress then s
  else { s with recs := { s.recs with suppress := (code, addr) :: s.recs.suppress } }.log code src detail

/-- Clear the suppression bits of a register (R408); those of R11 and R416 end otherwise. -/
def State.unsuppress (s : State) (addr : Nat) : State :=
  { s with recs := { s.recs with suppress := s.recs.suppress.filter fun p => p.2 != addr || p.1 == 11 || p.1 == 416 } }

end Sys2Proof.Machine
end

