-- ==== Sys2Proof/Machine/Flags.lean ====
section
/-! DEFINITION. The flag computations: saturating counters with their OVF flags (R404), watermark notices
(R143, R252), write-1-to-clear (R10), and the guard every register write passes (R8–R11, R427). -/

namespace Sys2Proof.Machine

/-- An error or loss counter: 31 bits and OVF in [31] (R404). On reaching its limit it sets OVF and logs one event. -/
def State.count31 (s : State) (a n : Nat) : State :=
  let c := fldGet (s.reg a) 0 31
  if n = 0 ∨ c = 0x7FFFFFFF then s
  else if c + n < 0x7FFFFFFF then s.setReg a (fldPut (s.reg a) 0 31 (c + n))
  else (s.setReg a 0xFFFFFFFF#32).log 404 noSrc []

/-- A 48-bit statistics counter in two registers, OVF in [31] of the high one (R404). -/
def State.count48 (s : State) (lo n : Nat) : State :=
  let c := s.pair lo 16
  if n = 0 ∨ c = 2 ^ 48 - 1 then s
  else if c + n < 2 ^ 48 - 1 then s.setPair lo 16 (c + n)
  else ((s.setPair lo 16 (2 ^ 48 - 1)).setFlag ⟨lo + 4, 31, 1⟩ true).log 404 noSrc []

/-- A small field that saturates at its maximum without a flag (R404). -/
def State.countSmall (s : State) (f : Fld) : State := s.setFld f (min (2 ^ f.w - 1) (s.fld f + 1))

/-- A ledger counter, which saturates at its maximum and logs one event on reaching it (R403). -/
def ledBump (max n : Nat) : Nat := if n < max then n + 1 else n

/-- Whether a ledger counter has just reached its maximum. -/
def ledFull (max n : Nat) : Bool := n + 1 == max

/-- A word with its write-1-to-clear bits cleared: `m` the W1C bits, `v` the value written (R10). -/
def w1c (old m v : Word) : Word := old &&& ~~~ (m &&& v)

/-! ### Writing a register by its access types -/

/-- What a field of a register word becomes when `v` is written to the register (R10): RO, WO and W1S bits hold
nothing that a write changes. -/
def FieldRow.write (f : FieldRow) (old v : Word) : Word :=
  let m := fldMask f.lo f.w
  match f.acc with
  | .rw | .rws => (old &&& ~~~ m) ||| (v &&& m)
  | .w1c => w1c old m v
  | .ro | .wo | .w1s => old

/-- What a register word becomes when `v` is written to it; reserved bits ignore the write (R8, R10). -/
def writeFields (fs : List FieldRow) (old v : Word) : Word := fs.foldl (fun r f => f.write r v) old

/-- Write a register by its access types alone. -/
def State.plainWrite (s : State) (a : Nat) (v : Word) : State :=
  match rowAt a with
  | some (r, _) => s.setReg a (writeFields r.fields (s.reg a) v)
  | none => s

/-! ### Advanced Error Reporting (R284) -/

/-- Report an error of an uncorrectable type, by its bit of the status register of PCI Express Base 6.0 (log entry 9):
`advisory` when it is reported as a correctable one while its severity is non-fatal. One event per type until its
status bit is cleared; the first unmasked non-advisory error's header is logged. -/
def State.aer (s : State) (bit : Nat) (advisory : Bool) (hdr : List Word) : State :=
  let h := s.hep
  let was := bitOn h.aerUnc bit
  let masked := bitOn h.aerUncMask bit
  let fatal := bitOn h.aerSev bit
  let adv := advisory && !fatal
  let logHdr := !masked && !adv && !hdr.isEmpty
  let h := { h with aerUnc := h.aerUnc ||| (1#32 <<< bit)
                    aerCor := if adv then h.aerCor ||| (1#32 <<< 13) else h.aerCor
                    aerHdr := if logHdr && h.aerHdr.isEmpty then hdr else h.aerHdr
                    aerHdrOvf := h.aerHdrOvf || (logHdr && !h.aerHdr.isEmpty) }
  let seen := s.ep.errSts ||| (if adv then 1 else if fatal then 4 else 2) ||| if bit = 20 then 8 else 0
  let s := { s with hep := h, ep := { s.ep with errSts := seen } }
  let urOk := bit != 20 || s.ep.errEn.testBit 3
  let send := urOk && if adv then !bitOn h.aerCorMask 13 && s.ep.errEn.testBit 0
    else !masked && s.ep.errEn.testBit (if fatal then 2 else 1)
  let s := if send then s.emit (.errMsg (if adv then 0 else if fatal then 2 else 1)) else s
  if was then s else s.log 284 noSrc []

/-- The header of a TLP whose command gives none: four free words (log entry 200). -/
def State.tlpHdr (s : State) : List Word := (List.range 4).map fun k => Config.freeBits 32 (s.freeCtr + k)

/-- `aer` for a TLP whose command gives no header. -/
def State.aerTlp (s : State) (bit : Nat) (advisory : Bool) : State := (s.drawnN 4).aer bit advisory s.tlpHdr

/-- Report an error of a correctable type, by its bit (R284). -/
def State.aerCorErr (s : State) (bit : Nat) : State :=
  let was := bitOn s.hep.aerCor bit
  let s := { s with hep := { s.hep with aerCor := s.hep.aerCor ||| (1#32 <<< bit) }
                    ep := { s.ep with errSts := s.ep.errSts ||| 1 } }
  let s := if !bitOn s.hep.aerCorMask bit && s.ep.errEn.testBit 0 then s.emit (.errMsg 0) else s
  if was then s else s.log 284 noSrc []

/-- What an endpoint buffer reports of a TLP it held (R284). -/
def State.bufErr (s : State) : BufErr → State
  | .none => s
  | .corrected => s.aerCorErr 14
  | .uncorrectable => (s.count31 A.HEP_INT_ERR 1).aer 22 false []

/-- Report an error that the host link's layers have found, by its bit (R284); the header of a Malformed TLP and of one that
overflows the receiver is logged. -/
def State.linkErr (s : State) : LinkErr → State
  | .receiver => s.aerCorErr 0
  | .badTlp => s.aerCorErr 6
  | .badDllp => s.aerCorErr 7
  | .replayRollover => s.aerCorErr 8
  | .replayTimeout => s.aerCorErr 12
  | .dlProtocol => s.aer 4 false []
  | .flowControl => s.aer 13 false []
  | .malformed => s.aerTlp 18 false
  | .overflow => s.aerTlp 17 false

/-! ### Who may write -/

/-- The blocks Refuge serves: GLB, SEC, CFG, MGT, REC (R325). -/
def refugeBlock (a : Nat) : Bool :=
  a < 0x100000 || (0x1800000 ≤ a && a < 0x1E00000) || (0x1F00000 ≤ a && a < 0x2000000)

/-- Whether an access of this path reaches the register map now: the hub must be up; BAR0 needs Memory Space
Enable, D0, no function level reset in progress and a host link that is not held in reset, and is unavailable in
Refuge; the management port serves a few registers once its wake stretch is over (R268, R275, R325, R363, R427). -/
def State.reachable (s : State) (p : Path) : Bool :=
  match s.start.phase, p with
  | .run, .bar0 => s.ep.mse && !s.ep.d3 && !s.hep.flrBusy && !s.hep.perst
  | .run, _ => true
  | .refuge, .bar0 => false
  | .refuge, _ => true
  | .rails, .mgmt => s.bus.served
  | _, _ => false

/-- The mode in force. -/
def State.mode (s : State) : Nat := s.fld F.GLB_MODE_STAT_CUR_MODE

/-- A poisoned inbound write is discarded and counted (R285). -/
def State.poisonIn (s : State) (hdr : List Word) : State := (s.count31 A.HEP_POISON_IN 1).aer 12 false hdr

/-- A write to a reserved address: discarded, GLB_STAT.RSV_WR set, one event per path until the next start (R8). -/
def State.reservedWrite (s : State) (p : Path) : State :=
  let s := s.setFlag F.GLB_STAT_RSV_WR true
  let x := s.path p
  if x.rsvLogged then s else (s.setPath p { x with rsvLogged := true }).log 8 noSrc []

/-- A discarded image-owned write: GLB_STAT.IOW_REJ set, one event per register until it is cleared (R11). -/
def State.imageReject (s : State) (a : Nat) : State :=
  let s := s.setFlag F.GLB_STAT_IOW_REJ true
  if (11, a) ∈ s.recs.suppress then s
  else { s with recs := { s.recs with suppress := (11, a) :: s.recs.suppress } }.log 11 noSrc []

/-- A write to an address that holds no register: reserved (R8), and in Service one that R299 rejects (R11; log entry 198). -/
def State.noRegister (s : State) (p : Path) (a : Nat) : State :=
  let t := s.reservedWrite p
  if s.mode = 3 then t.imageReject a else t

/-- A partial-byte write: discarded and counted (R9). -/
def State.partialWrite (s : State) : State := (s.setFlag F.GLB_STAT_BE_REJ true).count31 A.GLB_BE_REJ 1

/-- A request to a BAR ends with Unsupported Request: counted and reported, advisory where it is posted; a non-posted one
is completed so (R254, R268, R284). -/
def State.barUr (s : State) (posted : Bool) (hdr : List Word) : State :=
  let s := (s.exitL1.count31 A.HEP_BAR_UR 1).aer 20 posted hdr
  if posted then s else s.emit (.completion none false)

/-- An access a path may not make now: BAR0 answers UR where the endpoint answers at all, and nothing else
happens (R268, R427). -/
def State.unreachable (s : State) (p : Path) (posted : Bool) : State :=
  match s.start.phase, p with
  | .run, .bar0 => if s.hep.perst then s else (s.drawnN 4).barUr posted s.tlpHdr
  | _, _ => s

/-- What the management port serves before step 11 of a wake ends (R363). -/
def wakeBlock (a : Nat) : Bool :=
  (0x1D00000 ≤ a && a < 0x1E00000) || a == A.GLB_START_STAT || a == A.GLB_START_FAIL

/-- Whether the hub as it stands serves an address: in Refuge, and before step 11 of a wake ends, it serves some alone. -/
def State.serves (s : State) (a : Nat) : Bool :=
  match s.start.phase with
  | .refuge => refugeBlock a
  | .rails => wakeBlock a
  | _ => true

/-- A write to an address the hub does not serve now behaves as one to a reserved address (R325), before step 11 of a wake
without an event (R363). -/
def State.unserved (s : State) (p : Path) : State :=
  if s.start.phase == .rails then s.setFlag F.GLB_STAT_RSV_WR true else s.reservedWrite p

/-- Do `act` for a whole-register write of a register that is not reserved, if the path reaches it and it may be
written now: an image-owned register only in Service (R11). -/
def State.guarded (s : State) (p : Path) (a : Nat) (image : Bool) (act : State → State) : State :=
  if !s.reachable p then s.unreachable p true
  else if !s.serves a then s.unserved p
  else
    let s := s.reached p
    if image && s.mode != 3 then s.imageReject a else act s

/-- Answer a register read on a path. -/
def State.answer (s : State) (p : Path) (v : Word) : State := s.emit (.readData p v)

/-- Do `act` for a read on a path that reaches the register now; an address the hub does not serve reads 0 (R8, R325,
R363). -/
def State.guardedRead (s : State) (p : Path) (a : Nat) (act : State → State) : State :=
  if !s.reachable p then s.unreachable p false
  else if !s.serves a then (s.reached p).answer p 0#32
  else act (s.reached p)

/-- Step 11 of the last start has ended and the hub runs (R314). -/
def State.up (s : State) : Bool := s.start.phase == .run

/-- The core is powered and started: the hub runs, or is in Refuge (R325). -/
def State.core (s : State) : Bool := s.start.phase == .run || s.start.phase == .refuge

/-- Do `act` while the hub runs; otherwise nothing happens (log entry 3). -/
def State.whenUp (s : State) (act : State → State) : State := if s.up then act s else s

/-! ### A firmware restart holds the bring-up engines (R326) -/

/-- Hold a command until the restart in progress completes. -/
def State.hold (s : State) (i : Instr) : State := { s with start := { s.start with fwHeld := s.start.fwHeld ++ [i] } }

/-- Do `act` while the hub runs, or hold the command until a restart in progress completes. -/
def State.engine (s : State) (i : Instr) (act : State → State) : State :=
  if !s.up then s else if s.start.fwBusy then s.hold i else act s

/-- Do `act` while the hub runs; a timer that expires during a restart waits for its completion, once. -/
def State.timer (s : State) (i : Instr) (act : State → State) : State :=
  if s.start.fwBusy && s.start.fwHeld.contains i then s else s.engine i act

/-- Latch the high word of a pair for a path (R7). -/
def State.latchHi (s : State) (p : Path) (a : Nat) (v : Word) : State :=
  s.setPath p { s.path p with latch := tblSet (fun _ => 0#32) (s.path p).latch a v }

end Sys2Proof.Machine
end

