-- ==== Sys2Proof/Machine/Grid.lean ====
section
/-! DEFINITION. Device time, the tick grid, and the TICK pattern of a stream or compare unit
(R13–R17, R40–R48, R50). -/

namespace Sys2Proof.Machine

/-- The epoch second E in force. -/
def State.epoch (s : State) : Nat := s.pair A.GLB_TICK_EPOCH_LO 16

/-- Grid point m of the rate-R grid anchored at second e, in TU (R13). -/
def gridPoint (e R m : Nat) : Nat := e * tuPerSec + m * tuPerSec / R

/-- The least m whose grid point lies strictly after `t` (R13). -/
def gridIndexAfter (e R t : Nat) : Nat :=
  if t < e * tuPerSec then 0
  else
    -- m * 16e9 / R > d  iff  m * 16e9 ≥ (d + 1) * R
    ceilDiv ((t - e * tuPerSec + 1) * R) tuPerSec

/-- The first grid point strictly after `t`. -/
def gridAfter (e R t : Nat) : Nat := gridPoint e R (gridIndexAfter e R t)

/-- The next boundary the hub may act on: the first grid point strictly after the last one it acted on, or after
the instant of the start (R13, R15). -/
def State.nextBoundary (s : State) : Nat := gridAfter s.epoch s.time.rate s.time.gridFrom

/-- After a forward step, the grid points passed but the latest are skipped: they take no herd number, and the
hub logs one event with their count (R15). -/
def State.skipPassed (s : State) : State :=
  let e := s.epoch
  let R := s.time.rate
  let m := gridIndexAfter e R s.time.gridFrom
  let k := gridIndexAfter e R s.now
  if k ≤ m + 1 then s
  else { s with time := { s.time with gridFrom := gridPoint e R (k - 2) } }.log 15 noSrc (det 4 (k - 1 - m))

/-- The offset of frame j of a stream at k times the tick (R17). -/
def frameOffset (R k j : Nat) : Nat := j * tuPerSec / (R * k)

/-- A ratio to the tick (R17): `div` means one k-th of the tick at phase p, else k times the tick. -/
structure Ratio where
  div : Bool
  k : Nat
  p : Nat
  deriving DecidableEq, Repr

/-- The ratio that register fields spell: K of 0 counts as 1 and above 8 as 8, P is taken modulo K. -/
def mkRatio (div : Bool) (k p : Nat) : Ratio :=
  let k' := if k = 0 then 1 else min k 8
  ⟨div, k', p % k'⟩

/-- Whether a stream of this ratio is due at herd n. -/
def Ratio.due (r : Ratio) (n : Nat) : Bool := !r.div || n % r.k == r.p

/-- The frames a stream of this ratio owes in a herd it is due in. -/
def Ratio.frames (r : Ratio) : Nat := if r.div then 1 else r.k

/-- The boundaries a TICK pattern may draw on: those acted on, each with the rate it was acted on at, then the next ones on
the grid, numbered on from the present herd (R50, R453). -/
def State.patternBoundaries (s : State) (ahead : Nat) : List Bnd :=
  let e := s.epoch
  let R := s.time.rate
  let m := gridIndexAfter e R s.time.gridFrom
  s.time.hist ++ (List.range ahead).map fun i => ⟨gridPoint e R (m + i), s.aon.herd + 1 + i, R⟩

/-- The targets of a pattern on one boundary, each with the boundary (R50). -/
def patternTargets (r : Ratio) (ofs : Int) (b : Bnd) : List (Nat × Nat) :=
  if r.due b.herd then
    (List.range r.frames).filterMap fun j =>
      let t : Int := (b.at' : Int) + frameOffset b.rate r.k j + ofs
      if 0 ≤ t then some (t.toNat, b.at') else none
  else []

/-- The earliest target of a pattern strictly after `t`, with the boundary it derives from (R50). The boundaries
searched reach past the largest OFS, 2^31 TU, and eight ticks of a 1/8 ratio. -/
def State.firstTarget (s : State) (r : Ratio) (ofs : Int) (t : Nat) : Option (Nat × Nat) :=
  let cands := (s.patternBoundaries 48).flatMap (patternTargets r ofs)
  (cands.filter fun c => t < c.1).foldl
    (fun best c => match best with
      | none => some c
      | some b => if c.1 < b.1 then some c else some b) none

end Sys2Proof.Machine
end

