-- ==== Sys2Proof/Machine/Time.lean ====
section
/-! DEFINITION. Device time, the always-on counter and alarm, compare units, captures and reference pins
(R40–R56), as operations; the commands that are these operations alone have their meanings here. -/

namespace Sys2Proof.Machine

/-! ### The time base -/

/-- One cycle of the time base: TIME_INC is added, its fraction carried (R46). -/
def State.cycle (s : State) : State :=
  let inc := s.time.incNext.getD s.time.inc
  let n := s.time.frac + inc
  { s with time := { s.time with
      tu := (s.time.tu + n / 2 ^ 32) % tuMod, frac := n % 2 ^ 32, inc := inc, incNext := none,
      elapsed := s.time.elapsed + n / 2 ^ 32 } }

/-- Whether a TIME_INC value, in 2^-32 TU, lies from 15.984 to 16.016 (R46). -/
def incOk (inc : Nat) : Bool := 15984 * 2 ^ 32 ≤ inc * 1000 && inc * 1000 ≤ 16016 * 2 ^ 32

/-- Commit TIME_INC with high word `v` (R46). -/
def State.commitInc (s : State) (v : Word) : State :=
  let inc := fldGet v 0 8 * 2 ^ 32 + s.time.incLo.toNat
  if incOk inc then { s with time := { s.time with incNext := some inc } }
  else (s.setFlag F.TIME_STAT_INC_REJ true).log 46 noSrc []

/-- Commit TIME_ADJ with high word `v` (R48). -/
def State.commitAdj (s : State) (v : Word) : State :=
  match s.time.adj with
  | some _ => (s.setFlag F.TIME_STAT_ADJ_REJ true).log 48 noSrc []
  | none =>
    let a := signed 64 (s.time.adjLo.toNat + 2 ^ 32 * v.toNat)
    { s with time := { s.time with adj := some (a, 2) } }.setFlag F.TIME_STAT_ADJ_BUSY true

/-! ### The always-on alarm -/

/-- The alarm fires now: it is armed, and the counter has reached its value (R44). -/
def State.alarmDue (s : State) : Bool := s.aon.armed && decide (s.aon.alarm ≤ s.aon.sec)

/-- The alarm fires in the first second in which the counter reaches its value (R44). -/
def State.alarmCheck (s : State) : State :=
  if s.alarmDue then
    { s with aon := { s.aon with armed := false, fired := true } }.log 44 noSrc []
  else s

/-- A write of GLB_AON_ALARM_CTRL: FIRED is W1C, ARM arms with the value in GLB_AON_ALARM, which fires in
the next second where it is already reached, DISARM clears ARMED (R44). -/
def State.alarmCtrl (s : State) (v : Word) : State :=
  let fired := s.aon.fired && !bitOn v 2
  let s := { s with aon := { s.aon with fired := fired } }
  let s := if bitOn v 0 then
      { s with aon := { s.aon with armed := true, alarm := s.pair A.GLB_AON_ALARM_LO 16 } }
    else s
  if bitOn v 3 then { s with aon := { s.aon with armed := false } } else s

/-! ### Compare units -/

/-- Whether unit n is reserved for the image (R53). -/
def State.cmpReserved (s : State) (n : Nat) : Bool :=
  bitsOf (s.pair A.TIME_CMP_RSV_LO 32) n 1 == 1

/-- The target an armed unit holds. -/
def State.cmpTarget (s : State) (n : Nat) : Option CmpTarget := tblOpt s.time.cmp n

/-- Arm or disarm a unit. -/
def State.setCmp (s : State) (n : Nat) (t : Option CmpTarget) : State :=
  { s with time := { s.time with cmp := tblPut s.time.cmp n t } }.setFlag (F.TIME_CMP_STAT_ARMED n) t.isSome

/-- PERIOD of a unit. -/
def State.cmpPeriod (s : State) (n : Nat) : Nat := s.pair (A.TIME_CMP_PERIOD_LO n) 15

/-- The ratio of a unit in TICK mode (R17). -/
def State.cmpRatio (s : State) (n : Nat) : Ratio :=
  mkRatio (s.flag (F.TIME_CMP_CTRL_RATIO n)) (s.fld (F.TIME_CMP_CTRL_K n)) (s.fld (F.TIME_CMP_CTRL_P n))

/-- OFS of a unit, in TU. -/
def State.cmpOfs (s : State) (n : Nat) : Int := signed 32 (s.reg (A.TIME_CMP_OFS n)).toNat

/-- A TICK unit's first target strictly after `t` (R50). -/
def State.cmpTickFirst (s : State) (n t : Nat) : Option CmpTarget :=
  (s.firstTarget (s.cmpRatio n) (s.cmpOfs n) t).map fun c => ⟨c.1, c.2⟩

/-- Arm a unit under its MODE (R50, R51). -/
def State.cmpArm (s : State) (n : Nat) : State :=
  let past := ((s.setCmp n none).setFlag (F.TIME_CMP_STAT_PAST n) true).log 50 n []
  match s.fld (F.TIME_CMP_CTRL_MODE n) with
  | 0 => s
  | 3 => s.setCmp n (s.cmpTickFirst n s.now)
  | m =>
    let d := sdiff (s.pair (A.TIME_CMP_TGT_LO n) 16) (st48 s.now)
    if d ≤ 0 then past
    else if m = 2 ∧ s.cmpPeriod n < 1600 then past
    else s.setCmp n (some ⟨s.now + d.toNat, 0⟩)

/-- Drive TRIGn to a level at `t`; the ball follows 3.2 ns later (R51, R52). -/
def State.drivePin (s : State) (n : Nat) (level : Bool) (t : Nat) : State :=
  if s.flag (F.TIME_CMP_STAT_PIN n) = level then s
  else (s.setFlag (F.TIME_CMP_STAT_PIN n) level).emit (.pin "TRIG" n level (st48 t))

/-- The inactive level of TRIGn: POL 0 is active high. -/
def State.pinIdle (s : State) (n : Nat) : Bool := s.flag (F.TIME_CMP_CTRL_POL n)

/-- What a change of TIME_CMP_CTRL does to the pin (R52): a disabled pin holds its inactive level; a new POL swaps
the level of an enabled one at once, pulse or no pulse, a moment the spec leaves open (DESIGN CHOICE, log entry 184). `pol` is
the POL before the write. -/
def State.pinFollow (s : State) (n : Nat) (pol : Bool) : State :=
  if !s.flag (F.TIME_CMP_CTRL_PIN_EN n) then
    { s with time := { s.time with pulseEnd := tblPut s.time.pulseEnd n none } }.drivePin n (s.pinIdle n) s.now
  else if pol = s.pinIdle n then s
  else s.drivePin n (!s.flag (F.TIME_CMP_STAT_PIN n)) s.now

/-- A write of TIME_CMP_CTRL[n]: MODE 0 disarms, ARM arms (R49, R50). A write that changes MODE between non-zero values
without ARM leaves the unit armed with its target, which the spec leaves open (DESIGN CHOICE, log entry 185). -/
def State.cmpCtrl (s : State) (n : Nat) (v : Word) : State :=
  let s := (s.plainWrite (A.TIME_CMP_CTRL n) v).pinFollow n (s.pinIdle n)
  if s.fld (F.TIME_CMP_CTRL_MODE n) = 0 then s.setCmp n none
  else if bitOn v 16 then s.cmpArm n
  else s

/-- A write of TIME_CMP_TGT_HI[n] commits the target and arms in modes 1 and 2 (R50). -/
def State.cmpTgtHi (s : State) (n : Nat) (v : Word) : State :=
  let s := s.plainWrite (A.TIME_CMP_TGT_HI n) v
  let m := s.fld (F.TIME_CMP_CTRL_MODE n)
  if m = 1 ∨ m = 2 then s.cmpArm n else s

/-- What a fire at `t` does to the pin (R52). -/
def State.cmpPin (s : State) (n t : Nat) : State :=
  if !s.flag (F.TIME_CMP_CTRL_PIN_EN n) then s
  else
    let w := (s.reg (A.TIME_CMP_WIDTH n)).toNat
    if w = 0 then s.drivePin n (!s.flag (F.TIME_CMP_STAT_PIN n)) t
    else
      let s := if (tblOpt s.time.pulseEnd n).isSome then s.setFlag (F.TIME_CMP_STAT_OVERLAP n) true
        else s.drivePin n (!s.pinIdle n) t
      { s with time := { s.time with pulseEnd := tblPut s.time.pulseEnd n (some (t + max w 32)) } }

/-- One pacing request for general channel c (R247). -/
def State.paceRequest (s : State) (c : Nat) : State :=
  let n := s.fld (F.DMA_CH_STAT_REQ_PEND c)
  if n < 255 then s.setFld (F.DMA_CH_STAT_REQ_PEND c) (n + 1) else s.setFlag (F.DMA_CH_STAT_REQ_OVF c) true

/-- A fire of CMPn is one pacing request of each paced channel whose REQ_SRC names it (R247). -/
def State.paceByCmp (s : State) (n : Nat) : State :=
  (List.range 256).foldl (fun s c =>
    if s.flag (F.DMA_CH_CFG_PACE c) && decide (s.fld F.PLC_CFG_DC_NUM ≤ c) && s.fld (F.DMA_CH_CFG_REQ_SRC c) == n + 1
    then s.paceRequest c else s) s

/-- A unit fires at `t`: FIRED, its interrupt, its pin, its pacing requests (R51, R52, R247). -/
def State.cmpFire (s : State) (n t : Nat) : State :=
  let s := s.setFlag (F.TIME_CMP_STAT_FIRED n) true
  let s := if s.flag (F.TIME_CMP_CTRL_IRQ_EN n) then s.raiseIrq (192 + n) else s
  (s.cmpPin n t).paceByCmp n

/-- What a unit does after its target `t` has been dealt with: a ONESHOT unit disarms, a PERIODIC one takes
target plus PERIOD, past `floor` by whole periods, a TICK one its next target after `floor` (R49, R54). -/
def State.cmpNext (s : State) (n t floor : Nat) : State :=
  match s.fld (F.TIME_CMP_CTRL_MODE n) with
  | 2 =>
    let p := max 1 (s.cmpPeriod n)
    s.setCmp n (some ⟨if floor < t + p then t + p else t + ((floor - t) / p + 1) * p, 0⟩)
  | 3 => s.setCmp n (s.cmpTickFirst n floor)
  | _ => s.setCmp n none

/-- An armed unit matches: device time reaches its target (R51). -/
def State.cmpMatch (s : State) (n : Nat) : State :=
  match s.cmpTarget n with
  | none => s
  | some c => ((s.advance c.target).cmpFire n c.target).cmpNext n c.target c.target

/-- The trailing edge of an active pulse (R52). -/
def State.cmpPulseEnd (s : State) (n : Nat) : State :=
  match tblOpt s.time.pulseEnd n with
  | none => s
  | some t =>
    let s := { s.advance t with time := { (s.advance t).time with pulseEnd := tblPut s.time.pulseEnd n none } }
    s.drivePin n (s.pinIdle n) t

/-- Re-evaluate an armed unit after a step that moved the grid on from `from'` (R54): a TICK target whose boundary the step
skips neither fires nor is missed. -/
def State.cmpStep (s : State) (from' n : Nat) : State :=
  match s.cmpTarget n with
  | none => s
  | some c =>
    let d : Int := (c.target : Int) - s.now
    if d > 2 ^ 47 - 1 then ((s.setCmp n none).setFlag (F.TIME_CMP_STAT_RANGE n) true).log 54 n []
    else if s.fld (F.TIME_CMP_CTRL_MODE n) = 3 ∧ from' < c.base ∧ c.base ≤ s.time.gridFrom then s.setCmp n (s.cmpTickFirst n s.now)
    else if 0 < d then s
    else
      let s := if s.flag (F.TIME_CMP_CTRL_STEP n) then s.setFlag (F.TIME_CMP_STAT_MISSED n) true
        else (s.cmpFire n s.now).setFlag (F.TIME_CMP_STAT_LATE n) true
      s.cmpNext n c.target s.now

/-- Re-evaluate every armed unit after a step (R54). -/
def State.cmpStepAll (s : State) (from' : Nat) : State := (List.range 64).foldl (fun s n => s.cmpStep from' n) s

/-- At a tick-rate change at `ts`, a TICK unit whose target derives from `ts` with an offset of the old rate, or from a later
point of the old grid, takes the earliest target of its new pattern after `ts` (R453). -/
def State.cmpRegrid (s : State) (ts n : Nat) : State :=
  match s.cmpTarget n with
  | none => s
  | some c =>
    if s.fld (F.TIME_CMP_CTRL_MODE n) = 3 ∧ (ts < c.base ∨ ts = c.base ∧ ts < c.target) then s.setCmp n (s.cmpTickFirst n ts)
    else s

/-- Every armed TICK unit moves onto the new grid (R453). -/
def State.cmpRegridAll (s : State) (ts : Nat) : State := (List.range 64).foldl (fun s n => s.cmpRegrid ts n) s

/-! ### Captures and reference pins -/

/-- A capture FIFO. -/
def State.captFifo (s : State) (n : Nat) : List CaptEnt := tblGet (fun _ => []) s.time.capt n

/-- Replace a capture FIFO. -/
def State.setCapt (s : State) (n : Nat) (l : List CaptEnt) : State :=
  { s with time := { s.time with capt := tblSet (fun _ => []) s.time.capt n l } }

/-- An accepted edge of CAPTn, `sub` TU after the time base's present count (R55). -/
def State.captAccept (s : State) (n : Nat) (falling : Bool) (sub : Nat) : State :=
  let e := s.fld (F.TIME_CAPT_CFG_EDGE n)
  if e = 3 ∨ (e = 1 ∧ !falling) ∨ (e = 2 ∧ falling) then
    let q := s.captFifo n
    if q.length ≥ 8 then s.count31 (A.TIME_CAPT_LOST n) 1
    else
      let s := s.setCapt n (q ++ [⟨st48 (s.now + sub), falling⟩])
      if s.flag (F.TIME_CAPT_CFG_IRQ_EN n) ∧ q = [] then s.raiseIrq (256 + n) else s
  else s

/-- Whether the filter of CAPTn takes a level held for `held` TU (R55): FILT steps of 4 ns; with FILT 0 one of 2 ns is taken,
and what becomes of a shorter one is free (log entry 186). -/
def State.captTakes (s : State) (n held : Nat) : Bool :=
  let f := s.fld (F.TIME_CAPT_CFG_FILT n)
  if f = 0 then decide (32 ≤ held) || s.free 1 == 1 else decide (64 * f ≤ held)

/-- An edge of CAPTn that begins a level held for `held` TU (R55). A level that the filter ignores is no level: the edge
that ends it is no edge. -/
def State.captEdge (s : State) (n : Nat) (falling : Bool) (sub held : Nat) : State :=
  let short := s.time.captShort
  if n ∈ short then { s with time := { s.time with captShort := short.filter (· != n) } }
  else
    let t := if s.fld (F.TIME_CAPT_CFG_FILT n) = 0 ∧ held < 32 then s.drawn else s
    if s.captTakes n held then t.captAccept n falling sub
    else { t with time := { t.time with captShort := setIns n short } }

/-- FIFO_HI of a pop (R55): the entry's high bits, its edge, the entries left, VALID. -/
def captHi (e : CaptEnt) (left : Nat) : Word :=
  BitVec.ofNat 32 (e.ts / 2 ^ 32 % 2 ^ 16 + (if e.fall then 2 ^ 16 else 0) + left % 8 * 2 ^ 17 + 2 ^ 31)

/-- PPS_IN: each rising edge overwrites TIME_PPS_CAP (R56). -/
def State.ppsEdge (s : State) (sub : Nat) : State :=
  { s with time := { s.time with ppsIn := some (s.now + sub) } }.setPair A.TIME_PPS_CAP_LO 16 (st48 (s.now + sub))

/-- TIME_STAT.PPS_OK: an edge within the last 1.1 s of device time (R56). -/
def State.ppsOk (s : State) : Bool :=
  match s.time.ppsIn with
  | some t => t ≤ s.now + 16 && s.now ≤ t + 17600000000
  | none => false

/-- TIME_STAT.REF10M_OK (R56). -/
def State.ref10mOk (s : State) : Bool :=
  let n := (s.reg A.TIME_REF10M_CNT).toNat
  9999000 ≤ n && n ≤ 10001000

/-- A whole second of device time: the always-on counter loads SEC, the alarm is checked, PPS_OUT rises, the
REF10M count latches (R43, R44, R56). -/
def State.deviceSecond (s : State) : State :=
  let t := (s.now / tuPerSec + 1) * tuPerSec
  let s := s.advance t
  let s : State := { s with aon := { s.aon with sec := t / tuPerSec % 2 ^ 48 } }.alarmCheck
  let s : State := { s.setReg A.TIME_REF10M_CNT (BitVec.ofNat 32 s.time.ref10m) with time := { s.time with ref10m := 0 } }
  let w := min 500 (s.fld F.TIME_PPS_CFG_OUT_MS)
  if w = 0 then s
  else { s with time := { s.time with ppsOut := some (t + w * 16000000) } }.emit (.pin "PPS_OUT" 0 true (st48 t))

end Sys2Proof.Machine
end

