-- ==== Sys2Proof/Machine/Link.lean ====
section
/-! DEFINITION. The Traori Link line layer (R65–R92): scrambling, stuffing, block lock, SYNC, bonding,
equalisation bands, eye scan, and sending and receiving one block. -/

namespace Sys2Proof.Machine

/-! ### State of one receiver, transmitter, bond -/

/-- A receiver that hunts with nothing gathered. -/
def rxReset : Nat → RxSt := fun _ => ⟨0, false, [], 0, false, 0, [], 1, 0, 0, 0, none, false, 1, 0, 0, 0⟩

/-- A transmitter whose next block is SYNC. -/
def txReset : Nat → TxSt := fun _ => ⟨1, 0, false, 0, 0, [], 0, 0, 0, [], false, 1, 0, none⟩

/-- A bond whose partner has reported nothing. -/
def bondReset : Nat → BondSt := fun _ => ⟨0, 0, [], [], [], []⟩

/-- A receiver. -/
def State.rx (s : State) (p : Nat) : RxSt := tblGet rxReset s.link.rx p

/-- Replace a receiver. -/
def State.setRx (s : State) (p : Nat) (r : RxSt) : State :=
  { s with link := { s.link with rx := tblSet rxReset s.link.rx p r } }

/-- A transmitter. -/
def State.tx (s : State) (p : Nat) : TxSt := tblGet txReset s.link.tx p

/-- Replace a transmitter. -/
def State.setTx (s : State) (p : Nat) (x : TxSt) : State :=
  { s with link := { s.link with tx := tblSet txReset s.link.tx p x } }

/-- The bond of trunk t. -/
def State.bond (s : State) (t : Nat) : BondSt := tblGet bondReset s.link.bond t

/-- Replace a bond. -/
def State.setBond (s : State) (t : Nat) (b : BondSt) : State :=
  { s with link := { s.link with bond := tblSet bondReset s.link.bond t b } }

/-- A port with nothing in progress. -/
def portReset : Nat → PortSt := fun _ => ⟨0, [], none, [], false, false, none, false, [], [], [], [], 0, [], none, []⟩

/-- A sensor end with no node assigned. -/
def sensorReset : Nat → SensorSt := fun _ => ⟨[], [], none, 0, 0, false, 0, false, 0, false, false, none, [], 0, []⟩

/-- A port's engine. -/
def State.port (s : State) (p : Nat) : PortSt := tblGet portReset s.link.port p

/-- Replace a port's engine. -/
def State.setPort (s : State) (p : Nat) (x : PortSt) : State :=
  { s with link := { s.link with port := tblSet portReset s.link.port p x } }

/-- A port's sensor-end state. -/
def State.sensor (s : State) (p : Nat) : SensorSt := tblGet sensorReset s.link.sensor p

/-- Replace a port's sensor-end state. -/
def State.setSensor (s : State) (p : Nat) (x : SensorSt) : State :=
  { s with link := { s.link with sensor := tblSet sensorReset s.link.sensor p x } }

/-- A trunk lane, not a camera port. -/
def isLane (p : Nat) : Bool := 64 ≤ p

/-- The trunk port of a lane. -/
def laneTrunk (p : Nat) : Nat := (p - 64) / 4

/-- The lane number of a lane. -/
def laneNo (p : Nat) : Nat := (p - 64) % 4

/-- Lane l of trunk t. -/
def laneOf (t l : Nat) : Nat := 64 + 4 * t + l

/-- Whether a port is in the sensor-end role (R2; on lanes TRK_BOND_CFG.ROLE decides). -/
def State.sensorEnd (s : State) (p : Nat) : Bool :=
  if isLane p then s.flag (F.TRK_BOND_CFG_ROLE (laneTrunk p)) else s.flag (F.TRL_CFG_ROLE p)

/-- Whether a port is enabled. -/
def State.portOn (s : State) (p : Nat) : Bool := s.flag (F.TRL_CFG_EN p)

/-- Whether a port discovers a chain, or is discovered as one: a camera port, and of a trunk port the lowest enabled lane
(log entry 163). -/
def State.discovers (s : State) (p : Nat) : Bool :=
  !isLane p || ((List.range 4).find? fun l => s.portOn (laneOf (laneTrunk p) l)) == some (laneNo p)

/-- Where a port keeps its virtual nodes: a trunk port at its lane 0. -/
def sensorPort (p : Nat) : Nat := if isLane p then laneOf (laneTrunk p) 0 else p

/-! ### Steps and lock -/

/-- A port loads the equalisation entry of a step in the band in force (R86). -/
def State.loadEq (s : State) (p step : Nat) : State :=
  let band := s.fld (F.TRL_STAT_BAND p)
  (s.setRx p { s.rx p with eqPend := false, eqBand := band, eqStep := step }).setTx p
    { s.tx p with eqPend := false, eqBand := band, eqStep := step }

/-- A port takes a step, and its equalisation entry (R86). -/
def State.setStep (s : State) (p step : Nat) : State := (s.setFld (F.TRL_STAT_STEP p) step).loadEq p step

/-- LOCK and SCR_SYNC are gone: an eye scan on the receiver ends ABORTED (R88), and a sensor end has lost reverse lock
(R98). -/
def State.unlock (s : State) (p : Nat) : State :=
  let was := s.flag (F.TRL_STAT_LOCK p)
  let s := s.setRx p { s.rx p with good := 0, window := [], misses := 0 }
  let s := (s.setFlag (F.TRL_STAT_LOCK p) false).setFlag (F.TRL_STAT_SCR_SYNC p) false
  let s := if s.sensorEnd p && was then s.setSensor p { s.sensor p with lostAt := some s.time.elapsed } else s
  if s.fld (F.TRL_EYE_STAT_STATE p) = 1 then s.setFld (F.TRL_EYE_STAT_STATE p) 3 else s

/-- A receiver takes a step and hunts (R101, R102). -/
def State.rxStep (s : State) (p step : Nat) : State := (s.unlock p).setStep p step

/-- A sensor end becomes unassigned: it holds no position and runs at step 0 (R98). The virtual nodes of a trunk port go with
the lane on which they were discovered. -/
def State.unassign (s : State) (p : Nat) : State :=
  let s := if s.discovers p then s.setSensor (sensorPort p) (sensorReset p) else s
  ((s.setSensor p (sensorReset p)).setTx p { s.tx p with train := none }).setStep p 0

/-- A sensor end without reverse lock for more than 10 ms becomes unassigned (R98), and leaves a loop (R119). -/
def State.lockAge (s : State) (p : Nat) : State :=
  match (s.sensor p).lostAt with
  | some t => if s.sensorEnd p && decide (t + 160000000 < s.time.elapsed) then s.unassign p else s
  | none => s

/-- The test loop that runs on a port (R89). -/
def State.loopRuns (s : State) (p : Nat) : Option LoopSt := (s.port p).loop.filter (·.running)

/-! ### Scrambler and stuffing -/

/-- One step of the PRBS31 generator (R71): its state after, and the bit. -/
def prbsNext (S : Nat) : Nat × Bool :=
  let b := (S / 2 ^ 30 + S / 2 ^ 27) % 2
  ((2 * S + b) % 2 ^ 31, b == 1)

/-- Scramble or descramble bits (R71). -/
def scramble : Nat → List Bool → Nat × List Bool
  | S, [] => (S, [])
  | S, b :: t =>
    let (S', k) := prbsNext S
    let (S'', r) := scramble S' t
    (S'', xor b k :: r)

/-- The bits of bytes, least significant first (R68). -/
def bitsOfBytes (l : List Byte) : List Bool := l.flatMap fun b => (List.range 8).map fun i => b.getLsbD i

/-- A byte of eight bits, least significant first. -/
def byteOfBits (l : List Bool) : Byte :=
  BitVec.ofNat 8 (l.foldr (fun b n => (if b then 1 else 0) + 2 * n) 0)

/-- The first `n` bytes of bits. -/
def bytesOfBits : Nat → List Bool → List Byte
  | 0, _ => []
  | n + 1, l => byteOfBits (l.take 8) :: bytesOfBits n (l.drop 8)

/-- Insert a bit of the opposite value after every run of 24 (R75); gives the run, the last bit and the line bits. -/
def stuff : Nat → Bool → List Bool → Nat × Bool × List Bool
  | run, last, [] => (run, last, [])
  | run, last, b :: t =>
    let run' := if run ≠ 0 ∧ b = last then run + 1 else 1
    if run' = 24 then
      let (r, l, o) := stuff 1 (!b) t
      (r, l, b :: (!b) :: o)
    else
      let (r, l, o) := stuff run' b t
      (r, l, b :: o)

/-- The header of a control block and of a data block, in the order sent (R67). -/
def ctlHeader : List Bool := [true, false, true, false]
def dataHeader : List Bool := [false, true, false, true]

/-! ### SYNC -/

/-- A control block payload of TYPE, ADDR and body with its CRC (R92). -/
def ctlBlock (type addr : Nat) (body : List Byte) : List Byte :=
  let head := leBytes 1 type ++ leBytes 1 addr ++ padTo 26 body
  head ++ leBytes 4 (crc32c head)

/-- The SYNC payload (R72): `lane` and `state` are bytes 8 and 9. -/
def syncBlock (seed interval lane state : Nat) : List Byte :=
  let head := [0x01#8, 0x21#8] ++ leBytes 4 (seed % 2 ^ 31) ++ leBytes 2 interval ++ leBytes 1 lane ++
    leBytes 1 state ++ List.replicate 18 0xA5#8
  head ++ leBytes 4 (crc32c head)

/-- Whether a control block's raw payload is a valid SYNC (R73). -/
def syncOk (b : List Byte) : Bool :=
  b.length == 32 && b.getD 0 0 == 0x01#8 && b.getD 1 0 == 0x21#8 &&
    (let w := ofLe ((b.drop 2).take 4); w != 0 && w < 2 ^ 31) &&
    (b.getD 8 0).toNat / 4 % 4 != 3 && ofLe (b.drop 28) == crc32c (b.take 28)

/-- A receive lane is healthy: LOCKED, descrambling, deskewed (R82). -/
def State.laneHealthy (s : State) (t l : Nat) : Bool :=
  s.flag (F.TRL_STAT_LOCK (laneOf t l)) && s.flag (F.TRL_STAT_SCR_SYNC (laneOf t l)) && !(l ∈ (s.bond t).dropped)

/-- LANE_OK as a sender reports it (R72, R82). -/
def State.laneOk (s : State) (p : Nat) : Nat :=
  if isLane p then
    (List.range 4).foldl (fun n l => n + (if s.laneHealthy (laneTrunk p) l then 2 ^ l else 0)) 0
  else if s.flag (F.TRL_STAT_LOCK p) then 1 else 0

/-! ### Bonding -/

/-- The lane sets a bond may use, widest first and lowest first (R83), with their width codes. -/
def bondSets : List (Nat × Nat) := [(15, 2), (3, 1), (12, 1), (1, 0), (2, 0), (4, 0), (8, 0)]

/-- Whether the lanes of a set run at one step (R84). -/
def State.sameStep (s : State) (t set : Nat) : Bool :=
  let steps := (List.range 4).filterMap fun l =>
    if set.testBit l then some (s.fld (F.TRL_STAT_STEP (laneOf t l))) else none
  steps.all (· == steps.headD 0)

/-- The widest set within `ok`; none where no lane is left. -/
def State.widestSet (s : State) (t ok : Nat) : Option (Nat × Nat) :=
  bondSets.find? fun c => c.1 &&& ok == c.1 && s.sameStep t c.1

/-- DOWN of a trunk below MIN_W, with one event when it is set. -/
def State.bondDown (s : State) (t : Nat) (down : Bool) : State :=
  let was := s.flag (F.TRK_BOND_STAT_DOWN t)
  let s := s.setFlag (F.TRK_BOND_STAT_DOWN t) down
  if down && !was then s.log 83 t [] else s

/-- Choose the transmit set at a SYNC (R83): narrowing at once, widening once the partner has reported the added
lanes in two consecutive intervals. -/
def State.bondChoose (s : State) (t : Nat) : State :=
  let b := s.bond t
  -- the partner's most recent SYNC, on any lane
  let en := s.fld (F.TRK_BOND_CFG_LANE_EN t)
  let now := (s.fld (F.TRK_BOND_STAT_TX_SET t))
  let steady := b.prevOk &&& b.lastOk
  let ok := en &&& ((now &&& b.lastOk) ||| steady)
  match s.widestSet t ok with
  | none => ((s.setFld (F.TRK_BOND_STAT_TX_SET t) 0).setFld (F.TRK_BOND_STAT_TX_W t) 0).bondDown t true
  | some (set, w) =>
    ((s.setFld (F.TRK_BOND_STAT_TX_SET t) set).setFld (F.TRK_BOND_STAT_TX_W t) w).bondDown t (decide (w < s.fld (F.TRK_BOND_CFG_MIN_W t)))

/-- What a bond learns of its partner from a SYNC received on lane p (R83): LANE_OK, with what the lane's SYNC of the interval
before said, the set and its width. -/
def State.bondReport (s : State) (p : Nat) (b : List Byte) : State :=
  let t := laneTrunk p
  let iv := ofLe ((b.drop 6).take 2)
  let lane := (b.getD 8 0).toNat
  let ok := (b.getD 9 0).toNat % 16
  let bd := s.bond t
  let before := match tblOpt bd.reports (laneNo p) with
    | some (i, o) => if iv = (i + 1) % 65536 then o else 0
    | none => 0
  let bd := { bd with prevOk := before, lastOk := ok, reports := tblPut bd.reports (laneNo p) (some (iv, ok)) }
  let set := s.fld (F.TRK_BOND_STAT_RX_SET t)
  let bit := 2 ^ laneNo p
  let s := (s.setBond t bd).setFld (F.TRK_BOND_STAT_PARTNER_OK t) ok
  let s := s.setFld (F.TRK_BOND_STAT_RX_SET t) (if lane / 16 % 2 = 1 then set ||| bit else set &&& (15 - bit))
  s.setFld (F.TRK_BOND_STAT_RX_W t) (lane / 4 % 4)

/-- The time of a block on a lane in TU, rounded up (R66). -/
def State.laneBlockTu (s : State) (p : Nat) : Nat :=
  match s.fld (F.TRL_STAT_STEP p) with
  | 0 => 2080 | 1 => 1040 | 2 => 520 | 3 => 347 | _ => 260

/-- How many blocks ago lane k of the same trunk had its last SYNC, rounded up (R84). -/
def State.laneLag (s : State) (p k : Nat) : Nat :=
  ceilDiv (s.now - (s.rx (laneOf (laneTrunk p) k)).syncAt) (s.laneBlockTu p)

/-- A lane is deskewed again. -/
def State.laneBack (s : State) (p : Nat) : State :=
  let t := laneTrunk p
  (s.setBond t { s.bond t with dropped := (s.bond t).dropped.filter (· != laneNo p) }).setRx p { s.rx p with disagree := 0 }

/-- A lane is dropped for skew or disagreement: counted once (R84). -/
def State.laneDrop (s : State) (p : Nat) : State :=
  let t := laneTrunk p
  if laneNo p ∈ (s.bond t).dropped then s
  else (s.setBond t { s.bond t with dropped := setIns (laneNo p) (s.bond t).dropped }).count31 (A.TRK_DESKEW_ERR t) 1

/-- Deskew lane p, whose SYNC of INTERVAL `iv` has come, to the other lanes of its bond (R84). Its lag is counted from the
first of them to have had this INTERVAL: within 16 blocks it is deskewed, and so are those within 16 blocks before it; beyond
them it lags and is dropped. A lane that is the first of its interval, the others having had the interval before, waits for
them; otherwise its INTERVAL disagrees, and at the third SYNC in a row it is dropped. -/
def State.deskew (s : State) (p iv : Nat) : State :=
  let t := laneTrunk p
  let set := s.fld (F.TRK_BOND_STAT_RX_SET t)
  let others := (List.range 4).filter fun k =>
    k != laneNo p && set.testBit k && s.flag (F.TRL_STAT_LOCK (laneOf t k)) && s.flag (F.TRL_STAT_SCR_SYNC (laneOf t k))
  let ivOf := fun k => (s.rx (laneOf t k)).interval
  let same := others.filter fun k => ivOf k == iv
  let lead := same.filter fun k => !(k ∈ (s.bond t).dropped)
  let lag := (if lead = [] then same else lead).foldl (fun m k => max m (s.laneLag p k)) 0
  if others = [] then (s.laneBack p).setFld (F.TRK_BOND_STAT_SKEW t) 0
  else if same ≠ [] then
    let s := s.setRx p { s.rx p with disagree := 0 }
    if 16 < lag then s.laneDrop p
    else
      let near := same.filter fun k => decide (s.laneLag p k ≤ 16)
      (near.foldl (fun s k => s.laneBack (laneOf t k)) (s.laneBack p)).setFld (F.TRK_BOND_STAT_SKEW t) lag
  else if others.any fun k => (ivOf k + 1) % 65536 == iv && decide (16 < s.laneLag p k) then
    s.setRx p { s.rx p with disagree := 0 }
  else
    let n := (s.rx p).disagree + 1
    let s := s.setRx p { s.rx p with disagree := n }
    if 3 ≤ n then s.laneDrop p else s

/-- What a bond learns from a SYNC received on lane p (R83, R84). -/
def State.bondHear (s : State) (p : Nat) (b : List Byte) : State :=
  let iv := ofLe ((b.drop 6).take 2)
  let s := (s.bondReport p b).setRx p { s.rx p with interval := iv, syncAt := s.now }
  if (b.getD 8 0).toNat / 16 % 2 = 1 then s.deskew p iv else s.laneBack p

/-! ### Equalisation -/

/-- The index of an equalisation entry: step s, band b (R85). -/
def eqIndex (step band : Nat) : Nat := step * 3 + band

/-- STEPS_AVAIL: steps up to MAX_STEP whose entries are VALID in every band (R87). -/
def State.stepsAvail (s : State) (p : Nat) : Nat :=
  (List.range 5).foldl (fun n st =>
    if st ≤ s.fld (F.TRL_CFG_MAX_STEP p) && (List.range 3).all (fun b => s.flag (F.TRL_EQ_LO_VALID p (eqIndex st b)))
    then n + 2 ^ st else n) 0

/-- The band that a die temperature leads to from the present one (R85). -/
def nextBand (band : Nat) (c : Int) : Nat :=
  let band := if band = 0 ∧ 20 ≤ c then 1 else band
  let band := if band = 1 ∧ 80 ≤ c then 2 else band
  let band := if band = 2 ∧ c < 75 then 1 else band
  if band = 1 ∧ c < 15 then 0 else band

/-- A port's band changes: the entry waits for the port's own SYNCs, and an eye scan aborts (R85, R86). -/
def State.bandChange (s : State) (p band : Nat) : State :=
  if s.fld (F.TRL_STAT_BAND p) = band then s
  else
    let s := s.setFld (F.TRL_STAT_BAND p) band
    let s := (s.setRx p { s.rx p with eqPend := true }).setTx p { s.tx p with eqPend := true }
    if s.fld (F.TRL_EYE_STAT_STATE p) = 1 then s.setFld (F.TRL_EYE_STAT_STATE p) 3 else s

/-! ### Block lock and reception -/

/-- Lose lock (R78): HUNT, SCR_SYNC 0, counted, one event. A loop's checker has lost lock, and the loop runs on (R89). -/
def State.loseLock (s : State) (p : Nat) : State :=
  let s := ((s.unlock p).count31 (A.TRL_LOCK_LOSS p) 1).log 78 p []
  if (s.loopRuns p).isSome then
    (s.setFld (F.TRL_TEST_STAT_STATE p) 3).setFlag (F.TRL_TEST_STAT_CHK_LOCK p) false
  else s

/-- The error counts that fail a training (R101). -/
def State.trainErrs (s : State) (p : Nat) : Nat :=
  s.fld ⟨A.TRL_HDR_ERR p, 0, 31⟩ + s.fld ⟨A.TRL_STUFF_VIOL p, 0, 31⟩ + s.fld ⟨A.TRL_CTL_CRC_ERR p, 0, 31⟩

/-- Training begins at the first SYNC after the switch: errors count from there (R101). -/
def State.trainBase (s : State) (p : Nat) : State :=
  match (s.port p).pronk with
  | some k =>
    if k.switched && k.errs0.isNone then
      s.setPort p { s.port p with pronk := some { k with errs0 := some (s.trainErrs p) } }
    else s
  | none => s

/-- Accept a valid SYNC (R74): load the seed, restart the block count, apply a waiting equalisation entry (R86); a sensor end
that has committed to a loop begins it (R119). -/
def State.takeSync (s : State) (p : Nat) (b : List Byte) : State :=
  let r := s.rx p
  let iv := ofLe ((b.drop 6).take 2)
  let s := s.setRx p { r with scr := ofLe ((b.drop 2).take 4) % 2 ^ 31, blk := 0, misses := 0, eqPend := false
                              eqBand := if r.eqPend then s.fld (F.TRL_STAT_BAND p) else r.eqBand }
  let s := s.setFlag (F.TRL_STAT_SCR_SYNC p) true
  let s := if (s.loopRuns p).isSome then s.setFlag (F.TRL_TEST_STAT_CHK_LOCK p) true else s
  let s := if (s.sensor p).loopArm then s.setSensor p { s.sensor p with loopArm := false, loopOn := true } else s
  (if isLane p then s.bondHear p b else s.setRx p { s.rx p with interval := iv }).trainBase p

/-- Assigned TYPE codes (R69, R93). -/
def typeAssigned (n : Nat) : Bool := n ≤ 0x0D

/-- An IDLE block (R69). -/
def idleBlock : Bool × List Byte := (true, List.replicate 32 0#8)

/-- Deliver a descrambled block (R69, R92): IDLE is dropped, an unassigned TYPE and a bad CRC are counted. While a
loop runs, the checker counts every payload bit of a data block that is not 0, and control blocks go no further (R89); a
looping sensor end returns every block but TRAIN LOOP_END (R119), on a camera port with 7 IDLE blocks after it (R89). -/
def State.deliverBlock (s : State) (p : Nat) (ctl : Bool) (b : List Byte) : State :=
  let loop := (s.loopRuns p).isSome
  if (s.sensor p).loopOn && !(ctl && b.take 3 == [9#8, b.getD 1 0, 3#8]) then
    let idle := if isLane p then [] else List.replicate 7 idleBlock
    s.setTx p { s.tx p with queue := (s.tx p).queue ++ (ctl, b) :: idle }
  else if !ctl then
    if loop then s.count31 (A.TRL_TEST_ERR p) ((bitsOfBytes b).countP id) else s.setRx p { s.rx p with got := some (false, b) }
  else
    let type := (b.getD 0 0).toNat
    if type = 0 then s
    else if !typeAssigned type then s.count31 (A.TRL_HDR_ERR p) 1
    else if type != 1 && ofLe (b.drop 28) != crc32c (b.take 28) then s.count31 (A.TRL_CTL_CRC_ERR p) 1
    else if loop then s
    else s.setRx p { s.rx p with got := some (true, b) }

/-- A block received while LOCKED (R74, R78): `viol` says a stuffing violation fell in it. Where the block at the place of a
SYNC has the invalid header that fills the window, lock is lost and the SYNC is not counted as missed, an order the spec leaves
open (DESIGN CHOICE, log entry 187). -/
def State.lockedBlock (s : State) (p : Nat) (bits : List Bool) (viol : Bool) : State :=
  let hdr := bits.take 4
  let ctl := hdr == ctlHeader
  let valid := ctl || hdr == dataHeader
  let raw := bytesOfBits 32 (bits.drop 4)
  let s := s.count48 (A.TRL_BLK_CNT_LO p) 1
  let r := s.rx p
  let window := (valid :: r.window).take 64
  let s := s.setRx p { r with window := window, blk := r.blk + 1 }
  let s := if valid then s else s.count31 (A.TRL_HDR_ERR p) 1
  if window.countP (fun b => !b) ≥ 16 then s.loseLock p
  else
    let isSync := ctl && !viol && syncOk raw
    let seeded := s.flag (F.TRL_STAT_SCR_SYNC p)
    let atSync := (s.rx p).blk == 4096
    if isSync then
      let odd := seeded && (!atSync || ofLe ((raw.drop 6).take 2) != (r.interval + 1) % 65536)
      let s := if odd then s.count31 (A.TRL_SYNC_SEQ p) 1 else s
      s.takeSync p raw
    else if atSync && (seeded || r.misses ≠ 0) then
      let s := s.count31 (A.TRL_SYNC_MISS p) 1
      if r.misses ≠ 0 then s.loseLock p
      else (s.setFlag (F.TRL_STAT_SCR_SYNC p) false).setRx p { s.rx p with blk := 0, misses := 1 }
    else if !seeded then s
    else
      let (S, plain) := scramble r.scr (bits.drop 4)
      let s := s.setRx p { s.rx p with scr := S }
      if valid && !viol then s.deliverBlock p ctl (bytesOfBits 32 plain) else s

/-- A block tested while in HUNT (R78): 64 valid headers in a row lock; an invalid one slips by one bit. -/
def State.huntBlock (s : State) (p : Nat) (bits : List Bool) : State :=
  let hdr := bits.take 4
  let r := s.rx p
  if hdr == ctlHeader || hdr == dataHeader then
    if r.good + 1 = 64 then
      let s := if s.sensorEnd p then s.setSensor p { s.sensor p with lostAt := none } else s
      (s.setRx p { s.rx p with good := 0, window := [], blk := 0, misses := 0 }).setFlag (F.TRL_STAT_LOCK p) true
    else s.setRx p { r with good := r.good + 1 }
  else s.setRx p { r with good := 0, skip := 1 }

/-- One block's worth of destuffed bits. -/
def State.rxBlock (s : State) (p : Nat) (bits : List Bool) (viol : Bool) : State :=
  if s.flag (F.TRL_STAT_LOCK p) then s.lockedBlock p bits viol else s.huntBlock p bits

/-- Pass one destuffed bit on; a full block is taken. -/
def State.passBit (s : State) (p : Nat) (b : Bool) : State :=
  let r := s.rx p
  if r.skip ≠ 0 then s.setRx p { r with skip := r.skip - 1 }
  else
    let buf := r.buf ++ [b]
    if buf.length = 260 then
      (s.setRx p { r with buf := [], viol := false }).rxBlock p buf r.viol
    else s.setRx p { r with buf := buf }

/-- One received line bit (R76). A violating bit removed between two blocks belongs to the one that follows, which the spec
leaves open (DESIGN CHOICE, log entry 188). -/
def State.rxBit (s : State) (p : Nat) (b : Bool) : State :=
  let r := s.rx p
  if r.run = 24 then
    if b = r.last then
      (s.setRx p { r with run := 1, last := b, viol := true }).count31 (A.TRL_STUFF_VIOL p) 1
    else (s.setRx p { r with run := 1, last := b }).count48 (A.TRL_STUFF_CNT_LO p) 1
  else
    let run := if r.run ≠ 0 ∧ b = r.last then r.run + 1 else 1
    (s.setRx p { r with run := run, last := b }).passBit p b

/-- Line bits arrive at a receiver. -/
def State.receiveBits (s : State) (p : Nat) (bits : List Bool) : State :=
  if s.start.phase == .run && s.portOn p then bits.foldl (fun s b => s.rxBit p b) s else s

/-! ### Transmission -/

/-- Queue a control block on a port. -/
def State.sendCtl (s : State) (p type addr : Nat) (body : List Byte) : State :=
  s.setTx p { s.tx p with queue := (s.tx p).queue ++ [(true, ctlBlock type addr body)] }

/-- FINE of a TRIG block whose slot starts at `slot` (R47, R63): the interval to t_L in the reverse link's clock, by the
TIME_INC in force when it was scheduled. -/
def fineOf (g : TrigBlock) (slot : Nat) : Nat := (divRound (((g.tl - slot) * 16 * 2 ^ 32 : Nat) : Int) g.inc).toNat

/-- The payload of TRIG (R93): FINE, the channel mask and the herd's low byte. -/
def trigBody (fine : Nat) (g : TrigBlock) : List Byte :=
  leBytes 3 (fine % 2 ^ 18 + g.vcMask % 16 * 2 ^ 18) ++ leBytes 1 g.herd

/-- The near-end loop a port runs: 1 serial, 2 parallel, 0 none (R89). -/
def State.nearLoop (s : State) (p : Nat) : Nat :=
  match s.loopRuns p with
  | some l => if l.kind = 3 then 0 else l.kind
  | none => 0

/-- Three times a transmitter's unit interval in TU (R66): 4 ns in the reverse direction of a camera port, else
that of its step. -/
def State.ui3 (s : State) (p : Nat) : Nat :=
  if !isLane p && !s.sensorEnd p && s.nearLoop p = 0 then 192
  else match s.fld (F.TRL_STAT_STEP p) with
    | 0 => 24 | 1 => 12 | 2 => 6 | 3 => 4 | _ => 3

/-- A block enters the receive path at the block-lock input (R89): stuffing is left out. -/
def State.receiveBlock (s : State) (p : Nat) (bits : List Bool) : State := bits.foldl (fun s b => s.passBit p b) s

/-- Put a block's bits on the line, or through a near-end loop (R89): scrambled unless SYNC, stuffed, emitted; the slot moves on
(R70, R77), its fraction of a TU with it (R66). -/
def State.sendBits (s : State) (p : Nat) (hdr payload : List Bool) : State :=
  let x := s.tx p
  let (run, last, out) := stuff x.run x.last (hdr ++ payload)
  let n := x.frac + out.length * s.ui3 p * s.time.inc
  let d := 48 * 2 ^ 32
  let s := s.setTx p { x with run := run, last := last, blk := (x.blk + 1) % 4096, slot := x.slot + n / d, frac := n % d }
  match s.nearLoop p with
  | 1 => s.receiveBits p out
  | 2 => s.receiveBlock p (hdr ++ payload)
  | _ => s.emit (.line p out)

/-- Send a block that is not SYNC. -/
def State.sendBlock (s : State) (p : Nat) (ctl : Bool) (b : List Byte) : State :=
  let (S, bits) := scramble (s.tx p).scr (bitsOfBytes b)
  (s.setTx p { s.tx p with scr := S }).sendBits p (if ctl then ctlHeader else dataHeader) bits

/-- Whether lane p's SYNC is the one at which its bond chooses its set: that of the lowest lane of the set, or of any lane
while there is none (R83). -/
def State.bondLead (s : State) (p : Nat) : Bool :=
  let set := s.fld (F.TRK_BOND_STAT_TX_SET (laneTrunk p))
  match (List.range 4).find? fun l => set.testBit l && s.portOn (laneOf (laneTrunk p) l) with
  | some l => l == laneNo p
  | none => true

/-- At a SYNC of its lanes a bond chooses its set (R83). The lanes that are new to it send SYNC with it, with the same
INTERVAL (R84); what was dealt to a lane that leaves it is lost. -/
def State.bondJoin (s : State) (p : Nat) : State :=
  if !s.bondLead p then s
  else
    let t := laneTrunk p
    let was := s.fld (F.TRK_BOND_STAT_TX_SET t)
    let s := s.bondChoose t
    let set := s.fld (F.TRK_BOND_STAT_TX_SET t)
    let s := s.setBond t { s.bond t with dealt := (s.bond t).dealt.filter fun c => set.testBit c.1 }
    if !set.testBit (laneNo p) then s
    else (List.range 4).foldl (fun s k =>
      if k != laneNo p && set.testBit k && !was.testBit k then
        s.setTx (laneOf t k) { s.tx (laneOf t k) with blk := 0, interval := (s.tx p).interval, slot := (s.tx p).slot
                                                      frac := (s.tx p).frac }
      else s) s

/-- A training sensor end has sent a SYNC: two intervals after the first, its virtual nodes report the hops between them,
which have no line to fail (R101): node p − 1 sends TRAIN RESULT for hop p. -/
def State.trainSync (s : State) (p : Nat) : State :=
  let x := s.sensor p
  if !x.training then s
  else
    let s := s.setSensor p { x with syncs := x.syncs + 1 }
    if x.syncs ≠ 2 then s
    else
      let hops := (List.range 8).filter fun h => h != 0 && x.hops.testBit h && decide (h < (s.sensor (sensorPort p)).nodes.length)
      let step := s.fld (F.TRL_STAT_STEP p)
      hops.foldl (fun s h => s.sendCtl p 0x09 (h - 1) (leBytes 1 1 ++ leBytes 1 h ++ leBytes 1 step ++ leBytes 1 1)) s

/-- Send a SYNC (R72): a free non-zero seed, loaded after it; a waiting equalisation entry applies at its start
(R86), and a bond chooses its lanes (R83). STEP of the SYNC that a hub end sends on a camera port, whose reverse direction
runs at no step, is the port's forward step (DESIGN CHOICE, log entry 189). -/
def State.sendSync (s : State) (p : Nat) : State :=
  let seed := max 1 (s.free 31)
  let s := s.drawn
  let s := if isLane p then s.bondJoin p else s
  let t := laneTrunk p
  let lane := if isLane p then
      laneNo p + 4 * s.fld (F.TRK_BOND_STAT_TX_W t) + (if bitsOf (s.fld (F.TRK_BOND_STAT_TX_SET t)) (laneNo p) 1 = 1
        then 16 else 0)
    else 16
  let x := s.tx p
  let state := s.laneOk p + 16 * s.fld (F.TRL_STAT_STEP p)
  let s := s.setTx p { x with interval := (x.interval + 1) % 65536, eqPend := false, ctl := 0
                              eqBand := if x.eqPend then s.fld (F.TRL_STAT_BAND p) else x.eqBand }
  let s := s.sendBits p ctlHeader (bitsOfBytes (syncBlock seed x.interval lane state))
  (s.setTx p { s.tx p with scr := seed }).trainSync p

/-- Whether R115 limits a forward block: a control block other than IDLE, SYNC, SOF and EOF, and not one of bring-up or
session setup, which are CAPS, TRAIN, KEY and the ACKs of DISC but POLL, of TRAIN and of RATE (log entry 190). -/
def limited (b : Bool × List Byte) : Bool :=
  let type := (b.2.getD 0 0).toNat
  let of := (b.2.getD 2 0).toNat
  b.1 && !([0, 1, 2, 3, 8, 9, 11].contains type) && !(type == 12 && ((of == 7 && b.2.getD 3 0 != 5#8) || of == 9 || of == 10))

/-- The first block of a queue that does not have to stay, and the queue without it. -/
def takeFirst (stays : Bool × List Byte → Bool) :
    List (Bool × List Byte) → Option ((Bool × List Byte) × List (Bool × List Byte))
  | [] => none
  | b :: q => if stays b then (takeFirst stays q).map fun r => (r.1, b :: r.2) else some (b, q)

/-- Whether a block has to wait on port p: a sensor end has sent the 4 control blocks that R115 allows it in a SYNC interval;
a port at a pronk sends no KEY blocks (R320). -/
def State.stays (s : State) (p : Nat) (b : Bool × List Byte) : Bool :=
  (s.sensorEnd p && decide (4 ≤ (s.tx p).ctl) && limited b) || ((s.port p).pronk.isSome && b.1 && b.2.getD 0 0 == 0x0B#8)

/-- Take the next block of a port's own queue. -/
def State.takeOwn (s : State) (p : Nat) : Option ((Bool × List Byte) × State) :=
  (takeFirst (s.stays p) (s.tx p).queue).map fun r => (r.1, s.setTx p { s.tx p with queue := r.2 })

/-- Take the next block of a bond's queue, for lane p. -/
def State.takeBond (s : State) (p : Nat) : Option ((Bool × List Byte) × State) :=
  let t := laneTrunk p
  (takeFirst (s.stays p) (s.bond t).queue).map fun r => (r.1, s.setBond t { s.bond t with queue := r.2 })

/-- Whether a lane carries bonded traffic: it is in the set of a bond that is not DOWN. -/
def State.bonded (s : State) (p : Nat) : Bool :=
  isLane p && (s.fld (F.TRK_BOND_STAT_TX_SET (laneTrunk p))).testBit (laneNo p) && !s.flag (F.TRK_BOND_STAT_DOWN (laneTrunk p))

/-- Blocks dealt to a lane and not yet sent. -/
def State.dealtTo (s : State) (p : Nat) : List (Bool × List Byte) := tblGet (fun _ => []) (s.bond (laneTrunk p)).dealt (laneNo p)

/-- Replace them. -/
def State.setDealt (s : State) (p : Nat) (l : List (Bool × List Byte)) : State :=
  let t := laneTrunk p
  s.setBond t { s.bond t with dealt := tblSet (fun _ => []) (s.bond t).dealt (laneNo p) l }

/-- Deal one block to each lane of a bond, in increasing lane order (R84): a control block that waits at the lane itself, else
the next block of the bond, else IDLE. -/
def State.deal (s : State) (t : Nat) : State :=
  let set := s.fld (F.TRK_BOND_STAT_TX_SET t)
  ((List.range 4).filter fun l => set.testBit l).foldl (fun s l =>
    let p := laneOf t l
    match s.takeOwn p with
    | some (b, s) => s.setDealt p (s.dealtTo p ++ [b])
    | none => match s.takeBond p with
      | some (b, s) => s.setDealt p (s.dealtTo p ++ [b])
      | none => s.setDealt p (s.dealtTo p ++ [idleBlock])) s

/-- The next block of a port; a lane of a bond takes what it is dealt (R84). -/
def State.nextQueued (s : State) (p : Nat) : Option ((Bool × List Byte) × State) :=
  if s.bonded p && !(s.sensor p).loopOn then
    let s := if s.dealtTo p = [] then s.deal (laneTrunk p) else s
    match s.dealtTo p with
    | b :: q => some (b, s.setDealt p q)
    | [] => none
  else s.takeOwn p

/-- A TIME REQ that leaves gives its node's round its t1, the start of its slot (R58). -/
def State.noteTimeReq (s : State) (p : Nat) (ctl : Bool) (b : List Byte) : State :=
  if ctl && b.getD 0 0 == 0x06#8 && b.getD 2 0 == 0#8 && !isLane p then
    let na := p * 8 + (b.getD 1 0).toNat % 8
    match tblOpt s.time.rounds na with
    | some r => { s with time := { s.time with rounds := tblPut s.time.rounds na (some { r with t1 := some (s.tx p).slot }) } }
    | none => s
  else s

/-- A RATE REVERT that leaves a trunk lane, whose other direction has carried it at the step trained, takes the lane's own end
back to step s (R102). -/
def State.noteRevert (s : State) (p : Nat) (ctl : Bool) (b : List Byte) : State :=
  if isLane p && !s.sensorEnd p && ctl && b.getD 0 0 == 0x0A#8 && b.getD 2 0 == 2#8 then
    match (s.port p).pronk with
    | some k => if s.fld (F.TRL_STAT_STEP p) = k.from' then s else s.rxStep p k.from'
    | none => s
  else s

/-- Count a missed trigger of a node (R63, R64). -/
def State.missTrigger (s : State) (na : Nat) : State :=
  { s with time := { s.time with missed := tblSet zeroN s.time.missed na (tblGet zeroN s.time.missed na + 1) } }

/-- The length of a reverse slot in device time: 260 bits of 4 ns of link time (R63). -/
def State.slotTu (s : State) : Nat := max 1 (16640 * s.time.inc / (16 * 2 ^ 32))

/-- The latest free slot at or before `tl`, of those the transmitter has not started: neither SYNC nor taken, and
within the FINE range (R63). `m` slots ahead are looked at, downward. -/
def State.findSlot (s : State) (p tl : Nat) : Nat → Option Nat
  | 0 => none
  | m + 1 =>
    let x := s.tx p
    let st := x.slot + m * s.slotTu
    if st ≤ tl ∧ tl - st ≤ 133120 ∧ (x.blk + m) % 4096 ≠ 0 ∧ !(x.trigs.any fun g => g.slot == st) then some st
    else if st ≤ tl ∧ tl - st > 133120 then none
    else s.findSlot p tl m

/-- Give a TRIG block its slot (R63), or count it as missed where its t_L has passed or no slot is free (R64). -/
def State.slotTrigger (s : State) (p : Nat) (g : TrigBlock) : State :=
  let x := s.tx p
  match if x.slot ≤ g.tl then s.findSlot p g.tl ((g.tl - x.slot) / s.slotTu + 1) else none with
  | none => s.missTrigger (p * 8 + g.pos)
  | some st => s.setTx p { x with trigs := x.trigs ++ [{ g with slot := st }] }

/-- Before a slot starts, the triggers for nodes whose delay is no longer VALID are dropped (R64), and the others take their
slots again, since stuffed bits have moved the slots (R77). -/
def State.repick (s : State) (p : Nat) : State :=
  let gs := (s.tx p).trigs.filter fun g => s.flag (F.TIME_NODE_DLY_VALID (p * 8 + g.pos))
  gs.foldl (fun s g => s.slotTrigger p g) (s.setTx p { s.tx p with trigs := [] })

/-- A TRIG block leaves in the slot that starts now (R63). -/
def State.launch (s : State) (p : Nat) (g : TrigBlock) : State :=
  let x := s.tx p
  (s.setTx p { x with trigs := x.trigs.filter (· != g) }).sendBlock p true (ctlBlock 0x05 g.pos (trigBody (fineOf g x.slot) g))

/-- The next block waiting leaves, or IDLE (R69). -/
def State.sendNext (s : State) (p : Nat) : State :=
  match s.nextQueued p with
  | some ((ctl, b), s) =>
    let s := if limited (ctl, b) then s.setTx p { s.tx p with ctl := (s.tx p).ctl + 1 } else s
    ((s.noteTimeReq p ctl b).sendBlock p ctl b).noteRevert p ctl b
  | none => s.sendBlock p true idleBlock.2

/-- The TRAIN RESULT that waits at a training transmitter (R101). -/
def State.takeResult (s : State) (p : Nat) : Option (List Byte × State) :=
  let x := s.tx p
  let is := fun (b : Bool × List Byte) => b.1 && b.2.getD 0 0 == 9#8 && b.2.getD 2 0 == 1#8
  (x.queue.find? is).map fun b => (b.2, s.setTx p { x with queue := x.queue.erase b })

/-- A transmitter sends its next block (R63, R69, R70, R72): SYNC when due, else a TRIG of this slot, else the
next block waiting, else IDLE; a loop's test stream sends data blocks of zeros (R89), a training transmitter
only TRAIN PATTERN and the results it owes (R101), and what has been dealt to such a lane is lost. A TRIG block whose slot the
bits stuffed into this block would move past its t_L takes this one. -/
def State.transmit (s : State) (p : Nat) : State :=
  let s := (s.advance (s.tx p).slot).lockAge p
  let x := s.tx p
  if x.blk = 0 then s.sendSync p
  else if (s.loopRuns p).isSome then (if isLane p then s.setDealt p (s.dealtTo p).tail else s).sendBlock p false (List.replicate 32 0#8)
  else match x.train with
  | some c =>
    let s := if isLane p then s.setDealt p (s.dealtTo p).tail else s
    match s.takeResult p with
    | some (b, s) => s.sendBlock p true b
    | none => (s.setTx p { s.tx p with train := some (c + 1) }).sendBlock p true (ctlBlock 0x09 0 (leBytes 1 0 ++ leBytes 4 c))
  | none =>
    let s := s.repick p
    let x := s.tx p
    match x.trigs.find? fun g => g.slot ≤ x.slot with
    | some g => s.launch p g
    | none =>
      let t := s.sendNext p
      match x.trigs.find? fun g => decide (g.tl < (t.tx p).slot) with
      | some g => s.launch p g
      | none => t

end Sys2Proof.Machine
end

