-- ==== Sys2Proof/Machine/Chain.lean ====
section
/-! DEFINITION. Bring-up of a port and its chain (R93–R108, R118, R120): discovery, pronks, retrains, losses, and the
sensor-end role, as operations.  The commands of these rules are meanings in Machine/Nodes.lean. -/

namespace Sys2Proof.Machine

/-! ### Ports and nodes -/

/-- The node address of position `pos` on camera port `p` (R3). -/
def nodeAddr (p pos : Nat) : Nat := p * 8 + pos

/-- Indices of an array of registers whose stored words differ from reset, rising. -/
def State.listed (s : State) (base stride count : Nat) : List Nat :=
  s.regs.filterMap fun c =>
    if base ≤ c.1 ∧ (c.1 - base) % stride = 0 ∧ (c.1 - base) / stride < count then some ((c.1 - base) / stride) else none

/-- The valid entries of the input stream table, rising; an entry resets to not valid, so all are listed. -/
def State.isids (s : State) : List Nat :=
  (s.listed 0x500000 0x80 1024).filter fun i => s.flag (F.ING_ENT0_VALID i)

/-- The input stream of a node's channel (R121). -/
def State.isidOf (s : State) (na vc : Nat) : Option Nat :=
  s.isids.find? fun i => s.fld (F.ING_ENT0_NA i) == na && s.fld (F.ING_ENT0_VC i) == vc

/-- Set a field of the bring-up status. -/
def State.setBrup (s : State) (p st : Nat) : State := s.setFld (F.TRL_BRUP_STAT_STATE p) st

/-- Note the last failure of a port. -/
def State.brupFail (s : State) (p hop cause : Nat) : State :=
  (s.setFld (F.TRL_BRUP_STAT_FAIL_HOP p) hop).setFld (F.TRL_BRUP_STAT_LAST_FAIL p) cause

/-- The committed step of hop h, and whether it is up. -/
def State.hopStep (s : State) (p h : Nat) : Nat := fldGet (s.reg (A.TRL_HOP_STEP p)) (3 * h) 3
def State.hopUp (s : State) (p h : Nat) : Bool := bitOn (s.reg (A.TRL_HOP_STEP p)) (24 + h)

/-- Note a placement trigger by its CAUSE bit (R177, R196). -/
def State.plcTrigger (s : State) (bit : Nat) : State := { s with plc := { s.plc with trig := s.plc.trig ||| 2 ^ bit } }

/-- Recompute PATH_STEP of the nodes of a port (R104). -/
def State.pathSteps (s : State) (p : Nat) : State :=
  if isLane p then s
  else (List.range 8).foldl (fun s q =>
    let na := nodeAddr p q
    if s.flag (F.NODE_ENT_PRESENT na) then
      s.setFld (F.NODE_ENT_PATH_STEP na) ((List.range (q + 1)).foldl (fun m h => min m (s.hopStep p h)) 7)
    else s) s

/-- Commit hop h at a step, or take it down; PATH_STEP follows (R104), and a change of a committed step asks for a placement
run (R177). -/
def State.setHop (s : State) (p h step : Nat) (up : Bool) : State :=
  let r := s.reg (A.TRL_HOP_STEP p)
  let moved := s.hopUp p h && up && s.hopStep p h != step
  let s := (s.setReg (A.TRL_HOP_STEP p) (fldPut (fldPut r (3 * h) 3 step) (24 + h) 1 (if up then 1 else 0))).pathSteps p
  if moved then s.plcTrigger 6 else s

/-- The hops a bit mask selects. -/
def hopsOf (m : Nat) : List Nat := (List.range 8).filter fun h => bitsOf m h 1 == 1

/-- Queue reverse blocks whose answer is awaited (R94). -/
def State.askAll (s : State) (p : Nat) (what : Await) (blocks : List (List Byte)) : State :=
  let s := s.setTx p { s.tx p with queue := (s.tx p).queue ++ blocks.map fun b => (true, b) }
  let x := s.port p
  s.setPort p { x with waits := x.waits.filter (fun w => w.what != what) ++ [⟨what, blocks, 0⟩] }

/-- Queue a reverse block whose answer is awaited (R94). -/
def State.ask (s : State) (p : Nat) (what : Await) (type addr : Nat) (body : List Byte) : State :=
  s.askAll p what [ctlBlock type addr body]

/-- Whether a port waits for an answer. -/
def State.awaits (s : State) (p : Nat) (what : Await) : Bool := (s.port p).waits.any fun w => w.what == what

/-- The answer has come, or is given up. -/
def State.answered (s : State) (p : Nat) (what : Await) : State :=
  let x := s.port p
  s.setPort p { x with waits := x.waits.filter fun w => w.what != what }

/-- ADDR with ALL set (R93). -/
def addrAll : Nat := 8

/-- CHAIN_MAX, TRAIN_TRIES as the field tables treat them. -/
def State.chainMax (s : State) (p : Nat) : Nat :=
  let n := s.fld (F.TRL_BRUP_CFG_CHAIN_MAX p); if n = 0 then 1 else min n 8
def State.trainTries (s : State) (p : Nat) : Nat := max 1 (s.fld (F.TRL_BRUP_CFG_TRAIN_TRIES p))

/-! ### Delays of a port's nodes (R58–R60) -/

/-- The node's round in progress. -/
def State.round (s : State) (na : Nat) : Option DelayRound := tblOpt s.time.rounds na

/-- Replace it. -/
def State.setRound (s : State) (na : Nat) (r : Option DelayRound) : State :=
  { s with time := { s.time with rounds := tblPut s.time.rounds na r } }

/-- Send a TIME REQ to a node (R58). -/
def State.timeReq (s : State) (na seq : Nat) : State :=
  s.sendCtl (na / 8) 0x06 (na % 8) (leBytes 1 0 ++ leBytes 1 seq)

/-- A delay round starts (R59); one in progress, a node out of reach and a firmware restart keep it from starting. -/
def State.startRound (s : State) (na : Nat) : State :=
  if s.flag (F.NODE_ENT_PRESENT na) && (s.round na).isNone && !s.start.fwBusy then
    let s : State := { s with time := { s.time with due := s.time.due.filter (· != na) } }
    (s.setRound na (some ⟨1, [], none⟩)).timeReq na 1
  else s

/-- The nearest node of a port whose delay is to be measured at once begins its round (R60): one round at a time, and none
while the port is at a pronk. -/
def State.runDue (s : State) (p : Nat) : State :=
  let busy := (s.port p).pronk.isSome || (List.range 8).any fun q => (s.round (nodeAddr p q)).isSome
  match s.time.due.find? fun na => na / 8 == p with
  | some na => if busy then s else s.startRound na
  | none => s

/-- Nodes with no VALID delay have no trigger waiting (R64). -/
def State.dropNodeTrigs (s : State) (na : Nat) : State :=
  s.setTx (na / 8) { s.tx (na / 8) with trigs := (s.tx (na / 8)).trigs.filter fun g => g.pos != na % 8 }

/-- Clear VALID of a node's delay: it is sent no trigger until its next round, which is due at once while the node is there
(R60, R64). -/
def State.delayClear (s : State) (na : Nat) : State :=
  let s := (s.setFlag (F.TIME_NODE_DLY_VALID na) false).dropNodeTrigs na
  let due := if s.flag (F.NODE_ENT_PRESENT na) then setIns na s.time.due else s.time.due.filter (· != na)
  { s with time := { s.time with rounds := tblPut s.time.rounds na none, due := due } }

/-- Clear VALID of every node at positions `from'` and beyond (R60). -/
def State.delaysClear (s : State) (p from' : Nat) : State :=
  if isLane p then s
  else (List.range 8).foldl (fun s q => if from' ≤ q then s.delayClear (nodeAddr p q) else s) s

/-! ### Losing nodes (R106, R369) -/

/-- TUN_CMD of a slot as its last GO found it, and its node. -/
def State.tunWord (s : State) (k : Nat) : Word := tblGet (fun _ => 0#32) s.bus.tunCmd k
def State.tunNa (s : State) (k : Nat) : Nat := fldGet (s.tunWord k) 0 9

/-- End the tunnel slots of a node with a result (R369). -/
def State.tunEnd (s : State) (na result : Nat) : State :=
  (s.listed 0x1D02004 0x40 64).foldl (fun s k =>
    let st := s.fld (F.TUN_STAT_STATE k)
    if (st = 1 ∨ st = 2) ∧ s.tunNa k = na then
      (s.setFld (F.TUN_STAT_STATE k) 3).setFld (F.TUN_STAT_RESULT k) result
    else s) s

/-- The output streams of the quorum set (R27, R304). -/
def State.quorumSet (s : State) : List Nat :=
  (s.listed (A.PLC_OSID_CFG 0) 0x10 1024).filter fun o => s.flag (F.PLC_OSID_CFG_QUORUM o)

/-- The members of the quorum set that the loss of a node takes away: its placed streams (R27, R28). -/
def State.membersOf (s : State) (na : Nat) : List Nat :=
  s.quorumSet.filter fun o => match tblOpt s.plc.force.outs o with
    | some x => x.state == 1 && s.fld (F.ING_ENT0_NA x.form.isid) == na
    | none => false

/-- One node becomes LOST (R106); once the quorum has been met, one event per member lost with it (R28). -/
def State.loseNode (s : State) (p q : Nat) : State :=
  let na := nodeAddr p q
  if s.flag (F.NODE_ENT_PRESENT na) then
    let s := (s.setFlag (F.NODE_ENT_PRESENT na) false).setFld (F.NODE_ENT_STATE na) 5
    let s := ((s.delayClear na).count31 (A.NODE_LOSS na) 1).tunEnd na 7
    let s := s.setHop p q (s.hopStep p q) false
    if s.modes.quorum then (s.membersOf na).foldl (fun s o => s.log 28 o []) s else s
  else s

/-- Every node at positions `from'` and beyond is lost; discovery is retried from there (R106, R108). The virtual nodes
behind a trunk have no NODE entries (log entry 19). -/
def State.loseFrom (s : State) (p from' : Nat) : State :=
  let s := if isLane p then (if from' = 0 then s.setHop p 0 0 false else s)
    else (List.range 8).foldl (fun s q => if from' ≤ q then s.loseNode p q else s) s
  let s := (s.delaysClear p from').setFld (F.TRL_BRUP_STAT_NODES p) (min from' (s.fld (F.TRL_BRUP_STAT_NODES p)))
  s.setPort p { s.port p with pos := from', redisc := true, polls := []
                              goals := (s.port p).goals.filter fun c => decide (c.1 < from') }

/-! ### Discovery (R98, R99) -/

/-- Send DISC QUERY to the unassigned node. -/
def State.query (s : State) (p : Nat) : State := s.ask p .query 0x07 addrAll (leBytes 1 0)


/-- Start discovery with DISC RESET (R98): every node of the chain is forgotten. The other lanes of a trunk wait until
both ends have locked (log entry 163). -/
def State.discover (s : State) (p : Nat) : State :=
  let s := s.loseFrom p 0
  let s := (s.setReg (A.TRL_HOP_STEP p) 0#32).setStep p 0
  let s := (s.setFld (F.TRL_BRUP_STAT_NODES p) 0).setBrup p 1
  let s := s.setPort p { s.port p with pos := 0, waits := [], pronk := none, polls := [], redisc := false, nas := [],
                                       stopped := false, loop := none, mute := [], fallen := [], more := [] }
  let s := s.sendCtl p 0x07 addrAll (leBytes 1 4)
  if s.discovers p then s.query p else s.setPort p { s.port p with redisc := true }

/-- The SEG_LEN given to a node (R99). -/
def State.segLen (s : State) (p : Nat) (c : Caps) : Nat :=
  let kib := s.fld (F.TRL_BRUP_CFG_SEG_KIB p)
  min (if kib = 0 ∨ kib > 16 then 16 else kib) c.segMax * 1024

/-- The body of ASSIGN for a node (R93, R99). -/
def State.assignBody (s : State) (p pos na : Nat) (c : Caps) (cap : Nat) : List Byte :=
  let word := fun vc => match s.isidOf na vc with
    | some i => leBytes 2 (i + 0x8000)
    | none => leBytes 2 0
  leBytes 1 1 ++ leBytes 1 pos ++ leBytes 2 na ++ word 0 ++ word 1 ++ word 2 ++ word 3 ++ leBytes 2 (s.segLen p c) ++ leBytes 1 cap

/-- Whether a step is set in STEPS_AVAIL (R87). -/
def State.stepAvail (s : State) (p st : Nat) : Bool := bitsOf (s.stepsAvail p) st 1 == 1

/-- The highest step set in STEPS_AVAIL. -/
def State.topStep (s : State) (p : Nat) : Nat :=
  (List.range 5).foldl (fun m st => if s.stepAvail p st then st else m) 0

/-- The cap a port's own settings put on steps: MAX_STEP, STEPS_AVAIL, fallback (R100). -/
def State.portCap (s : State) (p : Nat) : Nat :=
  min (s.fld (F.TRL_CFG_MAX_STEP p)) (min (s.topStep p) (s.fld (F.TRL_BRUP_STAT_CAP_STEP p)))

/-- The target step of a port (R100). -/
def State.targetStep (s : State) (p : Nat) : Nat :=
  if isLane p then s.portCap p
  else (List.range 8).foldl (fun m q =>
    let na := nodeAddr p q
    if s.flag (F.NODE_ENT_PRESENT na) then min m (s.fld (F.NODE_CAPS2_MAX_STEP na)) else m) (s.portCap p)

/-- The lowest MAX_STEP of the nodes at a hop's ends (R100). -/
def State.hopCap (s : State) (p h : Nat) : Nat :=
  if isLane p then 7
  else min (s.fld (F.NODE_CAPS2_MAX_STEP (nodeAddr p h))) (if h = 0 then 7 else s.fld (F.NODE_CAPS2_MAX_STEP (nodeAddr p (h - 1))))

/-- Discovery ends: the hops found get the step they are raised to, and a chain found from its start fixes the port's
target (R100, R108). Hops that run already keep theirs. -/
def State.fixGoals (s : State) (p : Nat) : State :=
  let x := s.port p
  let new := (List.range 8).filter fun h => s.hopUp p h && (tblOpt x.goals h).isNone
  let all := x.goals == []
  let t := if all then s.targetStep p else new.foldl (fun m h => min m (s.hopCap p h)) (min x.target (s.portCap p))
  s.setPort p { x with target := if all then t else x.target
                       goals := new.foldl (fun l h => tblPut l h (some t)) x.goals }

/-- Whether a hop is still to be raised: below its goal and the port's caps, with its next step available (R87, R100). -/
def State.canRaise (s : State) (p h : Nat) : Bool :=
  match tblOpt (s.port p).goals h with
  | some g => decide (s.hopStep p h < min g (s.portCap p)) && s.stepAvail p (s.hopStep p h + 1)
  | none => false

/-- Each VC that a node declares and the image has no entry for (R124): counted, one event. -/
def State.noEntries (s : State) (na mask : Nat) : State :=
  (List.range 4).foldl (fun s vc =>
    if bitsOf mask vc 1 = 1 ∧ s.isidOf na vc = none then
      (s.count31 A.ING_NOENT 1).log 124 na (det 1 1 ++ det 1 vc)
    else s) s

/-- Record a node's CAPS (R99). -/
def State.recordCaps (s : State) (p pos : Nat) (c : Caps) : State :=
  let na := nodeAddr p pos
  let s := s.setPair (A.NODE_UID_LO na) 32 c.uid.toNat
  let s := (s.setFld (F.NODE_CAPS0_L_S na) c.ls.toNat).setFld (F.NODE_CAPS0_ASYM na) c.asym.toNat
  let s := (s.setFld (F.NODE_CAPS1_VENDOR na) c.vendor.toNat).setFld (F.NODE_CAPS1_PRODUCT na) c.product.toNat
  let s := (s.setFld (F.NODE_CAPS2_MAX_STEP na) c.maxStep.toNat).setFlag (F.NODE_CAPS2_LOOP na) c.loop
  let s := (s.setFlag (F.NODE_CAPS2_RELAY na) c.relay).setFld (F.NODE_CAPS2_SEG_MAX na) c.segMax
  let s := (s.setFlag (F.NODE_ENT_LOOP_OK na) c.loop).setFld (F.NODE_ENT_VC_MASK na) c.vcMask.toNat
  let s := match tblOpt s.link.lastUid na with
    | some u => if u = c.uid.toNat then s else (s.setFlag (F.NODE_ENT_UID_CHG na) true).log 99 na []
    | none => s
  { s with link := { s.link with lastUid := tblPut s.link.lastUid na (some c.uid.toNat) } }

/-! ### Pronks and retrains (R100–R103) -/

/-- The INTERVAL of a reverse SYNC at least 8 slots ahead (R101). -/
def State.syncAhead (s : State) (p : Nat) : Nat :=
  let x := s.tx p
  if x.blk = 0 then (x.interval + 1) % 65536
  else if 4096 - x.blk ≥ 8 then x.interval else (x.interval + 1) % 65536

/-- Count a retrain, in TRL_RETRAIN and in the life ledger (R103, R403); the port's delays are remeasured (R60). -/
def State.retrainCount (s : State) (p : Nat) : State :=
  let s := s.count31 (A.TRL_RETRAIN p) 1
  let k := if isLane p then 64 + laneTrunk p else p
  let n := tblGet zeroN s.led.retrain k
  let s : State := { s with led := { s.led with retrain := tblSet zeroN s.led.retrain k (ledBump 0xFFFFFFFF n) } }
  let s := if ledFull 0xFFFFFFFF n then s.log 403 noSrc [] else s
  s.delaysClear p 0

/-- Command a switch of the selected hops (R101). -/
def State.startPronk (s : State) (p from' goal hops tries : Nat) (retrain : Bool) : State :=
  let a := s.syncAhead p
  let s := s.setPort p { s.port p with
    pronk := some ⟨from', goal, hops, a, false, [], [], tries, retrain, none, false, none⟩ }
  (s.setBrup p 2).sendCtl p 0x0A addrAll (leBytes 1 0 ++ leBytes 1 hops ++ leBytes 1 goal ++ leBytes 2 a)

/-- The committed hops of a port. -/
def State.upHops (s : State) (p : Nat) : List Nat := (List.range 8).filter fun h => s.hopUp p h

/-- The bit mask of hops. -/
def hopMask (l : List Nat) : Nat := l.foldl (fun m h => m ||| 2 ^ h) 0

/-- Add to the rising queue of first sessions (R320). -/
def State.enqueueKey (s : State) (n : Nat) : State :=
  { s with link := { s.link with keyQueue := setIns n s.link.keyQueue } }

/-- Queue a node, or a trunk port as 512 + t, for its first session (R320). -/
def State.wantSession (s : State) (n : Nat) : State :=
  if s.fld (F.SEC_NODE_STAT_STATE n) = 2 then s else (s.enqueueKey n).setFld (F.SEC_NODE_STAT_STATE n) 1

/-- Queue a node that has had no session yet (R320). -/
def State.firstSession (s : State) (n : Nat) : State := if s.fld (F.SEC_NODE_STAT_STATE n) = 0 then s.wantSession n else s

/-- A port whose nodes all have valid delays is UP, and its nodes without a session queue for one (R320). -/
def State.portUpCheck (s : State) (p : Nat) : State :=
  let nodes := (List.range 8).filter fun q => s.flag (F.NODE_ENT_PRESENT (nodeAddr p q))
  if s.fld (F.TRL_BRUP_STAT_STATE p) = 3 ∧ nodes.all (fun q => s.flag (F.TIME_NODE_DLY_VALID (nodeAddr p q))) then
    nodes.foldl (fun s q => s.firstSession (nodeAddr p q)) (s.setBrup p 4)
  else s

/-- Every hop is at its step: a camera port goes on to TIMING, and measures the delays that are due (R60); a lane is UP
(R320). -/
def State.hopsDone (s : State) (p : Nat) : State :=
  let s := s.setPort p { s.port p with pronk := none }
  if isLane p then (if s.discovers p then (s.setBrup p 4).firstSession (512 + laneTrunk p) else s.setBrup p 4)
  else ((s.setBrup p 3).portUpCheck p).runDue p

/-- A port with no pronk left starts the next one, or is done with its hops; with no hop it stays down
(R98, R100, R103). A hop that fell below the target waits for its UP_HOLD. -/
def State.bringUpNext (s : State) (p : Nat) : State :=
  let hops := s.upHops p
  let raise := hops.filter fun h => h ∉ (s.port p).fallen && s.canRaise p h
  let low := raise.foldl (fun m h => min m (s.hopStep p h)) 7
  match ((s.port p).more.map fun m => (m.1, m.2 &&& hopMask hops)).filter (·.2 != 0) with
  | (step, mask) :: more =>
    ((s.setPort p { s.port p with more := more }).retrainCount p).startPronk p step step mask 1 true
  | [] =>
    let s := s.setPort p { s.port p with more := [] }
    if hops = [] then s.setBrup p 0
    else if raise ≠ [] then s.startPronk p low (low + 1) (hopMask (raise.filter fun h => s.hopStep p h == low)) 1 false
    else s.hopsDone p

/-- Discovery of a chain ends (R98); a pronk in progress goes on first. -/
def State.chainDone (s : State) (p : Nat) : State :=
  if s.fld (F.TRL_BRUP_STAT_NODES p) = 0 then
    (s.setPort p { s.port p with redisc := true, pos := 0 }).setBrup p 1
  else
    let s := s.fixGoals p
    if (s.port p).pronk.isSome then s else s.bringUpNext p


/-- A hop is declared down (R103): the nodes beyond it are lost. -/
def State.hopDown (s : State) (p hop cause : Nat) : State :=
  let s := (s.brupFail p hop cause).setPort p { s.port p with pronk := none }
  let s := s.loseFrom p hop
  let s := s.setHop p hop 0 false
  if hop = 0 then s.setBrup p 0 else s.bringUpNext p

/-- Retrain hops at their step (R103). -/
def State.retrain (s : State) (p step hops : Nat) : State :=
  (s.retrainCount p).startPronk p step step hops 1 true

/-- Retrain every hop at its present step (R103, R412): one RATE SWITCH carries one step, so hops of one step
retrain together, the lowest step first. -/
def State.retrainAll (s : State) (p : Nat) : State :=
  let groups := (List.range 5).filterMap fun st =>
    let m := hopMask ((s.upHops p).filter fun h => s.hopStep p h == st)
    if m = 0 then none else some (st, m)
  (s.setPort p { s.port p with more := groups }).bringUpNext p

/-- A lane's own transmitter has no more to train (R101): the hub end decides, and does not wait for COMMIT or REVERT. -/
def State.trainStop (s : State) (p : Nat) : State := if isLane p then s.setTx p { s.tx p with train := none } else s

/-- Once every selected hop has passed, COMMIT goes out; once any has failed, REVERT, and the hub's own receiver of hop 0
returns at once to step s (R102), on a trunk lane when the REVERT has left it. -/
def State.pronkSettle (s : State) (p : Nat) : State :=
  match (s.port p).pronk with
  | none => s
  | some k =>
    if k.failed ≠ [] then
      let s := ((s.trainStop p).count31 (A.TRL_PRONK_FAIL p) 1).ask p .revert 0x0A addrAll
        (leBytes 1 2 ++ leBytes 1 k.hops ++ leBytes 1 k.from')
      if !isLane p && bitsOf k.hops 0 1 == 1 then s.rxStep p k.from' else s
    else if hopMask k.seen = k.hops then
      (s.trainStop p).ask p .commit 0x0A addrAll (leBytes 1 1 ++ leBytes 1 k.hops ++ leBytes 1 k.goal)
    else s

/-- Record one hop's training outcome (R102). -/
def State.hopResult (s : State) (p hop : Nat) (pass : Bool) : State :=
  match (s.port p).pronk with
  | none => s
  | some k =>
    if bitsOf k.hops hop 1 = 0 ∨ hop ∈ k.seen ∨ !k.switched ∨ k.failed ≠ [] then s
    else
      let k := { k with seen := setIns hop k.seen, failed := if pass then k.failed else setIns hop k.failed }
      (s.setPort p { s.port p with pronk := some k }).pronkSettle p

/-- Hops from `from'` on leave a pronk in progress, since their nodes are lost (log entry 164). -/
def State.pronkDrop (s : State) (p from' : Nat) : State :=
  match (s.port p).pronk with
  | none => s
  | some k =>
    let keep := k.hops % 2 ^ from'
    if keep = k.hops then s
    else if keep = 0 then
      let s := (s.answered p .commit).answered p .revert
      (s.setPort p { s.port p with pronk := none }).bringUpNext p
    else
      let s := s.setPort p { s.port p with pronk := some { k with hops := keep
                                                                  seen := k.seen.filter (· < from')
                                                                  failed := k.failed.filter (· < from') } }
      if s.awaits p .commit || s.awaits p .revert then s else s.pronkSettle p

/-- The nodes at `from'` and beyond are lost while the port may be at work on them (R106, log entry 164): discovery ends
with the nodes before them, and a pronk goes on without their hops. -/
def State.dropNodes (s : State) (p from' : Nat) : State :=
  let finding := s.awaits p .query || s.awaits p .assign || s.awaits p .extend
  let s := (((s.loseFrom p from').answered p .query).answered p .assign).answered p .extend
  if finding then (s.pronkDrop p from').chainDone p else s.pronkDrop p from'

/-- COMMIT is acknowledged: traffic resumes at the new step (R102). -/
def State.committed (s : State) (p : Nat) : State :=
  match (s.port p).pronk with
  | none => s
  | some k =>
    let s := (hopsOf k.hops).foldl (fun s h => s.setHop p h k.goal true) s
    let x := s.port p
    let s := s.setPort p { x with pronk := none, fallen := x.fallen }
    (s.trainStop p).bringUpNext p

/-- A pronk has failed for `cause` (1 TRAIN, 2 NO_COMMIT), its REVERT acknowledged or given up: retry, cap, fall back, or give
the hop up (R102, R103). A switch for a far-end loop that fails leaves the hops as they were, and the loop FAILED (log entry
165). -/
def State.reverted (s : State) (p cause : Nat) : State :=
  match (s.port p).pronk with
  | none => s
  | some k =>
    let failed := if k.failed = [] then hopsOf k.hops else k.failed
    let hop := failed.headD 0
    let s := if bitsOf k.hops 0 1 = 1 && s.fld (F.TRL_STAT_STEP p) != k.from' then s.rxStep p k.from' else s
    let s := (s.trainStop p).brupFail p hop cause
    if k.tries < s.trainTries p then
      (if k.retrain then s.retrainCount p else s).startPronk p k.from' k.goal k.hops (k.tries + 1) k.retrain
    else if ((s.port p).loop.filter fun l => !l.asked).isSome then
      ((s.setPort p { s.port p with pronk := none, loop := none }).setFld (F.TRL_TEST_STAT_STATE p) 3).bringUpNext p
    else if !k.retrain then
      let s := s.setFld (F.TRL_BRUP_STAT_CAP_STEP p) k.from'
      (s.setPort p { s.port p with pronk := none }).bringUpNext p
    else if k.goal = 0 then s.hopDown p hop 1
    else
      let s := s.setPort p { s.port p with fallen := failed.foldl (fun l h => setIns h l) (s.port p).fallen }
      s.retrain p (k.goal - 1) (hopMask failed)

/-- An operation whose answer is late for the fourth time fails (R94). What then follows the spec leaves open but for COMMIT:
a QUERY, ASSIGN or EXTEND that fails ends discovery with the positions found before it, and a CUT that fails changes nothing
(DESIGN CHOICE, log entry 191). -/
def State.askFailed (s : State) (p : Nat) (what : Await) : State :=
  let s := s.answered p what
  match what with
  | .query | .assign => s.chainDone p
  | .extend => s.chainDone p
  | .cut => s
  | .commit => s.reverted p 2
  | .revert => s.reverted p 2
  | .keyHello _ | .keyFinish _ => s

end Sys2Proof.Machine
end

