-- ==== Sys2Proof/Machine/Triggers.lean ====
section
/-! DEFINITION. Delay-compensated triggers (R63, R64) and node delay rounds (R58–R60). -/

namespace Sys2Proof.Machine

/-! ### Triggers -/

/-- The ratio of an input stream (R17). -/
def State.streamRatio (s : State) (i : Nat) : Ratio :=
  mkRatio (s.flag (F.ING_ENT0_RATIO i)) (s.fld (F.ING_ENT0_K i)) (s.fld (F.ING_ENT0_P i))

/-- Merge exposures of one node that fall at one offset. -/
def addExposure (off vc : Nat) : List (Nat × Nat) → List (Nat × Nat)
  | [] => [(off, 2 ^ vc)]
  | (o, m) :: t => if o = off then (o, m ||| 2 ^ vc) :: t else (o, m) :: addExposure off vc t

/-- The exposures a node owes in herd n: offset after the boundary and the channels due (R17, R63). -/
def State.exposures (s : State) (na n : Nat) : List (Nat × Nat) :=
  (s.isids.filter fun i => s.fld (F.ING_ENT0_NA i) == na).foldl (fun l i =>
    let r := s.streamRatio i
    if r.due n then
      (List.range r.frames).foldl (fun l j => addExposure (frameOffset s.time.rate r.k j) (s.fld (F.ING_ENT0_VC i)) l) l
    else l) []

/-- Schedule one exposure of the node at position `pos` of port `p`, whose t_L is `tl` (R63, R64). -/
def State.placeTrigger (s : State) (p pos : Nat) (tl : Int) (expo vcMask herd base : Nat) : State :=
  if tl < s.now then s.missTrigger (nodeAddr p pos)
  else s.slotTrigger p ⟨0, tl.toNat, expo, pos, vcMask, herd, base, s.time.inc⟩

/-- Schedule every exposure a node owes at boundary `base` of herd n (R63): none while its delay is not VALID. -/
def State.planNode (s : State) (na base n : Nat) : State :=
  if !s.flag (F.NODE_ENT_PRESENT na) || !s.flag (F.TIME_NODE_DLY_VALID na) then s
  else (s.exposures na n).foldl (fun s e =>
    let x : Int := (base : Int) + signed 32 (s.reg (A.TIME_NODE_OFS na)).toNat + e.1
    let tl := x - s.fld (F.NODE_CAPS0_L_S na) - s.fld (F.TIME_NODE_DLY_DLY na)
    s.placeTrigger (na / 8) (na % 8) tl x.toNat e.2 n base) s

/-- The nodes that any input stream names, rising. -/
def State.streamNodes (s : State) : List Nat :=
  s.isids.foldl (fun l i => setIns (s.fld (F.ING_ENT0_NA i)) l) []

/-- Schedule the triggers of a boundary (R63). -/
def State.planTriggers (s : State) (base n : Nat) : State :=
  if s.mode = 0 then s else s.streamNodes.foldl (fun s na => s.planNode na base n) s

/-- Triggers are planned for the two boundaries to come that have none planned yet (R63); after a step that skips boundaries
both may be such. -/
def State.planAhead (s : State) : State :=
  let b := s.nextBoundary
  let c := gridAfter s.epoch s.time.rate b
  let s := if s.time.planTo < b then s.planTriggers b (s.aon.herd + 1) else s
  let s := if s.time.planTo < c then s.planTriggers c (s.aon.herd + 2) else s
  { s with time := { s.time with planTo := max s.time.planTo c } }

/-- A node whose delay becomes VALID is planned for: the exposures still ahead of the herd in progress, and those of the
boundaries planned already (R63, R64). -/
def State.planLate (s : State) (na : Nat) : State :=
  let miss := s.time.missed
  let s := s.planNode na s.time.gridFrom s.aon.herd
  let s : State := { s with time := { s.time with missed := miss } }
  let b := s.nextBoundary
  let c := gridAfter s.epoch s.time.rate b
  let s := if b ≤ s.time.planTo then s.planNode na b (s.aon.herd + 1) else s
  if c ≤ s.time.planTo then s.planNode na c (s.aon.herd + 2) else s

/-- The trigger blocks of every port not yet launched. -/
def State.allTrigs (s : State) : List (Nat × TrigBlock) :=
  s.link.tx.flatMap fun c => c.2.trigs.map fun g => (c.1, g)

/-- Drop every trigger block not yet launched. -/
def State.dropTrigs (s : State) : State :=
  { s with link := { s.link with tx := s.link.tx.map fun c => (c.1, { c.2 with trigs := [] }) } }

/-- Triggers follow a step of `a` TU (R64): the slots keep their real time, so their device time moves with the
step; a block not yet launched is scheduled again, one of a boundary now skipped is dropped, and later herds take
the numbers their boundaries will have. -/
def State.retrigger (s : State) (a : Int) (skipped : Nat) : State :=
  let old := s.allTrigs
  let s := s.dropTrigs
  let s := { s with link := { s.link with tx := s.link.tx.map fun c =>
    (c.1, { c.2 with slot := ((c.2.slot : Int) + a).toNat }) } }
  old.foldl (fun s c =>
    let g := c.2
    if s.aon.herd < g.herd then
      if g.base ≤ s.time.gridFrom then s
      else s.placeTrigger c.1 g.pos g.tl g.expo g.vcMask (g.herd - skipped) g.base
    else s.placeTrigger c.1 g.pos g.tl g.expo g.vcMask g.herd g.base) s

/-! ### The step of TIME_ADJ -/

/-- Apply a committed TIME_ADJ (R48): device time steps, boundaries passed are skipped but the latest (R15), compare
units are re-evaluated (R54), triggers not yet launched are scheduled again (R64). -/
def State.applyAdj (s : State) : State :=
  match s.time.adj with
  | none => s
  | some (a, _) =>
    let g0 := gridIndexAfter s.epoch s.time.rate s.time.gridFrom
    let s : State := { s with time := { s.time with
      tu := (((s.time.tu : Int) + a) % (tuMod : Int)).toNat, adj := none } }
    let s := (s.setFlag F.TIME_STAT_ADJ_BUSY false).setFlag F.TIME_STAT_SYNCED true
    let from' := s.time.gridFrom
    let s := (s.log 48 noSrc (det 8 (unsigned 64 a))).skipPassed
    let g1 := gridIndexAfter s.epoch s.time.rate s.time.gridFrom
    ((s.cmpStepAll from').retrigger a (g1 - g0)).planAhead

/-- One cycle of the time base, with the step that falls in it (R46, R48): the step first, then the increment. -/
def State.timeBase (s : State) : State :=
  match s.time.adj with
  | some (a, n + 2) => ({ s with time := { s.time with adj := some (a, n + 1) } } : State).cycle
  | some _ => s.applyAdj.cycle
  | none => s.cycle

/-! ### Delay rounds -/


/-- Insert in rising order. -/
def insertInt (x : Int) : List Int → List Int
  | [] => [x]
  | y :: t => if x ≤ y then x :: y :: t else y :: insertInt x t

/-- The mean of the four middle round trips of eight, rounded half up (R59). -/
def middleMean (l : List Int) : Int :=
  divRound ((((l.foldl (fun a x => insertInt x a) []).drop 2).take 4).foldl (· + ·) 0) 4

/-- The delay that a round of eight trips gives (R58): A is the board's and the node's asymmetry. A negative one, which the
spec has no room for in DLY[23:0], is taken modulo 2^24 (DESIGN CHOICE, log entry 192). -/
def State.roundDelay (s : State) (na : Nat) (trips : List Int) : Nat :=
  let a := signed 16 (s.fld (F.TIME_ASYM_ASYM (na / 8))) + signed 16 (s.fld (F.NODE_CAPS0_ASYM na))
  unsigned 24 (divRound (middleMean trips + a) 2)

/-- After each round the node is sent a TIME block with its delay, and the port's next due round begins (R60). -/
def State.endRound (s : State) (na : Nat) : State :=
  let d := s.fld (F.TIME_NODE_DLY_DLY na)
  ((s.setRound na none).sendCtl (na / 8) 0x06 (na % 8) (leBytes 1 2 ++ leBytes 1 0 ++ leBytes 3 d)).runDue (na / 8)

/-- A complete round publishes the delay (R59, R60): a jump from the previous value, VALID or not, is one event. -/
def State.publishDelay (s : State) (na : Nat) (trips : List Int) : State :=
  let d := s.roundDelay na trips
  let was := s.flag (F.TIME_NODE_DLY_VALID na)
  let old := s.fld (F.TIME_NODE_DLY_DLY na)
  let jump := decide ((if old < d then d - old else old - d) > s.fld F.TIME_XCHG_CFG_JUMP_NS * 16)
  let s : State := (s.setFld (F.TIME_NODE_DLY_DLY na) d).setFlag (F.TIME_NODE_DLY_VALID na) true
  let s : State := if decide (na ∈ s.time.measured) && jump then s.log 59 na [] else s
  let s : State := { s with time := { s.time with
    roundFails := tblSet zeroN s.time.roundFails na 0, measured := setIns na s.time.measured } }
  let s := if s.fld (F.NODE_ENT_STATE na) = 1 then s.setFld (F.NODE_ENT_STATE na) 2 else s
  let s := (s.endRound na).portUpCheck (na / 8)
  if was then s else s.planLate na

/-- A round has used its 32 attempts (R59): the previous value stays, and three failures in a row clear VALID. -/
def State.failRound (s : State) (na : Nat) : State :=
  let n := tblGet zeroN s.time.roundFails na + 1
  let s : State := { s with time := { s.time with roundFails := tblSet zeroN s.time.roundFails na n } }
  let s := if n ≥ 3 then (s.setFlag (F.TIME_NODE_DLY_VALID na) false).dropNodeTrigs na else s
  s.endRound na

/-- Go on with a round after an attempt. -/
def State.nextAttempt (s : State) (na : Nat) (r : DelayRound) : State :=
  if r.attempts ≥ 32 then s.failRound na
  else (s.setRound na (some { r with attempts := r.attempts + 1, t1 := none })).timeReq na (r.attempts + 1)

/-- A round goes on: the delay is published after eight trips, else the next attempt begins (R59). -/
def State.roundOn (s : State) (na : Nat) : State :=
  match s.round na with
  | some r => if r.trips.length = 8 then s.publishDelay na r.trips else s.nextAttempt na r
  | none => s

/-- A TIME REPLY whose first header bit crossed the boundary `age` TU ago (R58, R59). Only a reply with the SEQ of the attempt
in progress counts: the attempts before it are lost. A firmware restart pauses the round (R326). -/
def State.timeReply (s : State) (na : Nat) (seq : Byte) (tta : Int) (age : Nat) : State :=
  match s.round na with
  | some r => match r.t1 with
    | some t1 =>
      if seq.toNat ≠ r.attempts then s
      else
        (s.setRound na (some { r with trips := r.trips ++ [((s.now : Int) - age) - t1 - tta], t1 := none })).timer
          (.timeReplyTimeout (Fin.ofNat 512 na)) fun s => s.roundOn na
    | none => s
  | none => s


end Sys2Proof.Machine
end

