-- ==== Sys2Proof/Machine/Clock.lean ====
section
/-! DEFINITION. The commands of chapter 02: device time, the always-on alarm, compare units, captures, reference
pins, PTM cross-timestamps and node delay rounds. -/

namespace Sys2Proof.Machine

/-! ### PTM cross-timestamps (R57) -/

/-- Start a PTM measurement; while one is busy nothing happens (R57). -/
def State.ptmStart (s : State) : State :=
  if s.fld F.TIME_PTM_STAT_STATE = 1 then s
  else if !s.ep.ptmEn then ((s.setFld F.TIME_PTM_STAT_STATE 3).setFlag F.TIME_PTM_STAT_DISABLED true).raiseIrq 289
  else
    let s := (s.setFld F.TIME_PTM_STAT_STATE 1).setFlag F.TIME_PTM_STAT_DISABLED false
    { s with time := { s.time with ptmT1 := some (st48 s.now), ptmRtt := none } }.emit .ptmRequest

/-- A write of TIME_PTM_CTRL (R57). -/
def State.ptmCtrl (s : State) (v : Word) : State :=
  let s := s.plainWrite A.TIME_PTM_CTRL v
  if bitOn v 16 then s.ptmStart else s

/-- A response has come (R57): `rtt` is its dialog's t4 − t1 in TU; a ResponseD brings t3 − t2 of the dialog before, `turn` in
ns, and its master time. The response of the first dialog is followed at once by the second dialog's request; that of the
second completes the measurement, whose results are the first dialog's. -/
def State.ptmDone (s : State) (rtt turn : Nat) (master : BitVec 64) : State :=
  match s.time.ptmT1 with
  | none => s
  | some t1 =>
    if s.fld F.TIME_PTM_STAT_STATE = 1 then
      match s.time.ptmRtt with
      | none => { s with time := { s.time with ptmRtt := some rtt } }.emit .ptmRequest
      | some rtt =>
      let d := divRound ((rtt : Int) - 16 * turn) 2
      let s := (s.setPair A.TIME_PTM_T1_LO 16 t1).setPair A.TIME_PTM_MASTER_LO 32 master.toNat
      let s := s.setReg A.TIME_PTM_DELAY (BitVec.ofInt 32 d)
      let s := (s.setFld F.TIME_PTM_STAT_STATE 2).setFld F.TIME_PTM_STAT_SEQ (s.fld F.TIME_PTM_STAT_SEQ + 1)
      ({ s with time := { s.time with ptmT1 := none, ptmRtt := none } } : State).raiseIrq 289
    else s

/-- No response within 10 ms (R57). -/
def State.ptmTimeout (s : State) : State :=
  if s.fld F.TIME_PTM_STAT_STATE = 1 then
    let s := (s.setFld F.TIME_PTM_STAT_STATE 3).setFlag F.TIME_PTM_STAT_DISABLED false
    (({ s with time := { s.time with ptmT1 := none, ptmRtt := none } } : State).log 57 noSrc []).raiseIrq 289
  else s

/-! ### Commands -/

/-- TIME_INC_HI_WRITE: the write commits INT and the staged FRAC (R46). -/
def execTimeIncHiWrite (p : Path) (v : Word) (s : State) : Result :=
  .next (s.guarded p A.TIME_INC_HI false fun s => s.commitInc v)

/-- TIME_ADJ_HI_WRITE: the write commits the staged offset (R48). -/
def execTimeAdjHiWrite (p : Path) (v : Word) (s : State) : Result :=
  .next (s.guarded p A.TIME_ADJ_HI false fun s => s.commitAdj v)

/-- DEVICE_SECOND: a whole second of device time (R43, R56). -/
def execDeviceSecond (s : State) : Result := .next (s.whenUp State.deviceSecond)

/-- ALARM_ARM: a write of GLB_AON_ALARM_CTRL with ARM (R44). -/
def execAlarmArm (p : Path) (v : Word) (s : State) : Result :=
  .next (s.guarded p A.GLB_AON_ALARM_CTRL false fun s => s.alarmCtrl (v ||| 1#32))

/-- ALARM_DISARM: a write of GLB_AON_ALARM_CTRL with DISARM (R44). -/
def execAlarmDisarm (p : Path) (v : Word) (s : State) : Result :=
  .next (s.guarded p A.GLB_AON_ALARM_CTRL false fun s => s.alarmCtrl (v ||| 8#32))

/-- TIME_CMP_TGT_HI_WRITE: the write commits the target and arms (R50). A unit reserved for the image is
image-owned (R53). -/
def execTimeCmpTgtHiWrite (p : Path) (n : Fin 64) (v : Word) (s : State) : Result :=
  .next (s.guarded p (A.TIME_CMP_TGT_HI n) (s.cmpReserved n) fun s => s.cmpTgtHi n v)

/-- CMP_ARM: a write of TIME_CMP_CTRL with ARM (R50). -/
def execCmpArm (p : Path) (n : Fin 64) (v : Word) (s : State) : Result :=
  .next (s.guarded p (A.TIME_CMP_CTRL n) (s.cmpReserved n) fun s => s.cmpCtrl n (v ||| 0x10000#32))

/-- CMP_MODE_OFF: a write of TIME_CMP_CTRL with MODE 0 disarms the unit (R49). -/
def execCmpModeOff (p : Path) (n : Fin 64) (v : Word) (s : State) : Result :=
  .next (s.guarded p (A.TIME_CMP_CTRL n) (s.cmpReserved n) fun s => s.cmpCtrl n (v &&& 0xFFFFFFFC#32))

/-- CMP_PULSE_END: an active pulse ends (R52). -/
def execCmpPulseEnd (n : Fin 64) (s : State) : Result := .next (s.whenUp fun s => s.cmpPulseEnd n)

/-- CAPT_EDGE: an edge of CAPTn that begins a level held for `held` TU (R55). -/
def execCaptEdge (n : Fin 32) (falling : Bool) (sub : Fin 16) (held : Nat) (s : State) : Result :=
  .next (s.whenUp fun s => s.captEdge n falling sub held)

/-- Pop a capture FIFO: the low word is answered, the high word latched for the path (R55). -/
def State.captRead (s : State) (p : Path) (n : Nat) : State :=
  match s.captFifo n with
  | [] => (s.latchHi p (A.TIME_CAPT_FIFO_HI n) 0#32).answer p 0#32
  | e :: q => ((s.setCapt n q).latchHi p (A.TIME_CAPT_FIFO_HI n) (captHi e q.length)).answer p (BitVec.ofNat 32 e.ts)

/-- TIME_CAPT_FIFO_LO_READ: the read pops the FIFO (R55). -/
def execTimeCaptFifoLoRead (p : Path) (n : Fin 32) (s : State) : Result :=
  .next (s.guardedRead p (A.TIME_CAPT_FIFO_LO n) fun s => s.captRead p n)

/-- PPS_IN_EDGE: a rising edge of PPS_IN (R56). -/
def execPpsInEdge (sub : Fin 16) (s : State) : Result := .next (s.whenUp fun s => s.ppsEdge sub)

/-- PPS_OUT_PULSE_END: PPS_OUT falls OUT_MS after it rose (R56). -/
def State.ppsOutEnd (s : State) : State :=
  match s.time.ppsOut with
  | none => s
  | some t =>
    let s := s.advance t
    { s with time := { s.time with ppsOut := none } }.emit (.pin "PPS_OUT" 0 false (st48 t))

/-- PPS_OUT_PULSE_END (R56). -/
def execPpsOutPulseEnd (s : State) : Result := .next (s.whenUp State.ppsOutEnd)

/-- REF10M_IN_EDGE: a rising edge of REF10M_IN is counted (R56). -/
def execRef10mInEdge (s : State) : Result :=
  .next (s.whenUp fun s => { s with time := { s.time with ref10m := s.time.ref10m + 1 } })

/-- PTM_GO: a write of TIME_PTM_CTRL with GO (R57). -/
def execPtmGo (p : Path) (v : Word) (s : State) : Result :=
  .next (s.guarded p A.TIME_PTM_CTRL false fun s => s.ptmCtrl (v ||| 0x10000#32))

/-- PTM_PERIOD: the automatic period ends (R57). -/
def execPtmPeriod (s : State) : Result :=
  .next (s.whenUp fun s => if s.fld F.TIME_PTM_CTRL_PERIOD_MS = 0 then s else s.ptmStart)

/-- PTM_RESPONSE: a response of either dialog (R57). -/
def execPtmResponse (rtt turn : Nat) (master : BitVec 64) (s : State) : Result :=
  .next (s.whenUp fun s => s.ptmDone rtt turn master)

/-- PTM_TIMEOUT: no response within 10 ms (R57). -/
def execPtmTimeout (s : State) : Result := .next (s.whenUp State.ptmTimeout)

/-- TIME_ROUND_DUE: a node's delay round is due (R59). -/
def execTimeRoundDue (na : Fin 512) (s : State) : Result := .next (s.timer (.timeRoundDue na) fun s => s.startRound na)

/-- TIME_REPLY: a node answers the TIME REQ of SEQ `seq` (R58). -/
def execTimeReply (na : Fin 512) (seq : Byte) (turnaround : BitVec 32) (age : Nat) (s : State) : Result :=
  .next (s.whenUp fun s => s.timeReply na seq turnaround.toInt age)

/-- TIME_REPLY_TIMEOUT: no reply within 100 µs (R59). -/
def execTimeReplyTimeout (na : Fin 512) (s : State) : Result :=
  .next (s.timer (.timeReplyTimeout na) fun s => s.roundOn na)

end Sys2Proof.Machine
end

