-- ==== Sys2Proof/Machine/Nodes.lean ====
section
/-! DEFINITION. The commands of chapters 03 and 04 on a port and its chain: line blocks, hunting, eye scans,
discovery, pronks, retrains, polls, node reports, and the sensor-end role. -/

namespace Sys2Proof.Machine


/-! ### Lines -/

/-- BLOCK_TRANSMIT: the transmitter of an enabled port sends its next block (R70); the transmitter of R107 is
stopped. -/
def execBlockTransmit (p : Fin 80) (s : State) : Result :=
  .next (s.whenUp fun s => if s.portOn p && !(s.port p).stopped then s.transmit p else s)

/-- BLOCK_RECEIVE: line bits arrive at a receiver (R76, R78). While a near-end loop runs, the receiver takes its own
transmitter's bits and the line's reach nothing (R89). -/
def execBlockReceive (p : Fin 80) (bits : List Bool) (s : State) : Result :=
  .next (if s.nearLoop p = 0 then s.receiveBits p bits else s)

/-- While hop 0's receiver is at step 0, a hunt of 65,536 blocks declares hop 0 down (R103). -/
def State.huntDown (s : State) (p : Nat) : State :=
  if s.hopUp p 0 && s.fld (F.TRL_STAT_STEP p) == 0 && !s.flag (F.TRL_STAT_LOCK p) then
    (s.setPort p { s.port p with waits := (s.port p).waits.filter fun w => w.what != .commit && w.what != .revert }).hopDown p 0 6
  else s

/-- A hunt lasts 65,536 blocks (R79). The hub end's bring-up sees to it, and waits for a firmware restart (R103, R326). A camera
port in the sensor-end role, whose reverse blocks take 1,040 ns each, has then been without reverse lock for more than 10 ms,
and is unassigned (R98). -/
def State.huntTimeout (s : State) (p : Nat) : State :=
  if !s.portOn p || s.flag (F.TRL_STAT_LOCK p) then s
  else
    let s := (s.setFlag (F.TRL_STAT_HUNT_TO p) true).log 79 p []
    if s.sensorEnd p then (if isLane p then s.lockAge p else s.unassign p)
    else s.timer (.huntTimeout (Fin.ofNat 80 p)) fun s => s.huntDown p

/-- HUNT_TIMEOUT (R79). -/
def execHuntTimeout (p : Fin 80) (s : State) : Result := .next (s.whenUp fun s => s.huntTimeout p)

/-! ### Eye scans (R88) -/

/-- Clear the 128 results of a receiver. -/
def State.eyeClear (s : State) (p : Nat) : State :=
  (List.range 128).foldl (fun s i => s.setReg (A.TRL_EYE_ROW p i) 0#32) s

/-- A write of TRL_EYE_CTRL: GO starts a row on a locked receiver; it is ignored while one is busy, and without
LOCK the scan ends ABORTED (R88). -/
def State.eyeCtrl (s : State) (p : Nat) (v : Word) : State :=
  let s := s.plainWrite (A.TRL_EYE_CTRL p) v
  if !bitOn v 13 || s.fld (F.TRL_EYE_STAT_STATE p) = 1 then s
  else
    let s := (s.eyeClear p).setFld (F.TRL_EYE_STAT_PH_NEXT p) 0
    s.setFld (F.TRL_EYE_STAT_STATE p) (if s.flag (F.TRL_STAT_LOCK p) then 1 else 3)

/-- The dwell of one point ends with `n` mismatches (R88). -/
def State.eyePoint (s : State) (p n : Nat) : State :=
  if s.fld (F.TRL_EYE_STAT_STATE p) = 1 then
    let ph := s.fld (F.TRL_EYE_STAT_PH_NEXT p)
    let row := min n 65535 + 2 ^ 16 + (if n > 65535 then 2 ^ 17 else 0)
    let s := (s.setReg (A.TRL_EYE_ROW p ph) (BitVec.ofNat 32 row)).setFld (F.TRL_EYE_STAT_PH_NEXT p) (ph + 1)
    if ph = 127 then s.setFld (F.TRL_EYE_STAT_STATE p) 2 else s
  else s

/-- EYE_SCAN_GO: a write of TRL_EYE_CTRL with GO (R88). -/
def execEyeScanGo (path : Path) (p : Fin 80) (v : Word) (s : State) : Result :=
  .next (s.guarded path (A.TRL_EYE_CTRL p) true fun s => s.eyeCtrl p (v ||| 0x2000#32))

/-- EYE_POINT_DONE (R88). -/
def execEyePointDone (p : Fin 80) (mism : Nat) (s : State) : Result := .next (s.whenUp fun s => s.eyePoint p mism)

/-! ### Discovery -/

/-- A node's session ends for good: its keys are discarded (R340). -/
def State.dropSession (s : State) (n : Nat) : State :=
  let s : State := { s with link := { s.link with
    sess := tblPut s.link.sess n none, keyQueue := s.link.keyQueue.filter (· != n),
    rekeyQueue := s.link.rekeyQueue.filter (· != n) } }
  s.setFld (F.SEC_NODE_STAT_STATE n) 0

/-- CAPS answers QUERY (R98, R99). The address of a virtual node behind a trunk is free (log entry 163). -/
def State.takeCaps (s : State) (p : Nat) (c : Caps) : State :=
  if !s.awaits p .query then s
  else
    let s := s.answered p .query
    let pos := (s.port p).pos
    let na := nodeAddr p pos
    let cap := min (s.portCap p) c.maxStep.toNat
    if c.rev ≠ 0x21#8 then ((s.brupFail p pos 7).log 99 (if isLane p then p else na) []).chainDone p
    else if isLane p then
      let t := (s.ask p .assign 0x07 addrAll (s.assignBody p pos (s.free 9) c cap)).drawn
      t.setPort p { t.port p with peer := if pos = 0 then some (c.uid.toNat, s.free 9) else (t.port p).peer
                                  nas := tblPut (t.port p).nas pos (some (s.free 9, s.segLen p c)) }
    else
      let s := (s.recordCaps p pos c).noEntries na c.vcMask.toNat
      s.ask p .assign 0x07 addrAll (s.assignBody p pos na c cap)

/-- A node takes its place: it is present, unsecured and at step 0. -/
def State.placeNode (s : State) (p pos : Nat) : State :=
  let na := nodeAddr p pos
  let s := (s.setFlag (F.NODE_ENT_PRESENT na) true).setFld (F.NODE_ENT_STATE na) 1
  let s := (s.setFld (F.NODE_ENT_POS na) pos).dropSession na
  (s.delayClear na).setHop p pos 0 true

/-- ASSIGN is acknowledged: the node has its place, and the chain is extended or complete (R98). The virtual nodes of a trunk
lie behind the one hop of its lane, and the partner found makes a fresh session (R99). -/
def State.assigned (s : State) (p : Nat) : State :=
  let pos := (s.port p).pos
  let s := if !isLane p then s.placeNode p pos else if pos = 0 then (s.setHop p 0 0 true).dropSession (512 + laneTrunk p) else s
  let s := s.setFld (F.TRL_BRUP_STAT_NODES p) (pos + 1)
  let s := s.setPort p { s.port p with redisc := false, seq := tblPut (s.port p).seq pos none }
  if pos + 1 < s.chainMax p then s.ask p .extend 0x07 pos (leBytes 1 2) else s.chainDone p

/-- EXTEND is answered (R98, R108). -/
def State.extended (s : State) (p : Nat) (ok : Bool) : State :=
  let x := s.port p
  if ok then (s.setPort p { x with pos := if x.redisc then x.pos else x.pos + 1 }).query p
  else if x.redisc then s
  else s.chainDone p

/-- A port's traffic stops for a loop (R90). -/
def State.stopTraffic (s : State) (p : Nat) (l : LoopSt) : State :=
  s.setPort p { s.port p with waits := [], pronk := none, polls := [], redisc := false, stopped := false, loop := some l, more := [] }

/-- LOOP_REQ is answered (R119): the port's traffic stops and the switch follows, to step 0 on a camera port and at the same
step on a lane (R89), or the request is refused and leaves the port untouched (R90). -/
def State.loopAnswer (s : State) (p : Nat) (l : LoopSt) (ok : Bool) : State :=
  let was := if isLane p then s.fld (F.TRL_STAT_STEP p) else s.hopStep p 0
  let hops := if isLane p then 1 else hopMask (s.upHops p)
  if ok then
    (s.stopTraffic p { l with asked := false }).startPronk p was (if isLane p then was else 0) hops 1 false
  else ((s.setPort p { s.port p with loop := none }).setFld (F.TRL_TEST_STAT_STATE p) 2).log 90 p []

/-- A far-end loop that waited for COMMIT runs from the next reverse SYNC (R119); the chain's nodes are out of service
(R90). -/
def State.loopRun (s : State) (p : Nat) : State :=
  match (s.port p).loop.filter fun l => !l.asked with
  | none => s.committed p
  | some l =>
    let s := s.loseFrom p 0
    let s := s.setPort p { s.port p with loop := some { l with running := true }, pronk := none, redisc := false }
    let s := if isLane p then s.setTx p { s.tx p with train := none } else s
    let s := (s.setBrup p 5).setFlag (F.TRL_STAT_LOOP p) true
    s.setFld (F.TRL_TEST_STAT_STATE p) 1

/-- An ACK from position `pos` (R94, R98, R102, R107, R119); one that nothing waits for changes nothing. -/
def State.takeAck (s : State) (p pos : Nat) (a : AckBlock) : State :=
  let ok := a.status = 0
  if a.type = 0x07 ∧ a.sub = 1 ∧ s.awaits p .assign then
    let s := s.answered p .assign
    if ok then s.assigned p else s.chainDone p
  else if a.type = 0x07 ∧ a.sub = 2 ∧ s.awaits p .extend then (s.answered p .extend).extended p ok
  else if a.type = 0x07 ∧ a.sub = 3 ∧ s.awaits p .cut then s.answered p .cut
  else if a.type = 0x07 ∧ a.sub = 5 then s.setPort p { s.port p with polls := tblPut (s.port p).polls pos none }
  else if a.type = 0x09 ∧ a.sub = 2 then
    match (s.port p).loop with
    | some l => if l.asked && l.pos == pos then s.loopAnswer p l ok else s
    | none => s
  else if a.type = 0x0A ∧ a.sub = 1 ∧ s.awaits p .commit then (s.answered p .commit).loopRun p
  else if a.type = 0x0A ∧ a.sub = 2 ∧ s.awaits p .revert then (s.answered p .revert).reverted p 1
  else s


/-- The answer to the k-th waiting block is late (R94): it is resent, up to three times, then its operation fails. -/
def State.answerLate (s : State) (p k : Nat) : State :=
  match (s.port p).waits[k]? with
  | none => s
  | some w =>
    if w.resends < 3 then
      let s := s.setTx p { s.tx p with queue := (s.tx p).queue ++ w.blocks.map fun b => (true, b) }
      let x := s.port p
      s.setPort p { x with waits := x.waits.map fun v => if v = w then { w with resends := w.resends + 1 } else v }
    else s.askFailed p w.what

/-! ### Pronks and retrains -/

/-- The position from which a switch of rate has the delays of a port remeasured (R60): a pronk of new hops alone, whose nodes
have no delay yet, leaves those before them (R108). -/
def State.rateFrom (s : State) (p : Nat) (k : Pronk) : Nat :=
  if (hopsOf k.hops).any fun h => s.flag (F.TIME_NODE_DLY_VALID (nodeAddr p h)) then 0 else (hopsOf k.hops).headD 0

/-- At the end of the AT SYNC every selected hop switches (R101): hop 0's receiver hunts at the new step; a lane's
transmitter and a sensor end's send at it. -/
def State.hopSwitch (s : State) (p : Nat) : State :=
  if s.sensorEnd p then
    let x := s.sensor p
    match x.sched with
    | none => s
    | some (_, step) =>
      let s := s.setSensor p { x with sched := none, training := true, syncs := 0 }
      if !x.hops.testBit 0 then s
      else
        let s := s.setTx p { s.tx p with train := some 0 }
        if isLane p then s.rxStep p step else s.setStep p step
  else match (s.port p).pronk with
    | none => s
    | some k =>
      if k.switched then s
      else
        let s := (s.delaysClear p (s.rateFrom p k)).setPort p { s.port p with
          pronk := some { k with switched := true, lastCtr := none, bad := false, errs0 := none } }
        let s := if isLane p then s.setTx p { s.tx p with train := some 0 } else s
        if bitsOf k.hops 0 1 = 1 then s.rxStep p k.goal else s

/-- A TRAIN PATTERN block at hop 0's receiver (R101). -/
def State.trainPattern (s : State) (p ctr : Nat) : State :=
  match (s.port p).pronk with
  | none => s
  | some k =>
    if !k.switched || !s.flag (F.TRL_STAT_SCR_SYNC p) then s
    else
      let skip := match k.lastCtr with
        | some c => decide (ctr ≠ (c + 1) % 2 ^ 32)
        | none => false
      s.setPort p { s.port p with pronk := some { k with lastCtr := some ctr, bad := k.bad || skip } }

/-- Hop 0's receiver has trained for two SYNC intervals (R101). -/
def State.trainEnd (s : State) (p : Nat) : State :=
  match (s.port p).pronk with
  | none => s
  | some k =>
    s.hopResult p 0 (!k.bad && s.flag (F.TRL_STAT_LOCK p) && s.flag (F.TRL_STAT_SCR_SYNC p) &&
      some (s.trainErrs p) == k.errs0)

/-- A node reports the training of hop `hop` at `step` (R101, R102). -/
def State.trainResult (s : State) (p hop step : Nat) (pass : Bool) : State :=
  match (s.port p).pronk with
  | none => s
  | some k => if k.goal = step then s.hopResult p hop pass else s

/-- A sensor end returns to step s and hunts (R102). -/
def State.sensorBack (s : State) (p : Nat) : State :=
  let x := s.sensor p
  let s := s.setSensor p { x with sched := none, training := false }
  if !x.training || !x.hops.testBit 0 then s
  else
    let s := s.setTx p { s.tx p with train := none }
    if isLane p then s.rxStep p x.back else s.setStep p x.back

/-- 5 ms after its switch an end has neither COMMIT nor REVERT and returns to step s on its own (R102): a sensor
end, or the hub end of a trunk lane, whose pronk has then failed. -/
def State.switchTimeout (s : State) (p : Nat) : State :=
  if s.sensorEnd p then (if (s.sensor p).training then s.sensorBack p else s)
  else if isLane p then
    match (s.port p).pronk with
    | some k => if k.switched then
        let s := s.setPort p { s.port p with waits := [], pronk := some { k with failed := [0] } }
        (if k.failed = [] then s.count31 (A.TRL_PRONK_FAIL p) 1 else s).reverted p 2
      else s
    | none => s
  else s

/-- A hop has not relocked within the glitch window (R103): hop 0's receiver is seen to; hop 0 still locked, a hop
that is not up, and a pronk in progress leave nothing to do. -/
def State.glitchExpire (s : State) (p hop : Nat) : State :=
  let locked := hop = 0 ∧ s.flag (F.TRL_STAT_LOCK p) ∧ s.flag (F.TRL_STAT_SCR_SYNC p)
  if locked ∨ !s.hopUp p hop ∨ (s.port p).pronk.isSome then s
  else (s.brupFail p hop 3).retrain p (s.hopStep p hop) (2 ^ hop)

/-- UP_HOLD after a fallback the hop is pronked up again once (R103). -/
def State.upHold (s : State) (p hop : Nat) : State :=
  if hop ∈ (s.port p).fallen ∧ s.fld (F.TRL_BRUP_CFG_UP_HOLD_S p) ≠ 0 then
    let s := s.setPort p { s.port p with fallen := (s.port p).fallen.filter (· != hop) }
    if (s.port p).pronk.isSome then s else s.bringUpNext p
  else s

/-! ### Polls and rediscovery -/

/-- A node has failed (R107): its hop is cut off at position p − 1, or the reverse transmitter stops for 20 ms. -/
def State.pollFailed (s : State) (p pos : Nat) : State :=
  let s := s.brupFail p pos 4
  if pos = 0 then ((s.setPort p { s.port p with stopped := true }).dropNodes p 0).setBrup p 1
  else (s.ask p .cut 0x07 (pos - 1) (leBytes 1 3)).dropNodes p pos

/-- The poll interval of a node expires (R107). -/
def State.pollTimer (s : State) (p pos : Nat) : State :=
  if (if isLane p then decide (pos < s.fld (F.TRL_BRUP_STAT_NODES p)) else s.flag (F.NODE_ENT_PRESENT (nodeAddr p pos))) then
    let n := tblGet zeroN (s.port p).polls pos
    if n ≥ 3 then s.pollFailed p pos
    else (s.setPort p { s.port p with polls := tblPut (s.port p).polls pos (some (n + 1)) }).sendCtl p 0x07 pos (leBytes 1 5)
  else s

/-- The reverse transmitter starts again, with SYNC (R107). -/
def State.reverseStart (s : State) (p : Nat) : State :=
  if (s.port p).stopped then
    (s.setPort p { s.port p with stopped := false }).setTx p { s.tx p with blk := 0, queue := [], slot := s.now }
  else s

/-- A lane that does not discover begins its pronks once both ends have locked (log entry 163). -/
def State.laneStart (s : State) (p : Nat) : State :=
  if s.laneHealthy (laneTrunk p) (laneNo p) && (s.fld (F.TRK_BOND_STAT_PARTNER_OK (laneTrunk p))).testBit (laneNo p) then
    (((s.setPort p { s.port p with redisc := false }).setHop p 0 0 true).fixGoals p).bringUpNext p
  else s

/-- The rediscovery interval expires (R108). -/
def State.rediscover (s : State) (p : Nat) : State :=
  let x := s.port p
  if !x.redisc || x.stopped || s.awaits p .query || s.awaits p .extend then s
  else if !s.discovers p then s.laneStart p
  else if x.pos = 0 then (s.setBrup p 1).query p
  else s.ask p .extend 0x07 (x.pos - 1) (leBytes 1 2)

/-! ### TRL_BRUP_CTRL (R412) -/

/-- Whether RETRAIN and REDISCOVER are discarded now: DISCOVER, PRONK or LOOP. -/
def State.brupBusy (s : State) (p : Nat) : Bool :=
  let st := s.fld (F.TRL_BRUP_STAT_STATE p)
  st == 1 || st == 2 || st == 5

/-- A write of TRL_BRUP_CTRL; REDISCOVER wins, since it forgets the hops a retrain would work on. -/
def State.brupCtrl (s : State) (p : Nat) (v : Word) : State :=
  if !bitOn v 0 && !bitOn v 1 then s
  else if s.brupBusy p then s.log 412 p []
  else if !s.portOn p then s
  else if bitOn v 1 then s.discover p
  else s.retrainAll p

/-! ### Commands -/

/-- Run a command that a firmware restart held (R326); every other command is not held. -/
def State.replay (s : State) (i : Instr) : State :=
  match i with
  | .caps p c => s.takeCaps p c
  | .ack p pos a => s.takeAck p pos a
  | .trainResult p hop step pass => s.trainResult p hop step pass
  | .trainPeriodEnd p => s.trainEnd p
  | .trlBrupCtrlRetrain _ p v => s.brupCtrl p (v ||| 1#32)
  | .trlBrupCtrlRediscover _ p v => s.brupCtrl p (v ||| 2#32)
  | .huntTimeout p => s.huntDown p
  | .pronkSwitchTimeout p => s.switchTimeout p
  | .glitchWindowExpire p hop => s.glitchExpire p hop
  | .upHoldExpire p hop => s.upHold p hop
  | .discPollTimer p pos => s.pollTimer p pos
  | .rediscoveryTimer p => s.rediscover p
  | .timeRoundDue na => s.startRound na
  | .timeReplyTimeout na => s.roundOn na
  | _ => s

/-- CAPS (R99). -/
def execCaps (p : Fin 80) (c : Caps) (s : State) : Result := .next (s.engine (.caps p c) fun s => s.takeCaps p c)

/-- ACK (R98). -/
def execAck (p : Fin 80) (pos : Fin 8) (a : AckBlock) (s : State) : Result :=
  .next (s.engine (.ack p pos a) fun s => s.takeAck p pos a)

/-- HOP_STEP_SWITCH (R101). -/
def execHopStepSwitch (p : Fin 80) (s : State) : Result := .next (s.whenUp fun s => s.hopSwitch p)

/-- TRAIN_PATTERN (R101). -/
def execTrainPattern (p : Fin 80) (counter : BitVec 32) (s : State) : Result :=
  .next (s.whenUp fun s => s.trainPattern p counter.toNat)

/-- TRAIN_PERIOD_END (R101). -/
def execTrainPeriodEnd (p : Fin 80) (s : State) : Result :=
  .next (s.engine (.trainPeriodEnd p) fun s => s.trainEnd p)

/-- TRAIN_RESULT (R102). -/
def execTrainResult (p : Fin 80) (hop : Fin 8) (step : Nat) (pass : Bool) (s : State) : Result :=
  .next (s.engine (.trainResult p hop step pass) fun s => s.trainResult p hop step pass)

/-- PRONK_SWITCH_TIMEOUT (R102). -/
def execPronkSwitchTimeout (p : Fin 80) (s : State) : Result :=
  .next (s.timer (.pronkSwitchTimeout p) fun s => s.switchTimeout p)

/-- GLITCH_WINDOW_EXPIRE (R103). -/
def execGlitchWindowExpire (p : Fin 80) (hop : Fin 8) (s : State) : Result :=
  .next (s.timer (.glitchWindowExpire p hop) fun s => s.glitchExpire p hop)

/-- UP_HOLD_EXPIRE (R103). -/
def execUpHoldExpire (p : Fin 80) (hop : Fin 8) (s : State) : Result :=
  .next (s.timer (.upHoldExpire p hop) fun s => s.upHold p hop)

/-- DISC_POLL_TIMER (R107). -/
def execDiscPollTimer (p : Fin 80) (pos : Fin 8) (s : State) : Result :=
  .next (s.timer (.discPollTimer p pos) fun s => s.pollTimer p pos)

/-- REVERSE_STOP_END (R107). -/
def execReverseStopEnd (p : Fin 80) (s : State) : Result := .next (s.whenUp fun s => s.reverseStart p)

/-- REDISCOVERY_TIMER (R108). -/
def execRediscoveryTimer (p : Fin 80) (s : State) : Result :=
  .next (s.timer (.rediscoveryTimer p) fun s => s.rediscover p)

/-- TRL_BRUP_CTRL_RETRAIN (R103, R412). -/
def execTrlBrupCtrlRetrain (path : Path) (p : Fin 80) (v : Word) (s : State) : Result :=
  .next (s.guarded path (A.TRL_BRUP_CTRL p) false fun s =>
    s.engine (.trlBrupCtrlRetrain path p v) fun s => s.brupCtrl p (v ||| 1#32))

/-- TRL_BRUP_CTRL_REDISCOVER (R98, R412). -/
def execTrlBrupCtrlRediscover (path : Path) (p : Fin 80) (v : Word) (s : State) : Result :=
  .next (s.guarded path (A.TRL_BRUP_CTRL p) false fun s =>
    s.engine (.trlBrupCtrlRediscover path p v) fun s => s.brupCtrl p (v ||| 2#32))

/-! ### Node reports (R106, R118) -/

/-- A node reports that its downstream hop is lost: the nodes beyond it are lost (R106). In a firmware restart bring-up is
held, and only the loss itself is dealt with (R326). -/
def State.downLost (s : State) (p pos : Nat) : State :=
  if !s.flag (F.NODE_ENT_PRESENT (nodeAddr p pos)) || decide (7 ≤ pos) then s
  else
    let s := s.brupFail p (pos + 1) 5
    if s.start.fwBusy then s.loseFrom p (pos + 1) else s.dropNodes p (pos + 1)

/-- ERR_DOWN_LOST: the nodes beyond the reporter are lost (R106). -/
def execErrDownLost (p : Fin 64) (pos : Fin 8) (s : State) : Result := .next (s.whenUp fun s => s.downLost p pos)

/-- The SRC of an event of a node: its NA; for a virtual node behind a trunk the port, as for R99. -/
def State.nodeSrc (_ : State) (p pos : Nat) : Nat := if isLane p then p else nodeAddr p pos

/-- ERR_OVERFLOW: DETAIL is added to NODE_OVFL, one event per episode (R97, R118); the virtual nodes behind a trunk have no
NODE entries (log entry 19). -/
def execErrOverflow (p : Fin 80) (pos : Fin 8) (detail : BitVec 32) (s : State) : Result :=
  .next (s.whenUp fun s =>
    (if isLane p then s else s.count31 (A.NODE_OVFL (nodeAddr p pos)) detail.toNat).log 118 (s.nodeSrc p pos) [])

/-- ERR_BUS_STUCK: pending CTRL transactions of the node end with timeout (R118, R369). -/
def execErrBusStuck (p : Fin 64) (pos : Fin 8) (s : State) : Result :=
  .next (s.whenUp fun s => s.tunEnd (nodeAddr p pos) 5)

/-- ERR_TRIG_LATE: a missed trigger (R118). -/
def execErrTrigLate (p : Fin 64) (pos : Fin 8) (_vc : Fin 4) (s : State) : Result :=
  .next (s.whenUp fun s => s.missTrigger (nodeAddr p pos))

/-- ERR_TEMP: DETAIL is logged (R118). -/
def execErrTemp (p : Fin 64) (pos : Fin 8) (detail : BitVec 32) (s : State) : Result :=
  .next (s.whenUp fun s => s.log 118 (nodeAddr p pos) (det 4 detail.toNat))

/-- ERR_UNKNOWN: another code is logged as an unknown error (R118). -/
def execErrUnknown (p : Fin 64) (pos : Fin 8) (_code : Byte) (_detail : BitVec 32) (s : State) : Result :=
  .next (s.whenUp fun s => s.log 118 (nodeAddr p pos) [])

/-! ### The sensor-end role (R98, R101, R119, R120)

A port in this role shows 8 virtual nodes (R193: 32 routing slots, four to a node). -/

/-- Do `act` on an enabled port in the sensor-end role; one that has been without reverse lock for more than 10 ms is
unassigned first (R98). -/
def State.asSensor (s : State) (p : Nat) (act : State → State) : State :=
  if s.up && s.portOn p && s.sensorEnd p then act (s.lockAge p) else s

/-- Send ACK from position `pos`. -/
def State.sendAck (s : State) (p pos type sub seq status : Nat) : State :=
  s.sendCtl p 0x0C pos (leBytes 1 type ++ leBytes 1 sub ++ leBytes 1 seq ++ leBytes 1 status)

/-- The TIME_ASYM entry of a port: camera ports 0–63, then trunk ports (R58). -/
def State.portAsym (s : State) (p : Nat) : Nat :=
  s.fld (F.TIME_ASYM_ASYM (if isLane p then 64 + laneTrunk p else p))

/-- The CAPS body of virtual node `pos` (R93, R120); the vendor and product codes are free, since the spec names
none (log entry 20). -/
def State.capsBody (s : State) (p pos : Nat) : List Byte :=
  let uid := ofLe (s.otp 0x10 8) / 8 * 8 + pos
  leBytes 8 uid ++ leBytes 1 (4 + 8 + 16) ++ leBytes 1 15 ++ leBytes 2 0 ++ leBytes 2 (s.portAsym p) ++
    leBytes 1 16 ++ leBytes 1 0x21 ++ s.freeBytes 4

/-- DISC_QUERY: the next virtual node answers with CAPS, UNA set (R120). -/
def execDiscQuery (p : Fin 80) (s : State) : Result :=
  .next (s.asSensor p fun s =>
    let n := (s.sensor (sensorPort p)).nodes.length
    if n < 8 then (s.sendCtl p 0x08 0x10 (s.capsBody p n)).drawnN 4 else s)

/-- DISC_ASSIGN: the unassigned virtual node takes what it is given and answers ACK OK (R98). -/
def execDiscAssign (p : Fin 80) (na : Nat) (isids : List (Option Nat)) (segLen stepCap : Nat) (s : State) : Result :=
  .next (s.asSensor p fun s =>
    let q := sensorPort p
    let x := s.sensor q
    if x.nodes.length < 8 then
      (s.setSensor q { x with nodes := x.nodes ++ [⟨na, isids, segLen, stepCap, 0⟩] }).sendAck p x.nodes.length 7 1 0 0
    else s)

/-- DISC_EXTEND: OK while further virtual nodes remain, NO_PARTNER after the last (R120). -/
def execDiscExtend (p : Fin 80) (pos : Fin 8) (s : State) : Result :=
  .next (s.asSensor p fun s =>
    if pos < (s.sensor (sensorPort p)).nodes.length then s.sendAck p pos 7 2 0 (if pos.val < 7 then 0 else 1) else s)

/-- DISC_CUT: the addressed node disables its downstream hop, so the nodes beyond it become unassigned (R98, R107). -/
def execDiscCut (p : Fin 80) (pos : Fin 8) (s : State) : Result :=
  .next (s.asSensor p fun s =>
    let q := sensorPort p
    let x := s.sensor q
    if pos < x.nodes.length then (s.setSensor q { x with nodes := x.nodes.take (pos + 1) }).sendAck p pos 7 3 0 0 else s)

/-- DISC_RESET (R98). -/
def execDiscReset (p : Fin 80) (s : State) : Result := .next (s.asSensor p fun s => s.unassign p)

/-- DISC_POLL: an assigned node answers with ACK (R107). -/
def execDiscPoll (p : Fin 80) (pos : Fin 8) (s : State) : Result :=
  .next (s.asSensor p fun s => if pos < (s.sensor (sensorPort p)).nodes.length then s.sendAck p pos 7 5 0 0 else s)

/-- TRIG_RECEIVE: acknowledged and counted, not acted on (R120); a block for a position that no virtual node holds is ignored
(R93). -/
def execTrigReceive (p : Fin 80) (pos : Fin 8) (s : State) : Result :=
  .next (s.asSensor p fun s =>
    let q := sensorPort p
    let x := s.sensor q
    if pos < x.nodes.length then (s.setSensor q { x with trigs := x.trigs + 1 }).sendAck p pos 5 0 0 0 else s)

/-- TIME_REQ: answered with REPLY; the turnaround measured is a free value (R62, log entry 21). -/
def execTimeReq (p : Fin 80) (pos : Fin 8) (seq : Byte) (s : State) : Result :=
  .next (s.asSensor p fun s =>
    if pos < (s.sensor (sensorPort p)).nodes.length then
      (s.sendCtl p 0x06 pos (leBytes 1 1 ++ [seq] ++ s.freeBytes 4)).drawnN 4
    else s)

/-- TIME_RESULT: the node keeps its delay (R60). -/
def execTimeResult (p : Fin 80) (pos : Fin 8) (delay : BitVec 24) (s : State) : Result :=
  .next (s.asSensor p fun s =>
    let q := sensorPort p
    let x := s.sensor q
    match x.nodes[pos]? with
    | some n => s.setSensor q { x with nodes := x.nodes.set pos { n with delay := delay.toNat } }
    | none => s)

/-- Whether the virtual nodes at the ends of the selected hops may take a step: none goes above its STEP_CAP (R100), and the
port's own hop takes only a step that the port has (R87). Hop h enters node h from node h − 1. -/
def State.switchOk (s : State) (p hops step : Nat) : Bool :=
  let nodes := (s.sensor (sensorPort p)).nodes
  let mine := (List.range 8).filter fun h => hops.testBit h && decide (h < max 1 nodes.length)
  let ends := mine.flatMap fun h => [nodes[h]?, if h = 0 then none else nodes[h - 1]?]
  mine != [] && ends.all (fun n => (n.map fun n => decide (step ≤ n.stepCap)).getD true) &&
    (!hops.testBit 0 || s.stepAvail p step)

/-- RATE_SWITCH: a switch of the selected hops is scheduled at the named SYNC, never above a STEP_CAP nor to a step the port
does not have (R87, R100, R101). -/
def execRateSwitch (p : Fin 80) (hops : Byte) (step : Nat) (atSync : BitVec 16) (s : State) : Result :=
  .next (s.asSensor p fun s =>
    let x := s.sensor p
    if s.switchOk p hops.toNat step then
      s.setSensor p { x with sched := some (atSync.toNat, step), hops := hops.toNat, back := s.fld (F.TRL_STAT_STEP p) }
    else s)

/-- RATE_COMMIT: the new step stands and traffic resumes (R102); a loop accepted begins at the next reverse SYNC (R119). -/
def execRateCommit (p : Fin 80) (s : State) : Result :=
  .next (s.asSensor p fun s =>
    let x := s.sensor p
    if x.training then
      ((s.setSensor p { x with training := false, loopArm := x.looping, back := s.fld (F.TRL_STAT_STEP p) }).setTx p { s.tx p with train := none }).sendAck
        p 0 10 1 0 0
    else s)

/-- RATE_REVERT: every selected hop returns at once to step s and hunts (R102). -/
def execRateRevert (p : Fin 80) (s : State) : Result :=
  .next (s.asSensor p fun s => (s.sensorBack p).sendAck p 0 10 2 0 0)

/-- TRAIN_LOOP_REQ: a compliant sensor end accepts (R89, R119); a trunk lane loops on its own. -/
def execTrainLoopReq (p : Fin 80) (pos : Fin 8) (s : State) : Result :=
  .next (s.asSensor p fun s =>
    if pos < (s.sensor (sensorPort p)).nodes.length then
      (s.setSensor p { s.sensor p with looping := true, loopPos := pos }).sendAck p pos 9 2 0 0
    else s)

/-- TRAIN_LOOP_END: a sensor end that loops at that position leaves the loop and becomes unassigned (R93, R119). -/
def execTrainLoopEnd (p : Fin 80) (pos : Fin 8) (s : State) : Result :=
  .next (s.asSensor p fun s => if (s.sensor p).looping && (s.sensor p).loopPos == pos then s.unassign p else s)

end Sys2Proof.Machine
end

