-- ==== Sys2Proof/Machine/Sessions.lean ====
section
/-! DEFINITION. Node sessions (R117, R320, R336–R342): the exchange of HELLO, CERT, FINISH and DONE on both sides, rekeys,
retries, and the tag of a line. Trunk port t is node 512 + t. -/

namespace Sys2Proof.Machine

/-! ### The key store's OTP items (R330) -/

/-- The lifecycle state (R328): the fuses of the item at 0; each transition sets a further bit of its first byte
(log entry 34). -/
def State.lc (s : State) : Nat :=
  let f := (tblGet (fun _ => 0#8) s.sec.otp 0).toNat
  if f ≥ 4 then 3 else if f ≥ 2 then 2 else f

/-- Whether the DUS has been generated. -/
def State.dusOk (s : State) : Bool := (s.otp 0x20 32).any (· != 0#8)

/-- The device identity key (R341). -/
def State.identityKey (s : State) : Nat :=
  ofBe (hkdf256 [] (s.otp 0x20 32) (ascii "H640 device identity") 32) % p256.n

/-- The device certificate chain: the root key, then the certificates, issuer first (log entry 35). -/
def State.deviceChain (s : State) : List Byte × List (List Byte) :=
  let l := s.otp 0x400 2048
  let certs := l.drop 65
  let one := (derOne certs).filter fun d => d.1.tag == 0x30
  match one with
  | none => (l.take 65, [])
  | some (a, rest) => match (derOne rest).filter fun d => d.1.tag == 0x30 with
    | none => (l.take 65, [a.whole])
    | some (b, _) => (l.take 65, [a.whole, b.whole])

/-! ### KEY messages (R117) -/

/-- The body of a KEY block. -/
def keyBody (msg frag count : Nat) (d : List Byte) : List Byte :=
  leBytes 1 msg ++ leBytes 1 frag ++ leBytes 1 count ++ leBytes 1 d.length ++ padTo 20 d

/-- The blocks of a message: fragments of 20 bytes, numbered from 0. -/
def keyBlocks (addr msg : Nat) (m : List Byte) : List (List Byte) :=
  let n := ceilDiv m.length 20
  (List.range n).map fun i => ctlBlock 0x0B addr (keyBody msg i n ((m.drop (20 * i)).take 20))

/-- The message that received fragments make; `none` where one is missing, out of order or duplicated. -/
def keyMessage (fs : List KeyFrag) : Option (List Byte) :=
  if fs ≠ [] ∧ fs.map (·.frag) = List.range fs.length ∧
      fs.all (fun f => f.count == fs.length && decide (1 ≤ f.data.length) && decide (f.data.length ≤ 20)) then
    some (fs.flatMap (·.data))
  else none

/-- Whether a message has this SID under suite 1 (R336). -/
def keyFor (sid : Nat) (m : List Byte) : Bool := m.getD 0 0 == 1#8 && (m.getD 1 0).toNat == sid

/-! ### The hub's side -/

/-- The port, and the position on it, through which a node is reached: of a trunk, its lowest enabled lane. -/
def State.keyPort (s : State) (n : Nat) : Nat :=
  if n < 512 then n / 8
  else laneOf (n - 512) (((List.range 4).find? fun l => s.portOn (laneOf (n - 512) l)).getD 0)
def keyPos (n : Nat) : Nat := if n < 512 then n % 8 else 0

/-- The node behind a port and a position. -/
def keyNode (p pos : Nat) : Nat := if p < 64 then nodeAddr p pos else 512 + laneTrunk p

/-- A session with nothing in it. -/
def sessReset : SessSt := ⟨0, false, false, [], [], [], [], [], [], [], 0, [], [], 0⟩

/-- A node's session. -/
def State.sess (s : State) (n : Nat) : SessSt := (tblOpt s.link.sess n).getD sessReset

/-- Replace a node's session. -/
def State.setSess (s : State) (n : Nat) (x : SessSt) : State :=
  { s with link := { s.link with sess := tblPut s.link.sess n (some x) } }

/-- The UID of a node, from its CAPS; a trunk partner's is that of its virtual node at position 0 (log entry 36). -/
def State.nodeUid (s : State) (n : Nat) : Nat :=
  if n < 512 then s.pair (A.NODE_UID_LO n) 32 else (((s.port (s.keyPort n)).peer).map (·.1)).getD 0

/-- The NA under which a node makes its session (R339). -/
def State.nodeNa (s : State) (n : Nat) : Nat :=
  if n < 512 then n else (((s.port (s.keyPort n)).peer).map (·.2)).getD 0

/-- Take the next queued node: first sessions, then rekeys, each in ascending order (R320, R340). A node whose port is at a
pronk waits, since sessions never overlap one (R320). -/
def State.nextKeyNode (s : State) : Option (Nat × Bool × State) :=
  let free := fun (n : Nat) => (s.port (s.keyPort n)).pronk.isNone
  match s.link.keyQueue.find? free, s.link.rekeyQueue.find? free with
  | some n, _ => some (n, false, { s with link := { s.link with keyQueue := s.link.keyQueue.erase n } })
  | none, some n => some (n, true, { s with link := { s.link with rekeyQueue := s.link.rekeyQueue.erase n } })
  | none, none => none

/-- One of the four public-key engines takes a queued node and sends KEY HELLO (R320, R336). -/
def State.startSession (s : State) : State :=
  if s.link.sess.countP (fun c => c.2.engine) ≥ 4 then s
  else match s.nextKeyNode with
    | none => s
    | some (n, re, s) =>
      let sid := (tblGet zeroN s.link.sids n + 1) % 256
      let hello := leBytes 1 1 ++ leBytes 1 sid ++ s.freeBytes 32
      let s := s.drawnN 32
      let s : State := { s with link := { s.link with sids := tblSet zeroN s.link.sids n sid } }
      let s := s.setSess n { s.sess n with sid := sid, engine := true, rekey := re, hello := hello }
      let s := if re then s.setFlag (F.SEC_NODE_STAT_REKEYING n) true else s.setFld (F.SEC_NODE_STAT_STATE n) 1
      s.askAll (s.keyPort n) (.keyHello n) (keyBlocks (keyPos n) 1 hello)

/-- An exchange ends with a REASON (R338): END is sent; a rekey leaves the session in force, anything else has failed. -/
def State.sessionFail (s : State) (n reason : Nat) : State :=
  let x := s.sess n
  let s := (s.answered (s.keyPort n) (.keyHello n)).answered (s.keyPort n) (.keyFinish n)
  let s := (keyBlocks (keyPos n) 5 (leBytes 1 1 ++ leBytes 1 x.sid ++ leBytes 1 reason)).foldl
    (fun s b => s.setTx (s.keyPort n) { s.tx (s.keyPort n) with queue := (s.tx (s.keyPort n)).queue ++ [(true, b)] }) s
  let s := (s.setSess n { x with engine := false, rekey := false, hello := [], kConf := [], th := [], kNext := [] }).setFld
    (F.SEC_NODE_STAT_REASON n) reason
  let s := s.setFlag (F.SEC_NODE_STAT_REKEYING n) false
  if x.key = [] then s.setFld (F.SEC_NODE_STAT_STATE n) 3 else s

/-- The keys of a node are discarded; it is no longer secured (R340). -/
def State.loseKeys (s : State) (n : Nat) : State :=
  let s := s.setSess n { s.sess n with key := [], old := [], switched := [], passed := [], oldPassed := [], fails := 0 }
  if n < 512 ∧ s.fld (F.NODE_ENT_STATE n) = 3 then s.setFld (F.NODE_ENT_STATE n) 2 else s

/-- A session in force ends, and a new one begins (R340, R344). -/
def State.endSession (s : State) (n reason : Nat) : State := ((s.loseKeys n).sessionFail n reason).wantSession n

/-- The certificates that a CERT body carries, and what follows them. -/
def certList : Nat → List Byte → Option (List (List Byte) × List Byte)
  | 0, l => some ([], l)
  | k + 1, l =>
    let n := ofLe (l.take 2)
    if l.length < 2 + n then none else (certList k (l.drop (2 + n))).map fun r => ((l.drop 2).take n :: r.1, r.2)

/-- A CERT body: ROOT_KEY, certificates, E_n, N_n, SIG. -/
structure CertBody where
  root : List Byte
  certs : List (List Byte)
  eph : List Byte
  nonce : List Byte
  sig : List Byte

/-- Read a CERT body (R336); `none` where its lengths are not consistent. -/
def readCert (m : List Byte) : Option CertBody :=
  let n := (m.getD 2 0).toNat
  if m.length < 68 ∨ (n ≠ 1 ∧ n ≠ 2) then none
  else (certList n (m.drop 68)).bind fun (cs, rest) =>
    if rest.length = 161 then some ⟨(m.drop 3).take 65, cs, rest.take 65, (rest.drop 65).take 32, rest.drop 97⟩ else none

/-- R337 over a parsed chain, root end first: issuers, cA of an intermediate, keyUsage and serialNumber of the leaf,
no unknown critical extension. -/
def chainProfile : List Cert → Bool
  | [l] => l.digSig && l.serialAttr.isSome && !l.unknownCritical
  | [i, l] => i.ca && !i.unknownCritical && l.digSig && l.serialAttr.isSome && !l.unknownCritical && l.issuer == i.subject
  | _ => false

/-- Each certificate verifies under its parent's key (R338). -/
def chainVerify : List Byte → List Cert → Bool
  | _, [] => true
  | k, c :: t => p256.verify k (sha256 c.tbs) (c.sig.take 32) (c.sig.drop 32) && chainVerify c.key t

/-- The first failed check of R338 on a CERT message, or the trust root and the leaf. -/
def State.certCheck (s : State) (n : Nat) (hello m : List Byte) : Except Nat (Nat × CertBody × Nat) :=
  match readCert m with
  | none => .error 1
  | some b => match (s.image.map (·.roots)).getD [] |>.find? fun r => r.2 == sha256 b.root with
    | none => .error 2
    | some root =>
      match b.certs.mapM parseCert with
      | none => .error 3
      | some cs =>
        let leaf := cs.getLast?
        if !chainProfile cs then .error 3
        else if !chainVerify b.root cs then .error 4
        else match leaf with
          | none => .error 3
          | some l =>
            let uid := s.nodeUid n
            if l.serialAttr ≠ some (hex16 uid) then .error 5
            else if !p256.verify l.key (sha256 (ascii "TRL 2.1 cert" ++ hello ++ m.take (m.length - 64)))
                (b.sig.take 32) (b.sig.drop 32) then .error 6
            else .ok (root.1, b, uid)

/-- Salt, info and output of the key derivation (R339). -/
def sessionKeys (nh nn z : List Byte) (uid na sid : Nat) : List Byte :=
  hkdf256 (nh ++ nn) z (ascii "TRL 2.1 session" ++ leBytes 8 uid ++ leBytes 2 na ++ leBytes 1 sid) 64

/-- The confirmation of one side (R339). -/
def confirm (who : String) (kConf th : List Byte) : List Byte := (hmac256 kConf (ascii who ++ th)).take 16

/-- Whether the fragments of a message begin with its first one, which names another session or suite (R336). -/
def keyOther (sid : Nat) (fs : List KeyFrag) : Bool := ((fs.find? fun f => f.frag == 0).map fun f => !keyFor sid f.data).getD false

/-- A CERT message that HELLO awaits (R338): checked, then FINISH is sent; the ephemeral key is drawn. Fragments that are not
complete fail the first check (log entry 194), and an E_n that is no point of the curve counts as a failed proof (log entry
37). -/
def State.keyCert (s : State) (n : Nat) (fs : List KeyFrag) : State :=
  let x := s.sess n
  match keyMessage fs with
  | none => if !s.awaits (s.keyPort n) (.keyHello n) || keyOther x.sid fs then s else s.sessionFail n 1
  | some m =>
    if !s.awaits (s.keyPort n) (.keyHello n) || !keyFor x.sid m then s
    else
      let s := s.answered (s.keyPort n) (.keyHello n)
      match s.certCheck n x.hello m with
      | .error r => s.sessionFail n r
      | .ok (root, b, uid) =>
        let d := s.free 256 % (p256.n - 1) + 1
        let s := s.drawn
        match p256.shared d b.eph with
        | none => s.sessionFail n 6
        | some z =>
          let eh := p256.encode (p256.mul 256 d p256.base)
          let k := sessionKeys (x.hello.drop 2) b.nonce z uid (s.nodeNa n) x.sid
          let th := sha256 (x.hello ++ m ++ eh)
          let s := s.setSess n { x with engine := false, kNext := k.take 32, kConf := k.drop 32, th := th }
          let s := s.setFld (F.SEC_NODE_STAT_ROOT_ID n) root
          s.askAll (s.keyPort n) (.keyFinish n)
            (keyBlocks (keyPos n) 3 (leBytes 1 1 ++ leBytes 1 x.sid ++ eh ++ confirm "hub" (k.drop 32) th))

/-- A DONE message that FINISH awaits (R339): a correct confirmation establishes the session. -/
def State.keyDone (s : State) (n : Nat) (fs : List KeyFrag) : State :=
  let x := s.sess n
  match keyMessage fs with
  | none => s
  | some m =>
    if !s.awaits (s.keyPort n) (.keyFinish n) || !keyFor x.sid m then s
    else
      let s := s.answered (s.keyPort n) (.keyFinish n)
      if m.drop 2 ≠ confirm "node" x.kConf x.th then s.sessionFail n 7
      else
        let s := s.setSess n { x with
          rekey := false, hello := [], kConf := [], th := [], kNext := [], old := x.key,
          key := x.kNext, switched := [], fails := 0, passed := [], oldPassed := x.passed, born := s.time.elapsed }
        let s := ((s.setFld (F.SEC_NODE_STAT_STATE n) 2).setFld (F.SEC_NODE_STAT_SID n) x.sid).setFlag
          (F.SEC_NODE_STAT_REKEYING n) false
        let s := s.count31 (A.SEC_NODE_SESS n) 1
        if n < 512 ∧ s.fld (F.NODE_ENT_STATE n) < 3 then s.setFld (F.NODE_ENT_STATE n) 3 else s

/-- The answer to the k-th request of a port is late (R94): the fourth time, an exchange of keys ends TIMEOUT. -/
def State.answerLateAny (s : State) (p k : Nat) : State :=
  match (s.port p).waits[k]? with
  | some ⟨.keyHello n, _, 3⟩ => s.sessionFail n 8
  | some ⟨.keyFinish n, _, 3⟩ => s.sessionFail n 8
  | _ => s.answerLate p k

/-- ANSWER_LATE (R94). -/
def execAnswerLate (p : Fin 80) (k : Nat) (s : State) : Result :=
  .next (s.whenUp fun s => if s.start.fwBusy then s else s.answerLateAny p k)

/-- RETRY_S after a failed session a new one begins (R338), as a rekey where a key is in force. -/
def State.sessionRetry (s : State) (n : Nat) : State :=
  let x := s.sess n
  if x.engine || x.hello ≠ [] || s.fld (F.SEC_NODE_STAT_REASON n) = 0 then s
  else if x.key ≠ [] then { s with link := { s.link with rekeyQueue := setIns n s.link.rekeyQueue } }
  else if s.fld (F.SEC_NODE_STAT_STATE n) = 3 then s.wantSession n
  else s

/-- A session in force is due for its rekey (R340). -/
def State.rekeyDue (s : State) (n : Nat) : State :=
  if s.fld (F.SEC_NODE_STAT_STATE n) = 2 then
    { s with link := { s.link with rekeyQueue := setIns n s.link.rekeyQueue } }.setFld (F.SEC_NODE_STAT_REASON n) 10
  else s

/-- The previous line key is dropped (R340). -/
def State.dropOldKey (s : State) (n : Nat) : State := s.setSess n { s.sess n with old := [] }

/-- ERR SESSION (R338, R340): the node's keys are discarded and its session ends with REASON NODE. -/
def State.nodeErrSession (s : State) (n : Nat) : State :=
  if (tblOpt s.link.sess n).isSome then ((s.loseKeys n).setFld (F.SEC_NODE_STAT_STATE n) 3).sessionFail n 9 else s

/-! ### The node's side (R341) -/

/-- Send a KEY message forward from position `pos` of a port. -/
def State.sendKey (s : State) (p pos msg : Nat) (m : List Byte) : State :=
  s.setTx p { s.tx p with queue := (s.tx p).queue ++ (keyBlocks pos msg m).map fun b => (true, b) }

/-- Send ERR SESSION; its DETAIL, the node's own reason, is a free value (log entry 38). -/
def State.sendErrSession (s : State) (p pos : Nat) : State :=
  (s.sendCtl p 0x0D pos (leBytes 1 6 ++ leBytes 1 0 ++ leBytes 4 (s.free 32))).drawn

/-- The UID of a virtual node (R120). -/
def State.virtualUid (s : State) (pos : Nat) : Nat := ofLe (s.otp 0x10 8) / 8 * 8 + pos

/-- A HELLO is answered with the device certificate chain, or with ERR SESSION in Returned (R336, R341). -/
def State.keyHello (s : State) (p pos : Nat) (fs : List KeyFrag) : State :=
  match keyMessage fs with
  | none => s
  | some m =>
    if m.length ≠ 34 ∨ m.getD 0 0 ≠ 1#8 then s
    else if s.lc = 3 then s.sendErrSession p pos
    else
      let sid := (m.getD 1 0).toNat
      let (root, certs) := s.deviceChain
      let nonce := s.freeBytes 32
      let s := s.drawnN 32
      let d := s.free 256 % (p256.n - 1) + 1
      let k := (s.drawn).free 256 % (p256.n - 1) + 1
      let s := s.drawnN 2
      let body := leBytes 1 1 ++ leBytes 1 sid ++ leBytes 1 certs.length ++ root ++
        certs.flatMap (fun c => leBytes 2 c.length ++ c) ++ p256.encode (p256.mul 256 d p256.base) ++ nonce
      let cert := body ++ p256.sign s.identityKey k (sha256 (ascii "TRL 2.1 cert" ++ m ++ body))
      let q := sensorPort p
      let x := s.sensor q
      let s := s.setSensor q { x with sess := tblPut x.sess pos (some
        ⟨sid, m, cert, nonce, d, ((tblOpt x.sess pos).map (·.key)).getD [], ((tblOpt x.sess pos).map (·.old)).getD [],
          ((tblOpt x.sess pos).map (·.moved)).getD []⟩) }
      s.sendKey p pos 2 cert

/-- FINISH is checked: a correct CONF_H is answered with DONE, and the new key goes into use at the next SOF of each VC
(R340); a wrong one is answered with ERR SESSION (R339). -/
def State.keyFinish (s : State) (p pos : Nat) (fs : List KeyFrag) : State :=
  let x := s.sensor (sensorPort p)
  match keyMessage fs, tblOpt x.sess pos with
  | some m, some e =>
    if !keyFor e.sid m || m.length ≠ 83 then s
    else
      let eh := (m.drop 2).take 65
      match p256.shared e.eph eh with
      | none => s.sendErrSession p pos
      | some z =>
        let na := ((x.nodes[pos]?).map (·.na)).getD 0
        let k := sessionKeys (e.hello.drop 2) e.nonce z (s.virtualUid pos) na e.sid
        let th := sha256 (e.hello ++ e.cert ++ eh)
        if m.drop 67 ≠ confirm "hub" (k.drop 32) th then s.sendErrSession p pos
        else
          let s := s.setSensor (sensorPort p) { x with sess := tblPut x.sess pos (some
            { e with key := k.take 32, old := e.key, moved := [] }) }
          s.sendKey p pos 4 (leBytes 1 1 ++ leBytes 1 e.sid ++ confirm "node" (k.drop 32) th)
  | _, _ => s

/-- END drops the session (R338). -/
def State.keyEnd (s : State) (p pos : Nat) (fs : List KeyFrag) : State :=
  let x := s.sensor (sensorPort p)
  match keyMessage fs, tblOpt x.sess pos with
  | some m, some e => if keyFor e.sid m then s.setSensor (sensorPort p) { x with sess := tblPut x.sess pos none } else s
  | _, _ => s

/-! ### Line tags (R342) -/

/-- The tag of a line. -/
def lineTag (key : List Byte) (na isid frame line dt vc segIdx : Nat) (emb : Bool) (payload : List Byte) : List Byte :=
  let nonce := leBytes 2 na ++ leBytes 2 isid ++ leBytes 4 frame ++
    leBytes 2 (line % 2 ^ 14 + (if emb then 2 ^ 15 else 0)) ++ leBytes 2 segIdx
  (gcmTag key nonce (leBytes 1 dt ++ leBytes 1 vc ++ leBytes 2 payload.length ++ payload) []).take 8

/-! ### Commands -/

/-- Run a command that a firmware restart held (R326), those of key exchanges included. -/
def State.replayAny (s : State) (i : Instr) : State :=
  match i with
  | .keyCert p pos fs => s.keyCert (keyNode p pos) fs
  | .keyDone p pos fs => s.keyDone (keyNode p pos) fs
  | .sessionStart => s.startSession
  | .sessionRetry n => s.sessionRetry n
  | _ => s.replay i

/-- SESSION_START (R320). -/
def execSessionStart (s : State) : Result := .next (s.timer .sessionStart State.startSession)

/-- KEY_CERT (R338). -/
def execKeyCert (p : Fin 80) (pos : Fin 8) (frags : List KeyFrag) (s : State) : Result :=
  .next (s.engine (.keyCert p pos frags) fun s => s.keyCert (keyNode p pos) frags)

/-- KEY_DONE (R339). -/
def execKeyDone (p : Fin 80) (pos : Fin 8) (frags : List KeyFrag) (s : State) : Result :=
  .next (s.engine (.keyDone p pos frags) fun s => s.keyDone (keyNode p pos) frags)

/-- KEY_HELLO (R341). -/
def execKeyHello (p : Fin 80) (pos : Fin 8) (frags : List KeyFrag) (s : State) : Result :=
  .next (s.asSensor p fun s => s.keyHello p pos frags)

/-- KEY_FINISH (R339). -/
def execKeyFinish (p : Fin 80) (pos : Fin 8) (frags : List KeyFrag) (s : State) : Result :=
  .next (s.asSensor p fun s => s.keyFinish p pos frags)

/-- KEY_END (R338). -/
def execKeyEnd (p : Fin 80) (pos : Fin 8) (frags : List KeyFrag) (s : State) : Result :=
  .next (s.asSensor p fun s => s.keyEnd p pos frags)

/-- SESSION_RETRY (R338). -/
def execSessionRetry (n : Fin 516) (s : State) : Result := .next (s.timer (.sessionRetry n) fun s => s.sessionRetry n)

/-- REKEY_DUE (R340). -/
def execRekeyDue (n : Fin 516) (s : State) : Result := .next (s.whenUp fun s => s.rekeyDue n)

/-- OLD_KEY_EXPIRE (R340). -/
def execOldKeyExpire (n : Fin 516) (s : State) : Result := .next (s.whenUp fun s => s.dropOldKey n)

/-- ERR_SESSION (R338). -/
def execErrSession (p : Fin 80) (pos : Fin 8) (_detail : BitVec 32) (s : State) : Result :=
  .next (s.whenUp fun s => s.nodeErrSession (keyNode p pos))

end Sys2Proof.Machine
end

