-- ==== Sys2Proof/Machine/Pixels.lean ====
section
/-! DEFINITION. What a slice computes (chapter 06), bit for bit, as functions of the stored lines, the tables and the
parameters: the twelve stages of R144 without any state. -/

namespace Sys2Proof.Machine

/-! ### Data types and packed layouts (R122, R153) -/

/-- Bits of a pixel of a CSI-2 data type; 0 for a code that is not accepted. -/
def dtBits (dt : Nat) : Nat :=
  match dt with
  | 0x2A => 8 | 0x2B => 10 | 0x2C => 12 | 0x2D => 14 | 0x2E => 16 | 0x2F => 20 | 0x27 => 24 | _ => 0

/-- Packing group: pixels and bytes. -/
def dtGroup (dt : Nat) : Nat × Nat :=
  match dt with
  | 0x2A => (1, 1) | 0x2B => (4, 5) | 0x2C => (2, 3) | 0x2D => (4, 7) | 0x2E => (1, 2) | 0x2F => (2, 5) | 0x27 => (1, 3)
  | _ => (1, 1)

/-- Line bytes of `w` pixels (R122). -/
def lineBytes (dt w : Nat) : Nat := w * (dtGroup dt).2 / (dtGroup dt).1

/-- A packing group, as a number, from its pixels, lowest-numbered first (R153). -/
def packGroup (dt : Nat) (p : Nat → Nat) : Nat :=
  match dt with
  | 0x2B => p 0 / 4 + p 1 / 4 * 2 ^ 8 + p 2 / 4 * 2 ^ 16 + p 3 / 4 * 2 ^ 24 +
      (p 0 % 4 + p 1 % 4 * 4 + p 2 % 4 * 16 + p 3 % 4 * 64) * 2 ^ 32
  | 0x2C => p 0 / 16 + p 1 / 16 * 2 ^ 8 + (p 0 % 16 + p 1 % 16 * 16) * 2 ^ 16
  | 0x2D => p 0 / 64 + p 1 / 64 * 2 ^ 8 + p 2 / 64 * 2 ^ 16 + p 3 / 64 * 2 ^ 24 +
      (p 0 % 64 + p 1 % 64 * 2 ^ 6 + p 2 % 64 * 2 ^ 12 + p 3 % 64 * 2 ^ 18) * 2 ^ 32
  | 0x2F => p 0 / 4096 + p 1 / 4096 * 2 ^ 8 + p 0 / 16 % 256 * 2 ^ 16 + p 1 / 16 % 256 * 2 ^ 24 +
      (p 0 % 16 + p 1 % 16 * 16) * 2 ^ 32
  | _ => p 0

/-- Pixel `k` of a packing group. -/
def unpackGroup (dt g k : Nat) : Nat :=
  match dt with
  | 0x2B => bitsOf g (8 * k) 8 * 4 + bitsOf g (32 + 2 * k) 2
  | 0x2C => bitsOf g (8 * k) 8 * 16 + bitsOf g (16 + 4 * k) 4
  | 0x2D => bitsOf g (8 * k) 8 * 64 + bitsOf g (32 + 6 * k) 6
  | 0x2F => bitsOf g (8 * k) 8 * 4096 + bitsOf g (16 + 8 * k) 8 * 16 + bitsOf g (32 + 4 * k) 4
  | _ => g

/-- Pixel x of stored bytes. -/
def unpackPx (dt : Nat) (data : List Byte) (x : Nat) : Nat :=
  let (n, b) := dtGroup dt
  unpackGroup dt (ofLe ((data.drop (x / n * b)).take b)) (x % n)

/-- Pixels packed in the layout of a data type. -/
def packPx (dt : Nat) (px : List Nat) : List Byte :=
  let (n, b) := dtGroup dt
  (List.range (ceilDiv px.length n)).flatMap fun i => leBytes b (packGroup dt fun k => px.getD (i * n + k) 0)

/-! ### Parameters -/

/-- Everything a slice's arithmetic takes besides the lines (R145). -/
structure Geo where
  width : Nat
  lines : Nat
  dt : Nat
  decomp : Bool
  black : Bool
  sdef : Bool
  ddef : Bool
  shade : Bool
  gain : Bool
  curve : Bool
  /-- 0 none, 1 bin 2×2, 2 bin 4×4, 3 polyphase. -/
  scale : Nat
  /-- B, the output bits. -/
  bits : Nat
  /-- Offset of the table set in table memory. -/
  tset : Nat
  defBase : Nat
  defCount : Nat
  dynT : Nat
  hratio : Nat
  vratio : Nat
  bl : List Nat
  gains : List Nat
  /-- FILL_MODE: BLACK rather than REPEAT. -/
  fillBlack : Bool
  mem : Tbl Byte
  poison : List Nat
  /-- The input lines that exist for defect neighbours: from `lo` up to but not `hi` (R155). -/
  lo : Nat
  hi : Nat

/-- A byte of table memory. -/
def Geo.byte (g : Geo) (a : Nat) : Nat := (tblGet (fun _ => 0#8) g.mem a).toNat

/-- A little-endian number of table memory. -/
def Geo.num (g : Geo) (a : Nat) : Nat → Nat
  | 0 => 0
  | n + 1 => g.byte a + 256 * g.num (a + 1) n

/-- The CFA phase of a pixel (R144). -/
def cfaPhase (x y : Nat) : Nat := 2 * (y % 2) + x % 2

/-- Whether stage 4 is enabled. -/
def Geo.stage4 (g : Geo) : Bool := g.sdef || g.ddef

/-- Lines of defect context each side of a line (R155, R157, R176; log entry 28). -/
def Geo.margin (g : Geo) : Nat := if g.stage4 then 2 else 0

/-- Input lines beyond a line that its stage 4 value depends on: dynamic detection takes neighbours that static
correction has already replaced (R157). -/
def Geo.reach (g : Geo) : Nat := (if g.sdef then 2 else 0) + (if g.ddef then 2 else 0)

/-! ### Knee tables (R150) -/

/-- X[i] and Y[i] of the knee table at `a`. -/
def Geo.kneeX (g : Geo) (a i : Nat) : Nat := g.num (a + 8 * i) 4
def Geo.kneeY (g : Geo) (a i : Nat) : Nat := g.num (a + 8 * i + 4) 4

/-- A knee table is valid up to the largest Y `top`. -/
def Geo.kneeOk (g : Geo) (a top : Nat) : Bool :=
  g.kneeX a 0 == 0 && decide (g.kneeY a 32 ≤ top) &&
    (List.range 33).all (fun i => decide (g.kneeX a i < 2 ^ 24) && decide (g.kneeY a i < 2 ^ 24)) &&
    (List.range 32).all (fun i => decide (g.kneeX a i < g.kneeX a (i + 1)) && decide (g.kneeY a i ≤ g.kneeY a (i + 1)))

/-- Evaluate a valid knee table. -/
def Geo.knee (g : Geo) (a v : Nat) : Nat :=
  if g.kneeX a 32 ≤ v then g.kneeY a 32
  else
    let i := (List.range 32).countP (fun i => decide (g.kneeX a i ≤ v)) - 1
    let d := g.kneeX a (i + 1) - g.kneeX a i
    g.kneeY a i + ((v - g.kneeX a i) * (g.kneeY a (i + 1) - g.kneeY a i) + d / 2) / d

/-! ### Stages 1 to 3 -/

/-- A pixel leaving stage 2 (R144, R154). -/
def Geo.stage2 (g : Geo) (data : List Byte) (x : Nat) : Nat :=
  let v := unpackPx g.dt data x
  if g.decomp then g.knee g.tset v else v * 2 ^ (24 - dtBits g.dt)

/-- The pixels of an input line leaving stage 3; a BLACK substitute is 0 throughout (R154, R175). -/
def Geo.line3 (g : Geo) (y : Nat) (l : SrcLine) : List Nat :=
  (List.range g.width).map fun x =>
    if l.data.isEmpty then 0
    else
      let v := g.stage2 l.data x
      if g.black then v - g.bl.getD (cfaPhase x y) 0 else v

/-! ### Stage 4: defects -/

/-- The coordinates of neighbour (dx, dy) of a pixel, mirrored through the centre where it lies outside (R155). -/
def Geo.neighbour (g : Geo) (x y : Nat) (dx dy : Int) : Nat × Nat :=
  let inX := fun (v : Int) => decide (0 ≤ v) && decide (v < g.width)
  let inY := fun (v : Int) => decide ((g.lo : Int) ≤ v) && decide (v < g.hi)
  let nx : Int := x + dx
  let ny : Int := y + dy
  if inX nx && inY ny then (nx.toNat, ny.toNat)
  else
    let mx : Int := x - dx
    let my : Int := y - dy
    ((if inX mx then mx else nx).toNat, (if inY my then my else ny).toNat)

/-- The eight same-phase offsets. -/
def offsets8 : List (Int × Int) := [(-2, -2), (0, -2), (2, -2), (-2, 0), (2, 0), (-2, 2), (0, 2), (2, 2)]

/-- The offsets that a METHOD of R156 averages. -/
def methodOffsets (m : Nat) : List (Int × Int) :=
  match m with
  | 0 => [(-2, 0), (2, 0)]
  | 1 => [(0, -2), (0, 2)]
  | 2 => [(-2, 0), (2, 0), (0, -2), (0, 2)]
  | _ => offsets8

/-- Insert into a rising list that may hold equals. -/
def insertNat (a : Nat) : List Nat → List Nat
  | [] => [a]
  | b :: t => if a ≤ b then a :: b :: t else b :: insertNat a t

/-- Sort rising. -/
def sortNat (l : List Nat) : List Nat := l.foldl (fun s a => insertNat a s) []

/-- Mean rounded half up. -/
def mean (l : List Nat) : Nat := if l.isEmpty then 0 else (2 * l.foldl (· + ·) 0 + l.length) / (2 * l.length)

/-- The median of eight: the mean of the 4th and 5th smallest (R156). -/
def median8 (l : List Nat) : Nat := mean (((sortNat l).drop 3).take 2)

/-- The 4-byte entry i of a run of the defect map. -/
def Geo.defEntry (g : Geo) (i : Nat) : Nat := g.num ((g.defBase + i) * 4) 4

/-- The entries of the run that lie on line y, as column, METHOD and index in the run. -/
def Geo.defectsOn (g : Geo) (y : Nat) : List (Nat × Nat × Nat) :=
  (List.range g.defCount).filterMap fun i =>
    let e := g.defEntry i
    if bitsOf e 14 14 = y then some (bitsOf e 0 14, bitsOf e 28 2, i) else none

/-- The entries applied on line y: at most 64 (R158). -/
def Geo.applied (g : Geo) (y : Nat) : List (Nat × Nat × Nat) := if g.sdef then (g.defectsOn y).take 64 else []

/-- Line y after static correction (R156): neighbours as stage 3 leaves them; `l3` gives any line of stage 3. -/
def Geo.line4s (g : Geo) (l3 : Nat → List Nat) (y : Nat) : List Nat :=
  let hits := g.applied y
  (List.range g.width).map fun x =>
    match hits.find? fun h => h.1 == x with
    | some (_, m, _) =>
      let v := (methodOffsets m).map fun o =>
        let (nx, ny) := g.neighbour x y o.1 o.2
        (l3 ny).getD nx 0
      if m = 3 then median8 v else mean v
    | none => (l3 y).getD x 0

/-- The eight neighbours of a pixel after static correction. -/
def Geo.around (g : Geo) (l4 : Nat → List Nat) (x y : Nat) : List Nat :=
  offsets8.map fun o =>
    let (nx, ny) := g.neighbour x y o.1 o.2
    (l4 ny).getD nx 0

/-- The columns of line y that dynamic detection finds hot or cold (R157). -/
def Geo.dynHits (g : Geo) (l4 : Nat → List Nat) (y : Nat) : List Nat :=
  if !g.ddef then []
  else (List.range g.width).filter fun x =>
    if (g.applied y).any fun h => h.1 == x then false
    else
      let v := (l4 y).getD x 0
      let n := g.around l4 x y
      let max8 := n.foldl max 0
      let min8 := n.foldl min (2 ^ 24)
      decide (v > max8 + g.dynT) || decide (v + g.dynT < min8)

/-- Line y leaving stage 4: at most 512 dynamic replacements (R157, R158). -/
def Geo.line4 (g : Geo) (l3 : Nat → List Nat) (y : Nat) : List Nat :=
  let l4 := g.line4s l3
  let hits := (g.dynHits l4 y).take 512
  (List.range g.width).map fun x => if x ∈ hits then median8 (g.around l4 x y) else (l4 y).getD x 0

/-- Whether line y has more static entries than the limit, and more dynamic detections (R158). -/
def Geo.staticOvf (g : Geo) (y : Nat) : Bool := g.sdef && decide ((g.defectsOn y).length > 64)
def Geo.dynOvf (g : Geo) (l3 : Nat → List Nat) (y : Nat) : Bool := decide ((g.dynHits (g.line4s l3) y).length > 512)

/-! ### Stages 5 to 7 -/

/-- Offset of shading node (i, j) of phase c (R159). -/
def Geo.node (g : Geo) (c i j : Nat) : Nat := g.tset + 0x0A80 + (c * 1089 + j * 33 + i) * 2

/-- Grid column or row, and its fraction, of coordinate v of n (R159). -/
def gridPos (v n : Nat) : Nat × Nat :=
  let u := v * 32 * 65536 / n
  (u / 65536, u % 65536)

/-- The shading gain at a pixel (R159). -/
def Geo.shadeGain (g : Geo) (x y : Nat) : Nat :=
  let c := cfaPhase x y
  let (i, fx) := gridPos x g.width
  let (j, fy) := gridPos y g.lines
  let G := fun i j => g.num (g.node c i j) 2
  let top := G i j * (65536 - fx) + G (i + 1) j * fx
  let bot := G i (j + 1) * (65536 - fx) + G (i + 1) (j + 1) * fx
  (top * (65536 - fy) + bot * fy + 2 ^ 31) / 2 ^ 32

/-- Multiply by a 4.12 gain, limited to 24 bits (R159, R160). -/
def gain412 (v k : Nat) : Nat := min ((v * k + 2048) / 4096) 0xFFFFFF

/-- Line y leaving stage 7, in B bits (R159–R161). -/
def Geo.line7 (g : Geo) (l3 : Nat → List Nat) (y : Nat) : List Nat :=
  let l := if g.stage4 then g.line4 l3 y else l3 y
  (List.range g.width).map fun x =>
    let v := l.getD x 0
    let v := if g.shade then gain412 v (g.shadeGain x y) else v
    let v := if g.gain then gain412 v (g.gains.getD (cfaPhase x y) 0) else v
    if g.curve then g.knee (g.tset + 0x140) v
    else min ((v + 2 ^ (23 - g.bits)) / 2 ^ (24 - g.bits)) (2 ^ g.bits - 1)

/-! ### Stage 8: scaling -/

/-- The binning factor. -/
def Geo.bin (g : Geo) : Nat := match g.scale with | 1 => 2 | 2 => 4 | _ => 1

/-- Output size of one dimension (R162, R163). -/
def Geo.outDim (g : Geo) (n ratio : Nat) : Nat :=
  if g.scale = 3 then (if ratio = 0 then 0 else 2 * (n / 2 * 65536 / ratio)) else n / g.bin

/-- The scaled frame. -/
def Geo.outW (g : Geo) : Nat := g.outDim g.width g.hratio
def Geo.outH (g : Geo) : Nat := g.outDim g.lines g.vratio

/-- Source index and coefficient phase of output plane sample j (R163). -/
def polyPos (ratio j : Nat) : Int × Nat :=
  let S : Int := ((2 * j + 1 : Nat) * (ratio : Int) - 65536) / 2
  let i := S / 65536
  let p := ((S % 65536).toNat + 512) / 1024
  if p = 64 then (i + 1, 0) else (i, p)

/-- Samples of the plane of one parity of n (R163). -/
def planeLen (n parity : Nat) : Nat := (n + 1 - parity) / 2

/-- The input coordinates the taps `ks` of output coordinate v draw on, clamped to the plane (R163). -/
def tapCoords (n ratio v : Nat) (ks : List Nat) : List Nat :=
  let (i, _) := polyPos ratio (v / 2)
  ks.map fun (k : Nat) =>
    let p : Int := i - 3 + (k : Int)
    let p : Int := max 0 (min p ((planeLen n (v % 2) : Int) - 1))
    2 * p.toNat + v % 2

/-- Vertical taps (R164). -/
def Geo.vTaps (g : Geo) : List Nat := if g.outW ≤ 8192 then List.range 8 else [2, 3, 4, 5]

/-- The input lines that scaled line Y draws on before defect context. -/
def Geo.rows (g : Geo) (Y : Nat) : List Nat :=
  match g.scale with
  | 3 => tapCoords g.lines g.vratio Y g.vTaps
  | _ => (List.range g.bin).map fun b => 2 * g.bin * (Y / 2) + Y % 2 + 2 * b

/-- A filter coefficient (R163): table set offset, phase, tap. -/
def Geo.coef (g : Geo) (off p k : Nat) : Int := signed 12 (g.num (g.tset + off + (p * 8 + k) * 2) 2 % 4096)

/-- One filter output, limited to B bits (R163). -/
def Geo.limit (g : Geo) (sum : Int) : Nat := (max 0 (min ((sum + 512) / 1024) (2 ^ g.bits - 1 : Nat))).toNat

/-- Filter a row horizontally. -/
def Geo.hLine (g : Geo) (l : List Nat) : List Nat :=
  (List.range g.outW).map fun X =>
    let (_, p) := polyPos g.hratio (X / 2)
    let xs := tapCoords g.width g.hratio X (List.range 8)
    g.limit ((List.range 8).foldl (fun s k => s + g.coef 0x0280 p k * (l.getD (xs.getD k 0) 0 : Nat)) 0)

/-- A scaled line (R162–R164); `l7` gives any line of stage 7. -/
def Geo.line8 (g : Geo) (l7 : Nat → List Nat) (Y : Nat) : List Nat :=
  match g.scale with
  | 0 => l7 Y
  | 3 =>
    let (_, p) := polyPos g.vratio (Y / 2)
    let hs := (g.rows Y).map fun y => g.hLine (l7 y)
    (List.range g.outW).map fun X =>
      g.limit ((g.vTaps.zip hs).foldl (fun s kh => s + g.coef 0x0680 p kh.1 * (kh.2.getD X 0 : Nat)) 0)
  | _ =>
    let k := g.bin
    let ls := (g.rows Y).map l7
    (List.range g.outW).map fun X =>
      let sum := ls.foldl (fun s l =>
        (List.range k).foldl (fun s a => s + l.getD (2 * k * (X / 2) + X % 2 + 2 * a) 0) s) 0
      (sum + k * k / 2) / (k * k)

/-! ### Windows, poison, memory -/

/-- The input lines that line r draws on: itself, and with stage 4 those two apart on each side of it (R155). -/
def Geo.context (g : Geo) (r : Nat) : List Nat :=
  (List.range (g.margin + 1)).filterMap fun (k : Nat) =>
    let y : Int := (r : Int) - g.margin + 2 * (k : Int)
    if (g.lo : Int) ≤ y ∧ y < g.hi then some y.toNat else none

/-- The input lines in the window of scaled line Y: the lines the scaler takes, with their defect context (R155, R164). -/
def Geo.draws (g : Geo) (Y : Nat) : List Nat := ((g.rows Y).flatMap g.context).eraseDups

/-- The lines the scaler takes for scaled line Y of a frame whose last stored line is `last` (R175). -/
def Geo.taken (g : Geo) (last Y : Nat) : List Nat := ((g.rows Y).map (min · last)).eraseDups

/-- The input lines that scaled line Y draws on in that frame. -/
def Geo.drawn (g : Geo) (last Y : Nat) : List Nat :=
  (((g.taken last Y).flatMap g.context).map (min · last)).eraseDups

/-- The first and last input line in the window of scaled line Y. -/
def Geo.window (g : Geo) (Y : Nat) : Nat × Nat := ((g.draws Y).foldl min g.lines, (g.draws Y).foldl max 0)

/-- The last input line that must be at hand to compute scaled line Y (R164). -/
def Geo.needs (g : Geo) (Y : Nat) : Nat := min ((g.rows Y).foldl max 0 + g.reach) (g.lines - 1)

/-- Bands of 64 scaled lines (R189). -/
def Geo.bands (g : Geo) : Nat := ceilDiv g.outH 64

/-- The first input line of band b's windows, and the line after the last. -/
def Geo.bandSpan (g : Geo) (b : Nat) : Nat × Nat :=
  let first := [64 * b, 64 * b + 1].map fun Y => (g.window Y).1
  let e := min (64 * b + 64) g.outH
  let last := [e - 2, e - 1].map fun Y => (g.window Y).2
  (first.foldl min g.lines, last.foldl max 0 + 1)

/-- Whether share m of j reads input line y: every line with one share, else those of its bands' windows (R189). -/
def Geo.shareReads (g : Geo) (j m y : Nat) : Bool :=
  j ≤ 1 || (List.range g.bands).any fun b => b % j == m && decide ((g.bandSpan b).1 ≤ y) && decide (y < (g.bandSpan b).2)

/-- Input lines that share m of j reads per frame (R189). -/
def Geo.shareLines (g : Geo) (j m : Nat) : Nat :=
  if j ≤ 1 then g.lines
  else (List.range g.bands).foldl (fun n b => if b % j = m then n + ((g.bandSpan b).2 - (g.bandSpan b).1) else n) 0

/-- The 64-byte block of table memory an offset lies in. -/
def tblBlock (a : Nat) : Nat := a / 64

/-- The blocks of a stretch of table memory. -/
def blocksOf (a n : Nat) : List Nat := (List.range ((a + n - 1) / 64 - a / 64 + 1)).map fun i => a / 64 + i

/-- The blocks that stages 2 to 7 read for the pixels at columns `cols` of lines `rows`, whose window is `drawn` (R151). -/
def Geo.stageBlocks (g : Geo) (rows drawn cols : List Nat) : List Nat :=
  (if g.decomp then blocksOf g.tset 264 else []) ++
  (if g.curve then blocksOf (g.tset + 0x140) 264 else []) ++
  (if g.sdef then drawn.flatMap fun y => (g.applied y).map fun h => tblBlock ((g.defBase + h.2.2) * 4) else []) ++
  (if g.shade then rows.flatMap fun y => cols.flatMap fun x =>
      let c := cfaPhase x y
      let i := (gridPos x g.width).1
      let j := (gridPos y g.lines).1
      [g.node c i j, g.node c (i + 1) j, g.node c i (j + 1), g.node c (i + 1) (j + 1)].map tblBlock
    else [])

/-- The input columns that scaled column X draws on (R162, R163). -/
def Geo.colsOf (g : Geo) (X : Nat) : List Nat :=
  match g.scale with
  | 3 => tapCoords g.width g.hratio X (List.range 8)
  | _ => (List.range g.bin).map fun a => 2 * g.bin * (X / 2) + X % 2 + 2 * a

/-- The blocks that the computation of scaled line Y reads, `w` pixels of it from column `x0` on, in a frame whose last stored
line is `last` (R151). -/
def Geo.blocks (g : Geo) (last Y x0 w : Nat) : List Nat :=
  let Xs := (List.range w).map (x0 + ·)
  g.stageBlocks (g.taken last Y) (g.drawn last Y) (Xs.flatMap g.colsOf) ++
  if g.scale = 3 then
    blocksOf (g.tset + 0x0680 + (polyPos g.vratio (Y / 2)).2 * 16) 16 ++
      Xs.flatMap fun X => blocksOf (g.tset + 0x0280 + (polyPos g.hratio (X / 2)).2 * 16) 16
  else []

/-- Whether any of some blocks is poisoned. -/
def Geo.anyPoison (g : Geo) (bs : List Nat) : Bool := bs.any fun b => b ∈ g.poison

/-- Whether scaled line Y, `w` pixels of it from column `x0` on, reads a poisoned block. -/
def Geo.poisoned (g : Geo) (last Y x0 w : Nat) : Bool := !g.poison.isEmpty && g.anyPoison (g.blocks last Y x0 w)

/-- The slice memory a stream needs, with `st` ROIs with statistics (R176). -/
def Geo.memBytes (g : Geo) (st : Nat) : Nat :=
  16384 + (if g.stage4 then 12 * g.width else 0) +
    (match g.scale with
     | 0 => 0
     | 3 => 4 * (g.vTaps.length - 1) * g.outW
     | _ => 8 * g.width / g.bin) + 6144 * st

/-- Slice cycles of one line of `n` pixels (R146). -/
def lineCycles (n : Nat) : Nat := ceilDiv n 2 + 16

/-! ### Stage 11 -/

/-- The data type whose layout a PACK code writes; 0 for C16 and SAME (R169). -/
def packDt (pack : Nat) : Nat := match pack with | 0 => 0x2A | 1 => 0x2B | 2 => 0x2C | 3 => 0x2E | _ => 0

/-- Pixels in the format of a PACK code other than SAME, unpadded (R169). -/
def packLine (pack : Nat) (px : List Nat) : List Byte :=
  if pack = 4 then px.flatMap fun v => leBytes 2 v else packPx (packDt pack) px

/-- Payload bytes of `w` pixels under a PACK code, unpadded; `dt` is the stored type. -/
def packBytes (pack dt w : Nat) : Nat :=
  match pack with
  | 4 => 2 * w
  | 5 => lineBytes dt w
  | _ => lineBytes (packDt pack) w

/-- Padded to a multiple of 32 bytes (R169). -/
def pad32 (n : Nat) : Nat := ceilDiv n 32 * 32

/-! ### The trailer (R171, R173) -/

/-- Trailer bytes 0–27. -/
def trailerHead (l : OutLine) : List Byte :=
  leBytes 6 l.sofTs ++ leBytes 6 l.herd ++ leBytes 4 l.frame ++ leBytes 2 (l.line % 2 ^ 14 + l.kind * 2 ^ 14) ++
    leBytes 2 l.flags ++ padTo 8 l.tag

/-- A line as it is written: padded payload, trailer, CRC over the OSID and both. -/
def lineImage (l : OutLine) : List Byte :=
  let body := l.payload ++ trailerHead l
  body ++ leBytes 4 (crc32c (leBytes 2 l.osid ++ body))

end Sys2Proof.Machine
end

