-- ==== Sys2Proof/Machine/Tables.lean ====
section
/-! DEFINITION. Table memory (R148–R152): the parameters a stream's slices take from it, which sets are in use,
and writes through any of its ports. -/

namespace Sys2Proof.Machine

/-- The TBL window (R148). -/
def tblBase : Nat := 0x2000000
def tblSize : Nat := 0x200000

/-- Whether n bytes at an internal address lie in the TBL window. -/
def inTbl (a n : Nat) : Bool := tblBase ≤ a && a + n ≤ tblBase + tblSize

/-- A byte of table memory by offset. -/
def State.tblByte (s : State) (o : Nat) : Byte := tblGet (fun _ => 0#8) s.data.tbl o

/-- The first block of set A or B of a stream, counted in the table-set half (R149). -/
def State.tset (s : State) (i sel : Nat) : Nat :=
  if sel = 0 then s.fld (F.SLC_STR_TSET_TSET_A i) else s.fld (F.SLC_STR_TSET_TSET_B i)

/-- Output bits by OUT_BITS code. -/
def outBits (code : Nat) : Nat := match code with | 0 => 8 | 1 => 10 | 2 => 12 | _ => 16

/-- The parameters of stream i (R145), under the live parameters of a frame. -/
def State.geoOf (s : State) (i : Nat) (lv : Live) : Geo where
  width := s.fld (F.ING_ENT1_WIDTH i)
  lines := s.fld (F.ING_ENT1_LINES i)
  dt := s.fld (F.ING_ENT0_DT i)
  decomp := !s.flag (F.SLC_STR_CFG0_DECOMP_BYP i)
  black := !s.flag (F.SLC_STR_CFG0_BLACK_BYP i)
  sdef := !s.flag (F.SLC_STR_CFG0_SDEF_BYP i)
  ddef := !s.flag (F.SLC_STR_CFG0_DDEF_BYP i)
  shade := !s.flag (F.SLC_STR_CFG0_SHADE_BYP i)
  gain := !s.flag (F.SLC_STR_CFG0_GAIN_BYP i)
  curve := !s.flag (F.SLC_STR_CFG0_CURVE_BYP i)
  scale := s.fld (F.SLC_STR_CFG0_SCALE i)
  bits := outBits (s.fld (F.SLC_STR_CFG0_OUT_BITS i))
  tset := 0x100000 + s.tset i lv.tsel * 64
  defBase := s.fld (F.SLC_STR_DEF0_DEF_BASE i)
  defCount := s.fld (F.SLC_STR_DEF1_DEF_COUNT i)
  dynT := s.fld (F.SLC_STR_DYN_DYN_T i)
  hratio := s.fld (F.SLC_STR_HRATIO_RATIO i)
  vratio := s.fld (F.SLC_STR_VRATIO_RATIO i)
  bl := (List.range 4).map fun c => s.fld (F.SLC_STR_BLACK_BL i c)
  gains := lv.gains
  fillBlack := s.flag (F.SLC_STR_CFG1_FILL_MODE i)
  mem := s.data.tbl
  poison := s.data.poison
  lo := 0
  hi := s.fld (F.ING_ENT1_LINES i)

/-- The live parameters in force of a stream: the gains of its last commit, TSEL_CUR, ROI_CUR (R174). -/
def State.stagedGains (s : State) (i : Nat) : List Nat :=
  [s.fld (F.SLC_STR_GAIN01_G0 i), s.fld (F.SLC_STR_GAIN01_G1 i), s.fld (F.SLC_STR_GAIN23_G2 i),
   s.fld (F.SLC_STR_GAIN23_G3 i)]

/-- The stream's ROI entries (R165). -/
def State.rois (s : State) (i : Nat) : List Nat :=
  (List.range (s.fld (F.SLC_STR_CFG1_ROI_CNT i))).map fun k => s.fld (F.SLC_STR_CFG1_ROI_BASE i) + k

/-- What an overlay's fields make of a register word (R307). -/
def Overlay.on (o : Overlay) (a : Nat) (w : Word) : Word :=
  o.fields.foldl (fun w f => if f.1 = a then (w &&& ~~~ f.2.1) ||| (f.2.2 &&& f.2.1) else w) w

/-- The places in which a stream's stages may be enabled (R452): SLC_STR_CFG0 in force, in the base, in each overlay. -/
def State.stagePlaces (s : State) (i : Nat) : List Word :=
  let a := A.SLC_STR_CFG0 i
  s.reg a :: match s.image with
    | none => []
    | some im =>
      let b := tblGet regReset im.base a
      b :: im.overlays.map fun o => o.on a b

/-- The tables that a stream can read in a set are valid (R150, R452): DECOMP where a place enables stage 2, CURVE where
one enables stage 7, for every width of the places. -/
def State.setReadable (s : State) (i sel : Nat) : Bool :=
  let g := s.geoOf i ⟨[], sel, []⟩
  let ws := s.stagePlaces i
  let on := fun (f : Fld) => ws.any fun w => fldGet w f.lo f.w == 0
  let bits := ws.map fun w => outBits (fldGet w (F.SLC_STR_CFG0_OUT_BITS i).lo (F.SLC_STR_CFG0_OUT_BITS i).w)
  (!on (F.SLC_STR_CFG0_DECOMP_BYP i) || g.kneeOk g.tset (2 ^ 24 - 1)) &&
    (!on (F.SLC_STR_CFG0_CURVE_BYP i) || bits.all fun b => g.kneeOk (g.tset + 0x140) (2 ^ b - 1))

/-- Whether a table-set block, counted from the first of table memory, is in use (R152). -/
def State.blockInUse (s : State) (b : Nat) : Bool :=
  decide (16384 ≤ b) && s.isids.any fun i =>
    [s.fld (F.SLC_STR_LIVE_TSEL i), s.fld (F.SLC_STR_LIVE_TSEL_CUR i)].any fun sel =>
      let f := 16384 + s.tset i sel
      decide (f ≤ b) && decide (b < f + 179)

/-- The entries of a stream's defect run break R156. -/
def State.defectsBad (s : State) (i : Nat) : Bool :=
  let w := s.fld (F.ING_ENT1_WIDTH i)
  let h := s.fld (F.ING_ENT1_LINES i)
  let b := s.fld (F.SLC_STR_DEF0_DEF_BASE i)
  ((List.range (s.fld (F.SLC_STR_DEF1_DEF_COUNT i))).foldl (fun (r : Bool × Int) k =>
    let e := ofLe ((List.range 4).map fun j => s.tblByte (4 * (b + k) + j))
    let x := e % 2 ^ 14
    let y := e / 2 ^ 14 % 2 ^ 14
    let at' : Int := ((y * 2 ^ 14 + x : Nat) : Int)
    (r.1 || decide (2 ^ 30 ≤ e) || decide (w ≤ x) || decide (h ≤ y) || decide (at' ≤ r.2), at')) (false, -1)).1

/-- Whether a write to table memory, which would leave `t`, is discarded in block b: a defect-map block outside Service, or
one that makes a valid stream's run break R156 (R11); a table-set block in use (R152). -/
def State.blockShut (s t : State) (b : Nat) : Bool :=
  if b < 16384 then s.mode != 3 || s.isids.any fun i => t.defectsBad i && !s.defectsBad i else s.blockInUse b

/-- Note a discarded write: one event per block until SLC_TBL_WREJ is read; a defect-map write as R11 states. -/
def State.blockRefused (s : State) (b : Nat) : State :=
  if b < 16384 then s.imageReject (tblBase + b * 64)
  else
    let s := s.count31 A.SLC_TBL_WREJ 1
    let key := (152 * 65536 + b, A.SLC_TBL_WREJ)
    if key ∈ s.recs.suppress then s
    else { s with recs := { s.recs with suppress := key :: s.recs.suppress } }.log 152 noSrc (det 2 b)

/-- Store bytes in table memory. -/
def tblStore (t : Tbl Byte) : Nat → List Byte → Tbl Byte
  | _, [] => t
  | a, b :: l => tblStore (tblSet (fun _ => 0#8) t a b) (a + 1) l

/-- The part of `data` at offset `o` that falls in block `b`, with its offset. -/
def blockPart (o : Nat) (data : List Byte) (b : Nat) : Nat × List Byte :=
  let f := max o (b * 64)
  let t := min (o + data.length) (b * 64 + 64)
  (f, (data.drop (f - o)).take (t - f))

/-- Write the part of a write that falls in one block: POISON set by a poisoned write, cleared by one that covers
the whole block (R151). -/
def State.tblPart (s : State) (o : Nat) (data : List Byte) (ep : Bool) (b : Nat) : State :=
  let (f, part) := blockPart o data b
  let p := s.data.poison
  let p := if ep then setIns b p else if part.length = 64 then p.filter (· != b) else p
  { s with data := { s.data with tbl := tblStore s.data.tbl f part, poison := p } }

/-- A write to table memory at offset `o`, block by block: each block is written or discarded (R151, R152). -/
def State.tblWrite (s : State) (o : Nat) (data : List Byte) (ep : Bool) : State :=
  if data.isEmpty then s
  else (blocksOf o data.length).foldl (fun s b =>
    let t := s.tblPart o data ep b
    if s.blockShut t b then s.blockRefused b else t) s

/-- SLC_TBL_PSTAT: the lowest poisoned block and whether there is one (R151). -/
def State.tblPstat (s : State) : Word :=
  match s.data.poison with
  | [] => 0#32
  | b :: _ => BitVec.ofNat 32 (b + 2 ^ 31)

/-- TABLE_WRITE: a write of whole words to the TBL window on an access path (R152), through BAR0 within one aligned 64-byte
block (R257); one that covers part of a register is discarded (R9). -/
def execTableWrite (p : Path) (addr : Nat) (data : List Byte) (s : State) : Result :=
  .next (s.guarded p tblBase false fun s =>
    if p = .bar0 ∧ 64 < addr % 64 + data.length then (s.drawnN 4).barUr true s.tlpHdr
    else if !inTbl addr data.length then s.noRegister p addr
    else if addr % 4 = 0 ∧ data.length % 4 = 0 then s.tblWrite (addr - tblBase) data false
    else s.partialWrite)

end Sys2Proof.Machine
end

