-- ==== Sys2Proof/Machine/Queues.lean ====
section
/-! DEFINITION. Completion queues (R248–R252), read requests and their tags (R264–R266), and posted writes (R229, R231). -/

namespace Sys2Proof.Machine

/-! ### Ring indices (R223, R248): 16 bits and a phase in bit 16 -/

/-- ENT_LOG2 as used: values below 4 count as 4, above 16 as 16. -/
def entLog2 (v : Nat) : Nat := max 4 (min v 16)

/-- The index after i in a ring of 2^n entries. -/
def idxNext (n i : Nat) : Nat :=
  let k := i % 65536 % 2 ^ n + 1
  let phase := i / 65536 % 2
  if k ≥ 2 ^ n then 65536 * (1 - phase) else k + 65536 * phase

/-- An index as a number modulo 2^(n+1). -/
def idxNum (n i : Nat) : Nat := i % 65536 % 2 ^ n + 2 ^ n * (i / 65536 % 2)

/-- Entries from index `b` up to index `a`, modulo 2^(n+1). -/
def idxDist (n a b : Nat) : Nat := (idxNum n a + 2 ^ (n + 1) - idxNum n b) % 2 ^ (n + 1)

/-! ### Posted writes -/

/-- Split bytes at every address boundary of `m`. -/
def splitAt' (m : Nat) : Nat → Nat → List Byte → List (Nat × List Byte)
  | 0, _, _ => []
  | fuel + 1, a, d =>
    if d.isEmpty then []
    else
      let n := m - a % m
      (a, d.take n) :: splitAt' m fuel (a + n) (d.drop n)

/-- The boundary at which posted writes split: 512 bytes, or Max_Payload_Size below that (R229). -/
def State.mpsBound (s : State) : Nat := min 512 (128 * 2 ^ s.ep.mps)

/-- Write to host memory as posted writes. -/
def State.post (s : State) (a : Nat) (d : List Byte) (ro ep : Bool) : State :=
  s.exitL1.emits ((splitAt' s.mpsBound (d.length + 1) a d).map fun c => .hostWrite c.1 c.2 ro ep)

/-! ### Completion queues -/

/-- A watermark crossing upward (R143, R252): notice, CROSS, PEAK and, on a new notice, the interrupt. -/
def State.highMark (s : State) (notice cross peak : Fld) (old new high : Nat) (irqEn : Bool) (src : Nat) : State :=
  let s := s.setFld peak (max (s.fld peak) new)
  if high ≠ 0 ∧ old < high ∧ high ≤ new then
    let was := s.flag notice
    let s := (s.setFlag notice true).countSmall cross
    if !was && irqEn then s.raiseIrq src else s
  else s

/-- Clear a watermark notice: NOTICE, CROSS and PEAK together; PEAK starts again at `rest` (R143). -/
def State.clearMark (s : State) (notice cross peak : Fld) (rest : Nat) : State :=
  ((s.setFlag notice false).setFld cross 0).setFld peak rest

/-- The size of queue q. -/
def State.cqLog2 (s : State) (q : Nat) : Nat := entLog2 (s.fld (F.CQ_CFG_ENT_LOG2 q))

/-- Set the fill and note a crossing (R252). -/
def State.cqFill (s : State) (q n : Nat) : State :=
  let old := s.fld (F.CQ_FILL_LEVEL q)
  (s.setFld (F.CQ_FILL_LEVEL q) n).highMark (F.CQ_WM_STAT_NOTICE q) (F.CQ_WM_STAT_CROSS q) (F.CQ_WM_STAT_PEAK q)
    old n (s.fld (F.CQ_WM_HIGH q)) (s.flag (F.CQ_WM_IRQ_EN q)) (64 + q)

/-- How many records PI is ahead of CI, also where CI has fallen behind the ring (R250). -/
def State.setCqLag (s : State) (q n : Nat) : State :=
  { s with dma := { s.dma with cqLag := tblSet zeroN s.dma.cqLag q n } }

/-- Post a record to queue q (R248–R251). A queue that is not enabled, and a function that may not write (R269),
lose it; the second takes its place in the sequence. A full queue overwrites its oldest record. -/
def State.postRec (s : State) (q kind : Nat) (body : List Byte) : State :=
  let seq := s.fld (F.CQ_STAT_SEQ q)
  if !s.flag (F.CQ_CFG_EN q) then s.count31 (A.CQ_LOST q) 1
  else if !s.canMaster then (s.count31 (A.CQ_LOST q) 1).setFld (F.CQ_STAT_SEQ q) (seq + 1)
  else
    let n := s.cqLog2 q
    let pi := s.fld (F.CQ_PI_IDX q)
    let phase := 1 - pi / 65536 % 2
    let rec' := leBytes 1 (kind + phase * 128) ++ leBytes 2 seq ++ padTo 13 body
    let s := s.post (s.pair (A.CQ_BASE_LO q) 32 + pi % 65536 * 16) rec' false false
    let fill := s.fld (F.CQ_FILL_LEVEL q)
    let head := s.fld (F.CQ_HEAD_IDX q)
    let s := if idxDist n pi head = 2 ^ n then s.setFld (F.CQ_HEAD_IDX q) (idxNext n head) else s
    let s := if fill = 2 ^ n then (s.count31 (A.CQ_LOST q) 1).setFlag (F.CQ_STAT_OVR q) true else s
    let s := ((s.setFld (F.CQ_PI_IDX q) (idxNext n pi)).setFld (F.CQ_STAT_SEQ q) (seq + 1)).count48 (A.CQ_REC_LO q) 1
    let s := (s.setCqLag q (tblGet zeroN s.dma.cqLag q + 1)).cqFill q (min (fill + 1) (2 ^ n))
    if s.flag (F.CQ_CFG_IRQ_EN q) && !s.flag (F.CQ_STAT_IRQ_PEND q) then
      (s.setFlag (F.CQ_STAT_IRQ_PEND q) true).raiseIrq q
    else s

/-- A write of CQ_CI (R250, R251): an index behind HEAD is taken as HEAD; one beyond PI, which is neither in the ring nor
at or after the CI before it, is discarded; IRQ_PEND clears and, with records left, is set again. -/
def State.cqCi (s : State) (q : Nat) (v : Word) : State :=
  let n := s.cqLog2 q
  let c := fldGet v 0 17
  let pi := s.fld (F.CQ_PI_IDX q)
  let d := idxDist n pi c
  let h := idxDist n pi (s.fld (F.CQ_HEAD_IDX q))
  if 2 ^ n < d ∧ tblGet zeroN s.dma.cqLag q < d then s.setFlag (F.CQ_STAT_CI_REJ q) true
  else
    let s := s.setFld (F.CQ_CI_IDX q) (if d > h then s.fld (F.CQ_HEAD_IDX q) else c)
    let s := ((s.setCqLag q (min d h)).cqFill q (min d h)).setFlag (F.CQ_STAT_IRQ_PEND q) false
    if s.fld (F.CQ_FILL_LEVEL q) ≠ 0 ∧ s.flag (F.CQ_CFG_IRQ_EN q) then
      (s.setFlag (F.CQ_STAT_IRQ_PEND q) true).raiseIrq q
    else s

/-- A write of CQ_CFG (R248): enabling resets the indices and the sequence; ENT_LOG2 changes only while EN was 0. -/
def State.cqCfg (s : State) (q : Nat) (v : Word) : State :=
  let was := s.flag (F.CQ_CFG_EN q)
  let n := s.fld (F.CQ_CFG_ENT_LOG2 q)
  let s := s.plainWrite (A.CQ_CFG q) v
  if was then s.setFld (F.CQ_CFG_ENT_LOG2 q) n
  else if s.flag (F.CQ_CFG_EN q) then
    let s := ((s.setFld (F.CQ_PI_IDX q) 0).setFld (F.CQ_CI_IDX q) 0).setFld (F.CQ_HEAD_IDX q) 0
    ((s.setFld (F.CQ_STAT_SEQ q) 0).setCqLag q 0).cqFill q 0
  else s

/-- A write of CQ_BASE: only while EN = 0 (R248). -/
def State.cqBase (s : State) (q a : Nat) (v : Word) : State :=
  if s.flag (F.CQ_CFG_EN q) then s else s.plainWrite a v

/-- A write of CQ_WM_STAT: a 1 to NOTICE clears NOTICE, CROSS and PEAK (R143, R252). -/
def State.cqWmStat (s : State) (q : Nat) (v : Word) : State :=
  if bitOn v 0 then s.clearMark (F.CQ_WM_STAT_NOTICE q) (F.CQ_WM_STAT_CROSS q) (F.CQ_WM_STAT_PEAK q)
    (s.fld (F.CQ_FILL_LEVEL q))
  else s

/-- CQ_CFG_ENABLE: a write of CQ_CFG with EN (R248). -/
def execCqCfgEnable (p : Path) (q : Fin 64) (v : Word) (s : State) : Result :=
  .next (s.guarded p (A.CQ_CFG q) false fun s => s.cqCfg q (v ||| 1#32))

/-- CQ_CI_WRITE (R251). -/
def execCqCiWrite (p : Path) (q : Fin 64) (v : Word) (s : State) : Result :=
  .next (s.guarded p (A.CQ_CI q) false fun s => s.cqCi q v)

/-- CQ_WM_STAT_NOTICE_CLEAR (R252). -/
def execCqWmStatNoticeClear (p : Path) (q : Fin 64) (v : Word) (s : State) : Result :=
  .next (s.guarded p (A.CQ_WM_STAT q) false fun s => s.cqWmStat q (v ||| 1#32))

/-! ### Read requests -/

/-- The tag values the function may use: the first and how many (R265). -/
def State.tagSpace (s : State) : Nat × Nat :=
  if s.flag F.HEP_LINK_STAT_FLIT && s.ep.tag14 then (0, 16384)
  else if s.ep.tag10 then (256, 768)
  else (0, 256)

/-- The next free tag: one never used, else the least recently freed (R265). -/
def State.nextTag (s : State) : Option Nat :=
  let (b, n) := s.tagSpace
  let busy := fun t => s.hep.tags.any (fun x => x.tag == t) || t ∈ s.hep.quar
  match (List.range n).find? fun i => !busy (b + i) && !(b + i ∈ s.hep.freed) with
  | some i => some (b + i)
  | none => s.hep.freed.find? fun t => !busy t && decide (b ≤ t) && decide (t < b + n)

/-- Issue a read request to host memory; without a tag, or without leave to issue requests, none is issued. -/
def State.readReq (s : State) (use : TagUse) (a n : Nat) : Option State :=
  if !s.canMaster then none
  else (s.nextTag).map fun t =>
    let s := s.exitL1
    ({ s with hep := { s.hep with
        tags := s.hep.tags ++ [⟨t, use, false⟩], freed := s.hep.freed.filter (· != t) } } : State).emit (.hostRead t a n)

/-- Free a tag; it is the last to be reused (R265). -/
def State.freeTag (s : State) (t : Nat) : State :=
  { s with hep := { s.hep with tags := s.hep.tags.filter (fun x => x.tag != t), freed := s.hep.freed ++ [t] } }

/-- Completion timeout values in µs, by the Completion Timeout Value field (R266). -/
def ctoUs (f : Nat) : Nat :=
  match f with
  | 1 => 80 | 2 => 8000 | 5 => 40000 | 6 => 150000 | 9 => 600000 | 10 => 2000000 | 13 => 8000000 | 14 => 40000000
  | _ => 10000

end Sys2Proof.Machine
end

