-- ==== Sys2Proof/Machine/Store.lean ====
section
/-! DEFINITION. The line store (R132–R143): a stream's frames and queue, storing, freeing and taking lines, retention,
flush, pointer duplication, scrub; and the herd a frame belongs to (R126). -/

namespace Sys2Proof.Machine

/-! ### Streams and herds -/

/-- A queue with nothing in it and no page. -/
def queueReset : QueueSt := ⟨0, 0, 0, 0, 0, 0, [], [], []⟩

/-- A stream with nothing received; the gains reset to 1.0. -/
def strReset : Nat → StreamSt := fun _ => ⟨0, [], none, false, none, [], [], 0, [4096, 4096, 4096, 4096], queueReset⟩

/-- An input stream. -/
def State.str (s : State) (i : Nat) : StreamSt := tblGet strReset s.data.str i

/-- Replace an input stream. -/
def State.setStr (s : State) (i : Nat) (x : StreamSt) : State :=
  { s with data := { s.data with str := tblSet strReset s.data.str i x } }

/-- A herd that is open or not yet forgotten. -/
def State.herd (s : State) (n : Nat) : Option Herd := s.herds.find? fun h => h.num == n

/-- Replace a herd. -/
def State.setHerd (s : State) (h : Herd) : State :=
  { s with herds := s.herds.map fun g => if g.num = h.num then h else g }

/-- Whether a herd is open. -/
def State.herdOpen (s : State) (n : Nat) : Bool := ((s.herd n).map fun h => !h.closed).getD false

/-- A placement with nothing placed. -/
def noPlacement : Placement := ⟨[], [], []⟩

/-- The layout of a generation (R195). -/
def State.layout (s : State) (gen : Nat) : Placement :=
  ((s.plc.layouts.find? fun l => l.1 == gen).map (·.2)).getD noPlacement

/-- The layout of a herd. -/
def State.herdLayout (s : State) (n : Nat) : Placement := ((s.herd n).map fun h => s.layout h.gen).getD noPlacement

/-- The herd that an SOF's low byte matches, of the last four boundaries acted on, the latest first (R126). -/
def State.matchHerd (s : State) (low : Nat) : Option Nat :=
  ((s.time.hist.take 4).find? fun b => b.herd % 256 == low).map (·.herd)

/-- Whether an input stream is a member of a herd: due there, and placed in the herd's layout (R17, R21). -/
def State.memberOf (s : State) (i n : Nat) : Bool :=
  (s.streamRatio i).due n && (tblOpt (s.herdLayout n).ins i).isSome

/-- The frame in progress of a stream, if one has begun and not ended. -/
def StreamSt.openFrame (x : StreamSt) : Option FrameRec := x.frames.getLast?.filter fun f => !f.ended

/-- Replace a frame by its number. -/
def StreamSt.setFrame (x : StreamSt) (f : FrameRec) : StreamSt :=
  { x with frames := x.frames.map fun g => if g.id = f.id then f else g }

/-- The frame a line belongs to. -/
def StreamSt.frameOf (x : StreamSt) (fid : Nat) : Option FrameRec := x.frames.find? fun f => f.id == fid

/-- Lines of the open frames' stream (ING_ENT1). -/
def State.strLines (s : State) (i : Nat) : Nat := s.fld (F.ING_ENT1_LINES i)

/-- The stored size of a line in words (R133). -/
def lineWords (n : Nat) : Nat := 1 + ceilDiv n 64

/-- The words of a queued line. -/
def QLine.words (l : QLine) : Nat := lineWords l.data.length

/-- The pages a queue occupies (R135). -/
def QueueSt.occ (q : QueueSt) : Nat := ceilDiv (q.w - q.k) 1024

/-- The words its ring holds. -/
def QueueSt.cap (q : QueueSt) : Nat := q.ring.length * 1024

/-- The oldest line that no slice has taken. -/
def QueueSt.unread (q : QueueSt) : Option QLine := q.lines.find? fun l => decide (q.r ≤ l.pos) && !l.lost

/-- Whether the two copies of each pointer agree (R140). -/
def QueueSt.ok (q : QueueSt) : Bool := q.w == q.w' && q.r == q.r' && q.k == q.k'

/-- Set the pointers, both copies. -/
def QueueSt.ptrs (q : QueueSt) (w r k : Nat) : QueueSt := { q with w := w, r := r, k := k, w' := w, r' := r, k' := k }

/-- Replace a queue and note a watermark crossing of its occupancy (R143). -/
def State.setQueue (s : State) (i : Nat) (q : QueueSt) : State :=
  let old := (s.str i).q.occ
  (s.setStr i { s.str i with q := q }).highMark (F.LST_Q_WM_STAT_NOTICE i) (F.LST_Q_WM_STAT_CROSS i)
    (F.LST_Q_WM_STAT_PEAK i) old q.occ (s.fld (F.LST_Q_WM_HIGH i)) (s.flag (F.LST_Q_WM_IRQ_EN i)) (292 + i)

/-! ### Frames losing lines -/

/-- A frame whose unread lines are gone, or one of them (R131, R136, R139–R141). -/
def StreamSt.cutFrame (x : StreamSt) (fid : Nat) : StreamSt :=
  { x with frames := x.frames.map fun f => if f.id = fid then { f with cut := true, retained := false } else f }

/-- A frame that no longer holds all its lines for graze. -/
def StreamSt.releaseFrame (x : StreamSt) (fid : Nat) : StreamSt :=
  { x with frames := x.frames.map fun f => if f.id = fid then { f with retained := false } else f }

/-- Pointer comparison failed: the queue is reset (R140). -/
def State.queueReset (s : State) (i : Nat) : State :=
  let x := s.str i
  let frames := x.frames.map fun f => if f.done then { f with retained := false } else { f with cut := true, retained := false }
  let s := (s.setStr i { x with frames := frames, mute := true, asm := none }).setQueue i
    ({ x.q with lines := [], held := [] }.ptrs 0 0 0)
  ((s.count31 (A.LST_Q_RESETS i) 1).setFlag F.LST_STAT_QERR true).log 140 i []

/-- Do `act` on a queue whose pointers agree; otherwise reset it (R140). Every reader of a queue's pointers goes through it. -/
def State.onQueue (s : State) (i : Nat) (act : State → State) : State :=
  if (s.str i).q.ok then act s else s.queueReset i

/-- Free the lines before position `k`, which becomes K; R is at least K. -/
def State.freeTo (s : State) (i k : Nat) : State :=
  s.onQueue i fun s =>
    let x := s.str i
    let q := x.q
    let gone := q.lines.filter fun l => decide (l.pos < k)
    let x := gone.foldl (fun x l => x.releaseFrame l.fid) x
    (s.setStr i x).setQueue i ({ q with lines := q.lines.filter fun l => decide (k ≤ l.pos) }.ptrs q.w (max q.r k) k)

/-- The line after a line. -/
def QLine.next (l : QLine) : Nat := l.pos + l.words

/-! ### Making room (R136) -/

/-- Count a line lost, with one event per stream until LST_LOST is read (R136). -/
def State.lostLine (s : State) (i n : Nat) : State := (s.count31 (A.LST_LOST i) n).logOnce 136 i [] (A.LST_LOST i)

/-- The position of the first line of the newest complete frame retained. -/
def StreamSt.newestFirst (x : StreamSt) : Option Nat :=
  ((x.frames.filter fun f => f.retained).getLast?).map (·.first)

/-- What R136 would free next: the new K, and the unread line it loses. -/
def StreamSt.nextFree (x : StreamSt) : Option (Nat × Option QLine) :=
  let q := x.q
  match q.lines with
  | [] => none
  | l :: _ =>
    if l.pos < q.r ∧ (x.newestFirst.map fun f => decide (l.pos < f)).getD false then some (l.next, none)
    else match q.unread with
      | some u => some (u.next, some u)
      | none => some (l.next, none)

/-- One action of R136: free lines, or give up because a reader holds one of them. -/
def State.freeOne (s : State) (i : Nat) : Option State :=
  let x := s.str i
  match x.nextFree with
  | none => none
  | some (k, lost) =>
    if x.q.held.any fun h => decide (h < k) then none
    else some (match lost with
      | some u => ((s.setStr i (x.cutFrame u.fid)).freeTo i k).lostLine i 1
      | none => (s.freeTo i k).logOnce 136 i [] (A.LST_LOST i))

/-- Free whole lines until `n` words fit (R136); `fuel` bounds the lines. -/
def State.makeRoom (i n : Nat) : Nat → State → Option State
  | 0, _ => none
  | fuel + 1, s =>
    let q := (s.str i).q
    if q.w + n - q.k ≤ q.cap then some s else (s.freeOne i).bind (State.makeRoom i n fuel)

/-- Store a line at W, after making room; without room it is discarded and counted (R136). -/
def State.storeLine (s : State) (i : Nat) (l : QLine) : State × Bool :=
  match State.makeRoom i l.words ((s.str i).q.lines.length + 1) s with
  | none => (s.lostLine i 1, false)
  | some s =>
    let q := (s.str i).q
    (s.setQueue i ({ q with lines := q.lines ++ [{ l with pos := q.w }] }.ptrs (q.w + l.words) q.r q.k), true)

/-! ### Retention (R138) -/

/-- The host sleeps: D3hot, or a link that is down, as it is in D3cold (R29, R287). -/
def State.hostAsleep (s : State) : Bool := s.ep.d3 || s.hep.downSince.isSome

/-- Whether a stream retains complete frames: RETAIN, or in Park while the host sleeps (R29, R138; log entry 183). -/
def State.retains (s : State) (i : Nat) : Bool := s.flag (F.ING_ENT0_RETAIN i) || (s.mode == 2 && s.hostAsleep)

/-- RET_FRAMES as used; Park keeps the most recent frame of a stream that does not retain (R29). -/
def State.retFrames (s : State) (i : Nat) : Nat :=
  if s.flag (F.ING_ENT0_RETAIN i) then max 1 (s.fld (F.ING_ENT3_RET_FRAMES i)) else 1

/-- The retained frames beyond RET_FRAMES are given up, oldest first. -/
def State.trimRetained (s : State) (i : Nat) : State :=
  let x := s.str i
  let ret := x.frames.filter fun f => f.retained
  (ret.take (ret.length - s.retFrames i)).foldl (fun s f => s.setStr i ((s.str i).releaseFrame f.id)) s

/-- The first position that must be kept: R, or for a retained stream the first line of the oldest retained frame or
of a frame whose end has not been judged (R135, R138). -/
def State.keepFrom (s : State) (i : Nat) : Nat :=
  let x := s.str i
  if s.retains i then
    (x.frames.filter fun f => f.retained || (!f.ended && !f.cut)).foldl (fun k f => min k f.first) x.q.r
  else x.q.r

/-- Free what need not be kept (R135, R137). -/
def State.settleQueue (s : State) (i : Nat) : State :=
  let k := s.keepFrom i
  if (s.str i).q.k < k then s.freeTo i k else s

/-- The frame in progress ends (R131): judged, and retained if it is complete and whole. A frame that lost a line while it
was in progress ends incomplete (R136, R140, R141). -/
def State.endFrame (s : State) (i : Nat) (spoilt : Bool) : State :=
  let s := s.onQueue i fun s => s
  let x := s.str i
  match x.openFrame with
  | none => s
  | some f =>
    let bad := spoilt || f.cut || decide (f.stored < s.strLines i)
    let keep := s.retains i && !bad && decide (x.q.k ≤ f.first)
    let s := s.setStr i (x.setFrame { f with ended := true, bad := bad, retained := keep })
    (s.trimRetained i).settleQueue i

/-! ### Rings (R191) -/

/-- The pages that placement gives a stream. -/
def State.placedPages (s : State) (i : Nat) : List Nat := ((tblOpt s.plc.force.ins i).map (·.pages)).getD []

/-- The pages that other streams' rings hold. -/
def State.pagesHeld (s : State) (i : Nat) : List Nat :=
  s.data.str.flatMap fun c => if c.1 = i then [] else c.2.q.ring

/-- Whether a stream's ring may take the pages placed now. -/
def State.ringFree (s : State) (i : Nat) : Bool := (s.placedPages i).all fun p => !(p ∈ s.pagesHeld i)

/-- The ring becomes the pages placed; retained frames that no longer fit are released, oldest first (R191). -/
def State.takeRing (s : State) (i : Nat) : State :=
  let x := s.str i
  let s := s.setStr i { x with q := { x.q with ring := s.placedPages i } }
  (List.range (x.q.lines.length + 1)).foldl (fun s _ =>
    let q := (s.str i).q
    if q.w - q.k ≤ q.cap then s
    else match q.lines with
      | l :: _ =>
        let s := if q.r ≤ l.pos ∧ !l.lost then s.setStr i ((s.str i).cutFrame l.fid) else s
        s.freeTo i l.next
      | [] => s) s

/-- Rings that only grow take their pages as soon as no other ring holds them (R191). -/
def State.openRings (s : State) : State :=
  s.plc.force.ins.foldl (fun s c =>
    let ring := (s.str c.1).q.ring
    let new := s.placedPages c.1
    if ring ≠ new ∧ ring.all (fun p => p ∈ new) ∧ s.ringFree c.1 then s.onQueue c.1 fun s => s.takeRing c.1 else s) s

/-- A stream no longer placed gives up its ring once its lines are read. -/
def State.closeRings (s : State) : State :=
  s.data.str.foldl (fun s c =>
    if (tblOpt s.plc.force.ins c.1).isNone ∧ (s.str c.1).q.ring ≠ [] then
      s.onQueue c.1 fun s =>
        if (s.str c.1).q.unread.isNone then (s.freeTo c.1 (s.str c.1).q.w).takeRing c.1 else s
    else s) s

/-- At its SOF a stream's ring shrinks to the pages placed, and others may open (R191). -/
def State.ringAtSof (s : State) (i : Nat) : State :=
  if (s.str i).q.ring = s.placedPages i ∨ !s.ringFree i then s else (s.takeRing i).openRings

/-! ### Flush (R139) -/

/-- A write of LST_Q_CTRL (R139). -/
def State.flushCtrl (s : State) (i : Nat) (v : Word) : State :=
  if bitOn v 0 then s.setFlag (F.LST_Q_STAT_FLUSH_PEND i) true else s

/-- A pending flush takes effect at the SOF (R139). -/
def State.flushAtSof (s : State) (i : Nat) : State :=
  if !s.flag (F.LST_Q_STAT_FLUSH_PEND i) then s
  else
    let x := s.str i
    let n := (x.q.lines.countP fun l => !l.lost) + (if x.asm.isSome then 1 else 0)
    let unread := x.q.lines.filter fun l => decide (x.q.r ≤ l.pos) && !l.lost
    let x := unread.foldl (fun x l => x.cutFrame l.fid) x
    let s := (s.setStr i { x with asm := none }).freeTo i x.q.w
    (s.setFlag (F.LST_Q_STAT_FLUSH_PEND i) false).count31 (A.LST_FLUSHED i) n

/-- A write of LST_Q_WM_STAT: a 1 to NOTICE clears NOTICE, CROSS and PEAK (R143). -/
def State.lstWmStat (s : State) (i : Nat) (v : Word) : State :=
  if bitOn v 0 then
    s.clearMark (F.LST_Q_WM_STAT_NOTICE i) (F.LST_Q_WM_STAT_CROSS i) (F.LST_Q_WM_STAT_PEAK i) (s.str i).q.occ
  else s

/-! ### Errors and scrub (R141, R142, R415, R416) -/

/-- An uncorrectable error is met in the line at `pos`: it is lost to every reader (R141). -/
def State.uncorrectable (s : State) (i pos : Nat) : State :=
  let x := s.str i
  match x.q.lines.find? fun l => l.pos == pos with
  | none => s
  | some l =>
    let lines := x.q.lines.map fun m => if m.pos = pos then { m with lost := true, ue := false } else m
    let s := s.setStr i ({ x with q := { x.q with lines := lines } }.cutFrame l.fid)
    (((s.count31 (A.LST_LOST i) 1).count31 A.LST_UE_CNT 1).setFlag F.LST_STAT_UE true).log 141 i []

/-- The word of a page that is word `k` of the 16 its row of a bank holds (R132). -/
def rowWord (bank row k : Nat) : Nat := (bank + 64 * row - row) % 64 + 64 * k

/-- Whether a queued line holds word `w` of page `p`. -/
def QueueSt.holds (q : QueueSt) (l : QLine) (p w : Nat) : Bool :=
  match q.ring.findIdx? (· == p) with
  | none => false
  | some n =>
    let at' := n * 1024 + w
    decide ((at' + q.cap - l.pos % max 1 q.cap) % max 1 q.cap < l.words)

/-- Mark the lines that hold an uncorrectable word of a row. -/
def State.markBad (s : State) (bank row : Nat) (words : List Nat) : State :=
  s.data.str.foldl (fun s c =>
    let x := s.str c.1
    let lines := x.q.lines.map fun l =>
      if words.any (fun k => x.q.holds l row (rowWord bank row k)) then { l with ue := true } else l
    if lines = x.q.lines then s else s.setStr c.1 { x with q := { x.q with lines := lines } }) s

/-- The rows of a bank that spare rows stand for. -/
def State.bankSpares (s : State) (b : Nat) : List Nat := tblGet (fun _ => []) s.data.spares b

/-- Repair a row on line (R415), or note that the bank has no spare left (R416). -/
def State.repairRow (s : State) (bank row : Nat) : State :=
  let used := s.bankSpares bank
  if used.length ≥ 32 then
    let s := s.setFlag F.LST_REPAIR_STAT_EXH true
    let key := (416, bank)
    if key ∈ s.recs.suppress then s
    else { s with recs := { s.recs with suppress := key :: s.recs.suppress } }.log 416 noSrc (det 2 bank)
  else
    let s : State := { s with data := { s.data with
      spares := tblSet (fun _ => []) s.data.spares bank (used ++ [row]) } }
    let s := ((s.count31 A.LST_REPAIR_CNT 1).countSmall (F.LST_BANK_SPARE_ONLINE bank)).setFld (F.LST_BANK_SPARE_USED bank)
      (used.length + 1)
    s.log 415 noSrc (det 2 bank ++ det 2 row)

/-- What a scrub pass found in one row (R142). -/
def State.scrubRow (s : State) (e : RowErr) : State :=
  let s := s.count31 A.LST_CE_CNT e.fixed
  let s := if e.lost = [] then s else s.markBad e.bank e.row (e.lost.map (·.val))
  if e.lost ≠ [] ∨ max 1 (s.fld F.LST_SCRUB_CFG_ROW_CE_LIM) ≤ e.fixed then s.repairRow e.bank e.row else s

/-- SCRUB_PASS (R142). -/
def execScrubPass (found : List RowErr) (s : State) : Result :=
  .next (s.whenUp fun s => found.foldl State.scrubRow s)

/-- LST_Q_CTRL_FLUSH (R139). -/
def execLstQCtrlFlush (p : Path) (i : Fin 1024) (v : Word) (s : State) : Result :=
  .next (s.guarded p (A.LST_Q_CTRL i) false fun s => s.flushCtrl i (v ||| 1#32))

/-- LST_Q_WM_STAT_NOTICE_CLEAR (R143). -/
def execLstQWmStatNoticeClear (p : Path) (i : Fin 1024) (v : Word) (s : State) : Result :=
  .next (s.guarded p (A.LST_Q_WM_STAT i) false fun s => s.lstWmStat i (v ||| 1#32))

end Sys2Proof.Machine
end

