-- ==== Sys2Proof/Machine/Emit.lean ====
section
/-! DEFINITION. Containers (R109–R111) and the way of an output line out of its slice: to a delivery channel (R192), or
out of a trunk port (R193). -/

namespace Sys2Proof.Machine

/-! ### Containers -/

/-- One bit into the CRC-8 register of a container header (R109). -/
def crc8Bit (c : Nat) : Nat := if 128 ≤ c then (c * 2 % 256) ^^^ 7 else c * 2

/-- HCRC over bytes (R109). -/
def crc8 (l : List Byte) : Nat :=
  l.foldl (fun c b => (List.range 8).foldl (fun c _ => crc8Bit c) (c ^^^ b.toNat)) 0

/-- The fold prefix of a container's CRC (R111). -/
def foldPrefix (na isid frame line : Nat) : List Byte := leBytes 2 na ++ leBytes 2 isid ++ leBytes 4 frame ++ leBytes 2 line

/-- Blocks of a container of `len` payload bytes (R109). -/
def segBlocks (len : Nat) (tag : Bool) : Nat := ceilDiv (20 + len + if tag then 8 else 0) 32

/-- What names a line on a link: node address, ISID, VC, DT, FRAME, LINE. -/
structure LineName where
  na : Nat
  isid : Nat
  vc : Nat
  dt : Nat
  frame : Nat
  line : Nat

/-- One container (R109, R111). -/
def segment (n : LineName) (first last : Bool) (ofs seq : Nat) (payload tag : List Byte) : List Byte :=
  let flags := (if first then 1 else 0) + (if last then 2 else 0) + (if tag.isEmpty then 0 else 4) + 0xC0
  let head := leBytes 1 flags ++ leBytes 1 (n.dt + 64 * n.vc) ++ leBytes 2 n.na ++ leBytes 4 n.frame ++
    leBytes 2 n.line ++ leBytes 2 ofs ++ leBytes 2 payload.length
  let body := padTo (32 * segBlocks payload.length (!tag.isEmpty) - 4)
    (head ++ leBytes 1 (crc8 head) ++ leBytes 1 seq ++ payload ++ tag)
  body ++ leBytes 4 (crc32c (foldPrefix n.na n.isid n.frame n.line ++ body))

/-- The containers of a line, segmented (R110); `tag` is empty outside a session. -/
def lineContainers (n : LineName) (segLen seq : Nat) (tag data : List Byte) : List (List Byte) :=
  let m := max 1 segLen
  let k := ceilDiv data.length m
  (List.range k).map fun i =>
    segment n (i == 0) (i + 1 == k) (i * m) ((seq + i) % 256) ((data.drop (i * m)).take m) (if i + 1 = k then tag else [])

/-- The 32-byte data blocks of a container. -/
def dataBlocks (c : List Byte) : List (Bool × List Byte) :=
  (List.range (ceilDiv c.length 32)).map fun i => (false, (c.drop (32 * i)).take 32)

/-! ### Routed streams -/

/-- What a routed stream declares (R114, R193): its DT, width and lines. -/
structure RouteForm where
  dt : Nat
  width : Nat
  lines : Nat

/-- Hand blocks to a trunk port's bond. -/
def State.bondSend (s : State) (t : Nat) (bs : List (Bool × List Byte)) : State :=
  s.setBond t { s.bond t with queue := (s.bond t).queue ++ bs }

/-- The body of an SOF block (R93): the herd's low byte is echoed, no residence is added. -/
def sofBody (n : LineName) (f : RouteForm) (herd : Nat) : List Byte :=
  leBytes 1 n.vc ++ leBytes 1 f.dt ++ leBytes 4 n.frame ++ leBytes 2 f.lines ++ leBytes 2 f.width ++ leBytes 1 herd ++
    leBytes 4 0

/-- The body of an EOF block (R93). -/
def eofBody (vc frame sent : Nat) (trunc bad : Bool) : List Byte :=
  leBytes 1 vc ++ leBytes 1 0 ++ leBytes 4 frame ++ leBytes 2 sent ++
    leBytes 1 ((if trunc then 1 else 0) + if bad then 2 else 0)

/-- The virtual node and its assigned ISID behind slot `slot` of a trunk port (R120, R193). -/
def State.slotNode (s : State) (t slot : Nat) : Option (VNode × Nat) :=
  ((s.sensor (laneOf t 0)).nodes[slot / 4]?).bind fun n => (n.isids.getD (slot % 4) none).map fun i => (n, i)

/-- The position whose session tags the lines of a virtual node: its own, or that of position 0 (log entry 36). -/
def SensorSt.keyPos (x : SensorSt) (pos : Nat) : Nat :=
  if ((tblOpt x.sess pos).map fun e => e.key.isEmpty).getD true then 0 else pos

/-- An SOF leaves on a slot: its VC goes over to the key of the last DONE (R340). -/
def SensorSt.moveKey (x : SensorSt) (slot : Nat) : SensorSt :=
  let q := x.keyPos (slot / 4)
  match tblOpt x.sess q with
  | some e => { x with sess := tblPut x.sess q (some { e with moved := setIns slot e.moved }) }
  | none => x

/-- The key that tags the lines of a slot: that of the last DONE once an SOF of the VC has followed it (R340). -/
def SensorSt.slotKey (x : SensorSt) (slot : Nat) : List Byte :=
  match tblOpt x.sess (x.keyPos (slot / 4)) with
  | some e => if slot ∈ e.moved then e.key else e.old
  | none => []

/-- Whether a trunk port's own queue has room for a line: fewer than two containers of SEG_LEN wait in it (R97; log entry
195). -/
def State.trunkRoom (s : State) (t : Nat) (node : VNode) : Bool :=
  decide ((s.bond t).queue.countP (fun b => !b.1) < 2 * segBlocks node.segLen true)

/-- Own lines lost to a full queue are reported before the next one that is taken: ERR OVERFLOW with their number (R97). -/
def State.reportLost (s : State) (t pos vc : Nat) : State :=
  let q := laneOf t 0
  let n := tblGet zeroN (s.sensor q).lost pos
  if n = 0 then s
  else (s.setSensor q { s.sensor q with lost := tblSet zeroN (s.sensor q).lost pos 0 }).bondSend t
    [(true, ctlBlock 0x0D pos (leBytes 1 2 ++ leBytes 1 vc ++ leBytes 4 n))]

/-- Send an output line as TRL containers, the frame's SOF before its first one (R114, R193): `first` says that no line
of the frame has been sent on this slot. A line that finds its queue full is discarded whole, and counted (R97). -/
def State.trunkLine (s : State) (t slot : Nat) (l : OutLine) (f : RouteForm) (first : Bool) (data : List Byte) : State :=
  match s.slotNode t slot with
  | none => s
  | some (node, isid) =>
    let pos := slot / 4
    let q := laneOf t 0
    let dt := if l.kind = 1 then 0x12 else f.dt
    let n : LineName := ⟨node.na, isid, slot % 4, dt, l.frame, l.line⟩
    let room := s.trunkRoom t node
    let s := if first then
        (s.setSensor q ((s.sensor q).moveKey slot)).bondSend t [(true, ctlBlock 0x02 pos (sofBody n f l.herd))]
      else s
    if !room then
      s.setSensor q { s.sensor q with lost := tblSet zeroN (s.sensor q).lost pos (tblGet zeroN (s.sensor q).lost pos + 1) }
    else
      let s := s.reportLost t pos (slot % 4)
      let x := s.sensor q
      let key := x.slotKey slot
      let segs := ceilDiv data.length (max 1 node.segLen)
      let tag := if key.isEmpty then []
        else lineTag key node.na isid l.frame l.line dt (slot % 4) (segs - 1) (l.kind == 1) data
      let seq := tblGet zeroN x.seq pos
      let s := s.bondSend t ((lineContainers n node.segLen seq tag data).flatMap dataBlocks)
      s.setSensor q { x with seq := tblSet zeroN x.seq pos ((seq + segs) % 256) }

/-- Send a routed frame's EOF (R114). -/
def State.trunkEof (s : State) (t slot frame sent : Nat) (trunc bad : Bool) : State :=
  if (s.slotNode t slot).isNone then s
  else s.bondSend t [(true, ctlBlock 0x03 (slot / 4) (eofBody (slot % 4) frame sent trunc bad))]

/-! ### Emission -/

/-- An output stream's place in the layout of a herd, if it is PLACED there. -/
def State.outPlace (s : State) (osid herd : Nat) : Option OutPlace :=
  (tblOpt (s.herdLayout herd).outs osid).filter fun o => o.state == 1

/-- Whether a herd has closed: a line of it is a late line from then on (R26). -/
def State.herdClosed (s : State) (n : Nat) : Bool :=
  ((s.herd n).map (·.closed)).getD true

/-- An output stream loses a line of a frame on its way out. -/
def State.lineFailed (s : State) (l : OutLine) : State :=
  let x := s.str l.isid
  match x.frameOf l.fid with
  | some f => s.setStr l.isid (x.setFrame { f with failed := setIns l.osid f.failed, lastFailed := setIns l.osid f.lastFailed })
  | none => s

/-- An output line of a frame has been delivered. -/
def State.lineDone (s : State) (l : OutLine) : State :=
  let x := s.str l.isid
  match x.frameOf l.fid with
  | some f => s.setStr l.isid (x.setFrame { f with lastFailed := f.lastFailed.filter (· != l.osid) })
  | none => s

/-- A late line of a DROP stream is discarded (R26). ING_LATE_DROP counts it once per output line found late after its
slice, beside the input lines found late at ingress (DESIGN CHOICE, log entry 182). -/
def State.dropLate (s : State) (l : OutLine) : State := (s.count31 (A.ING_LATE_DROP l.isid) 1).lineFailed l

/-- A line of a frame does not go out of the trunk slot of a stream: LINES_SENT of its EOF leaves it out (R114). -/
def FrameRec.skip (f : FrameRec) (osid : Nat) : FrameRec :=
  { f with unsent := tblSet zeroN f.unsent osid (tblGet zeroN f.unsent osid + 1) }

/-- Note it for an output line; embedded lines are not counted. -/
def State.slotSkip (s : State) (l : OutLine) : State :=
  let x := s.str l.isid
  match x.frameOf l.fid with
  | some f => if l.kind = 1 then s else s.setStr l.isid (x.setFrame (f.skip l.osid))
  | none => s

/-- An output line leaves its slice: to the delivery channel of its stream, and out of its trunk slot; `data` is its
payload unpadded. A stream not placed in the herd's layout has nowhere to go. A late line of a DROP stream does not go out
of a trunk slot; it is counted here where it has no channel, at whose commit it would meet the same policy (R26). -/
def State.emitLine (s : State) (l : OutLine) (f : RouteForm) (data : List Byte) : State :=
  match s.outPlace l.osid l.herd with
  | none => s
  | some o =>
    let s : State := if o.ch.isSome then { s with data := { s.data with outq := s.data.outq ++ [l] } } else s
    match o.slot with
    | none => s
    | some slot =>
      if s.herdClosed l.herd && s.flag (F.ING_ENT0_LATE_POL l.isid) then
        (if o.ch.isSome then s else s.dropLate l).slotSkip l
      else
      let room := ((s.slotNode o.trk slot).map fun n => s.trunkRoom o.trk n.1).getD true
      let s := if room then s else s.slotSkip l
      let x := s.str l.isid
      let sent := ((x.frameOf l.fid).map (·.routed)).getD []
      let s := s.trunkLine o.trk slot l f (!(l.osid ∈ sent)) data
      if l.osid ∈ sent then s
      else match x.frameOf l.fid with
        | some fr => s.setStr l.isid ((s.str l.isid).setFrame { fr with routed := setIns l.osid fr.routed })
        | none => s

end Sys2Proof.Machine
end

