-- ==== Sys2Proof/Machine/Pools.lean ====
section
/-! DEFINITION. Herd buffers (R183, R219–R229): pool rings, their doorbells and fetches, taking a buffer for a herd,
and the places of lines in it. -/

namespace Sys2Proof.Machine

/-! ### Descriptors (R219) -/

/-- Fields of a descriptor. -/
def Desc.addr (d : Desc) : Nat := ofLe (d.bytes.take 8)
def Desc.aux (d : Desc) : Nat := ofLe ((d.bytes.drop 8).take 8)
def Desc.len (d : Desc) : Nat := ofLe ((d.bytes.drop 16).take 4)
def Desc.opByte (d : Desc) : Nat := (d.bytes.getD 20 0).toNat
def Desc.cqByte (d : Desc) : Nat := (d.bytes.getD 21 0).toNat
def Desc.ownByte (d : Desc) : Nat := (d.bytes.getD 31 0).toNat
def Desc.op (d : Desc) : Nat := d.opByte % 16
def Desc.hfix (d : Desc) : Bool := d.opByte.testBit 4
def Desc.ifix (d : Desc) : Bool := d.opByte.testBit 5
def Desc.cqe (d : Desc) : Bool := d.opByte.testBit 6
def Desc.cq (d : Desc) : Nat := d.cqByte % 64
def Desc.own (d : Desc) : Bool := d.ownByte % 2 == 1

/-- Every reserved bit of a descriptor is 0. -/
def Desc.clean (d : Desc) : Bool := decide (d.opByte < 128) && decide (d.cqByte < 64) && decide (d.ownByte < 2)

/-- Write back bytes 22–31 with OWN = 0 (R221). -/
def State.writeBack (s : State) (at' status info result ch : Nat) : State :=
  s.post (at' + 22) (leBytes 1 status ++ leBytes 1 info ++ leBytes 6 result ++ leBytes 1 ch ++ leBytes 1 0) false false

/-- Post the DESC record of a descriptor where its CQE asks for one (R219, R249). -/
def State.descRecord (s : State) (c : Nat) (d : Desc) (status cause done fail : Nat) : State :=
  if d.cqe then s.postRec d.cq 1 (leBytes 1 c ++ leBytes 2 d.idx ++ leBytes 1 status ++
      leBytes 1 (d.op + 16 * min 15 cause) ++ leBytes 4 done ++ leBytes 4 fail)
  else s

/-- The DESC record of a herd buffer: the spec states no DONE for a HERD descriptor that has run (log entry 175). -/
def State.bufRecord (s : State) (b : HerdBuf) (status : Nat) : State :=
  if b.d.cqe then (s.descRecord b.ch b.d status 0 (s.free 32) 0).drawn else s

/-- Count bytes written by a channel. -/
def State.chBytes (s : State) (ch n : Nat) : State := s.count48 (A.DMA_CH_BYTES_LO ch) n

/-! ### Pool rings -/

/-- The registers of a pool in force, and their fields (R183). -/
def State.poolReg (s : State) (p : Nat) : PoolReg := (tblOpt s.plc.pools p).getD ⟨8#32, 0⟩
def State.poolValid (s : State) (p : Nat) : Bool := bitOn (s.poolReg p).cfg 0
def State.poolLog2 (s : State) (p : Nat) : Nat := entLog2 (fldGet (s.poolReg p).cfg 1 5)
def State.poolCq (s : State) (p : Nat) : Nat := fldGet (s.poolReg p).cfg 6 6

/-- A pool ring with nothing fetched. -/
def poolReset : Nat → PoolSt := fun _ => ⟨[], 0, false⟩

/-- A pool ring's working state. -/
def State.pool (s : State) (p : Nat) : PoolSt := tblGet poolReset s.dma.pool p

/-- Replace it. -/
def State.setPool (s : State) (p : Nat) (x : PoolSt) : State :=
  { s with dma := { s.dma with pool := tblSet poolReset s.dma.pool p x } }

/-- Set AVAIL to the pending count; a fall through LOW is a crossing (R252). -/
def State.poolAvail (s : State) (p : Nat) : State :=
  let old := s.fld (F.DMA_POOL_STAT_AVAIL p)
  let new := idxDist (s.poolLog2 p) (s.fld (F.DMA_POOL_PI_IDX p)) (s.fld (F.DMA_POOL_CI_IDX p))
  let s := s.setFld (F.DMA_POOL_STAT_AVAIL p) new
  let s := s.setFld (F.DMA_POOL_WM_STAT_TROUGH p) (min (s.fld (F.DMA_POOL_WM_STAT_TROUGH p)) new)
  let low := s.fld (F.DMA_POOL_WM_LOW p)
  if low ≠ 0 ∧ low < old ∧ new ≤ low then
    let was := s.flag (F.DMA_POOL_WM_STAT_NOTICE p)
    let s := (s.setFlag (F.DMA_POOL_WM_STAT_NOTICE p) true).countSmall (F.DMA_POOL_WM_STAT_CROSS p)
    if !was && s.flag (F.DMA_POOL_WM_IRQ_EN p) then s.raiseIrq (128 + p) else s
  else s

/-- Fetch pending descriptors of a pool, up to 8 ahead of use (R224). -/
def State.poolFetch (p : Nat) : Nat → State → State
  | 0, s => s
  | fuel + 1, s =>
    let x := s.pool p
    let out := s.hep.tags.countP fun t => match t.use with | .fetchPool q _ => q == p && !t.discard | _ => false
    if !s.poolValid p || x.ownWait || x.cache.length + out ≥ 8 ||
        idxDist (s.poolLog2 p) (s.fld (F.DMA_POOL_PI_IDX p)) x.fetchIdx == 0 then s
    else match s.readReq (.fetchPool p x.fetchIdx) ((s.poolReg p).base + x.fetchIdx % 65536 * 32) 32 with
      | none => s
      | some s => State.poolFetch p fuel (s.setPool p { s.pool p with fetchIdx := idxNext (s.poolLog2 p) x.fetchIdx })

/-- Prefetch for a pool. -/
def State.poolGo (s : State) (p : Nat) : State := State.poolFetch p 8 s

/-- The channels that wait for a buffer of pool p have found none (R228). -/
def State.markNoBuf (s : State) (p : Nat) : State :=
  { s with herds := s.herds.map fun h =>
    let left := h.waiting.filter fun ch => ((tblOpt (s.layout h.gen).chans ch).map (·.1)) == some p
    { h with noBuf := left.foldl (fun l c => setIns c l) h.noBuf } }

/-- Whether ring index i of a pool lies before index j, from CI on. -/
def State.poolBefore (s : State) (p i j : Nat) : Bool :=
  let n := s.poolLog2 p
  let ci := s.fld (F.DMA_POOL_CI_IDX p)
  decide (idxDist n i ci < idxDist n j ci)

/-- A fetch of a pool stops at ring index `idx` until the next doorbell (R225, R242): what has come from beyond it, or is on
its way from there, is fetched again then; what comes from before it stays. The channels that wait find no buffer (R228). -/
def State.poolStop (s : State) (p idx : Nat) : State :=
  let x := s.pool p
  let s := s.setPool p { x with cache := x.cache.filter fun d => s.poolBefore p d.idx idx, fetchIdx := idx, ownWait := true }
  let s := if s.fld (F.DMA_POOL_CI_IDX p) = idx then s.markNoBuf p else s
  { s with hep := { s.hep with tags := s.hep.tags.map fun t => match t.use with
    | .fetchPool q i => if q = p && !s.poolBefore p i idx then { t with discard := true } else t
    | _ => t } }

/-! ### Taking buffers -/

/-- The herd buffer of a channel in a herd. -/
def Herd.buf (h : Herd) (ch : Nat) : Option HerdBuf := h.bufs.find? fun b => b.ch == ch

/-- The ratio an output stream's input runs at. -/
def OutForm.ratio (f : OutForm) : Ratio := ⟨f.div, f.k, f.p⟩

/-- F, the bytes of one frame in its region (R192, R229). -/
def OutForm.frameBytes (f : OutForm) : Nat :=
  if f.stats then 4704 else (if f.emb = 0 then 0 else 16 * (f.emb + 32)) + f.h * (f.pay + 32)

/-- The frames of a region. -/
def OutForm.count (f : OutForm) : Nat := f.ratio.frames

/-- The region size (R192). -/
def OutForm.region (f : OutForm) : Nat := ceilDiv (f.count * f.frameBytes) 4096 * 4096

/-- The layout of a channel: its length (R192). -/
def Placement.layoutLen (l : Placement) (ch : Nat) : Nat :=
  l.outs.foldl (fun n c => if c.2.ch = some ch then max n (c.2.ofs * 4096 + c.2.form.region) else n) 0

/-- The channels of a layout with a stream due in herd n, rising, with their pools (R227). -/
def Placement.dueChannels (l : Placement) (n : Nat) : List (Nat × Nat) :=
  l.chans.filterMap fun c =>
    if l.outs.any fun o => o.2.ch == some c.1 && o.2.state == 1 && o.2.form.ratio.due n then some (c.1, c.2.1) else none

/-- CAUSE of a pool descriptor that fails R222, 0 where it passes; `need` is the layout's length. -/
def Desc.poolCause (d : Desc) (need : Nat) : Nat :=
  if d.op ≥ 8 || !d.clean then 1
  else if d.op ≠ 0 then 2
  else if d.addr % 4096 ≠ 0 || d.aux % 256 ≠ 0 then 3
  else if d.len < max 1 need then 4
  else 0

/-- A channel takes the next good descriptor fetched for its pool; bad ones are written back and passed over (R227,
R228). -/
def State.takeBuf (ch p n need : Nat) : Nat → State → State × Bool
  | 0, s => (s, false)
  | fuel + 1, s =>
    let x := s.pool p
    match x.cache.find? fun d => d.idx == s.fld (F.DMA_POOL_CI_IDX p) with
    | none => (s, false)
    | some d =>
      let s := s.setPool p { x with cache := x.cache.filter fun e => e.idx != d.idx }
      let s := (s.setFld (F.DMA_POOL_CI_IDX p) (idxNext (s.poolLog2 p) (s.fld (F.DMA_POOL_CI_IDX p)))).poolAvail p
      let cause := d.poolCause need
      if cause ≠ 0 then State.takeBuf ch p n need fuel 
        (((s.writeBack d.at' 6 cause 0 ch).chBytes ch 10).descRecord ch d 6 cause 0 0)
      else match s.herd n with
        | none => (s, false)
        | some h => (s.setHerd { h with bufs := h.bufs ++ [⟨ch, p, d⟩] }, true)

/-- Whether a descriptor of a pool is on its way: pending, and below the index at which fetching has stopped (R228). -/
def State.poolComing (s : State) (p : Nat) : Bool :=
  let x := s.pool p
  s.canMaster && s.poolValid p && s.fld (F.DMA_POOL_STAT_AVAIL p) != 0 &&
    !(x.ownWait && x.fetchIdx == s.fld (F.DMA_POOL_CI_IDX p))

/-- One delivery channel looks for its buffer for herd n: without one it waits, and unless a descriptor is on its way
the herd carries NOBUF (R228). -/
def State.seekBuf (s : State) (n ch p : Nat) : State :=
  match s.herd n with
  | none => s
  | some h =>
    let (s, got) := if s.canMaster then State.takeBuf ch p n ((s.layout h.gen).layoutLen ch) 9 s else (s, false)
    let s := s.poolGo p
    match s.herd n with
    | none => s
    | some h =>
      if got then s.setHerd { h with waiting := h.waiting.filter (· != ch) }
      else s.setHerd { h with
        waiting := setIns ch h.waiting
        noBuf := if s.poolComing p then h.noBuf else setIns ch h.noBuf }

/-- At its boundary a herd's channels take their buffers, in ascending order (R227). -/
def State.takeBufs (s : State) (n : Nat) : State :=
  match s.herd n with
  | none => s
  | some h => ((s.layout h.gen).dueChannels n).foldl (fun s c => s.seekBuf n c.1 c.2) s

/-- Channels of open herds that wait for a buffer of pool p look again, the older herd first (R228). -/
def State.retryBufs (s : State) (p : Nat) : State :=
  (s.herds.filter fun h => !h.closed).foldl (fun s h =>
    h.waiting.foldl (fun s ch =>
      if ((tblOpt (s.layout h.gen).chans ch).map fun c => c.1 == p).getD false && s.canMaster then s.seekBuf h.num ch p
      else s) s) s

/-- A pool doorbell (R224, R225, R228): one that moves PI backward or overfills the ring is rejected. -/
def State.poolPi (s : State) (p : Nat) (v : Word) : State :=
  let n := s.poolLog2 p
  let new := fldGet v 0 17
  let ci := s.fld (F.DMA_POOL_CI_IDX p)
  let old := s.fld (F.DMA_POOL_PI_IDX p)
  if idxDist n new ci > 2 ^ n ∨ idxDist n new ci < idxDist n old ci then
    s.setFlag (F.DMA_POOL_STAT_PI_REJ p) true
  else
    let s := (s.setFld (F.DMA_POOL_PI_IDX p) new).poolAvail p
    let s := s.setPool p { s.pool p with ownWait := false }
    (s.poolGo p).retryBufs p

/-- A fetched pool descriptor arrives (R225): one the hub does not own stops the ring. -/
def State.poolArrive (s : State) (p idx : Nat) (bytes : List Byte) : State :=
  let d : Desc := ⟨(s.poolReg p).base + idx % 65536 * 32, idx, padTo 32 bytes⟩
  if !d.own then (s.setFlag (F.DMA_POOL_STAT_OWN_MISS p) true).poolStop p idx
  else (s.setPool p { s.pool p with cache := (s.pool p).cache ++ [d] }).retryBufs p

/-- The lowest delivery channel bound to a pool. -/
def State.poolChan (s : State) (p : Nat) : Nat :=
  ((s.plc.force.chans.find? fun c => c.2.1 == p).map (·.1)).getD 0

/-- A failed fetch of a pool descriptor: not consumed, counted, logged (R242). -/
def State.poolFetchFail (s : State) (p idx : Nat) : State :=
  let ch := s.poolChan p
  ((s.count31 (A.DMA_CH_BAD ch) 1).log 242 ch (det 2 p)).poolStop p idx

/-- A write of DMA_POOL_WM_STAT: a 1 to NOTICE clears NOTICE and CROSS, and TROUGH starts again (R252). -/
def State.poolWmStat (s : State) (p : Nat) (v : Word) : State :=
  if bitOn v 0 then
    s.clearMark (F.DMA_POOL_WM_STAT_NOTICE p) (F.DMA_POOL_WM_STAT_CROSS p) (F.DMA_POOL_WM_STAT_TROUGH p)
      (s.fld (F.DMA_POOL_STAT_AVAIL p))
  else s

/-! ### The place of a line (R229) -/

/-- A line's index among the slots of its frame: position without the frame term. -/
def OutForm.slotOf (f : OutForm) (kind line : Nat) : Nat := if f.emb = 0 ∨ kind = 1 then line else 16 + line

/-- Slots of a frame. -/
def OutForm.slots (f : OutForm) : Nat := if f.stats then 2 else if f.emb = 0 then f.h else 16 + f.h

/-- A line's position (R229, R230). -/
def OutForm.position (f : OutForm) (sub kind line : Nat) : Nat := sub * f.slots + f.slotOf kind line

/-- A line's offset in its stream's region (R229). -/
def OutForm.offset (f : OutForm) (sub kind line : Nat) : Nat :=
  sub * f.frameBytes +
    if f.stats then line * 4128
    else if kind = 1 then line * (f.emb + 32)
    else (if f.emb = 0 then 0 else 16 * (f.emb + 32)) + line * (f.pay + 32)

/-! ### Commands -/

/-- DMA_POOL_PI_WRITE (R228). -/
def execDmaPoolPiWrite (path : Path) (p : Fin 64) (v : Word) (s : State) : Result :=
  .next (s.guarded path (A.DMA_POOL_PI p) false fun s => s.poolPi p v)

/-- DMA_POOL_WM_STAT_NOTICE_CLEAR (R252). -/
def execDmaPoolWmStatNoticeClear (path : Path) (p : Fin 64) (v : Word) (s : State) : Result :=
  .next (s.guarded path (A.DMA_POOL_WM_STAT p) false fun s => s.poolWmStat p (v ||| 1#32))

end Sys2Proof.Machine
end

