-- ==== Sys2Proof/Machine/Herds.lean ====
section
/-! DEFINITION. Herds (R21–R29): the status of their members, their close with write-backs, status blocks and records
(R234), the Park change measure, and the commit of lines to host memory (R229–R233). -/

namespace Sys2Proof.Machine

/-! ### Members and their frames (R22, R25, R131) -/

/-- The members of herd n, with their places: due streams that its layout has PLACED, WAITING or SHED. -/
def State.members (s : State) (h : Herd) : List (Nat × OutPlace) :=
  (s.layout h.gen).outs.filter fun c =>
    (c.2.state == 1 || c.2.state == 2 || c.2.state == 3) && c.2.form.ratio.due h.num

/-- The frames of an input stream that belong to herd n. -/
def State.herdFrames (s : State) (isid n : Nat) : List FrameRec := (s.str isid).frames.filter fun f => f.herd == n

/-- Whether a line of a frame waits for its commit on an output stream. -/
def State.linePending (s : State) (osid fid isid : Nat) : Bool :=
  s.data.outq.any fun l => l.osid == osid && l.fid == fid && l.isid == isid

/-- The index of a ROI entry among its stream's ROIs. -/
def State.roiIndex (s : State) (isid roi : Nat) : Nat := roi - s.fld (F.SLC_STR_CFG1_ROI_BASE isid)

/-- Whether every line the slices make of a frame for an output stream has been made and none awaits its commit: of a frame
that has ended, or of one in progress that has stored all its lines (`whole`; R22, R131). -/
def State.framedOut (s : State) (osid : Nat) (o : OutForm) (f : FrameRec) (whole : Bool) : Bool :=
  let k := s.roiIndex o.isid o.roi
  let made := if o.stats then k ∈ f.statSent else whole && tblGet zeroN f.emitted k == o.h
  !s.linePending osid f.id o.isid && ((f.ended && f.done) || (!f.ended && whole && made))

/-- Whether a frame was delivered in full (R25, R131). -/
def State.frameFull (s : State) (osid : Nat) (o : OutForm) (f : FrameRec) : Bool :=
  s.framedOut osid o f (f.stored == s.strLines o.isid) && !(osid ∈ f.failed) && !f.bad && !f.cut

/-- Whether a frame counts as delivered for a COMPLETE close (R22, R131): it has ended, and its last line has been
delivered, whatever became of those before it. -/
def State.frameOver (s : State) (osid : Nat) (o : OutForm) (f : FrameRec) : Bool :=
  f.ended && s.framedOut osid o f false && !(osid ∈ f.lastFailed)

/-- Whether every frame of a member has ended and been delivered. -/
def State.memberOver (s : State) (n : Nat) (c : Nat × OutPlace) : Bool :=
  let fs := s.herdFrames c.2.form.isid n
  c.2.state == 1 && decide (c.2.form.count ≤ fs.length) && fs.all fun f => s.frameOver c.1 c.2.form f

/-- The status code of a member at close (R25). -/
def State.memberStatus (s : State) (n : Nat) (c : Nat × OutPlace) : Nat :=
  let fs := (s.herdFrames c.2.form.isid n).filter fun f => f.inTime
  if c.2.state ≠ 1 then 3
  else if c.2.form.count ≤ (fs.filter fun f => s.frameFull c.1 c.2.form f).length then 1
  else if fs.isEmpty then 3
  else 2

/-- The herd status block (R25). -/
def statusBlock (st : List (Nat × Nat)) : List Byte :=
  let code := fun i => ((st.find? fun c => c.1 == i).map (·.2)).getD 0
  (List.range 256).map fun b =>
    BitVec.ofNat 8 (code (4 * b) + 4 * code (4 * b + 1) + 16 * code (4 * b + 2) + 64 * code (4 * b + 3))

/-! ### The Park change measure (R29) -/

/-- The change measure of two histograms over N pixels. -/
def changeMeasure (new old : Tbl Nat) (pixels : Nat) : Nat :=
  let sum := (List.range 1024).foldl (fun a b =>
    let x := tblGet zeroN new b
    let y := tblGet zeroN old b
    a + if x < y then y - x else x - y) 0
  min 65535 (65536 * sum / (2 * max 1 pixels))

/-- Assert WAKE_N (R29, R278). -/
def State.assertWake (s : State) : State :=
  if s.hep.wakeN then s
  else { s with hep := { s.hep with wakeN := true } }.emit (.pin "WAKE_N" 0 false (st48 s.now))

/-- WAKE_N and PME_Status on a wake of the host (R278); in D3hot with PME_En the hub leaves L1 and sends PM_PME. -/
def State.wakeHost (s : State) : State :=
  let s := s.assertWake
  let s : State := { s with ep := { s.ep with pmeSts := true } }
  let s := if s.ep.d3 && s.ep.pmeEn && s.flag F.HEP_LINK_STAT_DL_UP then
      (s.setFld F.HEP_LINK_STAT_LSTATE 0).emit .pmPme else s
  s.settleWake

/-- The measure of one statistics stream after a herd in which it was COMPLETE. A count of herds that has led to a wake
starts again. -/
def State.parkStream (s : State) (n : Nat) (c : Nat × OutPlace) : State :=
  let o := c.2.form
  match (s.herdFrames o.isid n).getLast? with
  | none => s
  | some f =>
    let hist := ((tblOpt f.stats (s.roiIndex o.isid o.roi)).map (·.hist)).getD []
    let run := tblGet zeroN s.modes.parkRun c.1
    let d := (tblOpt s.modes.parkRef c.1).map fun old => changeMeasure hist old (o.w * o.h)
    let excess := (d.map fun d => decide (s.fld F.GLB_PARK_CFG_THRESH < d)).getD false
    let run' := if d.isNone then run else if excess then run + 1 else 0
    let fire := excess && decide (max 1 (s.fld F.GLB_PARK_CFG_PERSIST) ≤ run')
    let s : State := { s with modes := { s.modes with
      parkRef := tblPut s.modes.parkRef c.1 (some hist)
      parkRun := tblSet zeroN s.modes.parkRun c.1 (if fire then 0 else run') } }
    if fire then s.wakeHost.log 29 c.1 (det 2 (d.getD 0)) else s

/-- The change measures after herd n closes in Park. -/
def State.parkMeasure (s : State) (n : Nat) (st : List ((Nat × OutPlace) × Nat)) : State :=
  if ((s.herd n).map (·.mode)).getD 0 ≠ 2 then s
  else (st.filter fun c => c.1.2.form.stats && c.2 == 1).foldl (fun s c => s.parkStream n c.1) s

/-! ### Close (R22, R25, R234) -/

/-- The completion queues named by the pools of a layout that have a placed stream, rising. -/
def State.herdQueues (s : State) (l : Placement) : List Nat :=
  l.chans.foldl (fun q c =>
    if l.outs.any (fun o => o.2.ch == some c.1 && o.2.state == 1) then setIns (s.poolCq c.2.1) q else q) []

/-- The writes of a closing herd, in order (R234): write-backs, status blocks, then records, those of the descriptors
first. Legacy has no herd completion records (R30). -/
def State.herdWrites (s : State) (h : Herd) (outcome late absent : Nat) (block : List Byte) : State :=
  let info := fun (ch : Nat) => outcome + if ch ∈ h.noBuf then 4 else 0
  let s := if s.canMaster then
      let s := h.bufs.foldl (fun s b => (s.writeBack b.d.at' 0 (info b.ch) h.num b.ch).chBytes b.ch 10) s
      h.bufs.foldl (fun s b => if b.d.aux = 0 then s else (s.post b.d.aux block false false).chBytes b.ch 256) s
    else s
  let s := h.bufs.foldl (fun s b => s.bufRecord b 0) s
  let body := leBytes 6 h.num ++ leBytes 1 (outcome + if h.noBuf.isEmpty then 0 else 4) ++ leBytes 2 late ++
    leBytes 2 absent ++ leBytes 2 h.gen
  if h.mode = 6 then s
  else (h.queues.filter fun q => s.flag (F.CQ_CFG_EN q)).foldl (fun s q => s.postRec q 2 body) s

/-- GLB_START_MS.HERD_MS at the close of the first herd delivered after a start (R321; log entry 60). -/
def State.firstHerd (s : State) : State :=
  if s.fld F.GLB_START_MS_HERD_MS ≠ 0 then s
  else s.setFld F.GLB_START_MS_HERD_MS
    (max 1 (min 65535 (s.fld F.GLB_START_MS_IMG_MS + (s.time.elapsed - s.start.step11) / 16000000)))

/-- Close a herd (R22, R25, R234): 0 COMPLETE, 1 DEADLINE, 2 MODE_CLOSED. A herd that does not deliver closes without a
trace (R27). -/
def State.closeHerd (s : State) (n outcome : Nat) : State :=
  match s.herd n with
  | none => s
  | some h =>
    if h.closed then s
    else
      let st := (s.members h).map fun c => (c, s.memberStatus n c)
      let late := st.countP fun c => c.2 == 2
      let absent := st.countP fun c => c.2 == 3
      let s := if !h.delivers then s
        else
          let s := s.firstHerd.herdWrites h outcome late absent (statusBlock (st.map fun c => (c.1.1, c.2)))
          if outcome = 1 then s.count48 A.GLB_HERD_DL_CNT_LO 1 else s
      let s := match s.herd n with
        | some h => s.setHerd { h with closed := true, waiting := [] }
        | none => s
      s.parkMeasure n st

/-- Close every open herd whose members are all delivered (R22), the older first. -/
def State.settleHerds (s : State) : State :=
  (s.herds.filter fun h => !h.closed).foldl (fun s h =>
    if (s.members h).all fun c => s.memberOver h.num c then s.closeHerd h.num 0 else s) s

/-- The deadline of a herd passes (R22). -/
def State.herdDeadline (s : State) (n : Nat) : State :=
  match s.herd n with
  | some h => if h.closed then s else (s.advance h.deadline).closeHerd n 1
  | none => s

/-! ### The commit of a line (R229–R233) -/


/-- Write a line into its slot, then its watermark (R229–R232). -/
def State.writeLine (s : State) (l : OutLine) (o : OutPlace) (b : HerdBuf) (late : Bool) : State :=
  let l := if late then { l with flags := l.flags ||| 1 } else l
  let img := lineImage l
  let a := b.d.addr + o.ofs * 4096 + o.form.offset l.sub l.kind l.line
  let s := s.post a img (s.dma.dlvRo && s.ep.roEn) false
  let next := o.form.position l.sub l.kind l.line + 1
  let wm := leBytes 4 (next % 2 ^ 24 + if l.flags % 2 = 1 then 2 ^ 24 else 0) ++ leBytes 4 l.herd
  let s := if s.dma.wmkEn then (s.post (s.dma.wmkBase + l.osid * 8) wm false false).chBytes b.ch 8 else s
  ((s.chBytes b.ch img.length).count48 (A.DMA_CH_LINES_LO b.ch) 1).lineDone l

/-- A line that finds no bus master is discarded and counted (R269). In Park, while the host sleeps, it is no loss to its
frame, whose statistics are then complete without it (R29; DEDUCED, log entry 183). -/
def State.lineUnsent (s : State) (l : OutLine) (h : Herd) (ch : Nat) : State :=
  let t := s.count31 (A.DMA_CH_DISC ch) 1
  if h.mode == 2 && s.hostAsleep then t.lineDone l else t.lineFailed l

/-- One line of a delivery channel reaches its commit point; late lines as R26 has them (log entry 182). -/
def State.commitLine (s : State) (l : OutLine) : State :=
  match s.outPlace l.osid l.herd, s.herd l.herd with
  | some o, some h =>
    let ch := o.ch.getD 0
    if !h.delivers then s
    else if h.closed && s.flag (F.ING_ENT0_LATE_POL l.isid) then s.dropLate l
    else if h.closed && l.herd + 3 ≤ s.aon.herd then (s.count31 (A.DMA_CH_LATE_DROP ch) 1).lineFailed l
    else if !s.canMaster then s.lineUnsent l h ch
    else match h.buf ch with
      | none => (s.count31 (A.DMA_CH_NOBUF ch) 1).lineFailed l
      | some b => s.writeLine l o b h.closed
  | some o, none => (s.count31 (A.DMA_CH_LATE_DROP (o.ch.getD 0)) 1).lineFailed l
  | none, _ => s

/-- The line a channel commits next: of the oldest herd, in order of arrival (R24). -/
def State.nextLine (s : State) (ch : Nat) : Option OutLine :=
  let mine := s.data.outq.filter fun l => ((s.outPlace l.osid l.herd).bind (·.ch)) == some ch
  mine.foldl (fun best l => match best with
    | some b => if l.herd < b.herd then some l else some b
    | none => some l) none

/-- A delivery channel commits its next line; its herd may then be complete. -/
def State.lineCommit (s : State) (ch : Nat) : State :=
  match s.nextLine ch with
  | none => s
  | some l =>
    let s : State := { s with data := { s.data with outq := s.data.outq.erase l } }
    (s.commitLine l).settleHerds

/-! ### Commands -/

/-- HERD_DEADLINE (R22). -/
def execHerdDeadline (herd : Nat) (s : State) : Result := .next (s.whenUp fun s => s.herdDeadline herd)

/-- LINE_COMMIT (R232). -/
def execLineCommit (ch : Fin 256) (s : State) : Result := .next (s.whenUp fun s => s.lineCommit ch)

end Sys2Proof.Machine
end

