-- ==== Sys2Proof/Machine/Channels.lean ====
section
/-! DEFINITION. The general channels (R217–R226, R236–R247): their rings, the check of a descriptor, its transfer, its
end, PAUSE, RESUME, ABORT and pacing; and the completions of the hub's reads (R241, R242, R266, R267). -/

namespace Sys2Proof.Machine

/-! ### Access to a channel -/

/-- A channel as reset leaves it. -/
def chanReset : Nat → ChanSt := fun _ => ⟨none, none, none, false, [], false, 0, 0⟩

/-- A general channel's working state. -/
def State.chan (s : State) (c : Nat) : ChanSt := tblGet chanReset s.dma.chan c

/-- Replace it. -/
def State.setChan (s : State) (c : Nat) (x : ChanSt) : State :=
  { s with dma := { s.dma with chan := tblSet chanReset s.dma.chan c x } }

/-- Channel states of DMA_CH_STAT.STATE. -/
def chOff : Nat := 0
def chIdle : Nat := 1
def chRun : Nat := 2
def chPausing : Nat := 3
def chPaused : Nat := 4
def chStopped : Nat := 5
def chHalted : Nat := 6
def chHostPaused : Nat := 7

/-- The state of a channel. -/
def State.chState (s : State) (c : Nat) : Nat := s.fld (F.DMA_CH_STAT_STATE c)

/-- Set it. -/
def State.setChState (s : State) (c st : Nat) : State := s.setFld (F.DMA_CH_STAT_STATE c) st

/-- Whether a channel fetches and starts reads now: IDLE or RUN. -/
def State.chGoes (s : State) (c : Nat) : Bool := s.chState c == chIdle || s.chState c == chRun

/-- Whether a channel is a delivery channel or the graze channel, which the host cannot drive (R217, R218). -/
def State.hostBarred (s : State) (c : Nat) : Bool :=
  decide (c < s.fld F.PLC_CFG_DC_NUM) || c == s.fld F.GRZ_CFG_CH

/-- A host write that the hub discards because the host does not drive the channel (R218). -/
def State.chBarred (s : State) (c : Nat) : State :=
  if s.flag (F.DMA_CH_STAT_CTRL_REJ c) then s
  else (s.setFlag (F.DMA_CH_STAT_CTRL_REJ c) true).log 218 c []

/-- A general channel's write that is discarded (R226). -/
def State.chRej (s : State) (c : Nat) : State := s.setFlag (F.DMA_CH_STAT_CTRL_REJ c) true

/-- Do `act` for a host write to a channel's control or ring registers. -/
def State.chWrite (s : State) (c : Nat) (act : State → State) : State := if s.hostBarred c then s.chBarred c else act s

/-- Data read requests of a channel that are outstanding, those whose data is to be discarded with them (R239). -/
def State.chTags (s : State) (c : Nat) : Nat :=
  s.hep.tags.countP fun t => match t.use with | .data d _ _ => d == c | _ => false

/-- Tags of a channel that are still awaited: fetches, or data of the descriptor in progress. -/
def State.chFetches (s : State) (c : Nat) : Nat :=
  s.hep.tags.countP fun t => match t.use with | .fetchCh d _ => d == c && !t.discard | _ => false
def State.chReads (s : State) (c : Nat) : Nat :=
  s.hep.tags.countP fun t => match t.use with | .data d _ _ => d == c && !t.discard | _ => false

/-- Discard what a channel's outstanding requests will bring. -/
def State.chDiscard (s : State) (c : Nat) : State :=
  { s with hep := { s.hep with tags := s.hep.tags.map fun t => match t.use with
    | .fetchCh d _ => if d = c then { t with discard := true } else t
    | .data d _ _ => if d = c then { t with discard := true } else t
    | _ => t } }

/-- The size of its ring, the address of its next descriptor (R223, R240). -/
def State.chLog2 (s : State) (c : Nat) : Nat := entLog2 (s.fld (F.DMA_CH_CFG_ENT_LOG2 c))
def State.chFetchAt (s : State) (c : Nat) : Nat :=
  (s.chan c).linked.getD
    (s.pair (A.DMA_CH_BASE_LO c) 32 + s.fld (F.DMA_CH_CI_IDX c) % 65536 % 2 ^ s.chLog2 c * 32)

/-- Descriptors pending. -/
def State.chPending (s : State) (c : Nat) : Nat :=
  idxDist (s.chLog2 c) (s.fld (F.DMA_CH_PI_IDX c)) (s.fld (F.DMA_CH_CI_IDX c))

/-- RUN while there is anything in hand, else IDLE. -/
def State.chTidy (s : State) (c : Nat) : State :=
  if s.chGoes c then
    let x := s.chan c
    s.setChState c (if x.cur.isSome || x.head.isSome || s.chFetches c != 0 then chRun else chIdle)
  else s

/-- Post a CHAN record (R249). -/
def State.chRecord (s : State) (c event cause : Nat) : State :=
  let ci := s.fld (F.DMA_CH_CI_IDX c)
  s.postRec (s.fld (F.DMA_CH_CFG_HCQ c) + 32 * s.fld (F.DMA_CH_RATE_HCQ5 c)) 4
    (leBytes 1 c ++ leBytes 1 event ++ leBytes 1 cause ++ leBytes 2 ci ++ leBytes 1 (ci / 65536))

/-- Halt a channel (R240, R242). -/
def State.chHalt (s : State) (c cause : Nat) : State :=
  let s := (s.setChState c chHalted).setFld (F.DMA_CH_STAT_HALT_CAUSE c) cause
  (s.chDiscard c).chRecord c 0 cause

/-! ### The check of a descriptor (R222, R238) -/

/-- The graze queue in internal addresses. -/
def inGrzQ (a n : Nat) : Bool := A.GRZ_Q 0 0 ≤ a && a + n ≤ A.GRZ_Q 0 0 + 0x2000

/-- The internal address of a descriptor, the bytes it covers there. -/
def Desc.intAddr (d : Desc) : Nat := (if d.op = 4 then d.addr else d.aux) % 2 ^ 32
def Desc.intLen (d : Desc) : Nat := if d.ifix then 4 else d.len

/-- Bits that the descriptor's layout fixes at 0 are 0 (R219). -/
def Desc.zeros (d : Desc) : Bool :=
  match d.op with
  | 1 | 2 | 5 => d.aux / 2 ^ 32 == 0
  | 6 | 7 => d.aux == 0 && d.len == 0
  | _ => true

/-- Whether a fixed address is misaligned, or a LEN does not suit it. -/
def Desc.fixBad (d : Desc) : Bool :=
  ((d.hfix || d.ifix) && d.len % 4 != 0) || (d.hfix && d.op != 4 && d.addr % 4 != 0) ||
    (d.ifix && d.op != 3 && d.intAddr % 4 != 0)

/-- CAUSE of a general descriptor's internal range, 0 where it passes (R238). -/
def State.rangeCause (s : State) (d : Desc) : Nat :=
  let a := d.intAddr
  let n := d.intLen
  if d.op = 1 && inGrzQ a n then 0
  else if !inTbl a n then 5
  else if d.op = 1 || d.op = 4 then
    let bs := blocksOf (a - tblBase) n
    if s.mode ≠ 3 && bs.any fun b => b < 16384 then 5 else if bs.any s.blockInUse then 6 else 0
  else 0

/-- CAUSE of a general descriptor, 0 where it passes (R222). -/
def State.chCause (s : State) (d : Desc) : Nat :=
  if d.op ≥ 8 || !d.clean || !d.zeros then 1
  else if d.op = 0 then 2
  else if d.op = 7 then 0
  else if d.op = 6 then (if d.addr % 32 ≠ 0 then 3 else 0)
  else if d.fixBad then 3
  else if d.len = 0 then 4
  else if d.op = 3 then 0
  else s.rangeCause d

/-! ### Internal memory -/

/-- Write bytes into graze queue entries: a poisoned write marks the words it touches, a clean one that covers a word
clears its mark (R285). -/
def State.grzBytes (s : State) (a : Nat) (data : List Byte) (ep : Bool) : State :=
  let s := (data.zipIdx).foldl (fun s p =>
    let x := a + p.2
    s.setReg (x / 4 * 4) (fldPut (s.reg (x / 4 * 4)) (x % 4 * 8) 8 p.1.toNat)) s
  let o := a - A.GRZ_Q 0 0
  let touched := (List.range 2048).filter fun w => decide (w * 4 < o + data.length) && decide (o < w * 4 + 4)
  let full := fun w => decide (o ≤ w * 4) && decide (w * 4 + 4 ≤ o + data.length)
  let p := if ep then touched.foldl (fun l w => setIns w l) s.grz.poisoned
    else s.grz.poisoned.filter fun w => !(touched.contains w && full w)
  { s with grz := { s.grz with poisoned := p } }

/-- Write bytes at an internal address. -/
def State.intWrite (s : State) (a : Nat) (data : List Byte) (ep : Bool) : State :=
  if data.isEmpty then s else if inGrzQ a data.length then s.grzBytes a data ep else s.tblWrite (a - tblBase) data ep

/-- The internal address of offset o of a descriptor. -/
def Desc.intAt (d : Desc) (o : Nat) : Nat := d.intAddr + if d.ifix then o % 4 else o

/-- The host address of offset o of a descriptor. -/
def Desc.hostAt (d : Desc) (o : Nat) : Nat := d.addr + if d.hfix then o % 4 else o

/-- Bytes [o, o + n) of a descriptor's internal source, and whether the byte at offset o is poisoned (R243). -/
def State.intBytes (s : State) (d : Desc) (o n : Nat) : List Byte :=
  (List.range n).map fun i => s.tblByte (d.intAt (o + i) - tblBase)
def State.intPoison (s : State) (d : Desc) (ue : Option Nat) (o : Nat) : Bool :=
  let b := (d.intAt o - tblBase) / 64
  s.data.poison.contains b || (ue.map fun u => (d.intAt u - tblBase) / 64 == b && decide (u < d.len)).getD false

/-- Bytes [o, o + n) of a fill: pattern byte i goes to every address whose value mod 8 is i (R236). -/
def Desc.fillBytes (d : Desc) (o n : Nat) : List Byte :=
  let pat := (d.bytes.drop 8).take 8
  (List.range n).map fun i => pat.getD ((if d.op = 3 then d.hostAt (o + i) else d.intAt (o + i)) % 8) 0

/-! ### Moving data -/

/-- Write a descriptor's bytes [o, o + data.length) to the host: one 4-byte write per word at a fixed address, else
posted writes split at their boundaries; `bad` says which offsets are poisoned (R229, R237, R243). -/
def State.hostPut (s : State) (c : Nat) (d : Desc) (o : Nat) (data : List Byte) (bad : Nat → Bool) : State :=
  let ro := s.flag (F.DMA_CH_CFG_RO c) && s.ep.roEn
  let ep := fun x n => (List.range n).any fun i => bad (x + i)
  let s := s.exitL1
  let s := if d.hfix then
      (List.range (data.length / 4)).foldl (fun s k =>
        s.emit (.hostWrite d.addr ((data.drop (4 * k)).take 4) ro (ep (o + 4 * k) 4))) s
    else (splitAt' s.mpsBound (data.length + 1) (d.addr + o) data).foldl (fun s w =>
        s.emit (.hostWrite w.1 w.2 ro (ep (w.1 - d.addr) w.2.length))) s
  s.chBytes c data.length

/-- Write a descriptor's bytes [o, o + data.length) to its internal address. -/
def State.intPut (s : State) (d : Desc) (o : Nat) (data : List Byte) (ep : Bool) : State :=
  if d.ifix then
    (List.range (data.length / 4)).foldl (fun s k => s.intWrite d.intAddr ((data.drop (4 * k)).take 4) ep) s
  else s.intWrite (d.intAddr + o) data ep

/-- The first poisoned offset of [o, o + n). -/
def firstBad (bad : Nat → Bool) (o n : Nat) : Option Nat := ((List.range n).map (o + ·)).find? bad

/-- The lower of two optional offsets. -/
def optMin (a b : Option Nat) : Option Nat :=
  match a, b with
  | some x, some y => some (min x y)
  | some x, none => some x
  | none, y => y

/-- Show the bytes written of the descriptor in progress. -/
def State.chRunSet (s : State) (c : Nat) (r : DescRun) : State :=
  (s.setChan c { s.chan c with cur := some r }).setReg (A.DMA_CH_DONE c) (BitVec.ofNat 32 r.done)

/-- Bytes a burst moves (R247). -/
def State.burst (s : State) (c : Nat) : Nat := 2 ^ max 6 (min 12 (s.fld (F.DMA_CH_CFG_BURST_LOG2 c)))

/-- Grant the descriptor in progress all of its bytes, or one burst per pacing request (R247). -/
def State.chGrant (s : State) (c : Nat) (r : DescRun) : State × DescRun :=
  if s.flag (F.DMA_CH_CFG_PACE c) then
    let n := s.fld (F.DMA_CH_STAT_REQ_PEND c)
    let k := min n (ceilDiv (r.d.len - r.granted) (s.burst c))
    (s.setFld (F.DMA_CH_STAT_REQ_PEND c) (n - k), { r with granted := min r.d.len (r.granted + k * s.burst c) })
  else (s, { r with granted := r.d.len })

/-- A byte of SHARE's allowance, in 1/256 of a byte per second over a TU (R246). -/
def shareUnit : Nat := 256 * tuPerSec

/-- What the channel has spent of its 4,096 bytes by now: it comes back at SHARE/256 of the C_host in force (R246). -/
def State.chSpent (s : State) (c : Nat) : Nat :=
  let x := s.chan c
  x.spent - s.fld (F.DMA_CH_RATE_SHARE c) * (110000000000 * s.plc.width * s.plc.gts / 2048) * (s.time.elapsed - x.shareAt)

/-- Bytes that SHARE lets a channel move now (R246; log entry 201). -/
def State.chShare (s : State) (c : Nat) : Option Nat :=
  if s.fld (F.DMA_CH_RATE_SHARE c) = 0 then none else some ((4096 * shareUnit - s.chSpent c) / shareUnit)

/-- A channel moves n bytes of what SHARE allows it. -/
def State.chSpend (s : State) (c n : Nat) : State :=
  if s.fld (F.DMA_CH_RATE_SHARE c) = 0 then s
  else s.setChan c { s.chan c with shareAt := s.time.elapsed, spent := s.chSpent c + n * shareUnit }

/-- The offset up to which a descriptor moves now: what is granted, as far as SHARE allows, in whole words at a fixed address
(R237, R246). -/
def State.chUpTo (s : State) (c : Nat) (r : DescRun) (from' : Nat) : Nat :=
  match s.chShare c with
  | none => r.granted
  | some k => min r.granted (from' + if r.d.hfix || r.d.ifix then k / 4 * 4 else k)

/-- Move the granted bytes of a descriptor that reads no host memory: I2H, FILL_H, FILL_I. -/
def State.chPush (s : State) (c : Nat) (r : DescRun) : State :=
  let d := r.d
  let upTo := s.chUpTo c r r.done
  let n := upTo - r.done
  let bad := s.intPoison d r.ueAt
  let r' := { r with done := upTo, asked := upTo }
  let s := s.chSpend c n
  if n = 0 then s
  else match d.op with
    | 2 => (s.hostPut c d r.done (s.intBytes d r.done n) bad).chRunSet c
        { r' with poisonAt := optMin r.poisonAt (firstBad bad r.done n) }
    | 3 => (s.hostPut c d r.done (d.fillBytes r.done n) fun _ => false).chRunSet c r'
    | _ => (s.intPut d r.done (d.fillBytes r.done n) false).chRunSet c r'

/-- The next read request of a descriptor, which may ask up to offset `upTo`: its length (R237, R239). -/
def State.askLen (s : State) (r : DescRun) (upTo : Nat) : Nat :=
  if r.d.hfix then 4
  else min (upTo - r.asked) (min (512 - (r.d.addr + r.asked) % 512) (128 * 2 ^ s.ep.mrrs))

/-- Ask for host bytes of the descriptor in progress, up to MAX_RD + 1 requests at a time (R239). -/
def State.chAsk (c : Nat) : Nat → State → State
  | 0, s => s
  | fuel + 1, s =>
    match (s.chan c).cur with
    | none => s
    | some r =>
      let upTo := s.chUpTo c r r.asked
      let stop := r.ended.isSome || r.fail.isSome || r.diff.isSome || decide (upTo ≤ r.asked)
      if stop || !s.chGoes c || s.fld (F.DMA_CH_CFG_MAX_RD c) < s.chTags c then s
      else
        let n := s.askLen r upTo
        match s.readReq (.data c r.asked n) (r.d.hostAt r.asked) n with
        | none => s
        | some s =>
          let s := s.chSpend c n
          State.chAsk c fuel (s.setChan c { s.chan c with cur := some { r with asked := r.asked + n } })

/-- STATUS, CAUSE of a transfer that has come to its end: the lowest code wins (R221). -/
def DescRun.outcome (r : DescRun) : Nat × Nat :=
  if r.diff.isSome then (1, 0)
  else match r.fail with
    | some f => (2, f.2)
    | none =>
      if r.poisonAt.isSome then (3, if (r.ueAt.map fun u => decide (u < r.done)).getD false then 11 else 0) else (0, 0)

/-- The transfer of the descriptor in progress ends once nothing of it is outstanding and it is whole, failed or
found to differ (R221, R239, R241). -/
def State.chSettle (s : State) (c : Nat) : State :=
  match (s.chan c).cur with
  | some r =>
    if r.ended.isNone && s.chReads c == 0 && (r.fail.isSome || r.diff.isSome || decide (r.d.len ≤ r.done)) then
      s.setChan c { s.chan c with cur := some { r with ended := some r.outcome } }
    else s
  | none => s

/-- Move what may be moved of the descriptor in progress. -/
def State.chMove (s : State) (c : Nat) : State :=
  match (s.chan c).cur with
  | some r =>
    if r.ended.isSome || !s.chGoes c || !s.canMaster then s
    else
      let (s, r) := s.chGrant c r
      let s := s.setChan c { s.chan c with cur := some r }
      (if r.d.op = 1 || r.d.op = 5 then State.chAsk c 257 s else s.chPush c r).chSettle c
  | none => s

/-- Fetch the next pending descriptor (R223–R226). -/
def State.chFetch (s : State) (c : Nat) : State :=
  let x := s.chan c
  if s.chGoes c && x.cur.isNone && x.head.isNone && s.chFetches c == 0 && !x.ownWait && s.chPending c != 0 then
    ((s.readReq (.fetchCh c (s.fld (F.DMA_CH_CI_IDX c))) (s.chFetchAt c) 32).getD s).chTidy c
  else s.chTidy c

/-- A channel goes on. -/
def State.chGo (s : State) (c : Nat) : State := (s.chMove c).chFetch c

/-- Every channel and pool that waits for a tag goes on, the lowest first. -/
def State.kick (s : State) : State :=
  let s := (s.listed (A.DMA_CH_STAT 0) 0x1000 256).foldl (fun s c => if s.chGoes c then s.chGo c else s) s
  (s.listed (A.DMA_POOL_PI 0) 0x20 64).foldl State.poolGo s

/-! ### A descriptor begins -/

/-- Take the fetched descriptor into progress, with its end if it has failed its check: CI advances (R223, R240). -/
def State.chBegin (s : State) (c : Nat) (d : Desc) (ue : Option Nat) (ended : Option (Nat × Nat)) : State :=
  let x := s.chan c
  let s := s.setChan c { x with head := none, linked := x.linked.map (· + 32) }
  let s := s.setFld (F.DMA_CH_CI_IDX c) (idxNext (s.chLog2 c) (s.fld (F.DMA_CH_CI_IDX c)))
  let s := s.setPair (A.DMA_CH_CUR_LO c) 32 d.at'
  s.chRunSet c ⟨d, 0, 0, 0, [], none, none, none, ue, ended⟩

/-- Begin the fetched descriptor of a channel if its operation is `op`: it is checked, and what it does starts. -/
def State.chStart (s : State) (c op : Nat) (ue : Option Nat) : State :=
  match (s.chan c).head with
  | none => s
  | some d =>
    if d.op ≠ op || !s.chGoes c then s
    else
      let cause := s.chCause d
      if cause ≠ 0 then s.chBegin c d none (some (6, cause))
      else match op with
        | 6 =>
          let n := s.fld (F.DMA_CH_STAT_LINKS c) + 1
          if n ≥ 17 then s.chHalt c 1
          else
            let s := (s.setFld (F.DMA_CH_STAT_LINKS c) n).chBegin c d none (some (0, 0))
            s.setChan c { s.chan c with linked := some d.addr }
        | 7 => s.chBegin c d none (some (0, 0))
        | _ => ((s.setFld (F.DMA_CH_STAT_LINKS c) 0).chBegin c d ue none).chMove c

/-- A fetched descriptor arrives (R225). One whose operation has no place in this ring is begun at once, to end
BAD_DESC. -/
def State.chArrive (s : State) (c : Nat) (idx : Nat) (bytes : List Byte) : State :=
  let d : Desc := ⟨s.chFetchAt c, idx, padTo 32 bytes⟩
  let x := s.chan c
  if !d.own then ((s.setFlag (F.DMA_CH_STAT_OWN_MISS c) true).setChan c { x with ownWait := true }).chTidy c
  else
    let s := s.setChan c { x with head := some d }
    if d.op = 0 || d.op ≥ 8 then s.chBegin c d none (some (6, s.chCause d)) else s

/-! ### A descriptor ends -/

/-- DONE of a descriptor that has ended (R221, R236, R241). -/
def DescRun.doneOf (r : DescRun) (status : Nat) : Nat :=
  match status with
  | 0 => r.d.len
  | 1 => r.diff.getD 0
  | 6 => 0
  | _ => r.done

/-- The failing host address of a BAD or POISONED descriptor, else 0 (R249). -/
def DescRun.failAddr (r : DescRun) (status : Nat) : Nat :=
  match status with
  | 2 => r.d.hostAt ((r.fail.map (·.1)).getD 0)
  | 3 => r.d.hostAt (r.poisonAt.getD 0)
  | _ => 0

/-- Write a descriptor back and post its record (R221, R249). -/
def State.chReport (s : State) (c : Nat) (d : Desc) (status cause done fail : Nat) : State :=
  ((s.writeBack d.at' status cause done c).chBytes c 10).descRecord c d status cause done fail

/-- The descriptor in progress leaves with its outcome. -/
def State.chRetire (s : State) (c : Nat) (r : DescRun) (e : Nat × Nat) : State :=
  let s := s.setChan c { s.chan c with cur := none }
  let s := if e.1 = 2 then s.count31 (A.DMA_CH_BAD c) 1 else s
  s.chReport c r.d e.1 e.2 (r.doneOf e.1) (r.failAddr e.1)

/-- A descriptor whose transfer has ended is written back, and the channel goes on (R221, R239). -/
def State.chDone (s : State) (c : Nat) : State :=
  match (s.chan c).cur with
  | some r => match r.ended with
    | some e => if s.chGoes c || s.chState c = chPausing then (s.chRetire c r e).chFetch c else s
    | none => s
  | none => s

/-! ### Data arrives -/

/-- The first offset at which received bytes differ from internal ones, poisoned bytes apart (R236, R243). -/
def State.firstDiff (s : State) (r : DescRun) (o : Nat) (data : List Byte) : Option Nat :=
  (data.zipIdx.find? fun p =>
    p.1 != s.tblByte (r.d.intAt (o + p.2) - tblBase) && !s.intPoison r.d r.ueAt (o + p.2)).map fun p => o + p.2

/-- Join the block at offset `o` with the one that follows it, if it has come. -/
def joinAhead (l : List (Nat × List Byte × Bool)) (o : Nat) : Option (List (Nat × List Byte × Bool)) :=
  match l.find? fun b => b.1 == o with
  | none => none
  | some b => (l.find? fun x => x.1 == o + b.2.1.length).map fun x =>
    (o, b.2.1 ++ x.2.1, b.2.2 || x.2.2) :: l.filter fun y => y.1 != o && y.1 != x.1

/-- Take the blocks received that continue the prefix, in order: a fixed internal address is written in whole words, which
two blocks may share (R237, R241). -/
def State.chAbsorb (c : Nat) : Nat → State → State
  | 0, s => s
  | fuel + 1, s =>
    match (s.chan c).cur with
    | none => s
    | some r =>
      match r.ahead.find? fun b => b.1 == r.done with
      | none => s
      | some b =>
        let rest := r.ahead.filter fun a => a.1 != b.1
        if r.d.op = 1 && r.d.ifix then
          let n := b.2.1.length / 4 * 4
          if n = 0 then match joinAhead r.ahead r.done with
            | none => s
            | some l => State.chAbsorb c fuel (s.chRunSet c { r with ahead := l })
          else
            let s := s.intPut r.d b.1 (b.2.1.take n) b.2.2
            let left := b.2.1.drop n
            State.chAbsorb c fuel (s.chRunSet c { r with
              done := r.done + n, ahead := if left.isEmpty then rest else (b.1 + n, left, b.2.2) :: rest })
        else State.chAbsorb c fuel (s.chRunSet c { r with done := r.done + b.2.1.length, ahead := rest })

/-- Bytes of the descriptor in progress arrive at offset o (R236, R243): H2I writes them, COMPARE compares them. -/
def State.chData (s : State) (c o : Nat) (data : List Byte) (ep : Bool) : State :=
  match (s.chan c).cur with
  | none => s
  | some r =>
    let bad := fun x => ep || (r.d.op == 5 && s.intPoison r.d r.ueAt x)
    let r := { r with
      poisonAt := optMin r.poisonAt (firstBad bad o data.length)
      diff := if r.d.op = 5 && !ep then optMin r.diff (s.firstDiff r o data) else r.diff
      ahead := r.ahead ++ [(o, data, ep)] }
    let s := if r.d.op = 1 && !r.d.ifix then s.intPut r.d o data ep else s
    State.chAbsorb c (2 * r.ahead.length + 1) (s.setChan c { s.chan c with cur := some r })

/-- A data read of the descriptor in progress fails (R241). -/
def State.chFail (s : State) (c o cause : Nat) : State :=
  match (s.chan c).cur with
  | none => s
  | some r =>
    let lower := match r.fail with
      | some f => if o < f.1 then (o, cause) else f
      | none => (o, cause)
    s.setChan c { s.chan c with cur := some { r with fail := some lower } }

/-! ### Completions (R241, R242, R266, R267) -/

/-- What a read that failed does: `fetch` is the halt cause of a failed fetch, `cause` the CAUSE of failed data. -/
def State.readFailed (s : State) (u : TagUse) (fetch cause : Nat) : State :=
  match u with
  | .fetchCh c _ => s.chHalt c fetch
  | .fetchPool p idx => s.poolFetchFail p idx
  | .data c o _ => (s.chFail c o cause).chSettle c

/-- A completion for an outstanding request: its data, or its failure. One that carries fewer bytes than were asked for
leaves its tag outstanding for the rest. -/
def State.tagAnswer (s : State) (t : TagSt) (status : CplStatus) (data : List Byte) (ep : Bool) : State :=
  match t.use with
  | .data c o n =>
    let data := data.take n
    let rest := if status = .sc && data.length < n then some { t with use := TagUse.data c (o + data.length) (n - data.length) }
      else none
    let s := match rest with
      | some t' => { s with hep := { s.hep with tags := s.hep.tags.map fun x => if x.tag = t.tag then t' else x } }
      | none => s.freeTag t.tag
    if t.discard then s
    else match status with
      | .sc => ((if ep then s.aerTlp 12 true else s).chData c o data ep).chSettle c
      | .ur => s.readFailed t.use 3 9
      | .ca => s.readFailed t.use 3 10
  | .fetchCh c idx =>
    let s := s.freeTag t.tag
    if t.discard then s
    else if status ≠ .sc then s.readFailed t.use 3 9
    else if ep then (s.aerTlp 12 false).chHalt c 4
    else s.chArrive c idx data
  | .fetchPool p idx =>
    let s := s.freeTag t.tag
    if t.discard then s
    else if status ≠ .sc then s.readFailed t.use 3 9
    else if ep then (s.aerTlp 12 false).poolFetchFail p idx
    else s.poolArrive p idx data

/-- A completion arrives (R267). -/
def State.completion (s : State) (tag : Nat) (status : CplStatus) (data : List Byte) (ep : Bool) : State :=
  match s.hep.tags.find? fun t => t.tag == tag with
  | some t => (s.tagAnswer t status data ep).kick
  | none =>
    if s.hep.quar.contains tag then s.count31 A.HEP_LATE_CPL 1
    else (s.count31 A.HEP_UNEXP_CPL 1).aerTlp 16 true

/-- A read times out (R241, R242, R266); one whose data is to be discarded frees its tag silently (R269). -/
def State.completionTimeout (s : State) (tag : Nat) : State :=
  match s.hep.tags.find? fun t => t.tag == tag with
  | some t =>
    let s := s.freeTag tag
    (if t.discard then s else (s.aer 14 true []).readFailed t.use 2 8).kick
  | none => s

/-! ### The channel's registers -/

/-- A doorbell (R224, R226): with EN = 0 the index is written freely. -/
def State.chPi (s : State) (c : Nat) (v : Word) : State :=
  let n := s.chLog2 c
  let new := fldGet v 0 17
  let ci := s.fld (F.DMA_CH_CI_IDX c)
  if !s.flag (F.DMA_CH_CFG_EN c) then s.setFld (F.DMA_CH_PI_IDX c) new
  else if idxDist n new ci > 2 ^ n ∨ idxDist n new ci < s.chPending c then
    s.setFlag (F.DMA_CH_STAT_PI_REJ c) true
  else
    let s := s.setFld (F.DMA_CH_PI_IDX c) new
    (s.setChan c { s.chan c with ownWait := false }).chFetch c

/-- A write of a ring base or CI, which needs EN = 0 (R226). -/
def State.chRing (s : State) (c a : Nat) (v : Word) : State :=
  if s.flag (F.DMA_CH_CFG_EN c) then s.chRej c else s.plainWrite a v

/-- A write of DMA_CH_CFG (R226). -/
def State.chCfg (s : State) (c : Nat) (v : Word) : State :=
  let was := s.flag (F.DMA_CH_CFG_EN c)
  let st := s.chState c
  if was && !bitOn v 0 then
    if st = chOff || st = chIdle || st = chStopped || st = chHalted then
      let s := (s.plainWrite (A.DMA_CH_CFG c) v).setChState c chOff
      (s.setFld (F.DMA_CH_STAT_HALT_CAUSE c) 0).setChan c (chanReset c)
    else s.chRej c
  else
    let s := s.plainWrite (A.DMA_CH_CFG c) v
    if was || !bitOn v 0 then s
    else (((s.setChState c chIdle).setFld (F.DMA_CH_STAT_LINKS c) 0).setChan c (chanReset c)).chFetch c

/-- PAUSE (R244). -/
def State.chPause (s : State) (c : Nat) : State := if s.chGoes c then s.setChState c chPausing else s

/-- Reads in flight have drained (R244): a descriptor that has ended meanwhile is written back first. -/
def State.chPausedNow (s : State) (c : Nat) : State :=
  if s.chState c = chPausing && s.chReads c == 0 && s.chFetches c == 0 then
    ((s.chDone c).setChState c chPaused).chRecord c 1 0
  else s

/-- RESUME (R244, R270). -/
def State.chResume (s : State) (c : Nat) : State :=
  if s.chState c = chPaused then (s.setChState c chRun).chGo c
  else if s.chState c = chHostPaused && s.canMaster && !(s.chan c).hostPaused then
    ((s.setChState c chIdle).chRecord c 4 0).chGo c
  else s

/-- ABORT (R245): the descriptor in progress ends ABORTED unless it has reached its commit point. -/
def State.chAbort (s : State) (c : Nat) : State :=
  let st := s.chState c
  if st = chIdle || st = chRun || st = chPausing || st = chPaused then
    let s := s.chDiscard c
    let s := match (s.chan c).cur with
      | some r => match r.ended with
        | some e => (s.setFld (F.DMA_CH_STAT_LAST_ABORT c) 2).chRetire c r e
        | none => (s.setFld (F.DMA_CH_STAT_LAST_ABORT c) 1).chRetire c r (4, 0)
      | none => s.setFld (F.DMA_CH_STAT_LAST_ABORT c) 2
    ((s.setChan c { s.chan c with head := none }).setChState c chStopped).chRecord c 2 0
  else s.setFld (F.DMA_CH_STAT_LAST_ABORT c) 2

/-- REQ: one pacing request (R247). -/
def State.chReq (s : State) (c : Nat) : State :=
  if s.flag (F.DMA_CH_CFG_PACE c) then (s.paceRequest c).chMove c else s

/-- A write of DMA_CH_CTRL: ABORT takes precedence over PAUSE and RESUME (R244, R245, R247). -/
def State.chCtrl (s : State) (c : Nat) (v : Word) : State :=
  let s := if bitOn v 2 then s.chAbort c
    else
      let s := if bitOn v 0 then s.chPause c else s
      if bitOn v 1 then s.chResume c else s
  if bitOn v 3 then s.chReq c else s

/-- Channels move what pacing requests have granted (R247), and what SHARE lets go on as time passes (R246). -/
def State.paceMoves (s : State) : State :=
  (s.dma.chan.map (·.1)).foldl (fun s c =>
    if s.flag (F.DMA_CH_CFG_PACE c) || s.fld (F.DMA_CH_RATE_SHARE c) != 0 then s.chMove c else s) s

/-! ### Commands -/

/-- CMP_MATCH: device time reaches the target of an armed unit (R51); its pacing requests move bursts (R247). -/
def execCmpMatch (n : Fin 64) (s : State) : Result := .next (s.whenUp fun s => (s.cmpMatch n).paceMoves)

/-- TIME_ADJ_APPLY: the step falls due (R48). -/
def execTimeAdjApply (s : State) : Result := .next (s.whenUp fun s => s.applyAdj.paceMoves)

/-- DMA_CH_PI_WRITE (R224). -/
def execDmaChPiWrite (path : Path) (c : Fin 256) (v : Word) (s : State) : Result :=
  .next (s.guarded path (A.DMA_CH_PI c) false fun s => s.chWrite c fun s => s.chPi c v)

/-- DMA_CH_CFG_WRITE (R226). -/
def execDmaChCfgWrite (path : Path) (c : Fin 256) (v : Word) (s : State) : Result :=
  .next (s.guarded path (A.DMA_CH_CFG c) false fun s => s.chWrite c fun s => s.chCfg c v)

/-- A fetched H2I descriptor begins (R236). -/
def execH2i (c : Fin 256) (s : State) : Result := .next (s.whenUp fun s => s.chStart c 1 none)

/-- A fetched I2H descriptor begins (R220, R243); `ue` is the offset of an uncorrectable internal error, if one is met. -/
def execI2h (c : Fin 256) (ue : Option Nat) (s : State) : Result := .next (s.whenUp fun s => s.chStart c 2 ue)

/-- A fetched FILL_H descriptor begins (R236). -/
def execFillH (c : Fin 256) (s : State) : Result := .next (s.whenUp fun s => s.chStart c 3 none)

/-- A fetched FILL_I descriptor begins (R236). -/
def execFillI (c : Fin 256) (s : State) : Result := .next (s.whenUp fun s => s.chStart c 4 none)

/-- A fetched COMPARE descriptor begins (R236, R243); `ue` as for I2H. -/
def execCompare (c : Fin 256) (ue : Option Nat) (s : State) : Result := .next (s.whenUp fun s => s.chStart c 5 ue)

/-- A fetched LINK descriptor is followed, or halts the channel (R240). -/
def execLink (c : Fin 256) (s : State) : Result := .next (s.whenUp fun s => s.chStart c 6 none)

/-- A fetched NOP descriptor begins (R220). -/
def execNop (c : Fin 256) (s : State) : Result := .next (s.whenUp fun s => s.chStart c 7 none)

/-- DESCRIPTOR_DONE (R221). -/
def execDescriptorDone (c : Fin 256) (s : State) : Result := .next (s.whenUp fun s => s.chDone c)

/-- PAUSE: a write of DMA_CH_CTRL with PAUSE (R244). -/
def execPause (path : Path) (c : Fin 256) (v : Word) (s : State) : Result :=
  .next (s.guarded path (A.DMA_CH_CTRL c) false fun s => s.chWrite c fun s => s.chCtrl c (v ||| 1#32))

/-- DMA_PAUSED (R244). -/
def execDmaPaused (c : Fin 256) (s : State) : Result := .next (s.whenUp fun s => s.chPausedNow c)

/-- RESUME: a write of DMA_CH_CTRL with RESUME (R244). -/
def execResume (path : Path) (c : Fin 256) (v : Word) (s : State) : Result :=
  .next (s.guarded path (A.DMA_CH_CTRL c) false fun s => s.chWrite c fun s => s.chCtrl c (v ||| 2#32))

/-- ABORT: a write of DMA_CH_CTRL with ABORT (R245). -/
def execAbort (path : Path) (c : Fin 256) (v : Word) (s : State) : Result :=
  .next (s.guarded path (A.DMA_CH_CTRL c) false fun s => s.chWrite c fun s => s.chCtrl c (v ||| 4#32))

/-- REQ: a write of DMA_CH_CTRL with REQ (R247). -/
def execReq (path : Path) (c : Fin 256) (v : Word) (s : State) : Result :=
  .next (s.guarded path (A.DMA_CH_CTRL c) false fun s => s.chWrite c fun s => s.chCtrl c (v ||| 8#32))

/-- COMPLETION_RECEIVE (R267). -/
def execCompletionReceive (tag : Nat) (status : CplStatus) (data : List Byte) (poisoned : Bool) (s : State) : Result :=
  .next (s.whenUp fun s => s.completion tag status data poisoned)

/-- COMPLETION_TIMEOUT (R266). -/
def execCompletionTimeout (tag : Nat) (s : State) : Result := .next (s.whenUp fun s => s.completionTimeout tag)

end Sys2Proof.Machine
end

