-- ==== Sys2Proof/Machine/Slices.lean ====
section
/-! DEFINITION. The slices at work (R144–R147, R164–R175): taking stored lines, producing ROI lines and statistics,
the end of a frame, and the live parameters. -/

namespace Sys2Proof.Machine

/-! ### The lines at hand -/

/-- The input line y as the slice has it; beyond the last stored line it is that line (R175). -/
def srcAt (ctx : List SrcLine) (y : Nat) : SrcLine :=
  (ctx.find? fun l => l.line == y).getD (ctx.getLastD ⟨y, [], 0, [], true⟩)

/-- The last line at hand. -/
def lastLine (ctx : List SrcLine) : Option Nat := ctx.getLast?.map (·.line)

/-- The substitute for missing line y (R175): REPEAT takes the nearest earlier stored line of its parity. -/
def substitute (black : Bool) (ctx : List SrcLine) (y : Nat) : SrcLine :=
  if black then ⟨y, [], 0, [], true⟩
  else match (ctx.filter fun l => !l.fill && l.line % 2 == y % 2).getLast? with
    | some l => ⟨y, l.data, l.flags, [], true⟩
    | none => ⟨y, [], 0, [], true⟩

/-- The substitutes for the lines between the last one at hand and line `y` (R175). -/
def fillTo (black : Bool) (y : Nat) : Nat → List SrcLine → List SrcLine
  | 0, ctx => ctx
  | fuel + 1, ctx =>
    let n := ((lastLine ctx).map (· + 1)).getD 0
    if n < y then fillTo black y fuel (ctx ++ [substitute black ctx n]) else ctx

/-- The stage 3 lines of a frame, with the lines beyond the last one at hand clamped to it. -/
def Geo.stored3 (g : Geo) (ctx : List SrcLine) (last : Nat) (y : Nat) : List Nat :=
  g.line3 (min y last) (srcAt ctx (min y last))

/-- The stage 7 lines of a frame, clamped alike. -/
def Geo.stored7 (g : Geo) (ctx : List SrcLine) (last : Nat) (y : Nat) : List Nat :=
  g.line7 (g.stored3 ctx last) (min y last)

/-! ### ROI lines -/

/-- The ROI entry at an index of a stream, if it is valid. -/
def State.roiAt (s : State) (i k : Nat) : Option Nat :=
  let roi := s.fld (F.SLC_STR_CFG1_ROI_BASE i) + k
  if k < s.fld (F.SLC_STR_CFG1_ROI_CNT i) && s.flag (F.ROI_CFG_VALID roi) then some roi else none

/-- The share of a split stream that produces scaled line Y (R189). -/
def bandOf (shares : List Nat) (Y : Nat) : Nat := shares.getD (Y / 64 % max 1 shares.length) 0

/-- The FLAGS that the emitting slice adds: SPARE and SUSPECT (R172). -/
def State.sliceFlags (s : State) (sl : Nat) : Nat :=
  (if s.flag (F.SLC_STAT_REPL sl) then 4 else 0) + if s.fld (F.SLC_STAT_STATE sl) = 3 then 32 else 0

/-- The FLAGS that input lines give an output line (R172): LATE, UNAUTH, NOTAG. -/
def inputFlags (ls : List SrcLine) : Nat :=
  (if ls.any fun l => l.flags.testBit 1 then 1 else 0) +
  (if ls.any fun l => l.flags.testBit 2 || l.flags.testBit 3 then 2 else 0) +
  (if ls.any fun l => l.flags.testBit 2 then 128 else 0)


/-- The FLAGS of the output line at scaled line Y (R172), of `w` pixels from scaled column `x0` on. -/
def State.lineFlags (s : State) (f : FrameRec) (g : Geo) (last Y x0 w : Nat) : Nat :=
  let ys := g.drawn last Y
  let ls := ys.map fun y => srcAt f.ctx y
  let fill := ls.any (·.fill) || (g.draws Y).any fun y => decide (last < y)
  let dovf := ys.any fun y => g.staticOvf y || g.dynOvf (g.stored3 f.ctx last) y
  inputFlags ls ||| (if s.herdClosed f.herd then 1 else 0) ||| s.sliceFlags (bandOf f.shares Y) |||
    (if dovf then 8 else 0) ||| (if fill then 16 else 0) ||| (if g.poisoned last Y x0 w then 64 else 0)

/-- The form of a ROI's lines on a trunk (R193). -/
def State.roiForm (s : State) (roi dt : Nat) : RouteForm :=
  let pack := s.fld (F.ROI_CFG_PACK roi)
  ⟨if pack = 5 then dt else if pack = 4 then 0x2E else packDt pack, s.fld (F.ROI_SIZE_W roi), s.fld (F.ROI_SIZE_H roi)⟩

/-- Add a ROI line to its statistics (R167); a line with FILL adds its flags alone. -/
def StatAcc.add (a : StatAcc) (bits w h L : Nat) (flags : Nat) (px : List Nat) : StatAcc :=
  let a := { a with flags := a.flags ||| flags }
  if flags.testBit 4 then a
  else
    let row := (16 * (L + 1) - 1) / max 1 h
    ((List.range px.length).zip px).foldl (fun a c =>
      let ph := cfaPhase c.1 L
      let z := row * 16 + (16 * (c.1 + 1) - 1) / max 1 w
      let inc := fun (t : Tbl Nat) k n => tblSet zeroN t k (tblGet zeroN t k + n)
      { a with hist := inc a.hist (ph * 256 + c.2 / 2 ^ (bits - 8)) 1
               zsum := inc a.zsum z c.2
               zcnt := inc a.zcnt z 1
               phase := inc a.phase ph 1 }) a

/-- Statistics with nothing counted. -/
def statReset : Nat → StatAcc := fun _ => ⟨[], [], [], [], 0⟩

/-- Lines 0 and 1 of a statistics frame (R168). -/
def StatAcc.line0 (a : StatAcc) : List Byte := (List.range 1024).flatMap fun k => leBytes 4 (tblGet zeroN a.hist k)
def StatAcc.line1 (a : StatAcc) : List Byte :=
  ((List.range 256).flatMap fun z =>
    let n := tblGet zeroN a.zcnt z
    leBytes 2 (if n = 0 then 0 else (2 * tblGet zeroN a.zsum z + n) / (2 * n))) ++
  ((List.range 4).flatMap fun c => leBytes 4 (tblGet zeroN a.phase c)) ++ List.replicate 16 0#8

/-- Replace a frame of a stream. -/
def State.setFrame (s : State) (i : Nat) (f : FrameRec) : State := s.setStr i ((s.str i).setFrame f)

/-- The frame with a number, as it stands. -/
def State.frame (s : State) (i fid : Nat) : Option FrameRec := (s.str i).frameOf fid

/-- Emit the statistics frame of a ROI (R168). -/
def State.emitStats (s : State) (i k roi : Nat) (f : FrameRec) : State :=
  let a := tblGet statReset f.stats k
  let l : OutLine := ⟨s.fld (F.ROI_CFG_S_OSID roi), i, f.id, roi, f.herd, f.sub, f.frame, 0, 2, a.flags, f.sofTs, [],
    a.line0⟩
  let s := s.setFrame i { f with statSent := setIns k f.statSent }
  let s := s.emitLine l ⟨0x2A, 4096, 2⟩ l.payload
  s.emitLine { l with line := 1, payload := a.line1 } ⟨0x2A, 4096, 2⟩ a.line1

/-- An input line of a frame is read, by the slices that `by'` picks: the audit's target counts it (R199). -/
def State.auditRead (s : State) (i fid line : Nat) (by' : Nat → Bool) : State :=
  match s.plc.audit with
  | none => s
  | some a =>
    if !by' a.target then s
    else
      let new := decide (a.ordinal ≤ a.reads) && !a.firsts.any fun c => c.1 == i && c.2.1 == fid
      { s with plc := { s.plc with audit := some { a with
        reads := a.reads + 1, firsts := if new then (i, fid, line) :: a.firsts else a.firsts } } }

/-- Slice `sl` emits line L of a frame, whose window begins at input line `lo`: the first that begins late enough is audited
(R199). -/
def State.auditEmit (s : State) (i fid L sl lo : Nat) : State :=
  match s.plc.audit with
  | none => s
  | some a =>
    if a.target = sl && a.line.isNone && a.firsts.any fun c => c.1 == i && c.2.1 == fid && decide (c.2.2 ≤ lo) then
      { s with plc := { s.plc with audit := some { a with line := some (i, L) } } }
    else s

/-- Whether slice t reads line y of a frame (R147, R189). -/
def FrameRec.readBy (f : FrameRec) (g : Geo) (y t : Nat) : Bool :=
  ((List.range f.shares.length).zip f.shares).any fun c => c.2 == t && g.shareReads f.shares.length c.1 y

/-- Compute and emit ROI line L, which is scaled line Y (R165–R173). -/
def State.emitRoiLine (s : State) (i k roi L Y : Nat) (f : FrameRec) (g : Geo) (last : Nat) : State :=
  let pack := s.fld (F.ROI_CFG_PACK roi)
  let w := s.fld (F.ROI_SIZE_W roi)
  let h := s.fld (F.ROI_SIZE_H roi)
  let x0 := (f.live.rois.getD k (0, 0)).1
  let flags := s.lineFlags f g last Y x0 w
  let src := srcAt f.ctx (min Y last)
  let px := if pack = 5 then [] else ((g.line8 (g.stored7 f.ctx last) Y).drop x0).take w
  let data := if pack = 5 then (if src.data.isEmpty then List.replicate (lineBytes g.dt g.width) 0#8 else src.data)
    else packLine pack px
  let l : OutLine := ⟨s.fld (F.ROI_CFG_OSID roi), i, f.id, roi, f.herd, f.sub, f.frame, L, 0, flags, f.sofTs,
    if pack = 5 then src.tag else [], padTo (pad32 data.length) data⟩
  let st := s.flag (F.ROI_CFG_STATS_EN roi)
  let stats := if st then tblPut f.stats k (some ((tblGet statReset f.stats k).add g.bits w h L flags px)) else f.stats
  let f := { f with emitted := tblSet zeroN f.emitted k (L + 1), stats := stats }
  let s := ((s.setFrame i f).emitLine l (s.roiForm roi g.dt) data).auditEmit i f.id L (bandOf f.shares Y) (g.window Y).1
  let s := if flags.testBit 6 then s.count31 (A.SLC_STR_POISON_CNT i) 1 else s
  if st && L + 1 == h then
    match s.frame i f.id with
    | some f => s.emitStats i k roi f
    | none => s
  else s

/-- Emit a ROI's next lines while their windows are at hand; at the frame's tail those that begin at a stored line, the others
before the last of these being left out (R164, R175). -/
def State.emitRoi (i k roi fid : Nat) (tail : Bool) : Nat → State → State
  | 0, s => s
  | fuel + 1, s =>
    match s.frame i fid with
    | none => s
    | some f => match lastLine f.ctx with
      | none => s
      | some last =>
        let g := s.geoOf i f.live
        let L := tblGet zeroN f.emitted k
        let Y := (f.live.rois.getD k (0, 0)).2 + L
        let h := s.fld (F.ROI_SIZE_H roi)
        let begins := fun (Y : Nat) => decide ((g.window Y).1 ≤ last)
        if L < h && (if tail then begins Y else decide (g.needs Y ≤ last)) then
          State.emitRoi i k roi fid tail fuel (s.emitRoiLine i k roi L Y f g last)
        else if tail && (List.range (h - L)).any fun d => begins (Y + d) then
          State.emitRoi i k roi fid tail fuel
            (s.setFrame i ({ f with emitted := tblSet zeroN f.emitted k (L + 1) }.skip (s.fld (F.ROI_CFG_OSID roi))))
        else s

/-- Emit what the lines at hand allow, ROI by ROI. -/
def State.emitReady (s : State) (i fid : Nat) (tail : Bool) : State :=
  (List.range 16).foldl (fun s k => match s.roiAt i k with
    | some roi => State.emitRoi i k roi fid tail (s.fld (F.ROI_SIZE_H roi) + 1) s
    | none => s) s

/-! ### Counts -/

/-- Count an input line on the slices that process it (R146). -/
def State.countSlices (s : State) (f : FrameRec) (g : Geo) (y : Nat) : State :=
  let j := f.shares.length
  ((List.range j).zip f.shares).foldl (fun s c =>
    if g.shareReads j c.1 y then (s.count48 (A.SLC_LINES_LO c.2) 1).count48 (A.SLC_CYC_LO c.2) (lineCycles g.width)
    else s) s

/-- Count dynamic replacements, and lines over the defect limits, of the input lines whose stage 4 can be computed
(R157, R158). -/
def State.countStage4 (s : State) (i fid : Nat) (tail : Bool) : State :=
  match s.frame i fid with
  | none => s
  | some f => match lastLine f.ctx with
    | none => s
    | some last =>
      let g := s.geoOf i f.live
      if !g.stage4 then s
      else
        let upto := if tail then last + 1 else last + 1 - g.reach
        let s := (List.range (upto - f.s4)).foldl (fun s d =>
          let y := f.s4 + d
          let l3 := g.stored3 f.ctx last
          let s := s.count48 (A.SLC_STR_DYN_CNT_LO i) (min 512 (g.dynHits (g.line4s l3) y).length)
          if g.staticOvf y || g.dynOvf l3 y then s.count31 (A.SLC_STR_DOVF_CNT i) 1 else s) s
        s.setFrame i { f with s4 := max f.s4 upto }

/-! ### The end of a frame -/

/-- Send the EOF of a frame on each trunk slot it went out of (R114). -/
def State.routeEnds (s : State) (i : Nat) (f : FrameRec) : State :=
  f.routed.foldl (fun s osid => match s.outPlace osid f.herd with
    | none => s
    | some o => match o.slot with
      | none => s
      | some slot =>
        let made := if o.form.stats then 2 else tblGet zeroN f.emitted (s.roiIndex i o.form.roi)
        let sent := made - tblGet zeroN f.unsent osid
        let due := if o.form.stats then 2 else o.form.h
        s.trunkEof o.trk slot f.frame sent (decide (sent < due)) f.bad) s

/-- A frame that has ended and whose stored lines are all taken is finished: its tail lines, its statistics, its end on
a trunk (R168, R175). -/
def State.finishFrame (s : State) (i fid : Nat) : State :=
  let s := (s.emitReady i fid true).countStage4 i fid true
  let s := (List.range 16).foldl (fun s k => match s.roiAt i k, s.frame i fid with
    | some roi, some f => if s.flag (F.ROI_CFG_STATS_EN roi) && !(k ∈ f.statSent) then s.emitStats i k roi f else s
    | _, _ => s) s
  match s.frame i fid with
  | some f => (s.routeEnds i f).setFrame i { f with done := true }
  | none => s

/-- Whether a queue still holds an unread line of a frame. -/
def QueueSt.unreadOf (q : QueueSt) (fid : Nat) : Bool :=
  q.lines.any fun l => l.fid == fid && decide (q.r ≤ l.pos) && !l.lost

/-- A slice becomes RETIRED (R200, R201, R413): one that returned less than 86,400 operating seconds ago is locked out of
service (R414). -/
def State.retireSlice (s : State) (sl : Nat) : State :=
  let s := (s.setFld (F.SLC_STAT_STATE sl) 4).setFld (F.SLC_SVC_STAT_STATE sl) 0
  match tblOpt s.plc.returned sl with
  | some t =>
    let s : State := { s with plc := { s.plc with returned := tblPut s.plc.returned sl none } }
    if s.led.opsec < t + 86400 then s.setFlag (F.SLC_SVC_STAT_LOCK sl) true else s
  | none => s

/-- A slice that a placement has retired becomes RETIRED once its last stream has moved and its last old line is out
(R201). -/
def State.settleLeaving (s : State) : State :=
  s.plc.leaving.foldl (fun s sl =>
    let moving := s.plc.force.ins.any fun c => (c.2.moving.getD []).contains sl
    let old := s.data.str.any fun c => c.2.frames.any fun f => !f.done && f.shares.contains sl
    if moving || old then s
    else
      let s := s.retireSlice sl
      let s := if s.fld F.PLC_AUDIT_STAT_SUSPECT = sl then
          ((s.setFld F.PLC_AUDIT_STAT_SUSPECT 0x3F).setFld F.PLC_AUDIT_STAT_RAISED_BY 0x3F) else s
      { s with plc := { s.plc with
          leaving := s.plc.leaving.filter (· != sl)
          suspect := s.plc.suspect.filter fun x => x.1 != sl } }) s

/-- Finish every frame of a stream that can be finished, then close the herds that are complete. -/
def State.settleFrames (s : State) (i : Nat) : State :=
  let x := s.str i
  let fs := x.frames.filter fun f => f.ended && !f.done && !x.q.unreadOf f.id
  (fs.foldl (fun s f => s.finishFrame i f.id) s).closeRings.settleLeaving.settleHerds

/-! ### Taking a line -/

/-- An embedded line goes to the stream's EMB_ROI, or is discarded (R170). -/
def State.emitEmbedded (s : State) (i : Nat) (f : FrameRec) (l : QLine) : State :=
  if !s.flag (F.SLC_STR_CFG1_EMB_OUT i) then s
  else match s.roiAt i (s.fld (F.SLC_STR_CFG1_EMB_ROI i)) with
    | none => s
    | some roi =>
      let src : SrcLine := ⟨l.line, l.data, l.flags, l.tag, false⟩
      let e := pad32 (lineBytes (s.fld (F.ING_ENT0_DT i)) (s.fld (F.ING_ENT1_WIDTH i)))
      let flags := inputFlags [src] ||| (if s.herdClosed f.herd then 1 else 0) ||| s.sliceFlags (f.shares.headD 0)
      let tag := if s.fld (F.ROI_CFG_PACK roi) = 5 then l.tag else []
      s.emitLine ⟨s.fld (F.ROI_CFG_OSID roi), i, f.id, roi, f.herd, f.sub, f.frame, l.line, 1, flags, f.sofTs, tag,
        padTo e l.data⟩ (s.roiForm roi (s.fld (F.ING_ENT0_DT i))) l.data

/-- A pixel line enters the frame's context, after the substitutes for lines that never came (R175). -/
def State.takePixels (s : State) (i : Nat) (f : FrameRec) (l : QLine) : State :=
  let g := s.geoOf i f.live
  let ctx := fillTo g.fillBlack l.line (l.line + 1) f.ctx
  let fills := ctx.length - f.ctx.length
  let f' := { f with ctx := ctx ++ [⟨l.line, l.data, l.flags, l.tag, false⟩] }
  let new := f'.ctx.drop f.ctx.length
  let s := (s.setFrame i f').count31 (A.SLC_STR_FILL_CNT i) fills
  let s := (new.foldl (fun s n => s.countSlices f g n.line) s).auditRead i f.id l.line (f.readBy g l.line)
  (s.emitReady i f.id false).countStage4 i f.id false

/-- The stream, of those that share a slice with stream i, whose unread line is of the oldest herd (R24); stream i
itself where none is older. -/
def State.pickStream (s : State) (i : Nat) : Nat :=
  let head := fun j => (s.str j).q.unread
  let shares := fun j => (((head j).bind fun l => s.frame j l.fid).map (·.shares)).getD []
  (s.data.str.foldl (fun best c =>
    match head c.1, head best with
    | some a, some b => if a.herd < b.herd && (shares c.1).any (· ∈ shares i) then c.1 else best
    | _, _ => best) i)

/-- A slice takes the oldest unread line of a stream (R135, R137, R141). -/
def State.readLine (s : State) (i fixed : Nat) (lost : Bool) : State :=
  let s := s.count31 A.LST_CE_CNT fixed
  let x := s.str i
  match x.q.unread with
  | none => s
  | some l =>
    if lost || l.ue then (s.uncorrectable i l.pos).settleFrames i
    else
      let s := (s.setStr i { x with q := x.q.ptrs x.q.w l.next x.q.k }).settleQueue i
      let s := match s.frame i l.fid with
        | none => s
        | some f =>
          if f.done || f.shares.isEmpty then s
          else if l.flags % 2 = 1 then
            (s.auditRead i f.id (((lastLine f.ctx).map (· + 1)).getD 0) fun t => t == f.shares.headD 0).emitEmbedded i f l
          else s.takePixels i f l
      s.settleFrames i

/-! ### Live parameters (R166, R174) -/

/-- A write of SLC_STR_LIVE: TSEL is staged, COMMIT sets PEND, TREJ is write-1-to-clear (R174). -/
def State.liveWrite (s : State) (i : Nat) (v : Word) : State :=
  let s := s.plainWrite (A.SLC_STR_LIVE i) v
  if bitOn v 1 then s.setFlag (F.SLC_STR_LIVE_PEND i) true else s

/-- The stream a ROI entry belongs to. -/
def State.roiStream (s : State) (roi : Nat) : Option Nat :=
  s.isids.find? fun i =>
    decide (s.fld (F.SLC_STR_CFG1_ROI_BASE i) ≤ roi) &&
      decide (roi < s.fld (F.SLC_STR_CFG1_ROI_BASE i) + s.fld (F.SLC_STR_CFG1_ROI_CNT i))

/-- Whether a ROI at (x, y) meets the alignment and fit of R165; an entry of no stream has no scaled frame to fit. -/
def State.roiFits (s : State) (roi x y : Nat) : Bool :=
  x % 2 == 0 && y % 2 == 0 && match s.roiStream roi with
    | none => true
    | some i =>
      let g := s.geoOf i ⟨[], 0, []⟩
      decide (x + s.fld (F.ROI_SIZE_W roi) ≤ g.outW) && decide (y + s.fld (F.ROI_SIZE_H roi) ≤ g.outH)

/-- A write of ROI_POS: staged, or rejected (R166). -/
def State.roiPos (s : State) (roi : Nat) (v : Word) : State :=
  if s.roiFits roi (fldGet v 0 15) (fldGet v 16 15) then s.plainWrite (A.ROI_POS roi) v
  else s.setFlag (F.ROI_STAT_POS_REJ roi) true

/-- Apply the staged live parameters of a stream at its SOF (R174). -/
def State.applyLive (s : State) (i : Nat) : State :=
  if !s.flag (F.SLC_STR_LIVE_PEND i) then s
  else
    let s := s.setFlag (F.SLC_STR_LIVE_PEND i) false
    let x := s.str i
    let s := s.setStr i { x with gains := s.stagedGains i, commits := x.commits + 1 }
    let s := (s.rois i).foldl (fun s r => s.setReg (A.ROI_CUR r) (s.reg (A.ROI_POS r))) s
    let sel := s.fld (F.SLC_STR_LIVE_TSEL i)
    if sel = s.fld (F.SLC_STR_LIVE_TSEL_CUR i) then s
    else if s.setReadable i sel then s.setFld (F.SLC_STR_LIVE_TSEL_CUR i) sel
    else (s.setFlag (F.SLC_STR_LIVE_TREJ i) true).log 174 i []

/-- The live parameters in force of a stream. -/
def State.liveNow (s : State) (i : Nat) : Live :=
  ⟨(s.str i).gains, s.fld (F.SLC_STR_LIVE_TSEL_CUR i),
   (s.rois i).map fun r => (s.fld (F.ROI_CUR_X r), s.fld (F.ROI_CUR_Y r))⟩

/-! ### Commands -/

/-- SLICE_LINE_READ (R144): the slice that holds stream `isid` takes its next line, the oldest herd's first (R24).
`fixed` counts the ECC corrections of the read, `lost` says that it met an uncorrectable error (R141). -/
def execSliceLineRead (isid : Fin 1024) (fixed : Nat) (lost : Bool) (s : State) : Result :=
  .next (s.whenUp fun s =>
    let i := s.pickStream isid
    s.onQueue i fun s => s.readLine i fixed lost)

/-- SLC_STR_LIVE_COMMIT (R174). -/
def execSlcStrLiveCommit (path : Path) (isid : Fin 1024) (v : Word) (s : State) : Result :=
  .next (s.guarded path (A.SLC_STR_LIVE isid) false fun s => s.liveWrite isid (v ||| 2#32))

/-- ROI_POS_WRITE (R166). -/
def execRoiPosWrite (path : Path) (roi : Fin 4096) (v : Word) (s : State) : Result :=
  .next (s.guarded path (A.ROI_POS roi) false fun s => s.roiPos roi v)

end Sys2Proof.Machine
end

