-- ==== Sys2Proof/Machine/Ingress.lean ====
section
/-! DEFINITION. Ingress (R112, R113, R121–R131, R342–R345): SOF and EOF, containers and their checks, the assembly of
lines, tag verdicts, and the store. -/

namespace Sys2Proof.Machine

/-! ### Whose block it is -/

/-- Where a hub end keeps the chain it has discovered: a trunk port at its lowest enabled lane (log entry 163). -/
def State.chainPort (s : State) (p : Nat) : Nat :=
  if isLane p then (((List.range 4).map fun l => laneOf (laneTrunk p) l).find? s.portOn).getD p else p

/-- The position on a port to which an NA is assigned, if it is (R112): the virtual nodes behind a trunk have the NAs that
ASSIGN gave them (log entry 163). -/
def State.naPos (s : State) (p na : Nat) : Option Nat :=
  if isLane p then
    let q := s.chainPort p
    ((s.port q).nas.find? fun c => c.2.1 == na && decide (c.1 < s.fld (F.TRL_BRUP_STAT_NODES q))).map (·.1)
  else if na < 512 ∧ na / 8 = p ∧ s.flag (F.NODE_ENT_PRESENT na) then some (na % 8) else none

/-- The NA assigned to a position of a port, if one is. -/
def State.naAt (s : State) (p pos : Nat) : Option Nat :=
  if isLane p then
    let q := s.chainPort p
    if pos < s.fld (F.TRL_BRUP_STAT_NODES q) then (tblOpt (s.port q).nas pos).map (·.1) else none
  else if s.flag (F.NODE_ENT_PRESENT (nodeAddr p pos)) then some (nodeAddr p pos) else none

/-- The trunk port in the hub-end role that has given an NA to a virtual node behind it (log entry 163). -/
def State.trunkOf (s : State) (na : Nat) : Option Nat :=
  (List.range 4).find? fun t =>
    let q := s.chainPort (laneOf t 0)
    s.portOn q && !s.sensorEnd q && (s.naPos q na).isSome

/-- Whether the virtual node of an NA may join: its chain is UP, and its trunk's session established (R104, R336). -/
def State.trunkNode (s : State) (na : Nat) : Bool :=
  match s.trunkOf na with
  | some t => s.fld (F.TRL_BRUP_STAT_STATE (s.chainPort (laneOf t 0))) == 4 && s.fld (F.SEC_NODE_STAT_STATE (512 + t)) == 2
  | none => false

/-- Count in a NODE counter; the virtual nodes behind a trunk have no NODE entries (log entry 19). -/
def State.countNode (s : State) (p a : Nat) : State := if isLane p then s else s.count31 a 1

/-- The session of a node of a port: its own, or a trunk port's (R336). -/
def sessIx (p na : Nat) : Nat := if isLane p then 512 + laneTrunk p else na

/-- The valid entry for an NA and VC (R121). -/
def State.entryOf (s : State) (na vc : Nat) : Option Nat :=
  s.isids.find? fun i => s.fld (F.ING_ENT0_NA i) == na && s.fld (F.ING_ENT0_VC i) == vc

/-- The stream of a block from position `pos` of a port, or a count in TRL_HCRC_ERR (R112, R455). -/
def State.withStream (s : State) (p pos vc : Nat) (act : Nat → State → State) : State :=
  match (s.naAt p pos).bind fun na => s.entryOf na vc with
  | some i => act i s
  | none => s.count31 (A.TRL_HCRC_ERR p) 1

/-- Do `act` on an enabled port in the hub-end role. -/
def State.asHub (s : State) (p : Nat) (act : State → State) : State :=
  if s.up && s.portOn p && !s.sensorEnd p then act s else s

/-! ### Incomplete lines (R129) -/

/-- A line is incomplete: discarded whole and counted once. -/
def State.lineBad (s : State) (i frame line dt : Nat) : State :=
  let x := s.str i
  let id := (frame, line, dt == 0x12)
  let s := s.setStr i { x with asm := none, badLines := if id ∈ x.badLines then x.badLines else id :: x.badLines }
  if id ∈ x.badLines then s else s.count31 (A.ING_LINE_DROP i) 1

/-- Give up the line in assembly, if there is one. -/
def State.dropAsm (s : State) (i : Nat) : State :=
  match (s.str i).asm with
  | some a => s.lineBad i a.frame a.line a.dt
  | none => s

/-! ### SOF (R125–R127) -/

/-- Excess data: discarded, counted, one event per stream until the counter is read (R18). -/
def State.overrun (s : State) (i : Nat) : State := (s.count31 (A.ING_OVERRUN i) 1).logOnce 18 i [] (A.ING_OVERRUN i)

/-- Frames of a stream accepted for herd n. -/
def StreamSt.countOf (x : StreamSt) (n : Nat) : Nat := ((x.counts.find? fun c => c.1 == n).map (·.2)).getD 0

/-- Note a frame accepted for herd n; the last eight herds are kept. -/
def StreamSt.addCount (x : StreamSt) (n : Nat) : StreamSt :=
  { x with counts := ((n, x.countOf n + 1) :: x.counts.filter fun c => c.1 != n).take 8 }

/-- SOF_TS of an SOF that crossed the boundary at `t` (R127). -/
def State.sofTs (s : State) (i t : Nat) (res : Nat) : Nat :=
  unsigned 48 ((t : Int) - signed 32 res - signed 32 (s.reg (A.ING_ENT2 i)).toNat)

/-- An SOF fails a test: the frame's containers are discarded until the next SOF (R125). -/
def State.rejectSof (s : State) (i frame : Nat) : State :=
  s.setStr i { s.str i with rejected := some frame, mute := false }

/-- The streams whose lines are checked under a session: of its node, or of the nodes behind its trunk port. -/
def State.sessStreams (s : State) (ses : Nat) : List Nat :=
  s.isids.filter fun j =>
    if ses < 512 then s.fld (F.ING_ENT0_NA j) == ses else (s.naPos (laneOf (ses - 512) 0) (s.fld (F.ING_ENT0_NA j))).isSome

/-- A session puts its new key to use on a stream; once all its streams have, the old key is dropped (R340). -/
def State.keySwitch (s : State) (ses i : Nat) : State :=
  match tblOpt s.link.sess ses with
  | none => s
  | some x =>
    let sw := setIns i x.switched
    s.setSess ses { x with switched := sw, old := if (s.sessStreams ses).all (· ∈ sw) then [] else x.old }

/-- A stream starts on the slices placed for it (R190). -/
def State.adoptMove (s : State) (i : Nat) : State :=
  match tblOpt s.plc.force.ins i with
  | some p =>
    let s : State := { s with plc := { s.plc with force := { s.plc.force with
      ins := tblPut s.plc.force.ins i (some { p with moving := none }) } } }
    s.setFlag (F.PLC_ISID_MAP_HI_MOVE_PEND i) false
  | none => s

/-- An accepted SOF begins a frame of herd n (R125, R174, R190). -/
def State.acceptSof (s : State) (ses i n : Nat) (b : SofBlock) : State :=
  let s := ((s.ringAtSof i).flushAtSof i).dropAsm i
  let s := ((s.endFrame i false).applyLive i).adoptMove i
  let ts := s.sofTs i (st48 (s.now - b.age)) b.res.toNat
  let x := s.str i
  let f : FrameRec :=
    { id := x.nextId, frame := b.frame.toNat, ses := ses, key := (s.sess ses).key, herd := n, sub := x.countOf n, sofTs := ts,
      live := s.liveNow i, commits := x.commits,
      shares := ((tblOpt s.plc.force.ins i).map (·.shares)).getD [],
      first := x.q.w, last := none, stored := 0, lastEmb := none, embs := 0, cut := false, ended := false, bad := false,
      inTime := s.herdOpen n, retained := false, failed := [], lastFailed := [], ctx := [], emitted := [], stats := [], statSent := [],
      s4 := 0, routed := [], unsent := [], done := false }
  let s := s.setStr i { x.addCount n with
    nextId := x.nextId + 1, frames := x.frames ++ [f], rejected := none, mute := false, badLines := [] }
  let s := (s.setPair (A.ING_SOF_TS_LO i) 16 ts).setReg (A.ING_LAST_FRAME i) b.frame
  ((s.setPair (A.ING_LAST_HERD_LO i) 16 n).keySwitch ses i).settleFrames i

/-- The tests of an SOF on port p, in order (R125). A stream whose queue has no pages is not open (R191). The virtual nodes
behind a trunk, whose delays no register holds, are not asked for a VALID one (log entry 193). -/
def State.takeSof (s : State) (p i : Nat) (b : SofBlock) : State :=
  let na := s.fld (F.ING_ENT0_NA i)
  let bad := (s.rejectSof i b.frame.toNat).count31 (A.ING_FMT_ERR i) 1
  if !isLane p && !s.flag (F.TIME_NODE_DLY_VALID na) then bad
  else if b.width.toNat ≠ s.fld (F.ING_ENT1_WIDTH i) ∨ b.lines.toNat ≠ s.strLines i then bad
  else match s.matchHerd b.herd.toNat with
    | none => bad
    | some n =>
      let open' := !(s.str i).q.ring.isEmpty || s.ringFree i
      if s.memberOf i n && open' && decide ((s.str i).countOf n < (s.streamRatio i).frames) then s.acceptSof (sessIx p na) i n b
      else (s.rejectSof i b.frame.toNat).overrun i

/-! ### EOF (R131) -/

/-- An EOF of the stream: it ends the open frame it names. -/
def State.takeEof (s : State) (i : Nat) (b : EofBlock) : State :=
  let x := s.str i
  if x.rejected = some b.frame.toNat then s
  else match x.openFrame with
    | some f =>
      if f.frame = b.frame.toNat then
        ((s.dropAsm i).endFrame i (b.trunc || b.sensorErr || decide (b.linesSent.toNat < s.strLines i))).settleFrames i
      else s.count31 (A.ING_FMT_ERR i) 1
    | none => s.count31 (A.ING_FMT_ERR i) 1

/-- ERR SENSOR: the open frame ends incomplete, and containers are discarded until the next SOF (R118). -/
def State.sensorErr (s : State) (i : Nat) : State :=
  let s := s.setStr i { s.str i with mute := true }
  ((s.dropAsm i).endFrame i true).settleFrames i

/-! ### Tag verdicts (R344) -/

/-- The verdict of a line: pass, TAG_NONE, TAG_FAIL. -/
inductive Verdict where
  | pass
  | none'
  | fail
  deriving DecidableEq, Repr

/-- A complete line: its name, what it carries, its tag if it has one. -/
structure LineIn where
  port : Nat
  name : LineName
  data : List Byte
  tag : Option (List Byte)
  segIdx : Nat
  backlog : Bool
  age : Nat

/-- The key a line of the open frame is checked with (R340): the one in force at its SOF, while the session still holds
it. -/
def State.lineKey (s : State) (f : FrameRec) : List Byte :=
  let x := s.sess f.ses
  if f.key = x.key ∨ f.key = x.old then f.key else []

/-- The frames of a stream that had a line pass under the session of a frame's key, newest first (R344): a new session begins
none, while frames under the old key go on with the old one's (R340). -/
def State.passedOf (s : State) (i : Nat) (f : FrameRec) : List (Nat × Nat) :=
  let x := s.sess f.ses
  tblGet (fun _ => []) (if f.key = x.key then x.passed else x.oldPassed) i

/-- The replay test of a frame (R344): FRAME is ahead of that of the most recent earlier frame with a passed line. -/
def freshFrame (f : FrameRec) (l : List (Nat × Nat)) : Bool :=
  match l.find? fun c => c.1 != f.id with
  | some c => decide (0 < signed 32 (unsigned 32 ((f.frame : Int) - c.2)))
  | none => true

/-- The verdict of a line placed in the open frame (R342–R344). -/
def State.verdict (s : State) (i : Nat) (f : FrameRec) (l : LineIn) : Verdict :=
  match l.tag with
  | none => .none'
  | some tag =>
    let key := s.lineKey f
    if key.isEmpty || l.backlog then .fail
    else if tag ≠ lineTag key l.name.na i l.name.frame l.name.line l.name.dt l.name.vc l.segIdx (l.name.dt == 0x12) l.data
      then .fail
    else if l.name.frame ≠ f.frame then .fail
    else if freshFrame f (s.passedOf i f) then .pass
    else .fail

/-- What a verdict does to the node's session and counters (R343, R344). -/
def State.noteVerdict (s : State) (i : Nat) (f : FrameRec) (l : LineIn) (v : Verdict) : State :=
  let n := f.ses
  match v with
  | .pass =>
    let x := s.sess n
    let old := s.passedOf i f
    let new := if (old.head?.map (·.1)) = some f.id then old else (f.id, f.frame) :: old.take 1
    let put := fun t => tblSet (fun _ => []) t i new
    s.setSess n (if f.key = x.key then { x with fails := 0, passed := put x.passed } else { x with fails := 0, oldPassed := put x.oldPassed })
  | .none' => if (tblOpt s.link.sess n).isSome then s.setSess n { s.sess n with fails := 0 } else s
  | .fail =>
    let s := s.count31 (A.SEC_NODE_TFAIL n) 1
    let s := if l.backlog && !(s.lineKey f).isEmpty then s.count31 A.SEC_VFY_BACKLOG 1 else s
    let x := s.sess n
    if x.key.isEmpty then s
    else
      let s := s.setSess n { x with fails := x.fails + 1 }
      let lim := s.fld F.SEC_SESS_CFG_FAIL_LIM
      if lim ≠ 0 ∧ lim ≤ x.fails + 1 then s.endSession n 11 else s

/-! ### Storing a line (R123, R130, R133, R345) -/

/-- FLAGS of a line record (R133). -/
def recordFlags (emb late : Bool) (v : Verdict) (first gap : Bool) : Nat :=
  (if emb then 1 else 0) + (if late then 2 else 0) + (if v = .none' then 4 else 0) + (if v = .fail then 8 else 0) +
    (if first then 16 else 0) + (if gap then 32 else 0)

/-- Whether R345 discards a line of this verdict. -/
def State.verdictDrops (s : State) (i : Nat) (v : Verdict) : Bool :=
  match v with
  | .pass => false
  | .none' => s.flag (F.SEC_STR_CFG_DROP_NONE i)
  | .fail => s.flag (F.SEC_STR_CFG_DROP_FAIL i)

/-- Note a stored line in its frame. -/
def FrameRec.addLine (f : FrameRec) (emb : Bool) (line pos : Nat) : FrameRec :=
  let f := if f.stored + f.embs = 0 then { f with first := pos } else f
  if emb then { f with lastEmb := some line, embs := f.embs + 1 } else { f with last := some line, stored := f.stored + 1 }

/-- Write a line to the stream's queue. -/
def State.store (s : State) (i : Nat) (f : FrameRec) (l : LineIn) (v : Verdict) : State :=
  let emb := l.name.dt == 0x12
  let late := s.herdClosed f.herd
  let gap := !emb && match f.last with | some n => decide (n + 1 < l.name.line) | none => decide (0 < l.name.line)
  let pos := (s.str i).q.w
  let rec' : QLine :=
    { pos := pos, fid := f.id, frame := l.name.frame, line := l.name.line, sofTs := f.sofTs,
      lineTs := st48 (s.now - l.age), herd := f.herd,
      flags := recordFlags emb late v (f.stored + f.embs == 0) gap, dt := l.name.dt, tag := l.tag.getD [], data := l.data,
      ue := false, lost := false }
  let (s, ok) := s.storeLine i rec'
  if !ok then s
  else
    let s := match s.frame i f.id with
      | some f => s.setFrame i (f.addLine emb l.name.line pos)
      | none => s
    let s := s.count48 (A.ING_LINES_LO i) 1
    if v = .pass then s else s.count31 (A.SEC_STR_UNAUTH i) 1

/-- A complete line, with its verdict: discarded under R345, R18, R123, R130 or R26, or stored. -/
def State.lineIn (s : State) (i : Nat) (f : FrameRec) (l : LineIn) : State :=
  let v := s.verdict i f l
  let s := s.noteVerdict i f l v
  let n := l.name.line
  let emb := l.name.dt == 0x12
  if emb && (!s.flag (F.ING_ENT0_EMB_EN i) || decide (16 ≤ n) || decide (16 ≤ f.embs)) then
    s.count31 (A.ING_OVERRUN i) 1
  else if s.verdictDrops i v then s.count31 (A.SEC_STR_DROP i) 1
  else if !emb && decide (s.strLines i ≤ n) then s.overrun i
  else if ((if emb then f.lastEmb else f.last).map fun k => decide (n ≤ k)).getD false then s.count31 (A.ING_LINE_DROP i) 1
  else if s.herdClosed f.herd && s.flag (F.ING_ENT0_LATE_POL i) then s.count31 (A.ING_LATE_DROP i) 1
  else s.onQueue i fun s => if (s.str i).mute then s else s.store i f l v

/-! ### Assembly (R129) -/

/-- A container that has passed R112. -/
structure Cont where
  first : Bool
  last : Bool
  name : LineName
  ofs : Nat
  payload : List Byte
  tag : Option (List Byte)

/-- SEG_LEN as assigned to a node of a camera port (R99). -/
def State.nodeSegLen (s : State) (na : Nat) : Nat :=
  let kib := s.fld (F.TRL_BRUP_CFG_SEG_KIB (na / 8))
  min (if kib = 0 ∨ kib > 16 then 16 else kib) (s.fld (F.NODE_CAPS2_SEG_MAX na)) * 1024

/-- SEG_LEN as assigned to an NA of a port (R99). -/
def State.segLenOf (s : State) (p na : Nat) : Nat :=
  if isLane p then (((s.port (s.chainPort p)).nas.find? fun c => c.2.1 == na).map (·.2.2)).getD 0 else s.nodeSegLen na

/-- A container joins the line in assembly, or begins one. -/
def State.assemble (s : State) (p i : Nat) (f : FrameRec) (c : Cont) (backlog : Bool) (age : Nat) : State :=
  let n := c.name
  let same := fun (a : LineAsm) => a.frame == n.frame && a.line == n.line && a.dt == n.dt
  let s := if (((s.str i).asm).map fun a => !same a || c.first).getD false then s.dropAsm i else s
  let start := (s.str i).asm.isNone && c.first && c.ofs == 0
  let base : Option LineAsm := if start then some ⟨n.frame, n.line, n.dt, [], false⟩ else (s.str i).asm
  match base with
  | none => s.lineBad i n.frame n.line n.dt
  | some a =>
    if a.data.length ≠ c.ofs then s.lineBad i n.frame n.line n.dt
    else
      let a := { a with data := a.data ++ c.payload, backlog := a.backlog || backlog }
      let total := lineBytes (s.fld (F.ING_ENT0_DT i)) (s.fld (F.ING_ENT1_WIDTH i))
      if !c.last then s.setStr i { s.str i with asm := some a }
      else if (if n.dt = 0x12 then a.data.length ≤ total else a.data.length = total) then
        (s.setStr i { s.str i with asm := none }).lineIn i f
          ⟨p, n, a.data, c.tag, c.ofs / max 1 (s.segLenOf p n.na), a.backlog, age⟩
      else s.lineBad i n.frame n.line n.dt

/-- A container of stream i on port p (R123, R125). -/
def State.ingest (s : State) (p i : Nat) (c : Cont) (backlog : Bool) (age : Nat) : State :=
  let x := s.str i
  let dt := c.name.dt
  if x.mute || x.rejected.isSome then s
  else match x.openFrame with
    | none => s.count31 (A.ING_FMT_ERR i) 1
    | some f =>
      if 8 ≤ dt ∧ dt < 16 ∧ c.first ∧ c.last ∧ c.payload.length = 2 ∧ c.tag.isNone then
        (s.setFld (F.ING_GSP_DATA i) (ofLe c.payload)).setFld (F.ING_GSP_DT i) dt
      else if dt = s.fld (F.ING_ENT0_DT i) ∨ dt = 0x12 then s.assemble p i f c backlog age
      else
        let s := s.count31 (A.ING_FMT_ERR i) 1
        if (x.asm.map fun a => a.frame == c.name.frame && a.line == c.name.line).getD false then s.dropAsm i else s

/-! ### The container checks (R112, R113, R455) -/

/-- Whether 16 bytes are a header that passes step 1 of R112. -/
def headerOk (h : List Byte) : Bool :=
  let len := ofLe ((h.drop 12).take 2)
  decide (16 ≤ h.length) && crc8 (h.take 14) == (h.getD 14 0).toNat && (h.getD 0 0).toNat / 16 == 0xC &&
    decide (1 ≤ len) && decide (len ≤ 16384)

/-- The next SEQ expected of a position: 0 while none is known, else one more than it. -/
def State.seqOf (s : State) (p pos : Nat) : Nat := tblGet zeroN (s.port (s.chainPort p)).seq pos

/-- Note the SEQ expected next. -/
def State.setSeq (s : State) (p pos v : Nat) : State :=
  let q := s.chainPort p
  s.setPort q { s.port q with seq := tblSet zeroN (s.port q).seq pos v }

/-- A discarded container counts as having carried the SEQ expected (R455). -/
def State.skipSeq (s : State) (p pos : Nat) : State :=
  let e := s.seqOf p pos
  if e = 0 then s else s.setSeq p pos (e % 256 + 1)

/-- Check SEQ (R112 step 4). -/
def State.checkSeq (s : State) (p pos na seq : Nat) : State :=
  let e := s.seqOf p pos
  let s := if e ≠ 0 ∧ e ≠ seq + 1 then s.countNode p (A.NODE_SEQ_ERR na) else s
  s.setSeq p pos ((seq + 1) % 256 + 1)

/-- One container whose header is good; `c` holds its bytes, fewer where it was cut off (R112 steps 2–5). -/
def State.container (s : State) (p : Nat) (c : List Byte) (size : Nat) (backlog : Bool) (age : Nat) : State :=
  let flags := (c.getD 0 0).toNat
  let vcdt := (c.getD 1 0).toNat
  let na := ofLe ((c.drop 2).take 2)
  let len := ofLe ((c.drop 12).take 2)
  let frame := ofLe ((c.drop 4).take 4)
  let line := ofLe ((c.drop 8).take 2)
  match s.naPos p na with
  | none => s.count31 (A.TRL_HCRC_ERR p) 1
  | some pos => match s.entryOf na (vcdt / 64) with
    | none => (s.count31 (A.TRL_HCRC_ERR p) 1).skipSeq p pos
    | some i =>
      let body := c.take (size - 4)
      let name : LineName := ⟨na, i, vcdt / 64, vcdt % 64, frame, line⟩
      if c.length < size ∨ crc32c (foldPrefix na i frame line ++ body) ≠ ofLe (c.drop (size - 4)) then
        let s := ((s.count31 (A.TRL_CRC_ERR p) 1).countNode p (A.NODE_CRC_ERR na)).skipSeq p pos
        let x := s.str i
        -- a generic short packet belongs to no line (R123)
        let short := 8 ≤ vcdt % 64 ∧ vcdt % 64 < 16 ∧ flags % 8 = 3 ∧ len = 2
        if x.mute || x.rejected.isSome || x.openFrame.isNone || short then s
        else
          let same := fun (a : LineAsm) => a.frame == frame && a.line == line && (a.dt == 0x12) == (name.dt == 0x12)
          (if (x.asm.map same).getD false then s else s.dropAsm i).lineBad i frame line name.dt
      else
        let s := s.checkSeq p pos na (c.getD 15 0).toNat
        let payload := (c.drop 16).take len
        let tag := if flags.testBit 2 then some ((c.drop (16 + len)).take 8) else none
        s.ingest p i ⟨flags.testBit 0, flags.testBit 1, name, ofLe ((c.drop 10).take 2), payload, tag⟩ backlog age

/-- The data blocks that a port receives (R112, R113): a header that fails is counted once, and the receiver looks for
the next one block by block. -/
def State.takeData (p : Nat) (backlog : Bool) (age : Nat) : Nat → List Byte → State → State
  | 0, _, s => s
  | fuel + 1, d, s =>
    if d.isEmpty then s
    else if !headerOk (d.take 16) then
      let s := if (s.port p).hunt then s else (s.setPort p { s.port p with hunt := true }).count31 (A.TRL_HCRC_ERR p) 1
      State.takeData p backlog age fuel (d.drop 32) s
    else
      let s := if (s.port p).hunt then s.setPort p { s.port p with hunt := false } else s
      let len := ofLe ((d.drop 12).take 2)
      let size := 32 * segBlocks len ((d.getD 0 0).toNat.testBit 2)
      State.takeData p backlog age fuel (d.drop size) (s.container p (d.take size) size backlog age)

/-! ### Commands -/

/-- SOF (R125). -/
def execSof (p : Fin 80) (pos : Fin 8) (b : SofBlock) (s : State) : Result :=
  .next (s.asHub p fun s => s.withStream p pos b.vc.val fun i s => s.onQueue i fun s => s.takeSof p i b)

/-- EOF (R131). -/
def execEof (p : Fin 80) (pos : Fin 8) (b : EofBlock) (s : State) : Result :=
  .next (s.asHub p fun s => s.withStream p pos b.vc.val fun i s => s.takeEof i b)

/-- CONTAINER_RECEIVE (R112): the data blocks of a container reach the port; `backlog` says that it finds 256 KiB
waiting for the tag engines (R343), `age` how long ago its last block crossed the boundary. -/
def execContainerReceive (p : Fin 80) (data : List Byte) (backlog : Bool) (age : Nat) (s : State) : Result :=
  .next (s.asHub p fun s => State.takeData p backlog age (data.length + 1) data s)

/-- ERR_SENSOR (R118). -/
def execErrSensor (p : Fin 80) (pos : Fin 8) (vc : Fin 4) (detail : BitVec 32) (s : State) : Result :=
  .next (s.whenUp fun s =>
    let s := s.log 118 (s.nodeSrc p pos) (det 4 detail.toNat)
    match (s.naAt p pos).bind fun na => s.entryOf na vc with
    | some i => s.sensorErr i
    | none => s)

end Sys2Proof.Machine
end

