-- ==== Sys2Proof/Machine/Charges.lean ====
section
/-! DEFINITION. What streams are charged for (R19, R138, R146, R176, R185, R189, R210, R454) and the demand that the
tables describe (R181, R182). Every quantity is read from the registers of the state given, so the demand of a mode that
is being tested is that of a state with its overlay applied. -/

namespace Sys2Proof.Machine

/-! ### Charges over ticks -/

/-- A charge and the ticks in which it is due. -/
structure Cost where
  ratio : Ratio
  cost : Nat
  deriving DecidableEq, Repr

/-- The tick residues to look at (R185): all 840 where a stream runs at a part of the tick. -/
def residues (l : List Cost) : List Nat := if l.any (·.ratio.div) then List.range 840 else [0]

/-- The largest sum over the tick residues. -/
def peak (l : List Cost) : Nat :=
  (residues l).foldl (fun m n => max m (l.foldl (fun a c => if c.ratio.due n then a + c.cost else a) 0)) 0

/-! ### Input streams -/

/-- The geometry of an input stream for charging. -/
def State.chargeGeo (s : State) (i : Nat) : Geo := s.geoOf i ⟨[], 0, []⟩

/-- Slice cycles per due tick of share m of j (R146, R189). -/
def State.shareCycles (s : State) (i j m : Nat) : Nat :=
  let g := s.chargeGeo i
  (s.streamRatio i).frames * g.shareLines j m * lineCycles g.width

/-- The single-slice charge per tick. -/
def State.sliceCharge (s : State) (i : Nat) : Nat := s.shareCycles i 1 0

/-- M of a stream (R176). -/
def State.streamMem (s : State) (i : Nat) : Nat :=
  (s.chargeGeo i).memBytes ((s.rois i).countP fun r => s.flag (F.ROI_CFG_VALID r) && s.flag (F.ROI_CFG_STATS_EN r))

/-- Line bytes and stored size S of a pixel line (R122, R133). -/
def State.strBytes (s : State) (i : Nat) : Nat := lineBytes (s.fld (F.ING_ENT0_DT i)) (s.fld (F.ING_ENT1_WIDTH i))
def State.storedSize (s : State) (i : Nat) : Nat := 64 * lineWords (s.strBytes i)

/-- Line-store bytes per due tick, with the extra reads of j shares (R19, R185). -/
def State.storeCharge (s : State) (i j : Nat) : Nat :=
  let g := s.chargeGeo i
  let reads := if j ≤ 1 then g.lines else (List.range j).foldl (fun n m => n + g.shareLines j m) 0
  (s.streamRatio i).frames * (g.lines + reads) * s.strBytes i

/-- B_min (R138) and B_want (R191), in pages. -/
def State.pagesMin (s : State) (i : Nat) : Nat :=
  let n := if s.flag (F.ING_ENT0_RETAIN i) then s.strLines i + 64 else 64
  ceilDiv (n * s.storedSize i) 65536 + 2
def State.pagesWant (s : State) (i : Nat) : Nat :=
  ceilDiv ((s.retFrames i * s.strLines i + 64) * s.storedSize i) 65536 + 2

/-! ### Output streams -/

/-- E of a stream (R170): its line bytes padded. -/
def State.embBytes (s : State) (i : Nat) : Nat := pad32 (s.strBytes i)

/-- The form of the output stream of ROI entry `roi`, the k-th of stream i. -/
def State.roiOut (s : State) (i k roi : Nat) : OutForm :=
  let r := s.streamRatio i
  let w := s.fld (F.ROI_SIZE_W roi)
  let emb := if s.flag (F.SLC_STR_CFG1_EMB_OUT i) && s.fld (F.SLC_STR_CFG1_EMB_ROI i) == k then s.embBytes i else 0
  ⟨i, roi, false, w, s.fld (F.ROI_SIZE_H roi), pad32 (packBytes (s.fld (F.ROI_CFG_PACK roi)) (s.fld (F.ING_ENT0_DT i)) w),
   emb, r.div, r.k, r.p⟩

/-- The output streams of an input stream, with their OSIDs. -/
def State.streamOuts (s : State) (i : Nat) : List (Nat × OutForm) :=
  (List.range (s.fld (F.SLC_STR_CFG1_ROI_CNT i))).flatMap fun k => match s.roiAt i k with
    | some roi =>
      let f := s.roiOut i k roi
      (s.fld (F.ROI_CFG_OSID roi), f) ::
        if s.flag (F.ROI_CFG_STATS_EN roi) then [(s.fld (F.ROI_CFG_S_OSID roi), { f with stats := true, pay := 0, emb := 0 })]
        else []
    | none => []

/-- DEST as it counts in a mode (R181): in Limp HOST is none and HOST_TRUNK is TRUNK. -/
def State.destOf (s : State) (mode osid : Nat) : Nat :=
  let d := s.fld (F.PLC_OSID_CFG_DEST osid)
  if mode = 7 then (if d ≥ 2 then 2 else 0) else d

/-- The demand of a mode (R181), in ascending OSID order; `off` lists the streams not enabled. -/
def State.demand (s : State) (mode : Nat) (off : List Nat) : Tbl OutForm :=
  (s.isids.flatMap s.streamOuts).foldl (fun t c =>
    if c.1 ∈ off ∨ s.destOf mode c.1 = 0 then t else tblPut t c.1 (some c.2)) []

/-- Host-link bytes per due tick (R19). -/
def OutForm.hostCost (f : OutForm) : Nat :=
  f.count * if f.stats then 4160 + 608 else f.h * (f.pay + 64) + if f.emb = 0 then 0 else 16 * (f.emb + 64)

/-- Blocks of a line of `n` bytes at a SEG_LEN, TAG on its last segment (R454). -/
def lineBlocks (n seg : Nat) : Nat :=
  let k := ceilDiv n seg
  (k - 1) * segBlocks seg false + segBlocks (n - (k - 1) * seg) true

/-- Unpadded payload bytes of an output stream's line (R169). -/
def State.rawBytes (s : State) (f : OutForm) : Nat :=
  packBytes (s.fld (F.ROI_CFG_PACK f.roi)) (s.fld (F.ING_ENT0_DT f.isid)) f.w

/-- Trunk blocks per due tick of a routed stream (R185, R454). -/
def State.trunkCost (s : State) (f : OutForm) (seg : Nat) : Nat :=
  f.count * ((if f.stats then lineBlocks 4096 seg + lineBlocks 544 seg else f.h * lineBlocks (s.rawBytes f) seg) + 2)

/-- Forward blocks per due tick of an input stream (R454). -/
def State.hopCost (s : State) (i : Nat) : Nat :=
  let na := s.fld (F.ING_ENT0_NA i)
  (s.streamRatio i).frames * (s.strLines i * lineBlocks (s.strBytes i) (max 1 (s.segLenOf (na / 8) na)) + 2)

/-! ### Capacities -/

/-- The tick rate that the registers give. -/
def State.cfgRate (s : State) : Nat := max 1 (s.fld F.GLB_TICK_CFG_RATE_HZ)

/-- Line rate of a step in Gb/s (R66). -/
def stepGbps (step : Nat) : Nat := match step with | 0 => 2 | 1 => 4 | 2 => 8 | 3 => 12 | _ => 16

/-- Whether `blocks` per tick stay within 95% of the non-SYNC block capacity of `gbps` (R185). -/
def blocksFit (R blocks gbps : Nat) : Bool := decide (blocks * 260 * 4096 * R * 100 ≤ 95 * gbps * 1000000000 * 4095)

/-- The capacities that admission uses (R185): usable slices, host width and rate in half GT/s, and whether they are the nominal ones
of the start check (R34). -/
structure Caps0 where
  usable : Nat
  width : Nat
  gts : Nat
  nominal : Bool

/-- C_host in bytes per second (R19). -/
def Caps0.host (c : Caps0) : Nat := 110000000000 * c.width * c.gts / 2048

/-- 95% of a slice's cycles in a tick (R185). -/
def sliceBound (R : Nat) : Nat := 950000000 / R

/-- The graze budget, where graze is enabled (R19, R210). -/
def State.grzBudget (s : State) : Nat × Nat × Nat :=
  if s.flag F.GRZ_CFG_EN then
    ((s.reg A.GRZ_BUDGET_CYC).toNat, (s.reg A.GRZ_BUDGET_LST).toNat * 64, (s.reg A.GRZ_BUDGET_HOST).toNat * 64)
  else (0, 0, 0)

/-! ### Loads of a placement -/

/-- The input streams of a placement as costs, by their share. -/
def State.sliceCosts (s : State) (l : Placement) (sl : Nat) : List Cost :=
  l.ins.flatMap fun c =>
    ((List.range c.2.shares.length).zip c.2.shares).filterMap fun m =>
      if m.2 = sl then some ⟨s.streamRatio c.1, s.shareCycles c.1 c.2.shares.length m.1⟩ else none

/-- Peak cycles and memory of one slice. -/
def State.sliceLoad (s : State) (l : Placement) (sl : Nat) : Nat := peak (s.sliceCosts l sl)
def State.sliceMem (s : State) (l : Placement) (sl : Nat) : Nat :=
  l.ins.foldl (fun n c => if sl ∈ c.2.shares then n + s.streamMem c.1 else n) 0

/-- Input streams that found no slice, at their single-slice charges. -/
def State.unplacedCosts (s : State) (l : Placement) : List Cost :=
  (l.ins.filter fun c => c.2.shares == []).map fun c => ⟨s.streamRatio c.1, s.sliceCharge c.1⟩

/-- Peak cycles of all slices, graze included. -/
def State.cycleLoad (s : State) (l : Placement) : Nat :=
  s.grzBudget.1 + peak ((List.range 34).flatMap (s.sliceCosts l) ++ s.unplacedCosts l)

/-- Peak line-store bytes, graze included. -/
def State.storeLoad (s : State) (l : Placement) : Nat :=
  s.grzBudget.2.1 + peak (l.ins.map fun c => ⟨s.streamRatio c.1, s.storeCharge c.1 c.2.shares.length⟩)

/-- Whether an output stream is charged to the host link under a mode: HOST or HOST_TRUNK, and not shed. -/
def State.hostBound (s : State) (mode : Nat) (c : Nat × OutPlace) : Bool :=
  (c.2.state == 1 || c.2.state == 2) && (s.destOf mode c.1 == 1 || s.destOf mode c.1 == 3)

/-- Peak host-link bytes, graze included. -/
def State.hostLoad (s : State) (mode : Nat) (l : Placement) : Nat :=
  s.grzBudget.2.2 + peak ((l.outs.filter (s.hostBound mode)).map fun c => ⟨c.2.form.ratio, c.2.form.hostCost⟩)

/-- Peak blocks that the PLACED streams of nodes at positions p and above put on hop p of a camera port. What comes through a
trunk port crosses no such hop. -/
def State.hopLoad (s : State) (l : Placement) (port p : Nat) : Nat :=
  peak ((l.ins.filter fun c =>
      let na := s.fld (F.ING_ENT0_NA c.1)
      na / 8 == port && decide (p ≤ na % 8) && (s.trunkOf na).isNone &&
        l.outs.any fun o => o.2.form.isid == c.1 && o.2.state == 1).map
    fun c => ⟨s.streamRatio c.1, s.hopCost c.1⟩)

/-- Whether every hop of a port passes (R185 reason 6). -/
def State.hopsFit (s : State) (l : Placement) (port : Nat) : Bool :=
  (List.range 8).all fun p =>
    let na := nodeAddr port p
    !s.flag (F.NODE_ENT_PRESENT na) || blocksFit s.cfgRate (s.hopLoad l port p) (stepGbps (s.fld (F.NODE_ENT_PATH_STEP na)))

/-- Line rate of trunk t in Gb/s: its bond in force, or the nominal one of R454. -/
def State.trunkGbps (s : State) (t : Nat) (nominal : Bool) : Nat :=
  let set := s.fld (F.TRK_BOND_STAT_TX_SET t)
  if !nominal && set ≠ 0 && !s.flag (F.TRK_BOND_STAT_DOWN t) then
    (List.range 4).foldl (fun n l => if set.testBit l then n + stepGbps (s.fld (F.TRL_STAT_STEP (laneOf t l))) else n) 0
  else
    let lanes := (List.range 4).filter fun l => (s.fld (F.TRK_BOND_CFG_LANE_EN t)).testBit l
    lanes.length * stepGbps (lanes.foldl (fun m l => min m (s.fld (F.TRL_CFG_MAX_STEP (laneOf t l)))) 4)

/-- SEG_LEN of the virtual node behind a slot: as assigned, or 16 KiB (R454). -/
def State.slotSeg (s : State) (t slot : Nat) : Nat :=
  (((s.sensor (laneOf t 0)).nodes[slot / 4]?).map fun n => max 1 n.segLen).getD 16384

/-- Peak blocks on trunk t of the routed streams that `sel` picks. -/
def State.trunkLoad (s : State) (l : Placement) (t : Nat) (sel : Nat × OutPlace → Bool) : Nat :=
  peak ((l.outs.filter fun c => c.2.slot.isSome && c.2.trk == t && (c.2.state == 1 || c.2.state == 2) && sel c).map
    fun c => ⟨c.2.form.ratio, s.trunkCost c.2.form (s.slotSeg t (c.2.slot.getD 0))⟩)

/-- Whether trunk t passes (R185 reason 9); `placed` says that streams which wait for the trunk are left out, to be tested as
joins (R454). -/
def State.trunkFits (s : State) (l : Placement) (t : Nat) (nominal placed : Bool) : Bool :=
  blocksFit s.cfgRate (s.trunkLoad l t fun c => !placed || c.2.state == 1) (s.trunkGbps t nominal)

/-- A bond has formed and is not DOWN. -/
def State.bondUp (s : State) (t : Nat) : Bool :=
  s.fld (F.TRK_BOND_STAT_TX_SET t) ≠ 0 && !s.flag (F.TRK_BOND_STAT_DOWN t)

end Sys2Proof.Machine
end

