-- ==== Sys2Proof/Machine/Placement.lean ====
section
/-! DEFINITION. The placement computation (R180–R193): where streams go under given inputs, the tests of a placement, and
the shedding of a forced change. Nothing here changes the hub. -/

namespace Sys2Proof.Machine

/-- What a run reads besides the registers and the placement in force (R179): the mode, streams not enabled, capacities,
slices that may take work, slices whose work stays, pools, nodes that have joined; and whether the phase is the forced one
(R187). -/
structure PlcIn where
  mode : Nat
  off : List Nat
  caps : Caps0
  active : List Nat
  keep : List Nat
  pools : Tbl PoolReg
  joined : List Nat
  forced : Bool

/-! ### Slices (R188, R189) -/

/-- Whether a share fits on a slice beside the streams placed so far (R185 reason 2): its cycles, and its M. -/
def State.cyclesFit (s : State) (l : Placement) (sl i j m : Nat) : Bool :=
  decide (peak (⟨s.streamRatio i, s.shareCycles i j m⟩ :: s.sliceCosts l sl) ≤ sliceBound s.cfgRate)
def State.memFits (s : State) (l : Placement) (sl i : Nat) : Bool := decide (s.sliceMem l sl + s.streamMem i ≤ 262144)

/-- The slice that `best` prefers among candidates with their loads; ties go to the first. -/
def pickSlice (best : Nat → Nat → Bool) : List (Nat × Nat) → Option Nat
  | [] => none
  | c :: t => match t.foldl (fun (b : Nat × Nat) x => if best x.2 b.2 then x else b) c with
    | (sl, _) => some sl

/-- The j slices with the lowest loads, in ascending order of number. -/
def lightest : Nat → List (Nat × Nat) → List Nat
  | 0, _ => []
  | j + 1, l => match pickSlice (fun a b => decide (a < b)) l with
    | some sl => setIns sl (lightest j (l.filter fun c => c.1 != sl))
    | none => []

/-- The shares of a stream to be placed (R189); `over` puts one that fits nowhere on the slice with the most headroom
that holds its M (R187). -/
def State.chooseShares (s : State) (inp : PlcIn) (l : Placement) (i : Nat) (excess : Bool) : Option (List Nat) :=
  let cands := (inp.active.filter fun sl => s.memFits l sl i).map fun sl => (sl, s.sliceLoad l sl)
  let fallback := if excess then (pickSlice (fun a b => decide (a < b)) cands).map fun sl => [sl] else none
  let found := if s.sliceCharge i ≤ sliceBound s.cfgRate then
      (pickSlice (fun a b => decide (b < a)) (cands.filter fun c => s.cyclesFit l c.1 i 1 0)).map fun sl => [sl]
    else (List.range 7).findSome? fun d =>
      let j := d + 2
      let sl := lightest j cands
      if sl.length = j ∧ ((List.range j).zip sl).all (fun c => s.cyclesFit l c.2 i j c.1) then some sl else none
  found.or fallback

/-- Whether a stream may stay on the shares it has (R188). -/
def State.mayStay (s : State) (inp : PlcIn) (l : Placement) (i : Nat) (shares : List Nat) : Bool :=
  shares ≠ [] && ((List.range shares.length).zip shares).all fun c =>
    inp.keep.contains c.2 && s.cyclesFit l c.2 i shares.length c.1 && s.memFits l c.2 i

/-- Insert a stream in descending order of charge, ties ascending. -/
def insertCharge (c : Nat × Nat) : List (Nat × Nat) → List (Nat × Nat)
  | [] => [c]
  | d :: t => if d.2 < c.2 then c :: d :: t else d :: insertCharge c t

/-- Streams in the order placement takes them (R189). -/
def State.byCharge (s : State) (l : List Nat) : List Nat :=
  ((l.map fun i => (i, s.sliceCharge i)).foldl (fun a c => insertCharge c a) []).map (·.1)

/-- Put a stream on shares; its pages so far come from `asg`, the slices it moves from out of `old`. -/
def State.putShares (s : State) (asg old l : Placement) (i : Nat) (shares : List Nat) : Placement :=
  let has := tblOpt asg.ins i
  let moving := match tblOpt old.ins i with
    | some w => if w.shares = shares then w.moving else if w.shares = [] then none else some (w.moving.getD w.shares)
    | none => none
  { l with ins := tblPut l.ins i (some ⟨shares, (has.map (·.pages)).getD [], (has.map (·.extra)).getD 0, moving,
      s.sliceCharge i, s.streamMem i⟩) }

/-- Place the input streams: those that may stay, unchanged ones first, then the others; also whether any failed for
cycles, and for memory. -/
def State.placeInputs (s : State) (inp : PlcIn) (asg old : Placement) (want : List Nat) (excess : Bool) :
    Placement × Bool × Bool :=
  let same := fun i => match tblOpt asg.ins i with
    | some w => w.charge == s.sliceCharge i && w.mem == s.streamMem i
    | none => false
  let order := s.byCharge (want.filter same) ++ s.byCharge (want.filter fun i => !same i)
  let l := order.foldl (fun l i => match tblOpt asg.ins i with
    | some w => if s.mayStay inp l i w.shares then s.putShares asg old l i w.shares else l
    | none => l) noPlacement
  (s.byCharge (want.filter fun i => (tblOpt l.ins i).isNone)).foldl (fun (r : Placement × Bool × Bool) i =>
    match s.chooseShares inp r.1 i excess with
    | some sh => (s.putShares asg old r.1 i sh, r.2.1, r.2.2)
    | none =>
      let mem := !(inp.active.any fun sl => s.memFits r.1 sl i)
      (s.putShares asg old r.1 i [], r.2.1 || !mem, r.2.2 || mem)) (l, false, false)

/-! ### Pages (R191) -/

/-- Pages that no stream holds, rising. -/
def freePages (t : Tbl InPlace) : List Nat := (List.range 1536).filter fun p => !t.any fun c => c.2.pages.contains p

/-- The highest-numbered stream with an extra page. -/
def donor (t : Tbl InPlace) : Option (Nat × InPlace) := (t.filter fun c => decide (0 < c.2.extra)).getLast?

/-- Grow a stream to `n` pages beside its extras: its own extras, the lowest free page, a reclaimed extra. -/
def growPages (i n : Nat) : Nat → Tbl InPlace → Tbl InPlace
  | 0, t => t
  | fuel + 1, t => match tblOpt t i with
    | none => t
    | some x =>
      if n + x.extra ≤ x.pages.length then t
      else if 0 < x.extra then growPages i n fuel (tblPut t i (some { x with extra := x.extra - 1 }))
      else match freePages t, donor t with
        | p :: _, _ => growPages i n fuel (tblPut t i (some { x with pages := setIns p x.pages }))
        | [], some d =>
          let d' := { d.2 with pages := d.2.pages.dropLast, extra := d.2.extra - 1 }
          growPages i n fuel (tblPut (tblPut t d.1 (some d')) i (some x))
        | [], none => t

/-- Give a stream its B_min, and no more than B_want in all. -/
def State.basePages (s : State) (t : Tbl InPlace) (i : Nat) : Tbl InPlace :=
  match tblOpt t i with
  | none => t
  | some x =>
    let n := s.pagesMin i
    let top := if s.flag (F.ING_ENT0_RETAIN i) then max n (s.pagesWant i) else n
    let x := { x with extra := min x.extra (top - n) }
    let x := { x with pages := x.pages.take (max n 0 + x.extra) }
    let x := if x.pages.length < n then { x with extra := 0 } else { x with extra := x.pages.length - n }
    growPages i n (2 * n + 1) (tblPut t i (some x))

/-- Hand out free pages to retained streams, in ascending order, up to B_want. -/
def State.extraPages (s : State) (t : Tbl InPlace) (i : Nat) : Tbl InPlace :=
  match tblOpt t i with
  | none => t
  | some x =>
    if !s.flag (F.ING_ENT0_RETAIN i) then t
    else
      let add := (freePages t).take (s.pagesWant i - x.pages.length)
      tblPut t i (some { x with pages := add.foldl (fun l p => setIns p l) x.pages, extra := x.extra + add.length })

/-- The pages of every stream. -/
def State.placePages (s : State) (t : Tbl InPlace) : Tbl InPlace :=
  let is := t.map (·.1)
  is.foldl s.extraPages (is.foldl s.basePages t)

/-! ### Output streams -/

/-- Whether a stream's node has joined. -/
def State.nodeIn (s : State) (inp : PlcIn) (f : OutForm) : Bool := inp.joined.contains (s.fld (F.ING_ENT0_NA f.isid))

/-- Whether a routed stream's trunk is ready for its slot (R193). -/
def State.routeReady (s : State) (t slot : Nat) : Bool := s.bondUp t && (s.slotNode t slot).isSome

/-- The lowest slot of a trunk that no stream of `outs` has, and none of `kept`. -/
def freeSlot (kept : List (Nat × Nat)) (outs : Tbl OutPlace) (t : Nat) : Option Nat :=
  (List.range 32).find? fun k => !kept.contains (t, k) && !outs.any fun c => c.2.trk == t && c.2.slot == some k

/-- A SHED stream keeps its channel, region and slot (R192), unless it was shed for a test that counts those: its reason
is then that of the test (log entry 181). -/
def OutPlace.released (o : OutPlace) : Bool := o.state == 3 && o.reason != 0

/-- Whether a demanded stream is to have a trunk slot: it is routed, and not shed for one. -/
def State.isRouted (s : State) (mode : Nat) (old : Placement) (osid : Nat) : Bool :=
  decide (2 ≤ s.destOf mode osid) && !((tblOpt old.outs osid).map OutPlace.released).getD false

/-- The trunk slot that a demanded stream keeps, with its trunk (R193). -/
def State.keptSlot (s : State) (mode : Nat) (asg old : Placement) (osid : Nat) : Option (Nat × Nat) :=
  let t := s.fld (F.PLC_OSID_CFG_TRK osid)
  if s.isRouted mode old osid then
    ((tblOpt asg.outs osid).bind fun o => if o.trk = t then o.slot else none).map fun k => (t, k)
  else none

/-- The place of one demanded stream: a trunk slot where it is routed, and its state (R184, R193); also whether it
found no slot, the slots `kept` being others'. In a forced change a routed stream that is not placed yet waits, to be tested
as a join (R454). -/
def State.placeOut (s : State) (inp : PlcIn) (asg old : Placement) (kept : List (Nat × Nat)) (r : Tbl OutPlace × Bool)
    (c : Nat × OutForm) : Tbl OutPlace × Bool :=
  let was := tblOpt old.outs c.1
  let t := s.fld (F.PLC_OSID_CFG_TRK c.1)
  let routed := s.isRouted inp.mode old c.1
  let slot := if !routed then none else ((s.keptSlot inp.mode asg old c.1).map (·.2)).or (freeSlot kept r.1 t)
  let waits := (was.map fun o => o.state == 2).getD false
  let reason := (was.map (·.reason)).getD 0
  let (st, why) :=
    if (was.map fun o => o.state == 3).getD false then (3, reason)
    else if !s.nodeIn inp c.2 then (2, 0)
    else if routed && (!s.routeReady t (slot.getD 32) || (inp.forced && was.isNone)) then (2, 9)
    else if waits then (2, reason)
    else (1, 0)
  let o : OutPlace := ⟨st, why, (was.map (·.ch)).getD none, slot, t, (was.map (·.ofs)).getD 0,
    s.flag (F.PLC_OSID_CFG_QUORUM c.1), c.2⟩
  (tblPut r.1 c.1 (some o), r.2 || (routed && slot.isNone))

/-- The bindings a demand needs (R192): each pool that a shared host stream names, then each OWN stream. -/
def State.bindings (s : State) (mode : Nat) (outs : Tbl OutPlace) : List (Nat × Option Nat) :=
  let host := outs.filter fun c => !c.2.released && (s.destOf mode c.1 == 1 || s.destOf mode c.1 == 3)
  let shared := (host.filter fun c => !s.flag (F.PLC_OSID_CFG_OWN c.1)).foldl
    (fun l c => setIns (s.fld (F.PLC_OSID_CFG_POOL c.1)) l) []
  (shared.map fun p => (p, none)) ++
    ((host.filter fun c => s.flag (F.PLC_OSID_CFG_OWN c.1)).map fun c => (s.fld (F.PLC_OSID_CFG_POOL c.1), some c.1))

/-- The lowest channel number not in use. -/
def freeChan (t : Tbl (Nat × Option Nat)) : Nat := ((List.range 1200).find? fun c => (tblOpt t c).isNone).getD 1200

/-- Bind channels: a binding that persists keeps its channel (R192). -/
def bindChannels (old : Tbl (Nat × Option Nat)) (need : List (Nat × Option Nat)) : Tbl (Nat × Option Nat) :=
  let kept := old.filter fun c => need.contains c.2
  need.foldl (fun t b => if t.any fun c => c.2 == b then t else tblPut t (freeChan t) (some b)) kept

/-- The channel of a host stream under bindings. -/
def State.channelOf (s : State) (t : Tbl (Nat × Option Nat)) (osid : Nat) : Option Nat :=
  let own := if s.flag (F.PLC_OSID_CFG_OWN osid) then some osid else none
  (t.find? fun c => c.2 == (s.fld (F.PLC_OSID_CFG_POOL osid), own)).map (·.1)

/-- Streams of a channel with their region sizes. -/
def regionsOf (outs : Tbl OutPlace) (ch : Nat) : List (Nat × Nat) :=
  (outs.filter fun c => c.2.ch == some ch).map fun c => (c.1, c.2.form.region)

/-- Lay out a channel's regions in ascending OSID order (R192), anew if its streams or their regions have changed. -/
def layChannel (old outs : Tbl OutPlace) (ch : Nat) : Tbl OutPlace :=
  if regionsOf old ch = regionsOf outs ch then outs
  else
    (outs.foldl (fun (r : Tbl OutPlace × Nat) c =>
      if c.2.ch = some ch then (r.1 ++ [(c.1, { c.2 with ofs := r.2 })], r.2 + c.2.form.region / 4096)
      else (r.1 ++ [c], r.2)) ([], 0)).1

/-- Channels and layouts of the output streams. -/
def State.placeChannels (s : State) (mode : Nat) (asg l : Placement) : Placement :=
  let chans := bindChannels asg.chans (s.bindings mode l.outs)
  let outs := l.outs.map fun c =>
    let d := s.destOf mode c.1
    (c.1, { c.2 with ch := if !c.2.released && (d = 1 ∨ d = 3) then s.channelOf chans c.1 else none })
  { l with chans := chans, outs := chans.foldl (fun o c => layChannel asg.outs o c.1) outs }

/-! ### Tests (R185) -/

/-- A pool's BUF_4K and VALID. -/
def poolFits (pools : Tbl PoolReg) (l : Placement) (c : Nat × Nat × Option Nat) : Bool :=
  match tblOpt pools c.2.1 with
  | some r => !bitOn r.cfg 0 || decide (l.layoutLen c.1 ≤ fldGet r.cfg 12 20 * 4096)
  | none => true

/-- The reasons for which a placement fails, rising; a failure for slice memory alone is also noted as 12. -/
def State.failures (s : State) (inp : PlcIn) (l : Placement) (cyc mem slots : Bool) : List Nat :=
  let R := s.cfgRate
  let t := fun (n : Nat) (bad : Bool) => if bad then [n] else []
  let excess := (List.range 34).any fun sl => decide (sliceBound R < s.sliceLoad l sl)
  let full := (List.range 34).any fun sl => decide (262144 < s.sliceMem l sl)
  t 1 (decide (95 * min inp.caps.usable 32 * 1000000000 < s.cycleLoad l * R * 100)) ++
  t 2 (excess || full || cyc || mem) ++
  t 3 (decide (95 * 4096000000000 < s.storeLoad l * R * 100)) ++
  t 4 (decide (1536 < l.ins.foldl (fun n c => n + s.pagesMin c.1) 0)) ++
  t 5 (decide (95 * 110000000000 * inp.caps.width * inp.caps.gts < s.hostLoad inp.mode l * R * 100 * 2048)) ++
  t 6 (!inp.caps.nominal && (List.range 64).any fun p => !s.hopsFit l p) ++
  t 7 (decide (s.fld F.PLC_CFG_DC_NUM < l.chans.length)) ++
  t 8 (l.chans.any fun c => !poolFits inp.pools l c) ++
  t 9 ((List.range 4).any fun k => !s.trunkFits l k inp.caps.nominal (inp.forced && s.bondUp k)) ++
  t 10 slots ++
  t 12 (full || mem)

/-- Arrange a demand (R188): assignments are kept from `asg`, states and moves come from `old`; with the reasons for
which the result fails. -/
def State.arrange (s : State) (inp : PlcIn) (asg old : Placement) (d : Tbl OutForm) (excess : Bool) :
    Placement × List Nat :=
  let kept := d.filterMap fun c => s.keptSlot inp.mode asg old c.1
  let (outs, slots) := d.foldl (s.placeOut inp asg old kept) ([], false)
  let want := (outs.filter fun c => c.2.state != 3).foldl (fun l c => setIns c.2.form.isid l) []
  let (l, cyc, mem) := s.placeInputs inp asg old want excess
  let l := s.placeChannels inp.mode asg { l with ins := s.placePages l.ins, outs := outs }
  (l, s.failures inp l cyc mem slots)

/-- Place a demand: on top of what stands, else every stream of it packed anew from empty (R188); the reasons are those of
the repack. -/
def State.tryPlace (s : State) (inp : PlcIn) (base : Placement) (d : Tbl OutForm) : Placement × List Nat :=
  let (l, r) := s.arrange inp base base d false
  if r = [] then (l, []) else s.arrange inp noPlacement base d false

/-! ### Forced changes (R187) -/

/-- Set the state and reason of the streams that `sel` picks. -/
def Placement.setStates (l : Placement) (sel : Nat × OutPlace → Bool) (st why : Nat) : Placement :=
  { l with outs := l.outs.map fun c => if sel c then (c.1, { c.2 with state := st, reason := why }) else c }

/-- Streams of a node that are PLACED. -/
def State.placedOf (s : State) (na : Nat) (c : Nat × OutPlace) : Bool :=
  c.2.state == 1 && s.fld (F.ING_ENT0_NA c.2.form.isid) == na

/-- The farthest node that a failing hop test sends back to WAITING. -/
def State.hopVictim (s : State) (l : Placement) : Option Nat :=
  ((List.range 64).filter fun p => !s.hopsFit l p).findSome? fun p =>
    ((List.range 8).reverse.map fun q => nodeAddr p q).find? fun na => l.outs.any (s.placedOf na)

/-- Resolve failing hops: farthest nodes first. -/
def State.resolveHops (s : State) : Nat → Placement → Placement
  | 0, l => l
  | fuel + 1, l => match s.hopVictim l with
    | some na => s.resolveHops fuel (l.setStates (s.placedOf na) 2 6)
    | none => l

/-- The reasons that a quorum stream is not shed for (R187). -/
def overrunOnly (r : List Nat) : Bool := r.all fun n => n == 1 || n == 2 || n == 3 || n == 5

/-- The next stream to shed: outside the quorum set in descending order, then of the quorum set. -/
def nextShed (l : Placement) (r : List Nat) : Option Nat :=
  let live := l.outs.filter fun c => c.2.state == 1 || c.2.state == 2
  match (live.filter fun c => !c.2.quorum).getLast? with
  | some c => some c.1
  | none => if overrunOnly r then none else live.getLast?.map (·.1)

/-- The failed test for which a shed stream gives up its channel, region and slot: channels, herd buffers, slots. -/
def sheddingReason (r : List Nat) : Nat := (r.find? fun n => n == 7 || n == 8 || n == 10).getD 0

/-- Shed until every test passes (R187); the count shed beside the result. -/
def State.shed (s : State) (inp : PlcIn) (d : Tbl OutForm) : Nat → Placement → Nat → Placement × Nat
  | 0, l, n => (l, n)
  | fuel + 1, l, n =>
    let (a, r) := s.arrange inp l l d true
    if r = [] then (a, n)
    else match nextShed a r with
      | some o => State.shed s inp d fuel (a.setStates (fun c => c.1 == o) 3 (sheddingReason r)) (n + 1)
      | none => (a, n)

/-- A forced change: kept or packed anew where that passes, else shed against the incremental result. -/
def State.forcePlace (s : State) (inp : PlcIn) (base : Placement) (d : Tbl OutForm) : Placement × Nat :=
  let (l, r) := s.arrange inp base base d false
  let hop := if 6 ∈ r then s.resolveHops 513 l else l
  let (l, r) := if 6 ∈ r then s.arrange inp hop hop d false else (l, r)
  if r = [] then (l, 0)
  else
    let (l2, r2) := s.arrange inp noPlacement l d false
    if r2 = [] then (l2, 0) else s.shed inp d (d.length + 1) l 0

end Sys2Proof.Machine
end

