-- ==== Sys2Proof/Machine/Runs.lean ====
section
/-! DEFINITION. Placement runs, their publication and records (R177–R197), joins and losses of nodes, and the slice
audit (R199–R201). -/

namespace Sys2Proof.Machine

/-! ### Inputs -/

/-- The slices in a state: 1 SPARE, 2 ACTIVE, 3 SUSPECT, 4 RETIRED. -/
def State.slicesIn (s : State) (st : Nat) : List Nat :=
  (List.range 34).filter fun sl => s.fld (F.SLC_STAT_STATE sl) == st

/-- The mode that placement plans for: that of a switch in progress, else the one in force. -/
def State.planMode (s : State) : Nat :=
  if s.flag F.GLB_MODE_STAT_PENDING then s.fld F.GLB_MODE_STAT_PEND_MODE else s.mode


/-- The inputs of a run (R179); `promote` are spares about to become ACTIVE. -/
def State.plcInputs (s : State) (mode : Nat) (off : List Nat) (pools : Tbl PoolReg) (promote : List Nat) : PlcIn :=
  let ok := fun sl => !(s.plc.confirmed.contains sl)
  let active := (s.slicesIn 2).filter ok
  ⟨mode, off, ⟨active.length + promote.length, s.plc.width, s.plc.gts, false⟩, promote.foldl (fun l p => setIns p l) active,
   promote.foldl (fun l p => setIns p l) (active ++ (s.slicesIn 3).filter ok), pools, s.plc.joined, false⟩

/-! ### Nodes (R104, R106) -/

/-- Whether every hop on a node's path is committed (R104). -/
def State.pathDone (s : State) (na : Nat) : Bool :=
  match (s.port (na / 8)).pronk with
  | some k => (List.range (na % 8 + 1)).all fun h => bitsOf k.hops h 1 == 0
  | none => true

/-- The nodes present, rising. -/
def State.presentNodes (s : State) : List Nat :=
  (s.listed (A.NODE_ENT 0) 0x40 512).filter fun na => s.flag (F.NODE_ENT_PRESENT na)

/-- Whether a node may join: assigned, delay valid, session established, its path's hops committed. -/
def State.nodeReady (s : State) (na : Nat) : Bool :=
  s.flag (F.NODE_ENT_PRESENT na) && s.flag (F.TIME_NODE_DLY_VALID na) && s.fld (F.SEC_NODE_STAT_STATE na) == 2 &&
    (s.fld (F.NODE_ENT_STATE na) == 3 || s.fld (F.NODE_ENT_STATE na) == 4) && s.pathDone na

/-- Whether a node that joined is lost, or is found anew since (R106, R108). -/
def State.nodeGone (s : State) (na : Nat) : Bool :=
  !s.flag (F.NODE_ENT_PRESENT na) || s.fld (F.NODE_ENT_STATE na) ≤ 1 || s.fld (F.NODE_ENT_STATE na) == 5

/-- The NAs of input streams whose nodes are virtual nodes behind a trunk port in the hub-end role, ready to join (R104). -/
def State.trunkNodes (s : State) : List Nat :=
  (s.isids.map fun i => s.fld (F.ING_ENT0_NA i)).filter s.trunkNode

/-- At a boundary, note the nodes that join and those that are lost (R104, R177), on camera ports and behind trunk ports. -/
def State.nodeChanges (s : State) : State :=
  let far := s.trunkNodes
  let gone := s.plc.joined.filter fun na => s.nodeGone na && !far.contains na
  let near := s.presentNodes.filter fun na => !(s.plc.joined.contains na) && s.nodeReady na
  let new := near ++ far.filter fun na => !(s.plc.joined.contains na)
  let s := if gone = [] then s else s.plcTrigger 3
  let s := if new = [] then s else s.plcTrigger 2
  let s := near.foldl (fun s na => s.setFld (F.NODE_ENT_STATE na) 4) s
  { s with plc := { s.plc with
      joined := new.foldl (fun l na => setIns na l) (s.plc.joined.filter fun na => !(gone.contains na)) } }

/-! ### The phases of a run (R180) -/

/-- The table that a refusal's REASON names, by its ID (R406): pages, delivery channels, trunk routing slots; another
resource is named by its REASON (log entry 173). -/
def refusedTable (reason : Nat) : Nat :=
  match reason with
  | 4 => 7
  | 7 => 2
  | 10 => 4
  | r => r

/-- A demand is refused (R186). -/
def State.plcRefuse (s : State) (reason : Nat) : State :=
  (((s.setFlag F.PLC_STAT_REFUSED true).setFld F.PLC_STAT_REASON reason).count31 A.PLC_REFUSE_CNT 1).log 186 noSrc
    (det 1 (refusedTable reason))

/-- Streams leave for a confirmed slice's replacement: its number gives way to the spare's in every share list (R201). -/
def Placement.swapSlice (l : Placement) (a b : Nat) : Placement :=
  { l with ins := l.ins.map fun c =>
      if c.2.shares.contains a then
        (c.1, { c.2 with shares := c.2.shares.map fun x => if x = a then b else x
                         moving := some (c.2.moving.getD c.2.shares) })
      else c }

/-- The placement in force with confirmed slices replaced by spares, lowest first; the slices that leave, the spares
that come. -/
def State.retireSlices (s : State) : Placement × List Nat × List Nat :=
  let go := s.plc.confirmed.filter fun sl => !(s.plc.leaving.contains sl)
  let pairs := go.zip (s.slicesIn 1)
  (pairs.foldl (fun l c => l.swapSlice c.1 c.2) s.plc.force, go, pairs.map (·.2))

/-- Streams of nodes that are gone, and routed streams whose trunk is not ready, return to WAITING (R184, R193). -/
def State.dropLost (s : State) (inp : PlcIn) (l : Placement) : Placement :=
  let l := l.setStates (fun c => c.2.state == 1 && !s.nodeIn inp c.2.form) 2 0
  l.setStates (fun c => c.2.state == 1 && (c.2.slot.map fun k => !s.routeReady c.2.trk k).getD false) 2 9

/-- One WAITING stream of a joining node becomes PLACED if its trunk is ready and passes with it; else it stays WAITING with
reason TRUNK (R193, R454). The flag says that a trunk failed. -/
def State.joinStream (s : State) (r : Placement × Bool) (c : Nat × OutPlace) : Placement × Bool :=
  let on := r.1.setStates (fun x => x.1 == c.1) 1 0
  let stay := r.1.setStates (fun x => x.1 == c.1) 2 9
  match c.2.slot with
  | none => (on, r.2)
  | some k =>
    if !s.routeReady c.2.trk k then (stay, r.2)
    else if s.trunkFits on c.2.trk false true then (on, r.2) else (stay, true)

/-- One node joins (R184): its WAITING streams become PLACED where its port passes, and for routed ones the trunk, in
ascending OSID order (log entry 203). -/
def State.joinNode (inp : PlcIn) (na : Nat) (r : State × Placement) : State × Placement :=
  let (s, l) := r
  let mine := fun (c : Nat × OutPlace) => c.2.state == 2 && s.fld (F.ING_ENT0_NA c.2.form.isid) == na
  if !inp.joined.contains na || !l.outs.any mine then (s, l)
  else
    let (try', bad) := (l.outs.filter mine).foldl s.joinStream (l, false)
    if (s.trunkOf na).isNone && !s.hopsFit try' (na / 8) then (s.plcRefuse 6, l.setStates mine 2 6)
    else (if bad then s.plcRefuse 9 else s, try')

/-- The staged registers of every pool that differ from reset (R183). -/
def State.stagedPools (s : State) : Tbl PoolReg :=
  (List.range 64).filterMap fun p =>
    let r : PoolReg := ⟨s.reg (A.PLC_POOL_CFG p), s.pair (A.PLC_POOL_BASE_LO p) 32⟩
    if r = ⟨8#32, 0⟩ then none else some (p, r)

/-- The EN bits that are 0 (R181). -/
def State.offNow (s : State) : List Nat :=
  (s.listed 0xC10004 0x10 1024).filter fun o => !s.flag (F.PLC_OSID_CTRL_EN o)

/-- Whether staged pools may not be put in force (R183, R272): an ENT_LOG2 outside 4–16 in any pool, or a change of a pool that is
valid and named by a placed stream. A pool not yet provided may be. -/
def State.poolsInvalid (s : State) (l : Placement) (staged : Tbl PoolReg) : Bool :=
  (List.range 64).any fun p =>
    let new := (tblOpt staged p).getD ⟨8#32, 0⟩
    let old := s.poolReg p
    let n := fldGet new.cfg 1 5
    let used := l.outs.any fun c => c.2.state == 1 && ((c.2.ch.bind (tblOpt l.chans ·)).map fun b => b.1 == p).getD false
    let changed := new.base != old.base || n != fldGet old.cfg 1 5 || !bitOn new.cfg 0
    (decide (n < 4) || decide (16 < n)) ||
      (used && changed && bitOn old.cfg 0 && !(s.plc.poolReset.contains p))

/-- What a submit phase does with the placement tried, `r`: it stands where nothing fails; otherwise the changes are
refused, and the first failure is the reason (R186). -/
def State.submitEnd (s : State) (l : Placement) (staged : Tbl PoolReg) (off : List Nat) (r : Placement × List Nat) :
    State × Placement × Option (Tbl PoolReg) :=
  match if s.poolsInvalid l staged then r.2 ++ [11] else r.2 with
  | [] =>
    let gone := s.plc.refused.filter fun o => (tblOpt r.1.outs o).isNone
    let s := gone.foldl (fun s o => s.setReg (A.PLC_OSID_STAT o) 0) s
    ({ s with plc := { s.plc with off := off, refused := [] } }, r.1, some staged)
  | why :: _ =>
    let new := s.plc.off.filter fun o => !(off.contains o)
    (({ s with plc := { s.plc with refused := new } } : State).plcRefuse (if why = 12 then 2 else why), l, none)

/-- The host's submitted demand as one whole (R183, R186). -/
def State.submitPhase (s : State) (inp : PlcIn) (l : Placement) : State × Placement × Option (Tbl PoolReg) :=
  let staged := s.stagedPools
  let off := s.offNow
  let inp := { inp with off := off, pools := staged }
  let back : Placement := { l with outs := l.outs.filter fun c => c.2.state != 3 }
  s.submitEnd l staged off (s.tryPlace inp back (s.demand inp.mode off))

/-! ### The registers of a placement (R194) -/

/-- A load in 1/65,536 of a capacity per second, rounded up. -/
def load16 (load R cap : Nat) : Nat := if cap = 0 then 0 else min 65535 (ceilDiv (load * R * 65536) cap)

/-- The four loads of a placement: slices, line store, host link, highest slice. -/
def State.loads (s : State) (l : Placement) (usable : Nat) : Nat × Nat × Nat × Nat :=
  let R := s.cfgRate
  let host := (Caps0.mk usable s.plc.width s.plc.gts false).host
  let top := (List.range 34).foldl (fun m sl => max m (s.sliceLoad l sl)) 0
  (load16 (s.cycleLoad l) R (min usable 32 * 1000000000), load16 (s.storeLoad l) R 4096000000000,
   load16 (s.hostLoad s.planMode l) R host, load16 top R 1000000000)

/-- PLC_OSID_STAT and PLC_OSID_OFS of every output stream named. -/
def State.outRegs (s : State) (old l : Placement) : State :=
  let gone := old.outs.filter fun c => (tblOpt l.outs c.1).isNone
  let s := gone.foldl (fun s c => (s.setReg (A.PLC_OSID_STAT c.1) 0).setReg (A.PLC_OSID_OFS c.1) 0) s
  l.outs.foldl (fun s c =>
    let o := c.2
    let w := o.state + o.ch.getD 0 * 8 + o.slot.getD 0 * 2 ^ 11 + (if o.slot.isSome then 2 ^ 16 else 0) +
      (if o.state = 2 then o.reason else 0) * 2 ^ 17
    (s.setReg (A.PLC_OSID_STAT c.1) (BitVec.ofNat 32 w)).setReg (A.PLC_OSID_OFS c.1) (BitVec.ofNat 32 o.ofs)) s

/-- The state REFUSED of streams that a refused submit newly enabled (R186). -/
def State.refusedRegs (s : State) (reason : Nat) : State :=
  s.plc.refused.foldl (fun s o => s.setReg (A.PLC_OSID_STAT o) (BitVec.ofNat 32 (4 + reason * 2 ^ 17))) s

/-- PLC_ISID_MAP and LST_Q_STAT.PAGES of every input stream named. -/
def State.inRegs (s : State) (old l : Placement) : State :=
  let gone := old.ins.filter fun c => (tblOpt l.ins c.1).isNone
  let s := gone.foldl (fun s c =>
    ((s.setReg (A.PLC_ISID_MAP_LO c.1) 0).setReg (A.PLC_ISID_MAP_HI c.1) 0).setFld (F.LST_Q_STAT_PAGES c.1) 0) s
  l.ins.foldl (fun s c =>
    let m := c.2.shares.foldl (fun a x => a ||| 2 ^ x) 0
    let hi := m / 2 ^ 32 + c.2.shares.length * 4 + if c.2.moving.isSome then 64 else 0
    let s := (s.setReg (A.PLC_ISID_MAP_LO c.1) (BitVec.ofNat 32 m)).setReg (A.PLC_ISID_MAP_HI c.1) (BitVec.ofNat 32 hi)
    s.setFld (F.LST_Q_STAT_PAGES c.1) c.2.pages.length) s

/-- USABLE and SPARES (R194). -/
def State.roleRegs (s : State) : State :=
  (s.setFld F.PLC_STAT_USABLE (s.slicesIn 2).length).setFld F.PLC_STAT_SPARES (min 3 (s.slicesIn 1).length)

/-- Every other field that a publication updates: slices, free pages, pools, loads, roles, SHED. -/
def State.sumRegs (s : State) (l : Placement) : State :=
  let s := (List.range 34).foldl (fun s sl =>
    (s.setFld (F.SLC_STAT_STREAMS sl) (min 63 (l.ins.countP fun c => c.2.shares.contains sl))).setFld
      (F.SLC_STAT_MEM_USED sl) (ceilDiv (s.sliceMem l sl) 1024)) s
  let s := s.setFld F.LST_STAT_FREE (1536 - l.ins.foldl (fun n c => n + c.2.pages.length) 0)
  let s := (List.range 64).foldl (fun s p =>
    let chs := l.chans.filter fun c => c.2.1 == p
    let need := chs.foldl (fun m c => max m (l.layoutLen c.1)) 0
    s.setReg (A.PLC_POOL_STAT p) (BitVec.ofNat 32 (need / 4096 % 2 ^ 20 + chs.length * 2 ^ 20))) s
  let s := s.roleRegs
  let (a, b, c, d) := s.loads l (s.slicesIn 2).length
  let s := (s.setReg A.PLC_LOAD0 (BitVec.ofNat 32 (a + b * 65536))).setReg A.PLC_LOAD1 (BitVec.ofNat 32 (c + d * 65536))
  s.setFlag F.GLB_HERD_STAT_SHED (l.outs.any fun c => c.2.state == 3)

/-! ### Publication (R194–R197) -/

/-- A set of slices as a number. -/
def sliceSet (l : List Nat) : Nat := l.foldl (fun a x => a ||| 2 ^ x) 0

/-- The placement record (R196). -/
def State.plcRecord (s : State) (l : Placement) (herd causes at' : Nat) : List Byte :=
  let n := fun st => l.outs.countP fun c => c.2.state == st
  let free := 1536 - l.ins.foldl (fun n c => n + c.2.pages.length) 0
  let (a, b, c, d) := s.loads l (s.slicesIn 2).length
  let host := (Caps0.mk 32 s.plc.width s.plc.gts false).host
  let head := leBytes 4 (s.reg A.PLC_GEN).toNat ++ leBytes 6 herd ++ leBytes 1 s.planMode ++ leBytes 1 causes ++
    leBytes 2 (n 1) ++ leBytes 2 (n 2) ++ leBytes 2 (n 3) ++ leBytes 2 (l.ins.countP fun c => c.2.moving.isSome) ++
    leBytes 5 (sliceSet ((s.slicesIn 2).filter fun x => !(s.plc.leaving.contains x))) ++
    leBytes 5 (sliceSet (s.slicesIn 4 ++ s.plc.leaving)) ++ leBytes 2 free ++
    leBytes 2 a ++ leBytes 2 b ++ leBytes 2 c ++ leBytes 2 d ++ leBytes 2 l.chans.length ++
    leBytes 2 (l.outs.countP fun c => c.2.slot.isSome) ++ leBytes 4 (host / 1000000) ++ leBytes 6 (st48 at') ++
    List.replicate 6 0#8
  head ++ leBytes 4 (crc32c head)

/-- Write a record to the placement log (R197). -/
def State.plcLog (s : State) (rec' : List Byte) : State :=
  if !s.flag F.PLC_LOG_CFG_EN then s
  else if !s.canMaster then s.count31 A.PLC_LOG_LOST 1
  else
    let n := max 4 (s.fld F.PLC_LOG_CFG_SIZE_LOG2)
    let i := s.fld F.PLC_LOG_IDX_IDX
    (s.post (s.pair A.PLC_LOG_BASE_LO 32 + i % 65536 * 64) rec' false false).setFld F.PLC_LOG_IDX_IDX (idxNext n i)

/-- Put pools in force (R183); a pool whose ring has changed starts anew at its own indices. -/
def State.applyPools (s : State) (pools : Tbl PoolReg) : State :=
  let s : State := { s with plc := { s.plc with pools := pools, poolReset := [] } }
  (List.range 64).foldl (fun s p =>
    if s.poolValid p && (s.pool p).cache.isEmpty then
      (s.setPool p { s.pool p with fetchIdx := s.fld (F.DMA_POOL_CI_IDX p) }).poolGo p
    else s) s

/-- Slices take the roles that a run gives them (R201). -/
def State.swapRoles (s : State) (retire promote : List Nat) : State :=
  let s := promote.foldl (fun s sl => (s.setFld (F.SLC_STAT_STATE sl) 2).setFlag (F.SLC_STAT_REPL sl) true) s
  { s with plc := { s.plc with
      leaving := retire.foldl (fun l x => setIns x l) s.plc.leaving
      confirmed := s.plc.confirmed.filter fun x => !(retire.contains x) } }

/-- Publish the run in progress at boundary time `at'`, for herd `herd` on (R194, R195). -/
def State.publish (s : State) (herd at' : Nat) : State :=
  match s.plc.run with
  | none => s
  | some r =>
    let old := s.plc.force
    let s : State := { s with plc := { s.plc with run := none } }
    let s := (s.setFlag F.PLC_STAT_RUN false).swapRoles r.retire r.promote
    let s := match r.pools with
      | some p => s.applyPools p
      | none => s
    if !r.change then s.settleLeaving
    else
      let gen := ((s.reg A.PLC_GEN).toNat + 1) % 2 ^ 32
      let s := (s.setReg A.PLC_GEN (BitVec.ofNat 32 gen)).setFld F.PLC_STAT_GEN_LO (gen % 65536)
      let s := s.setPair A.PLC_GEN_HERD_LO 16 herd
      -- moves that were adopted while the run was in progress stay adopted
      let new : Placement := { r.result with ins := r.result.ins.map fun c => match tblOpt old.ins c.1 with
        | some o => if o.shares = c.2.shares then (c.1, { c.2 with moving := o.moving }) else c
        | none => c }
      let s : State := { s with plc := { s.plc with force := new, layouts := (gen, new) :: s.plc.layouts } }
      let s := (((s.outRegs old new).inRegs old new).sumRegs new).openRings.closeRings.settleLeaving
      let s := s.plcLog (s.plcRecord new herd r.causes at')
      if s.flag F.PLC_CFG_IRQ_EN then s.raiseIrq 288 else s

/-! ### A run starts (R178–R187) -/

/-- Nodes that this run's health phase has sent back to WAITING for a hop: a later run retries them (R187). -/
def State.sentBack (s : State) (base l : Placement) (na : Nat) : Bool :=
  l.outs.any fun c => c.2.state == 2 && c.2.reason == 6 && s.fld (F.ING_ENT0_NA c.2.form.isid) == na &&
    ((tblOpt base.outs c.1).map (·.state)) == some 1

/-- What a run's first phase leaves: the placement before the forced change and after it, how many streams it shed, the slices
that leave and the spares that come. -/
structure Health where
  before : Placement
  after : Placement
  shed : Nat
  retire : List Nat
  promote : List Nat

/-- Phase 1: lost nodes' streams go to WAITING, retired slices' work moves, and the demand of the mode in force is placed as a
forced change (R180, R187). -/
def State.healthPhase (s : State) : Health :=
  let (base, retire, promote) := s.retireSlices
  let inp := { s.plcInputs s.planMode s.plc.off s.plc.pools promote with forced := true }
  let base := s.dropLost inp base
  let (l, n) := s.forcePlace inp base (s.demand inp.mode inp.off)
  ⟨base, l, n, retire, promote⟩

/-- Phase 2: a mode's whole demand on top of phase 1's result, its overlay applied in `s`; the reasons for which it fails
(R180). -/
def State.modePhase (s : State) (h : Health) (mode : Nat) : Placement × List Nat :=
  let inp := s.plcInputs mode s.plc.off s.plc.pools h.promote
  s.tryPlace inp { h.after with outs := h.after.outs.filter fun c => c.2.state != 3 } (s.demand mode inp.off)

/-- Start a run at this boundary: phases 3 and 4 follow the placement `l` of phases 1 and 2 (R180). -/
def State.startRun (s : State) (causes : Nat) (h : Health) (l : Placement) : State :=
  let inp := s.plcInputs s.planMode s.plc.off s.plc.pools h.promote
  let s := if h.shed = 0 then s else s.log (if causes.testBit 5 then 20 else 187) noSrc (det 2 h.shed)
  let joins := inp.joined.filter fun na => !s.sentBack h.before l na
  let (s, l) := joins.foldl (fun r na => State.joinNode inp na r) (s, l)
  let (s, l, pools) := if s.plc.submit then s.submitPhase inp l else (s, l, none)
  let s := s.refusedRegs (s.fld F.PLC_STAT_REASON)
  let run : RunSt := ⟨l, causes, pools, h.retire, h.promote, l != s.plc.force || h.retire != []⟩
  { s with plc := { s.plc with run := some run, trig := 0, submit := false } }.setFlag F.PLC_STAT_RUN true

/-- Whether a mode's demand fits the capacities of the start check, its overlay applied in `s` (R34). -/
def State.modeFits (s : State) (mode : Nat) (caps : Caps0) : Bool :=
  let inp : PlcIn := ⟨mode, [], caps, List.range 32, List.range 32, [], [], false⟩
  decide ((s.arrange inp noPlacement noPlacement (s.demand mode []) false).2 = [])

/-- A write of PLC_CTRL (R183). -/
def State.plcCtrl (s : State) (v : Word) : State :=
  if bitOn v 0 then ({ s with plc := { s.plc with submit := true } } : State).plcTrigger 7 else s

/-- A write of PLC_LOG_CFG: EN from 0 to 1 resets the index (R197). -/
def State.plcLogCfg (s : State) (v : Word) : State :=
  let was := s.flag F.PLC_LOG_CFG_EN
  let s := s.plainWrite A.PLC_LOG_CFG v
  if !was && s.flag F.PLC_LOG_CFG_EN then s.setFld F.PLC_LOG_IDX_IDX 0 else s

/-! ### The slice audit (R199–R201) -/

/-- The slice that audits in herd n; a spare under BIST audits nothing (R413). -/
def State.auditor (s : State) (n : Nat) : Option Nat :=
  match (s.slicesIn 1).filter fun sl => s.fld (F.SLC_SVC_STAT_STATE sl) != 1 with
  | a :: b :: _ => some (if n % 2 = 0 then a else b)
  | [a] => some a
  | [] => none

/-- The slice that seed r selects, or the suspect. -/
def State.auditTarget (s : State) (r : Nat) : Option Nat :=
  match s.plc.suspect with
  | some x => some x.1
  | none =>
    let work := (s.slicesIn 2).filter fun sl => s.plc.force.ins.any fun c => c.2.shares.contains sl
    if work = [] then none else work[r % work.length]?

/-- Set the audit of a tick from its seed: its line is still to be found. -/
def State.setAudit (s : State) (n r : Nat) : State :=
  let au := if s.flag F.PLC_CFG_AUDIT_EN then s.auditor n else none
  let s := s.setFld F.PLC_AUDIT_STAT_AUDITOR (au.getD 0x3F)
  match au, s.auditTarget r with
  | some a, some t => { s with plc := { s.plc with audit := some ⟨a, t, r / 65536 % 256, r, 0, [], none⟩ } }
  | _, _ => { s with plc := { s.plc with audit := none } }

/-- The strikes of the two spares (R200). -/
def State.strikeRegs (s : State) : State :=
  let n := fun (k : Nat) => match (s.slicesIn 1)[k]? with
    | some sl => min 3 (tblGet (fun _ => []) s.plc.strikes sl).length
    | none => 0
  (s.setFld F.PLC_AUDIT_STAT_STRIKES_LO (n 0)).setFld F.PLC_AUDIT_STAT_STRIKES_HI (n 1)

/-- A mismatch found by `au` on `t` (R200). -/
def State.auditMismatch (s : State) (au t isid line : Nat) : State :=
  let s := s.count31 A.PLC_AUDIT_MISM 1
  let two := decide (2 ≤ (s.slicesIn 1).length)
  match s.plc.suspect with
  | none =>
    let s : State := { s with plc := { s.plc with suspect := some (t, au, 64, two) } }
    let s := ((s.setFld (F.SLC_STAT_STATE t) 3).setFld F.PLC_AUDIT_STAT_SUSPECT t).setFld F.PLC_AUDIT_STAT_RAISED_BY au
    s.roleRegs.log 200 t (det 1 au ++ det 2 isid ++ det 2 line)
  | some (sl, by', left, _) =>
    if sl ≠ t then s.log 200 t (det 1 au ++ det 2 isid ++ det 2 line)
    else if 0 < left && (!two || au != by') && !(s.plc.confirmed.contains sl) && !(s.plc.leaving.contains sl) then
      ({ s with plc := { s.plc with confirmed := setIns sl s.plc.confirmed } } : State).plcTrigger 4
    else s

/-- The audit of this tick compares its line, once the target has emitted one (R199, R200); in Service the next one starts at
once. -/
def State.auditCompare (s : State) (mismatch : Bool) : State :=
  match s.plc.audit.bind fun a => a.line.map fun l => (a, l) with
  | none => s
  | some (a, isid, line) =>
    let s := (s.count48 A.PLC_AUDIT_CNT_LO 1).setFld F.PLC_AUDIT_STAT_TARGET a.target
    let s : State := { s with plc := { s.plc with audit := none } }
    let s := if mismatch then s.auditMismatch a.auditor a.target isid line else s
    if s.mode = 3 then s.setAudit s.aon.herd (crc32c (leBytes 4 a.seed)) else s

/-- A spare receives a strike; with 2 within 4,096 ticks it is RETIRED (R200). -/
def State.strike (s : State) (sl : Nat) : State :=
  let now := s.aon.herd
  let old := (tblGet (fun _ => []) s.plc.strikes sl).filter fun n => decide (now < n + 4096)
  let s : State := { s with plc := { s.plc with strikes := tblSet (fun _ => []) s.plc.strikes sl (now :: old) } }
  if old.isEmpty then s.strikeRegs
  else ((s.retireSlice sl).roleRegs.plcTrigger 4).strikeRegs

/-- 64 boundaries have passed without confirmation (R200). -/
def State.suspectEnd (s : State) : State :=
  match s.plc.suspect with
  | none => s
  | some (t, by', left, two) =>
    if 0 < left || s.plc.confirmed.contains t || s.plc.leaving.contains t then s
    else
      let s : State := { s with plc := { s.plc with suspect := none } }
      let s := ((s.setFld (F.SLC_STAT_STATE t) 2).setFld F.PLC_AUDIT_STAT_SUSPECT 0x3F).setFld
        F.PLC_AUDIT_STAT_RAISED_BY 0x3F
      let s := s.roleRegs.log 200 t []
      if two then s.strike by' else s

/-- A boundary counts against a suspicion. -/
def State.suspectTick (s : State) : State :=
  { s with plc := { s.plc with suspect := s.plc.suspect.map fun x => (x.1, x.2.1, x.2.2.1 - 1, x.2.2.2) } }

/-! ### Commands -/


/-- AUDIT_COMPARE (R199, R200): `mismatch` says that the target and the auditor made different bytes of the audited line. -/
def execAuditCompare (mismatch : Bool) (s : State) : Result := .next (s.whenUp fun s => s.auditCompare mismatch)

/-- SUSPECT_TIMEOUT (R200). -/
def execSuspectTimeout (s : State) : Result := .next (s.whenUp State.suspectEnd)

/-- PLC_CTRL_SUBMIT (R183). -/
def execPlcCtrlSubmit (path : Path) (v : Word) (s : State) : Result :=
  .next (s.guarded path A.PLC_CTRL false fun s => s.plcCtrl (v ||| 1#32))

/-- PLC_LOG_CFG_ENABLE (R197). -/
def execPlcLogCfgEnable (path : Path) (v : Word) (s : State) : Result :=
  .next (s.guarded path A.PLC_LOG_CFG false fun s => s.plcLogCfg (v ||| 1#32))

end Sys2Proof.Machine
end

