-- ==== Sys2Proof/Machine/Graze.lean ====
section
/-! DEFINITION. Graze (chapter 08): the queue and its two paths, the check and matching of a request, its service line
by line within the budgets, and its end. -/

namespace Sys2Proof.Machine

/-! ### The request (R202) -/

/-- A graze request: its 32 bytes, and their fields. -/
abbrev GrzReq := List Byte

/-- A little-endian field of a request, and some bits of one. -/
def GrzReq.le (r : GrzReq) (at' n : Nat) : Nat := ofLe ((List.drop at' r).take n)
def GrzReq.isid (r : GrzReq) : Nat := r.le 0 2 % 1024
def GrzReq.sub (r : GrzReq) : Nat := bitsOf (r.le 0 2) 10 3
def GrzReq.herd (r : GrzReq) : Nat := r.le 2 6
def GrzReq.x (r : GrzReq) : Nat := r.le 8 2
def GrzReq.y (r : GrzReq) : Nat := r.le 10 2
def GrzReq.w (r : GrzReq) : Nat := r.le 12 2
def GrzReq.h (r : GrzReq) : Nat := r.le 14 2
def GrzReq.osid (r : GrzReq) : Nat := r.le 16 2 % 1024
def GrzReq.scale (r : GrzReq) : Nat := bitsOf (r.le 18 1) 0 2
def GrzReq.corr (r : GrzReq) : Bool := (r.le 18 1).testBit 2
def GrzReq.pack (r : GrzReq) : Nat := bitsOf (r.le 18 1) 3 3
def GrzReq.cq (r : GrzReq) : Nat := r.le 19 1 % 64
def GrzReq.tag (r : GrzReq) : Nat := r.le 20 2
def GrzReq.room (r : GrzReq) : Nat := r.le 22 2 * 4096
def GrzReq.dest (r : GrzReq) : Nat := r.le 24 8

/-- Every reserved bit is 0, and DEST is 4 KiB aligned (R203). -/
def GrzReq.clean (r : GrzReq) : Bool :=
  bitsOf (r.le 0 2) 13 3 == 0 && bitsOf (r.le 16 2) 10 6 == 0 && bitsOf (r.le 18 1) 6 2 == 0 &&
    bitsOf (r.le 19 1) 6 2 == 0 && r.dest % 4096 == 0

/-- The binning factor k; its output size (R205). -/
def GrzReq.bin (r : GrzReq) : Nat := 2 ^ r.scale
def GrzReq.outW (r : GrzReq) : Nat := r.w / r.bin
def GrzReq.outH (r : GrzReq) : Nat := r.h / r.bin

/-- Pixels of the packing group of a PACK code. -/
def packGroupOf (pack dt : Nat) : Nat :=
  match pack with
  | 4 => 1
  | 5 => (dtGroup dt).1
  | _ => (dtGroup (packDt pack)).1

/-- Whether a PACK code suits B output bits (R169). -/
def packBits (pack bits : Nat) : Bool :=
  match pack with
  | 0 => bits == 8
  | 1 => bits == 10
  | 2 => bits == 12
  | 3 => bits == 16
  | 4 | 5 => true
  | _ => false

/-- Unpadded payload bytes of an output line, and P (R205). -/
def GrzReq.raw (r : GrzReq) (dt : Nat) : Nat := packBytes r.pack dt r.outW
def GrzReq.pay (r : GrzReq) (dt : Nat) : Nat := pad32 (r.raw dt)

/-- The stages' parameters for a crop (R204): CORR = 0 bypasses stages 2 to 7. -/
def State.grzGeo (s : State) (r : GrzReq) : Geo :=
  let g := s.geoOf r.isid (s.liveNow r.isid)
  let g := { g with scale := r.scale }
  if r.corr then g
  else { g with decomp := false, black := false, sdef := false, ddef := false, shade := false, gain := false, curve := false }

/-- The input lines read: the first, and the one after the last (R210). -/
def GrzReq.lines (r : GrzReq) (g : Geo) : Nat × Nat :=
  (r.y - g.margin, min g.lines (r.y + r.h + g.margin))

/-- SPAN (R210). -/
def GrzReq.span (r : GrzReq) (g : Geo) : Nat := min g.width (r.x + r.w + g.margin) - (r.x - g.margin)

/-- Line memory of a crop (R212). -/
def GrzReq.mem (r : GrzReq) (g : Geo) : Nat :=
  16384 + (if g.stage4 then 12 * r.span g else 0) + if r.scale = 0 then 0 else 8 * r.w / r.bin

/-- Whether a request is valid (R203); a poisoned entry, and any entry while graze is not enabled, is not (R210,
R285). -/
def State.grzValid (s : State) (r : GrzReq) (poisoned : Bool) : Bool :=
  let i := r.isid
  let q := s.streamRatio i
  let g := s.grzGeo r
  let even := fun n => n % 2 == 0
  s.flag F.GRZ_CFG_EN && !poisoned && s.flag (F.ING_ENT0_VALID i) && s.flag (F.ING_ENT0_RETAIN i) &&
    (if q.div then r.sub == 0 else decide (r.sub < q.k)) &&
    even r.x && even r.y && even r.w && even r.h && decide (r.x + r.w ≤ g.width) && decide (r.y + r.h ≤ g.lines) &&
    r.scale != 3 && (r.scale == 0 || (r.w % (2 * r.bin) == 0 && r.h % (2 * r.bin) == 0)) &&
    decide (2 ≤ r.outW) && r.outW % packGroupOf r.pack g.dt == 0 && packBits r.pack g.bits &&
    (r.pack != 5 || (r.scale == 0 && !r.corr && r.x % (dtGroup g.dt).1 == 0 && r.w % (dtGroup g.dt).1 == 0)) &&
    r.clean

/-! ### The end of a request (R213) -/

/-- The body of a GRAZE record (R249). -/
def grzBody (r : GrzReq) (status idx done flags : Nat) (chg : Bool) : List Byte :=
  leBytes 1 (status + if chg then 16 else 0) ++ leBytes 1 idx ++ leBytes 1 0 ++ leBytes 2 r.tag ++ leBytes 2 done ++
    leBytes 2 flags ++ leBytes 4 r.herd

/-- Note a request's end: its counts and LAST fields. -/
def State.grzEnded (s : State) (status idx : Nat) : State :=
  let s := (s.setFld F.GRZ_STAT_LAST_STATUS status).setFld F.GRZ_STAT_LAST_IDX idx
  match status with
  | 0 => s.count48 A.GRZ_DONE_CNT_LO 1
  | 1 => s.count31 A.GRZ_GONE_CNT 1
  | _ => s

/-- The request taken ends: its record is posted (R213). -/
def State.grzFinish (s : State) (r : GrzReq) (status idx done flags : Nat) (chg : Bool) : State :=
  ((s.postRec r.cq 3 (grzBody r status idx done flags chg)).chBytes (s.fld F.GRZ_CFG_CH) 16).grzEnded status idx

/-- Whether a live commit was applied after the SOF of a frame (R204). -/
def State.grzChanged (s : State) (i fid : Nat) : Bool :=
  ((s.frame i fid).map fun f => decide (f.commits < (s.str i).commits)).getD false

/-- Whether a live commit was applied after the SOF of the frame of the request in service (R204). -/
def State.serveChg (s : State) (v : GrzServe) : Bool :=
  decide (v.commits < (s.str (GrzReq.isid v.req)).commits)

/-- The request in service ends. -/
def State.grzEnd (s : State) (status : Nat) : State :=
  match s.grz.serve with
  | none => s
  | some v =>
    let s : State := { s with grz := { s.grz with serve := none } }
    (s.setFlag F.GRZ_STAT_BUSY false).grzFinish v.req status v.idx v.done v.flags (s.serveChg v)

/-! ### The queue (R206, R207) -/

/-- The 32 bytes of entry i; whether it holds a poisoned word. -/
def State.grzEntry (s : State) (i : Nat) : GrzReq := (List.range 8).flatMap fun w => leBytes 4 (s.reg (A.GRZ_Q i w)).toNat
def State.grzPoisoned (s : State) (i : Nat) : Bool := s.grz.poisoned.any fun w => w / 8 == i

/-- Entries pending. -/
def State.grzPending (s : State) : Nat := s.fld F.GRZ_STAT_PENDING

/-- An index with its phase, as one number of 9 bits, and the word it is in. -/
def State.grzIdx (s : State) (idx phase : Fld) : Nat := s.fld idx + 256 * s.fld phase
def State.grzPiNum (s : State) : Nat := s.grzIdx F.GRZ_PI_IDX F.GRZ_PI_PHASE
def State.grzCiNum (s : State) : Nat := s.grzIdx F.GRZ_CI_IDX F.GRZ_CI_PHASE

/-- Move PI, and count what is pending. -/
def State.grzSetPi (s : State) (n : Nat) : State :=
  ((s.setFld F.GRZ_PI_IDX (n % 256)).setFld F.GRZ_PI_PHASE (n / 256 % 2)).setFld F.GRZ_STAT_PENDING
    ((n % 512 + 512 - s.grzCiNum) % 512)

/-- A discarded PI write, and a discarded submit (R206). -/
def State.grzPiRej (s : State) : State := (s.count31 A.GRZ_REJ_CNT 1).setFlag F.GRZ_STAT_PI_REJ true
def State.grzSubRej (s : State) : State := (s.count31 A.GRZ_REJ_CNT 1).setFlag F.GRZ_STAT_SUBMIT_REJ true

/-- A write of GRZ_PI (R206). -/
def State.grzPi (s : State) (v : Word) : State :=
  let n := fldGet v 0 9
  let d := (n + 512 - s.grzCiNum) % 512
  if !s.flag F.GRZ_CTRL_RING then s.grzPiRej
  else if d > 256 ∨ d < s.grzPending then (if d > 256 then s.grzPiRej.tableFull 5 else s.grzPiRej)
  else s.grzSetPi n

/-- A write of GRZ_SUBMIT on a path (R206). -/
def State.grzSubmit (s : State) (p : Path) (v : Word) : State :=
  if !bitOn v 0 then s
  else if s.flag F.GRZ_CTRL_RING then s.grzSubRej
  else if 256 ≤ s.grzPending then s.grzSubRej.tableFull 5
  else
    let i := s.fld F.GRZ_PI_IDX
    let word := fun w => tblGet (fun _ => 0#32) (s.path p).grzReq w
    let s := (List.range 8).foldl (fun s w => s.setReg (A.GRZ_Q i w) (word w)) s
    let s : State := { s with grz := { s.grz with poisoned := s.grz.poisoned.filter fun w => w / 8 != i } }
    s.grzSetPi (s.grzPiNum + 1)

/-- The next entry is taken from the queue: CI advances (R207). -/
def State.grzPop (s : State) : State :=
  let n := s.grzCiNum + 1
  let s := (s.setFld F.GRZ_CI_IDX (n % 256)).setFld F.GRZ_CI_PHASE (n / 256 % 2)
  s.setFld F.GRZ_STAT_PENDING (s.grzPending - 1)

/-- End every pending request with a status. -/
def State.grzEndPending (status : Nat) : Nat → State → State
  | 0, s => s
  | fuel + 1, s =>
    if s.grzPending = 0 then s
    else
      let i := s.fld F.GRZ_CI_IDX
      State.grzEndPending status fuel (s.grzPop.grzFinish (s.grzEntry i) status i 0 0 false)

/-- Every request ends ABORTED (R214, R215). -/
def State.grzAbortAll (s : State) : State := State.grzEndPending 6 256 (s.grzEnd 6)

/-- The queue is emptied without records (R215, R271). -/
def State.grzDrop (s : State) : State :=
  let n := s.grzPiNum
  let s := ((s.setFld F.GRZ_CI_IDX (n % 256)).setFld F.GRZ_CI_PHASE (n / 256)).setFld F.GRZ_STAT_PENDING 0
  { s with grz := { s.grz with serve := none, held := none } }.setFlag F.GRZ_STAT_BUSY false

/-- A write of GRZ_CTRL (R206, R214). -/
def State.grzCtrl (s : State) (v : Word) : State :=
  let ring := bitOn v 0
  let s := if ring = s.flag F.GRZ_CTRL_RING then s
    else if s.grzPending = 0 ∧ s.grz.serve.isNone then s.setFlag F.GRZ_CTRL_RING ring
    else s.setFlag F.GRZ_STAT_SUBMIT_REJ true
  if bitOn v 1 then s.grzAbortAll else s

/-! ### Matching and the slice (R208, R212) -/

/-- What a request's frame is: its record, or GONE (1) or NOT_READY (2) (R208). -/
def State.grzMatch (s : State) (r : GrzReq) : FrameRec ⊕ Nat :=
  let fs := (s.str r.isid).frames.filter fun f => f.herd == r.herd && f.sub == r.sub
  match fs.find? (·.retained) with
  | some f => .inl f
  | none =>
    let coming := if fs.isEmpty then s.herdOpen r.herd && s.memberOf r.isid r.herd else fs.any fun f => !f.ended
    .inr (if s.aon.herd < r.herd || coming then 2 else 1)

/-- The slice for a crop: the ACTIVE slice with the most cycles left whose free line memory holds M, the lowest of
equals (R212). -/
def State.grzSlice (s : State) (r : GrzReq) : Option Nat :=
  let l := s.plc.force
  let free := fun sl => (sliceBound s.cfgRate : Int) - s.sliceLoad l sl
  ((s.slicesIn 2).filter fun sl => decide (s.sliceMem l sl + r.mem (s.grzGeo r) ≤ 262144)).foldl
    (fun best sl => match best with
      | some b => if free b < free sl then some sl else some b
      | none => some sl) none

/-- The charges of a request (R210): cycles and line-store bytes per input line, host bytes per output line. -/
def State.grzCharge (s : State) (r : GrzReq) : Nat × Nat × Nat :=
  let g := s.grzGeo r
  (lineCycles (r.span g), s.storedSize r.isid, r.pay g.dt + 64)

/-- Whether a request exceeds its destination, and whether one line of it exceeds a whole budget (R205, R211). -/
def State.grzTooLong (s : State) (r : GrzReq) : Bool :=
  decide (r.room < r.outH * (r.pay (s.grzGeo r).dt + 32))
def State.grzTooDear (s : State) (r : GrzReq) : Bool :=
  let c := s.grzCharge r
  let b := s.grzBudget
  decide (b.1 < c.1) || decide (b.2.1 < c.2.1) || decide (b.2.2 < c.2.2)

/-- The budgets are refilled (R211). -/
def State.grzRefill (s : State) : State :=
  let b := s.grzBudget
  { s with grz := { s.grz with cyc := b.1, lst := b.2.1, host := b.2.2 } }

/-- Whether requests are served now (R215, R269): in modes 1 to 5, from a switch on in the mode switched to as well. -/
def State.grzServes (s : State) : Bool :=
  [s.mode, s.planMode].all (fun m => decide (1 ≤ m) && decide (m ≤ 5)) && !(s.mode == 2 && s.ep.d3) && s.canMaster

/-- Take the next request: it ends at once, or is in service (R207, R208, R212). -/
def State.grzTake (s : State) : State :=
  if !s.grzServes || s.grz.serve.isSome || s.grzPending = 0 then s
  else
    let i := s.fld F.GRZ_CI_IDX
    let r := s.grzEntry i
    let bad := s.grzPoisoned i
    let s := s.grzPop
    if !s.grzValid r bad then s.grzFinish r 3 i 0 0 false
    else if s.grzTooLong r then s.grzFinish r 4 i 0 0 false
    else match s.grzMatch r with
      | .inr st => s.grzFinish r st i 0 0 false
      | .inl f =>
        let chg := s.grzChanged r.isid f.id
        if s.grzTooDear r then s.grzFinish r 4 i 0 0 chg
        else match s.grzSlice r with
          | none => s.grzFinish r 5 i 0 0 chg
          | some sl =>
            let v : GrzServe := ⟨r, f.id, i, sl, (r.lines (s.grzGeo r)).1, 0, 0, f.commits, []⟩
            let s := { s with grz := { s.grz with serve := some v } }.setFlag F.GRZ_STAT_BUSY true
            if r.outH = 0 then s.grzEnd 0 else s

/-! ### Serving (R204, R205, R209–R212) -/

/-- The frame lines that output line o draws on before defect context. -/
def GrzReq.rows (r : GrzReq) (o : Nat) : List Nat :=
  ((List.range r.bin).map fun b => 2 * r.bin * (o / 2) + o % 2 + 2 * b).map (r.y + ·)

/-- The last input line that output line o needs. -/
def GrzReq.needs (r : GrzReq) (g : Geo) (o : Nat) : Nat :=
  min ((r.rows o).foldl max 0 + g.reach) ((r.lines g).2 - 1)

/-- The pixels of output line o (R204, R205). -/
def GrzReq.pixels (r : GrzReq) (g : Geo) (ctx : List SrcLine) (o : Nat) : List Nat :=
  let (lo, hi) := r.lines g
  let gc := { g with lo := lo, hi := hi }
  let l3 := fun y => gc.line3 y (srcAt ctx y)
  let crop := fun j => ((gc.line7 l3 (r.y + j)).drop r.x).take r.w
  ({ gc with width := r.w, lines := r.h } : Geo).line8 crop o

/-- The FLAGS of output line o (R172, R205). -/
def State.grzFlags (s : State) (v : GrzServe) (r : GrzReq) (g : Geo) (o : Nat) : Nat :=
  let (lo, hi) := r.lines g
  let gc := { g with lo := lo, hi := hi, scale := 0 }
  let rows := r.rows o
  let drawn := (rows.flatMap gc.context).eraseDups
  let ls := drawn.map fun y => srcAt v.ctx y
  let l3 := fun y => gc.line3 y (srcAt v.ctx y)
  let dovf := drawn.any fun y => gc.staticOvf y || gc.dynOvf l3 y
  let cols := (List.range r.w).map (r.x + ·)
  inputFlags (ls.map fun l => { l with flags := l.flags - l.flags / 2 % 2 * 2 }) ||| s.sliceFlags v.slice |||
    (if dovf then 8 else 0) ||| (if gc.anyPoison (gc.stageBlocks rows drawn cols) then 64 else 0)

/-- Count the dynamic replacements within the crop, and the lines over the defect limits, of the input lines that output line
o takes (R157, R158; log entry 199). -/
def State.grzStage4 (s : State) (v : GrzServe) (r : GrzReq) (g : Geo) (o : Nat) : State :=
  let (lo, hi) := r.lines g
  let gc := { g with lo := lo, hi := hi }
  let l3 := fun y => gc.line3 y (srcAt v.ctx y)
  (r.rows o).foldl (fun s y =>
    let hits := ((gc.dynHits (gc.line4s l3) y).take 512).filter fun x => decide (r.x ≤ x) && decide (x < r.x + r.w)
    let s := s.count48 (A.SLC_STR_DYN_CNT_LO r.isid) hits.length
    if gc.staticOvf y || gc.dynOvf l3 y then s.count31 (A.SLC_STR_DOVF_CNT r.isid) 1 else s) s

/-- Write output line o to its place (R205). -/
def State.grzLine (s : State) (v : GrzServe) (o : Nat) : State :=
  let r : GrzReq := v.req
  let g := s.grzGeo r
  match s.frame r.isid v.fid with
  | none => s
  | some f =>
    let src := srcAt v.ctx (r.y + o)
    let (n, b) := dtGroup g.dt
    let data := if r.pack = 5 then (src.data.drop (r.x / n * b)).take (r.w / n * b) else packLine r.pack (r.pixels g v.ctx o)
    let flags := s.grzFlags v r g o
    let tag := if r.pack = 5 && r.x == 0 && r.w == g.width then src.tag else []
    let l : OutLine := ⟨r.osid, r.isid, v.fid, 0, r.herd, r.sub, f.frame, o, 0, flags, f.sofTs, tag,
      padTo (r.pay g.dt) data⟩
    let img := lineImage l
    let ch := s.fld F.GRZ_CFG_CH
    let s := if flags.testBit 6 then s.count31 (A.SLC_STR_POISON_CNT r.isid) 1 else s
    let s := (s.grzStage4 v r g o).post (r.dest + o * (r.pay g.dt + 32)) img (s.flag (F.DMA_CH_CFG_RO ch) && s.ep.roEn) false
    let s := (s.chBytes ch img.length).count48 (A.DMA_CH_LINES_LO ch) 1
    { s with grz := { s.grz with
        serve := some { v with done := o + 1, flags := v.flags ||| flags }
        host := s.grz.host - (s.grzCharge r).2.2 } }

/-- Write the output lines at hand while the host budget allows; with the last one the request ends OK. -/
def State.grzWrite : Nat → State → State
  | 0, s => s
  | fuel + 1, s =>
    match s.grz.serve with
    | none => s
    | some v =>
      let r : GrzReq := v.req
      let g := s.grzGeo r
      if r.outH ≤ v.done then s.grzEnd 0
      else if r.needs g v.done < v.next && decide ((s.grzCharge r).2.2 ≤ s.grz.host) then
        State.grzWrite fuel (s.grzLine v v.done)
      else s

/-- A crop leaves a slice that is no longer ACTIVE (R212). -/
def State.grzMove (s : State) : State :=
  match s.grz.serve with
  | none => s
  | some v =>
    if s.fld (F.SLC_STAT_STATE v.slice) = 2 then s
    else match s.grzSlice v.req with
      | some sl => { s with grz := { s.grz with serve := some { v with slice := sl } } }
      | none => s.grzEnd 5

/-- Read the next input line of the crop (R209–R211): one that is no longer there ends the request GONE. -/
def State.grzRead (s : State) (v : GrzServe) (lost : Bool) : State :=
  let r : GrzReq := v.req
  let i := r.isid
  let s := s.onQueue i fun s => s
  match (s.str i).q.lines.find? fun l => l.fid == v.fid && l.line == v.next && l.flags % 2 == 0 && !l.lost with
  | none => s.grzEnd 1
  | some l =>
    if lost || l.ue then (s.uncorrectable i l.pos).grzEnd 1
    else
      let c := s.grzCharge r
      let s := (s.count48 (A.SLC_LINES_LO v.slice) 1).count48 (A.SLC_CYC_LO v.slice) c.1
      let v' := { v with next := v.next + 1, ctx := v.ctx ++ [⟨l.line, l.data, l.flags, l.tag, false⟩] }
      { s with grz := { s.grz with serve := some v', cyc := s.grz.cyc - c.1, lst := s.grz.lst - c.2.1 } }

/-- The request in service has become one that is not served: graze is off (R210), or one line of it exceeds a whole budget
(R211). -/
def State.grzBarred (s : State) : State :=
  match s.grz.serve with
  | none => s
  | some v =>
    if GrzReq.outH v.req ≤ v.done then s
    else if !s.flag F.GRZ_CFG_EN then s.grzEnd 3
    else if s.grzTooDear v.req then s.grzEnd 4
    else s

/-- The crop in service goes on by one input line, if its charges fit what is left (R211). -/
def State.grzStep (s : State) (fixed : Nat) (lost : Bool) : State :=
  let s := (State.grzWrite 16384 s.grzMove).grzBarred
  match s.grz.serve with
  | none => s
  | some v =>
    let r : GrzReq := v.req
    let c := s.grzCharge r
    let waits := decide (r.needs (s.grzGeo r) v.done < v.next)
    let fits := decide (c.1 ≤ s.grz.cyc) && decide (c.2.1 ≤ s.grz.lst) &&
      (decide (v.next < r.needs (s.grzGeo r) v.done) || decide (c.2.2 ≤ s.grz.host))
    if waits || !fits then s
    else State.grzWrite 16384 (({ s with grz := { s.grz with serve := some v } } : State).count31 A.LST_CE_CNT fixed
      |>.grzRead v lost)

/-! ### The image's budget (R210) -/

/-- A write of GRZ_CFG or a budget in Service: one under which the placement in force would fail is discarded (R11,
R210). -/
def State.grzCfg (s : State) (a : Nat) (v : Word) : State :=
  let s' := s.plainWrite a v
  let more := s'.flag F.GRZ_CFG_EN && (!s.flag F.GRZ_CFG_EN || decide ((s.reg a).toNat < (s'.reg a).toNat))
  let r := s'.failures { s.plcInputs s.mode s.plc.off s.plc.pools [] with forced := true } s.plc.force false false false
  if more && r.any fun n => n == 1 || n == 3 || n == 5 then s.imageReject a else s'

/-! ### Commands -/

/-- GRZ_PI_WRITE (R206). -/
def execGrzPiWrite (path : Path) (v : Word) (s : State) : Result :=
  .next (s.guarded path A.GRZ_PI false fun s => s.grzPi v)

/-- GRZ_SUBMIT (R206). -/
def execGrzSubmit (path : Path) (v : Word) (s : State) : Result :=
  .next (s.guarded path A.GRZ_SUBMIT false fun s => s.grzSubmit path (v ||| 1#32))

/-- GRZ_RING_CHANGE: a write of GRZ_CTRL with another RING (R206). -/
def execGrzRingChange (path : Path) (v : Word) (s : State) : Result :=
  .next (s.guarded path A.GRZ_CTRL false fun s =>
    s.grzCtrl (fldPut v 0 1 (if s.flag F.GRZ_CTRL_RING then 0 else 1)))

/-- ABORT_ALL: a write of GRZ_CTRL with ABORT_ALL (R214). -/
def execAbortAll (path : Path) (v : Word) (s : State) : Result :=
  .next (s.guarded path A.GRZ_CTRL false fun s => s.grzCtrl (v ||| 2#32))

/-- GRAZE_TAKE (R207). -/
def execGrazeTake (s : State) : Result := .next (s.whenUp State.grzTake)

/-- GRAZE_LINE_READ (R211): `fixed` and `lost` are the ECC outcome of the read (R141). -/
def execGrazeLineRead (fixed : Nat) (lost : Bool) (s : State) : Result := .next (s.whenUp fun s => s.grzStep fixed lost)

end Sys2Proof.Machine
end

