-- ==== Sys2Proof/Machine/Endpoint.lean ====
section
/-! DEFINITION. The PCI Express endpoint (chapter 10): configuration writes, BAR2 and BAR4 requests, the address
translation table, Bus Master Enable, resets, power states, and the host link. -/

namespace Sys2Proof.Machine

/-! ### Bus Master Enable (R269, R270) -/

/-- A general channel stops because the function may issue no request (R269): the descriptor in progress ends by its
commit point, its write-back waits. -/
def State.chHostStop (s : State) (c : Nat) : State :=
  if s.chState c = chOff then s
  else
    let s := s.chDiscard c
    let x := s.chan c
    let held := match x.cur with
      | some r =>
        let e := r.ended.getD (5, 0)
        x.held ++ [(r.d, e.1, e.2, r.doneOf e.1, r.failAddr e.1)]
      | none => x.held
    let s := match x.cur.bind (·.ended) with
      | some e => if e.1 = 2 then s.count31 (A.DMA_CH_BAD c) 1 else s
      | none => s
    (s.setChan c { x with head := none, cur := none, held := held, hostPaused := true }).setChState c chHostPaused

/-- The general channels that are not as reset leaves them. -/
def State.liveChans (s : State) : List Nat :=
  (s.listed (A.DMA_CH_STAT 0) 0x1000 256).filter fun c => !decide (c < s.fld F.PLC_CFG_DC_NUM) && c != s.fld F.GRZ_CFG_CH

/-- The ring index after those that have been fetched without a gap from CI on, `fuel` at most. -/
def State.poolNext (s : State) (p : Nat) : Nat → Nat → Nat
  | 0, i => i
  | fuel + 1, i =>
    if (s.pool p).cache.any fun d => d.idx == i then s.poolNext p fuel (idxNext (s.poolLog2 p) i) else i

/-- Fetched pool descriptors stay; fetches under way are discarded and asked again later, with what has come from beyond
them (R269). -/
def State.poolRewind (s : State) (p : Nat) : State :=
  let x := s.pool p
  let next := s.poolNext p x.cache.length (s.fld (F.DMA_POOL_CI_IDX p))
  s.setPool p { x with fetchIdx := next, cache := x.cache.filter fun d => s.poolBefore p d.idx next }

/-- The lines that wait for their commit are discarded and counted (R269). -/
def State.dropLines (s : State) : State :=
  let q := s.data.outq
  q.foldl (fun s l => match (s.outPlace l.osid l.herd).bind (·.ch) with
    | some ch => ((if ((s.herd l.herd).map (·.delivers)).getD false then s.count31 (A.DMA_CH_DISC ch) 1 else s)).lineFailed l
    | none => s) { s with data := { s.data with outq := [] } }

/-- Every herd buffer ends ABORTED_BY_HOST; `keep` says that its write-back is owed (R269, R274). -/
def State.dropBufs (s : State) (keep : Bool) : State :=
  let owed := if keep then s.herds.flatMap fun h => if h.closed then [] else 
    h.bufs.map fun b => (b, h.num, decide (b.ch ∈ h.noBuf)) else []
  { s with
    dma := { s.dma with heldBufs := if keep then s.dma.heldBufs ++ owed else [] }
    herds := s.herds.map fun h => { h with bufs := [], waiting := [] } }

/-- The request in service ends ABORTED; its record waits (R269, R270). -/
def State.grzHostStop (s : State) : State :=
  match s.grz.serve with
  | none => s
  | some v =>
    let r : GrzReq := v.req
    ({ s with grz := { s.grz with serve := none, held := some (r.cq, grzBody r 6 v.idx v.done v.flags (s.serveChg v)) } }
      |>.setFlag F.GRZ_STAT_BUSY false).grzEnded 6 v.idx

/-- The function may no longer issue requests (R269, R275). -/
def State.masterStop (s : State) : State :=
  let s := s.liveChans.foldl State.chHostStop s
  let s : State := { s with hep := { s.hep with tags := s.hep.tags.map fun t => { t with discard := true } } }
  let s := (s.dma.pool.map (·.1)).foldl State.poolRewind s
  (s.dropLines.dropBufs true).grzHostStop

/-- The write-back of a herd buffer that ended ABORTED_BY_HOST, and its record: no close has given its herd an OUTCOME
(log entry 175). -/
def State.hostStopBuf (s : State) (b : HerdBuf × Nat × Bool) : State :=
  let info := s.free 2 + if b.2.2 then 4 else 0
  (((s.writeBack b.1.d.at' 5 info b.2.1 b.1.ch).chBytes b.1.ch 10).drawn).bufRecord b.1 5

/-- Write back what ended while requests were barred, post the records owed, send the messages held (R270). -/
def State.masterGo (s : State) : State :=
  if !s.canMaster then s
  else
    let bufs := s.dma.heldBufs
    let s : State := { s with dma := { s.dma with heldBufs := [] } }
    let s := bufs.foldl State.hostStopBuf s
    let cs := s.liveChans
    let s := cs.foldl (fun s c =>
      let l := (s.chan c).held
      l.foldl (fun s h => s.chReport c h.1 h.2.1 h.2.2.1 h.2.2.2.1 h.2.2.2.2) (s.setChan c { s.chan c with held := [] })) s
    let s := cs.foldl (fun s c =>
      if (s.chan c).hostPaused then (s.setChan c { s.chan c with hostPaused := false }).chRecord c 3 0 else s) s
    let s := match s.grz.held with
      | some h => { s with grz := { s.grz with held := none } }.postRec h.1 3 h.2
      | none => s
    (s.flushIrq).kick

/-- Bus Master Enable is written. -/
def State.setBme (s : State) (b : Bool) : State :=
  let was := s.canMaster
  let s : State := { s with ep := { s.ep with bme := b } }
  if was && !s.canMaster then s.masterStop else if !was && s.canMaster then s.masterGo else s

/-- The function's power state is written (R275, R276): D3hot also takes the link to L1. -/
def State.setD3 (s : State) (b : Bool) : State :=
  if s.ep.d3 = b then s
  else
    let was := s.canMaster
    let s : State := { s with ep := { s.ep with d3 := b } }
    let up := s.flag F.HEP_LINK_STAT_DL_UP
    let s := if up then s.setFld F.HEP_LINK_STAT_LSTATE (if b then 2 else 0) else s
    if was && !s.canMaster then s.masterStop else if !was && s.canMaster then s.masterGo else s

/-! ### Resets (R271–R274) -/

/-- Put the registers of an address range back to reset. -/
def State.resetRegs (s : State) (lo hi : Nat) : State :=
  { s with regs := s.regs.filter fun p => p.1 < lo || hi ≤ p.1 }

/-- Registers and pools that every endpoint reset clears (R271). -/
def State.resetRings (s : State) : State :=
  let dc := s.fld F.PLC_CFG_DC_NUM
  -- general channels
  let s := s.resetRegs (A.DMA_CH_CFG dc) (A.DMA_CH_CFG 256)
  -- completion queues
  let s := (s.listed (A.CQ_CFG 0) 0x1000 64).foldl (fun s q => s.setFlag (F.CQ_CFG_EN q) false) s
  -- pools
  let valid := (List.range 64).filter s.poolValid
  let s := (s.listed (A.PLC_POOL_CFG 0) 0x10 64).foldl (fun s p => s.setFlag (F.PLC_POOL_CFG_VALID p) false) s
  let s := (List.range 64).foldl (fun s p =>
    ((s.setReg (A.DMA_POOL_PI p) 0).setReg (A.DMA_POOL_CI p) 0).setFld (F.DMA_POOL_STAT_AVAIL p) 0) s
  let s : State := { s with
    plc := { s.plc with
      pools := s.plc.pools.map fun c => (c.1, { c.2 with cfg := fldPut c.2.cfg 0 1 0 })
      poolReset := valid.foldl (fun l p => setIns p l) s.plc.poolReset }
    dma := { s.dma with chan := [], pool := [], dlvRo := false, wmkEn := false, wmkBase := 0 } }
  -- delivery, the placement log
  let s := ((s.setReg A.DMA_CFG 0).setReg A.DMA_WMK_BASE_LO 0).setReg A.DMA_WMK_BASE_HI 0
  s.setFlag F.PLC_LOG_CFG_EN false

/-- Empty the graze queue: RING, PI and CI at reset (R271). -/
def State.resetGraze (s : State) : State :=
  let s := s.grzDrop.setFlag F.GRZ_CTRL_RING false
  ((s.setReg A.GRZ_PI 0).setReg A.GRZ_CI 0).setFld F.GRZ_STAT_PENDING 0

/-- A reset of the endpoint (R271); `flr` quarantines the outstanding tags, the others free them (R274). A reset under a link
that stays up takes an asserted INTA back (log entry 180). -/
def State.epResetAll (s : State) (flr : Bool) : State :=
  let tags := s.hep.tags.map (·.tag)
  let s := if flr && s.hep.inta then s.emit .deassertInta else s
  let s := ((s.dropLines.dropBufs false).resetGraze).resetRings
  -- ATT, shadow and active
  let s := s.resetRegs (A.HEP_ATT_SH_CTL 0) (A.HEP_ATT_SH_CTL 64)
  let s := (s.setFld F.HEP_ATT_STAT_GEN 0).setFlag F.HEP_ATT_STAT_BUSY false
  -- interrupt map
  let s := s.resetRegs (A.HEP_IRQ_MAP 0) (A.HEP_IRQ_MAP 1316)
  { s with
    ep := epReset
    hep := { s.hep with
      msixTbl := [], pba := [], irqPend := [], inta := false, attOld := none, attWait := false
      tags := []
      quar := if flr then s.hep.quar ++ tags else s.hep.quar
      freed := if flr then s.hep.freed else s.hep.freed ++ tags } }

/-- Restart of the heartbeat timer (R288). -/
def State.restartBeat (s : State) : State := { s with modes := { s.modes with lastBeat := s.time.elapsed } }

/-- Function Level Reset (R274). -/
def State.flr (s : State) : State :=
  let s := s.epResetAll true
  { s with hep := { s.hep with flrBusy := true } }

/-- The FLR completes (R274, R288). -/
def State.flrDone (s : State) : State :=
  if s.hep.flrBusy then ({ s with hep := { s.hep with flrBusy := false } } : State).restartBeat else s

/-- The data link goes down (R287): the endpoint is reset. -/
def State.linkDown (s : State) : State :=
  let s := if s.hep.downSince.isNone then { s with hep := { s.hep with downSince := some s.time.elapsed } } else s
  let s := if s.flag F.HEP_LINK_STAT_DL_UP then s.count31 A.HEP_LINK_DOWN_CNT 1 else s
  let s := (s.setFlag F.HEP_LINK_STAT_DL_UP false).setFld F.HEP_LINK_STAT_LSTATE 3
  s.epResetAll false


/-- The link comes up, trained to a width and rate as HEP_LINK_STAT codes them (R287, R288). -/
def State.linkUp (s : State) (width rate : Nat) (flit : Bool) : State :=
  if s.hep.perst then s
  else
    let s : State := { s with hep := { s.hep with downSince := none } }
    let s := ((s.setFlag F.HEP_LINK_STAT_DL_UP true).setFld F.HEP_LINK_STAT_LSTATE 0).setFlag F.HEP_LINK_STAT_FLIT
      (flit || rate == 5)
    let s := ((s.setFld F.HEP_LINK_STAT_WIDTH width).setFld F.HEP_LINK_STAT_RATE rate).setFld F.HEP_LINK_STAT_L0P_W width
    s.restartBeat.settleWake.syncInta

/-- The link retrains without leaving DL_Up (R20). -/
def State.linkRetrain (s : State) (width rate : Nat) (flit : Bool) : State :=
  if !s.flag F.HEP_LINK_STAT_DL_UP then s
  else
    let s := (s.setFld F.HEP_LINK_STAT_LSTATE 0).setFlag F.HEP_LINK_STAT_FLIT (flit || rate == 5)
    (((s.setFld F.HEP_LINK_STAT_WIDTH width).setFld F.HEP_LINK_STAT_RATE rate).setFld F.HEP_LINK_STAT_L0P_W width).settleWake

/-- An L0p width change is accepted (R280). -/
def State.l0p (s : State) (width : Nat) : State :=
  if !s.flag F.HEP_LINK_STAT_DL_UP || !s.flag F.HEP_LINK_STAT_FLIT || decide (s.fld F.HEP_LINK_STAT_WIDTH < width) then s
  else (s.setFld F.HEP_LINK_STAT_L0P_W width).setFld F.HEP_LINK_STAT_LSTATE
    (if width = s.fld F.HEP_LINK_STAT_WIDTH then 0 else 1)

/-- The hub initiates ASPM L1 where R279 lets it. -/
def State.aspmEntry (s : State) : State :=
  let l := s.fld F.HEP_LINK_STAT_LSTATE
  if s.ep.aspmL1 && s.fld F.HEP_LINK_CFG_L1_IDLE_US != 0 && (l == 0 || l == 1) && s.hep.tags.isEmpty &&
      s.herds.all fun h => h.closed || h.bufs.isEmpty then
    s.setFld F.HEP_LINK_STAT_LSTATE 2
  else s


/-- A write of HEP_PM_CTRL (R278). -/
def State.pmCtrl (s : State) (v : Word) : State := if bitOn v 0 then s.wakeHost else s

/-! ### Interrupt registers (R283) -/

/-- A write of HEP_IRQ_PEND[w]: a 1 clears its source's bit. -/
def State.irqPendW1c (s : State) (w : Nat) (v : Word) : State :=
  ({ s with hep := { s.hep with irqPend := s.hep.irqPend.filter fun k => !(k / 32 == w && bitOn v (k % 32)) } }
    : State).syncInta

/-! ### The address translation table (R259–R262) -/

/-- Whether an internal range lies wholly in the TBL window or the graze queue (R260). -/
def attArea (a n : Nat) : Bool := inTbl a n || inGrzQ a n

/-- Whether shadow entry e fails the check of a commit (R261). -/
def State.attBad (s : State) (e : Nat) : Bool :=
  let lim := s.fld (F.HEP_ATT_SH_CTL_LIM_4K e)
  s.flag (F.HEP_ATT_SH_CTL_VALID e) &&
    (lim == 0 || decide (4096 < lim) || !attArea (s.reg (A.HEP_ATT_SH_BASE e)).toNat (lim * 4096))

/-- The active table as words: entry e's CTL at 2e, its BASE at 2e + 1. -/
def State.attActive (s : State) : Tbl Word :=
  (List.range 64).flatMap fun e =>
    [(2 * e, s.reg (A.HEP_ATT_ACT_CTL e)), (2 * e + 1, s.reg (A.HEP_ATT_ACT_BASE e))].filter fun c => c.2 != 0

/-- Copy the shadow table into the active one, or refuse it (R261). -/
def State.attApply (s : State) : State :=
  match (List.range 64).find? s.attBad with
  | some e => (s.setFlag F.HEP_ATT_STAT_COMMIT_REJ true).setFld F.HEP_ATT_STAT_BAD_ENT e
  | none =>
    let old := s.attActive
    let s := (List.range 64).foldl (fun s e =>
      (s.setReg (A.HEP_ATT_ACT_CTL e) (s.reg (A.HEP_ATT_SH_CTL e))).setReg (A.HEP_ATT_ACT_BASE e)
        (s.reg (A.HEP_ATT_SH_BASE e))) s
    let s := s.setFld F.HEP_ATT_STAT_GEN (s.fld F.HEP_ATT_STAT_GEN + 1)
    { s with hep := { s.hep with attOld := some old } }

/-- A write of HEP_ATT_COMMIT (R261, R262). -/
def State.attCommit (s : State) (v : Word) : State :=
  if !bitOn v 0 then s
  else if s.flag F.HEP_ATT_STAT_BUSY then s.setFlag F.HEP_ATT_STAT_COMMIT_REJ true
  else match (List.range 64).find? s.attBad with
    | some e => (s.setFlag F.HEP_ATT_STAT_COMMIT_REJ true).setFld F.HEP_ATT_STAT_BAD_ENT e
    | none =>
      if s.hep.attOld.isSome then
        { s with hep := { s.hep with attWait := true } }.setFlag F.HEP_ATT_STAT_BUSY true
      else s.attApply

/-- The last TLP bound to the old generation has executed (R262). -/
def State.attRelease (s : State) : State :=
  let wait := s.hep.attWait
  let s : State := { s with hep := { s.hep with attOld := none, attWait := false } }
  if wait then (s.setFlag F.HEP_ATT_STAT_BUSY false).attApply else s

/-! ### BAR2 and BAR4 requests (R258, R259, R285, R286) -/

/-- Whether the endpoint can be asked anything at its BARs: it is up and not in reset. -/
def State.barAnswers (s : State) : Bool := s.up && !s.hep.perst

/-- Whether it executes requests to its BARs (R268, R275). -/
def State.barOpen (s : State) : Bool := s.ep.mse && !s.ep.d3 && !s.hep.flrBusy


/-- A word of BAR2: the MSI-X table, the PBA, or 0. -/
def State.bar2Word (s : State) (w : Nat) : Word :=
  if w < 8192 then s.msixWord w
  else if 0x20000 ≤ w ∧ w < 0x20040 then
    BitVec.ofNat 32 ((s.hep.pba.filter fun v => v / 32 == w - 0x20000).foldl (fun a v => a + 2 ^ (v % 32)) 0)
  else 0

/-- Write a word of the MSI-X table; its reserved bits read 0. -/
def State.bar2Write (s : State) (w : Nat) (v : Word) : State :=
  if w < 8192 then
    let v := match w % 4 with | 0 => v &&& 0xFFFFFFFC#32 | 3 => v &&& 1#32 | _ => v
    { s with hep := { s.hep with msixTbl := tblSet msixReset s.hep.msixTbl w v } }
  else s

/-- Whether a request's TLP is lost to its endpoint buffer: a write is discarded, a read's completion poisoned (R284). -/
def tlpLost (r : BarRequest) : Bool := r.buf == .uncorrectable

/-- A request to BAR2 (R258). -/
def State.bar2 (s : State) (r : BarRequest) : State :=
  let n := if r.write then r.data.length else r.len
  let s := s.exitL1.bufErr r.buf
  if !s.barOpen then s.barUr r.write r.hdr
  else if r.write && tlpLost r then s
  else if !((n == 4 && r.ofs % 4 == 0) || (n == 8 && r.ofs % 8 == 0)) then s.barUr r.write r.hdr
  else if r.write then
    if r.poisoned then s.poisonIn r.hdr
    else ((List.range (n / 4)).foldl (fun s k =>
      s.bar2Write (r.ofs / 4 + k) (BitVec.ofNat 32 (ofLe ((r.data.drop (4 * k)).take 4)))) s).flushIrq
  else s.emit (.completion (some ((List.range (n / 4)).flatMap fun k => leBytes 4 (s.bar2Word (r.ofs / 4 + k)).toNat)) (tlpLost r))

/-- Bytes of an internal range that BAR4 may reach, and whether they are poisoned (R286). -/
def State.barBytes (s : State) (a n : Nat) : List Byte × Bool :=
  if inTbl a n then
    ((List.range n).map fun i => s.tblByte (a - tblBase + i), (blocksOf (a - tblBase) n).any fun b => s.data.poison.contains b)
  else ((List.range n).map fun i =>
    BitVec.ofNat 8 ((s.reg ((a + i) / 4 * 4)).toNat / 2 ^ (8 * ((a + i) % 4))), false)

/-- The internal address of a BAR4 request, if its entry passes it (R259); `old` binds it to the generation before. -/
def State.attLookup (s : State) (old write : Bool) (o n : Nat) : Option Nat :=
  let t := if old then s.hep.attOld.getD s.attActive else s.attActive
  let ctl := tblGet (fun _ => 0#32) t (2 * (o / 2 ^ 24))
  let f := o % 2 ^ 24
  if bitOn ctl 0 && bitOn ctl (if write then 2 else 1) && decide (f + n ≤ fldGet ctl 4 13 * 4096) then
    some ((tblGet (fun _ => 0#32) t (2 * (o / 2 ^ 24) + 1)).toNat + f)
  else none

/-- A request to BAR4 (R259, R285, R286). -/
def State.bar4 (s : State) (r : BarRequest) (old : Bool) : State :=
  let n := if r.write then r.data.length else r.len
  let s := s.exitL1.bufErr r.buf
  if !s.barOpen then s.barUr r.write r.hdr
  else if r.write && tlpLost r then s
  else match s.attLookup old r.write r.ofs n with
    | none =>
      let s := (s.count31 A.HEP_ATT_MISS 1).aer 20 r.write r.hdr
      if r.write then s else s.emit (.completion none false)
    | some a =>
      if r.write then (if r.poisoned then s.aer 12 true r.hdr else s).intWrite a r.data r.poisoned
      else
        let (d, ep) := s.barBytes a n
        s.emit (.completion (some d) (ep || tlpLost r))

/-- A request that the endpoint does not support (R254, R257): UR, except that a Type 1 Vendor Defined Message is
discarded silently. -/
def State.unsupported (s : State) (posted vdm1 : Bool) (hdr : List Word) : State :=
  if vdm1 then s else s.barUr posted hdr

/-! ### Configuration writes (R255) -/

/-- The lanes' words of Lane Margining at the Receiver: no command, nothing answered (R253; log entry 202). -/
def marginReset : Nat → Word := fun _ => 0x9C38#32

/-- The header word of an extended capability: its number, version and successor (R255). -/
def extCap (id ver next : Nat) : Nat := id + ver * 2 ^ 16 + next * 2 ^ 20

/-- The word of the configuration space at a dword offset (R255, R256; the places of fields, log entry 9): the table's
values, and what can be written. -/
def State.cfgWord (s : State) (o : Nat) : Nat :=
  let b := fun (x : Bool) (i : Nat) => if x then 2 ^ i else 0
  let e := s.ep
  match o with
  | 0x00 => 0x06401F3A
  | 0x04 => b e.mse 1 + b e.bme 2 + b e.intDis 10 + b (s.irqMode ≤ 1 && s.hep.irqPend.any s.irqMapped) 19 + 2 ^ 20
  | 0x08 => 0x04800001
  | 0x0C => e.cacheLine % 256
  | 0x10 | 0x18 => (tblGet (fun _ => 0#32) e.bars ((o - 0x10) / 4)).toNat + 4
  | 0x20 => (tblGet (fun _ => 0#32) e.bars 4).toNat + 12
  | 0x14 | 0x1C | 0x24 => (tblGet (fun _ => 0#32) e.bars ((o - 0x10) / 4)).toNat
  | 0x2C => (s.reg A.HEP_ID_CFG).toNat
  | 0x34 => 0x40
  | 0x3C => e.intLine % 256 + 0x100
  | 0x40 => 0xC8035001
  | 0x44 => (if e.d3 then 3 else 0) + 8 + b e.pmeEn 8 + b e.pmeSts 15
  | 0x50 => 0x018A7005 + b e.msiEn 16 + e.msiMme % 8 * 2 ^ 20
  | 0x54 => e.msiAddr.toNat % 2 ^ 32
  | 0x58 => e.msiAddr.toNat / 2 ^ 32
  | 0x5C => e.msiData.toNat
  | 0x60 => e.msiMask.toNat
  | 0x64 => e.msiPend.toNat
  | 0x70 => 0x0002B010
  | 0x74 => 2 + 2 ^ 5 + 2 ^ 15 + 2 ^ 28
  | 0x78 => e.errEn % 16 + b e.roEn 4 + e.mps % 8 * 32 + e.mrrs % 8 * 2 ^ 12 + e.errSts % 16 * 2 ^ 16 +
      b (s.hep.tags != []) 21
  | 0x7C => 6 + 16 * 2 ^ 4 + 2 * 2 ^ 10 + 3 * 2 ^ 15
  | 0x80 => b e.aspmL1 1 + (s.fld F.HEP_LINK_STAT_RATE + 1) * 2 ^ 16 + 2 ^ s.fld F.HEP_LINK_STAT_WIDTH % 64 * 2 ^ 20
  | 0x94 => 15 + 2 ^ 16 + 2 ^ 17
  | 0x98 => e.cto % 16 + b e.tag10 12
  | 0x9C => 0x7E
  | 0xB0 => 0x07FF0011 + b e.msixFm 30 + b e.msixEn 31
  | 0xB4 => 2
  | 0xB8 => 0x80002
  | 0x100 => extCap 1 2 0x148
  | 0x104 => s.hep.aerUnc.toNat
  | 0x108 => s.hep.aerUncMask.toNat
  | 0x10C => s.hep.aerSev.toNat
  | 0x110 => s.hep.aerCor.toNat + b s.hep.aerHdrOvf 15
  | 0x114 => s.hep.aerCorMask.toNat
  | 0x11C | 0x120 | 0x124 | 0x128 => (s.hep.aerHdr.getD ((o - 0x11C) / 4) 0).toNat
  | 0x148 => extCap 3 1 0x158
  | 0x14C => ofLe (s.otp 0x10 8) / 8 * 8 % 2 ^ 32
  | 0x150 => ofLe (s.otp 0x10 8) / 2 ^ 32
  | 0x158 => extCap 0x19 1 0x178
  | 0x178 => extCap 0x25 1 0x184
  | 0x184 => extCap 0x26 1 0x1B0
  | 0x1B0 => extCap 0x2A 1 0x1E0
  | 0x1E0 => extCap 0x31 1 0x200
  | 0x200 => extCap 0x27 1 0x240
  | 0x204 => b (s.flag F.HEP_LINK_STAT_DL_UP && decide (3 ≤ s.fld F.HEP_LINK_STAT_RATE)) 16
  | 0x240 => extCap 0x2F 1 0x250
  | 0x244 => 2 + 4
  | 0x248 => b e.tag14 2
  | 0x250 => extCap 0x1F 1 0
  | 0x254 => 1
  | 0x258 => b e.ptmEn 0
  | _ => if 0x208 ≤ o ∧ o < 0x248 then (tblGet marginReset e.margin ((o - 0x208) / 4)).toNat else 0

/-- The writable bits of BAR register i (R256): BAR0 64 MiB, BAR2 1 MiB, BAR4 1 GiB. -/
def barMask (i : Nat) : Word :=
  match i with
  | 0 => 0xFC000000#32
  | 2 => 0xFFF00000#32
  | 4 => 0xC0000000#32
  | _ => 0xFFFFFFFF#32

/-- A lane's margining control word is written: a command at 16 GT/s or above is answered with its receiver and type and a free
payload (R253; log entry 202). -/
def State.marginCmd (s : State) (lane : Nat) (v : Word) : State :=
  let old := tblGet marginReset s.ep.margin lane
  let ok := s.flag F.HEP_LINK_STAT_DL_UP && decide (3 ≤ s.fld F.HEP_LINK_STAT_RATE)
  let none' := fldGet v 3 3 == 7
  let sts := if !ok then fldGet old 16 16 else fldGet v 0 6 + (if none' then fldGet v 8 8 else s.free 8) * 256
  let w := fldPut (fldPut v 7 1 0) 16 16 sts
  let s := if ok && !none' then s.drawn else s
  { s with ep := { s.ep with margin := tblSet marginReset s.ep.margin lane w } }

/-- A configuration word takes a new value, write-1-to-clear bits as the bytes `wr` written have them (R255). -/
def State.cfgSet (s : State) (o : Nat) (v wr : Word) : State :=
  let e := s.ep
  match o with
  | 0x04 =>
    let s : State := { s with ep := { e with mse := bitOn v 1, intDis := bitOn v 10 } }
    (s.setBme (bitOn v 2)).syncInta
  | 0x0C => { s with ep := { e with cacheLine := fldGet v 0 8 } }
  | 0x10 | 0x14 | 0x18 | 0x1C | 0x20 | 0x24 =>
    let i := (o - 0x10) / 4
    { s with ep := { e with bars := tblSet (fun _ => 0#32) e.bars i (v &&& barMask i) } }
  | 0x3C => { s with ep := { e with intLine := fldGet v 0 8 } }
  | 0x44 =>
    let s : State := { s with ep := { e with pmeEn := bitOn v 8, pmeSts := e.pmeSts && !bitOn wr 15 } }
    match fldGet v 0 2 with
    | 0 => (s.setD3 false).settleWake
    | 3 => s.setD3 true
    | _ => s
  | 0x50 => ({ s with ep := { e with msiEn := bitOn v 16, msiMme := min 5 (fldGet v 20 3) } } : State).syncInta
  | 0x54 => { s with ep := { e with msiAddr := BitVec.ofNat 64 (e.msiAddr.toNat / 2 ^ 32 * 2 ^ 32 + (v &&& 0xFFFFFFFC#32).toNat) } }
  | 0x58 => { s with ep := { e with msiAddr := BitVec.ofNat 64 (v.toNat * 2 ^ 32 + e.msiAddr.toNat % 2 ^ 32) } }
  | 0x5C => { s with ep := { e with msiData := v &&& 0xFFFF#32 } }
  | 0x60 => ({ s with ep := { e with msiMask := v } } : State).flushIrq
  | 0x78 =>
    let s : State := { s with ep := { e with errEn := fldGet v 0 4, roEn := bitOn v 4,
                                             errSts := (List.range 4).foldl (fun n i =>
                                               n + if e.errSts.testBit i && !bitOn wr (16 + i) then 2 ^ i else 0) 0
                                             mps := min 2 (fldGet v 5 3), mrrs := min 5 (fldGet v 12 3) } }
    if bitOn wr 15 then s.flr else s
  | 0x80 => { s with ep := { e with aspmL1 := bitOn v 1 } }
  | 0x98 => { s with ep := { e with cto := fldGet v 0 4, tag10 := bitOn v 12 } }
  | 0xB0 => ({ s with ep := { e with msixFm := bitOn v 30, msixEn := bitOn v 31 } } : State).flushIrq
  | 0x104 =>
    let clr := s.hep.aerUnc &&& ~~~ wr
    { s with hep := { s.hep with aerUnc := clr, aerHdr := if clr = 0 then [] else s.hep.aerHdr } }
  | 0x108 => { s with hep := { s.hep with aerUncMask := v } }
  | 0x10C => { s with hep := { s.hep with aerSev := v } }
  | 0x110 => { s with hep := { s.hep with aerCor := s.hep.aerCor &&& ~~~ wr, aerHdrOvf := s.hep.aerHdrOvf && !bitOn wr 15 } }
  | 0x114 => { s with hep := { s.hep with aerCorMask := v } }
  | 0x248 => { s with ep := { e with tag14 := bitOn v 2 } }
  | 0x258 => { s with ep := { e with ptmEn := bitOn v 0 } }
  | _ => if 0x208 ≤ o ∧ o < 0x248 then s.marginCmd ((o - 0x208) / 4) v else s

/-- The mask of the bytes that the four byte enables select. -/
def beMask (be : Nat) : Word :=
  (List.range 4).foldl (fun m i => if be.testBit i then m ||| fldMask (8 * i) 8 else m) 0#32

/-- A configuration write of one dword under its byte enables; while the function cannot answer, it is completed with
Request Retry Status (R273, R274). The link trains after step 1 of a cold start, not in Refuge, and answers with Request Retry
Status on the way out of Standby (R273, R319, R325). -/
def State.cfgWrite (s : State) (o : Nat) (v : Word) (be : Nat) : State :=
  if s.hep.perst then s
  else if !s.up then (if s.start.phase == .rails && s.start.warm then s.emit .retryStatus else s)
  else if s.hep.flrBusy then s.exitL1.emit .retryStatus
  else
    let s := s.exitL1
    let m := beMask be
    s.cfgSet (o / 4 * 4) ((BitVec.ofNat 32 (s.cfgWord (o / 4 * 4)) &&& ~~~ m) ||| (v &&& m)) (v &&& m)

/-! ### Commands -/

/-- HEP_IRQ_PEND_CLEAR (R283). -/
def execHepIrqPendClear (path : Path) (w : Fin 42) (v : Word) (s : State) : Result :=
  .next (s.guarded path (A.HEP_IRQ_PEND w) false fun s => s.irqPendW1c w v)

/-- UNSUPPORTED_REQUEST (R254). -/
def execUnsupportedRequest (posted vdm1 : Bool) (hdr : List Word) (s : State) : Result :=
  .next (if s.barAnswers then s.unsupported posted vdm1 hdr else s)

/-- BAR2_REQUEST (R258). -/
def execBar2Request (r : BarRequest) (s : State) : Result := .next (if s.barAnswers then s.bar2 r else s)

/-- BAR4_REQUEST (R259); `old` says that its header entered the queue under the generation before. -/
def execBar4Request (r : BarRequest) (old : Bool) (s : State) : Result :=
  .next (if s.barAnswers then s.bar4 r old else s)

/-- HEP_ATT_COMMIT (R261). -/
def execHepAttCommit (path : Path) (v : Word) (s : State) : Result :=
  .next (s.guarded path A.HEP_ATT_COMMIT false fun s => s.attCommit (v ||| 1#32))

/-- ATT_OLD_GENERATION_RELEASE (R262). -/
def execAttOldGenerationRelease (s : State) : Result := .next (s.whenUp State.attRelease)

/-- BUS_MASTER_ENABLE_CLEAR (R269): a configuration write that clears the bit. -/
def execBusMasterEnableClear (s : State) : Result :=
  .next (s.cfgWrite 0x04 (BitVec.ofNat 32 (s.cfgWord 0x04) &&& ~~~ 4#32) 3)

/-- BUS_MASTER_ENABLE_SET (R270): a configuration write that sets the bit. -/
def execBusMasterEnableSet (s : State) : Result :=
  .next (s.cfgWrite 0x04 (BitVec.ofNat 32 (s.cfgWord 0x04) ||| 4#32) 3)

/-- FUNCTION_LEVEL_RESET (R274): the configuration write that initiates it. -/
def execFunctionLevelReset (s : State) : Result :=
  .next (s.cfgWrite 0x78 (BitVec.ofNat 32 (s.cfgWord 0x78) ||| 0x8000#32) 3)

/-- FLR_COMPLETE (R274). -/
def execFlrComplete (s : State) : Result := .next (s.whenUp State.flrDone)

/-- TAG_QUARANTINE_END (R274): the tag is the last to be reused (R265). -/
def execTagQuarantineEnd (tag : Nat) (s : State) : Result :=
  .next (if s.hep.quar.contains tag then
    ({ s with hep := { s.hep with quar := s.hep.quar.filter (· != tag), freed := s.hep.freed ++ [tag] } } : State).kick
    else s)

/-- PERST_N_ASSERT (R273): the link goes down at once, and the endpoint is reset. -/
def execPerstNAssert (s : State) : Result :=
  .next (let s : State := { s with hep := { s.hep with perst := true } }
         if s.up then s.linkDown else s)

/-- HOT_RESET (R271): the endpoint items are reset; the link retrains. -/
def execHotReset (s : State) : Result :=
  .next (s.whenUp fun s => (s.epResetAll false).setFld F.HEP_LINK_STAT_LSTATE 3)

/-- DL_DOWN (R287), after the errors that the link reported (R284). -/
def execDlDown (errs : List LinkErr) (s : State) : Result :=
  .next (s.whenUp fun s => (errs.foldl State.linkErr s).linkDown)

/-- DL_UP (R288): `width` and `rate` as HEP_LINK_STAT codes them. -/
def execDlUp (width : Fin 5) (rate : Fin 6) (flit : Bool) (s : State) : Result :=
  .next (s.whenUp fun s => s.linkUp width rate flit)

/-- HOST_LINK_RETRAIN (R20), with the errors that the link has reported since it last trained (R284; log entry 200). -/
def execHostLinkRetrain (width : Fin 5) (rate : Fin 6) (flit : Bool) (errs : List LinkErr) (s : State) : Result :=
  .next (s.whenUp fun s => (errs.foldl State.linkErr s).linkRetrain width rate flit)

/-- L0P_WIDTH_CHANGE (R280). -/
def execL0pWidthChange (width : Fin 5) (s : State) : Result := .next (s.whenUp fun s => s.l0p width)

/-- ASPM_L1_ENTRY (R279). -/
def execAspmL1Entry (s : State) : Result := .next (s.whenUp State.aspmEntry)

/-- POWER_STATE_D3HOT (R275): a configuration write of PowerState. -/
def execPowerStateD3hot (s : State) : Result :=
  .next (s.cfgWrite 0x44 (BitVec.ofNat 32 (s.cfgWord 0x44) ||| 3#32) 1)

/-- POWER_STATE_D0 (R276). -/
def execPowerStateD0 (s : State) : Result :=
  .next (s.cfgWrite 0x44 (BitVec.ofNat 32 (s.cfgWord 0x44) &&& ~~~ 3#32) 1)

/-- HEP_PM_CTRL_WAKE (R278). -/
def execHepPmCtrlWake (path : Path) (v : Word) (s : State) : Result :=
  .next (s.guarded path A.HEP_PM_CTRL false fun s => s.pmCtrl (v ||| 1#32))

/-- CONFIGURATION_WRITE (R283): one dword of configuration space under its byte enables. -/
def execConfigurationWrite (ofs : Fin 4096) (v : Word) (be : Fin 16) (s : State) : Result := .next (s.cfgWrite ofs v be)

end Sys2Proof.Machine
end

