-- ==== Sys2Proof/Machine/Ledger.lean ====
section
/-! DEFINITION. The records that survive every start (chapter 16): reading and clearing the hoofprint log (R387, R392–R394),
the life ledger and its snapshots (R396–R403), and the operating second. -/

namespace Sys2Proof.Machine

/-! ### Ledger counters (R399, R403) -/

/-- One event when a ledger counter first reaches its maximum (R403). -/
def State.ledNote (s : State) (max n : Nat) : State := if ledFull max n then s.log 403 noSrc [] else s

/-- Count one in an array of ledger counters. -/
def ledAdd (t : Tbl Nat) (k : Nat) : Tbl Nat := tblSet zeroN t k (ledBump 0xFFFFFFFF (tblGet zeroN t k))

/-- Erase the 4 KiB sector at a flash address, and count it in its 256 KiB block (R399). -/
def State.eraseSector (s : State) (a : Nat) : State :=
  let b := a / 0x40000
  let n := tblGet zeroN s.led.erase b
  let s := s.eraseRange a 4096
  ({ s with led := { s.led with erase := ledAdd s.led.erase b } } : State).ledNote 0xFFFFFFFF n

/-! ### Snapshots (R396, R397) -/

/-- `n` counters of an array in `k` bytes each. -/
def ledArray (t : Tbl Nat) (n : Nat) : List Byte := (List.range n).flatMap fun i => leBytes 4 (tblGet zeroN t i)

/-- A calendar entry as the ledger keeps it: DUE in 8 bytes, its flags, its TAG (log entry 79). -/
def calBytes (c : CalEnt) : List Byte :=
  leBytes 8 c.due ++ leBytes 2 ((if c.valid then 1 else 0) + (if c.basis then 2 else 0) + if c.fired then 4 else 0) ++
    leBytes 2 c.tag ++ List.replicate 4 0#8

/-- An unused calendar entry. -/
def calNone : CalEnt := ⟨0, false, false, false, 0⟩

/-- A calendar entry from its 16 bytes. -/
def calOf (l : List Byte) : CalEnt :=
  let f := ofLe ((l.drop 8).take 2)
  ⟨ofLe (l.take 8) % 2 ^ 48, f.testBit 0, f.testBit 1, f.testBit 2, ofLe ((l.drop 10).take 2)⟩

/-- Calendar entry i. -/
def State.calEnt (s : State) (i : Nat) : CalEnt := tblGet (fun _ => calNone) s.led.cal i

/-- A snapshot's bytes 0–4,091 (R396). -/
def State.ledBody (s : State) : List Byte :=
  let l := s.led
  [0x4C#8, 0x44#8, 0x47#8, 0x52#8] ++ leBytes 4 l.gen ++ leBytes 4 l.opsec ++ leBytes 3 l.pwrcyc ++
    leBytes 1 (if l.primaryB then 1 else 0) ++ leBytes 4 l.recSeq ++ leBytes 4 l.dropped ++ leBytes 4 l.clears ++
    List.replicate 4 0#8 ++ ledArray l.retrain 68 ++ ledArray l.poc 64 ++ ledArray l.erase 256 ++ ledArray l.temp 16 ++
    ((List.range 8).flatMap fun m =>
      let a := tblGet (fun _ => (0, 0)) l.age m; leBytes 2 a.1 ++ leBytes 2 a.2) ++
    ((List.range 32).flatMap fun i => calBytes (s.calEnt i)) ++ List.replicate 1900 0#8

/-- The flash address of ledger sector k (R290). -/
def ledSector (k : Nat) : Nat := 0x1100000 + k * 4096

/-- Write a snapshot of the next generation to its sector (R397). -/
def State.snapshot (s : State) : State :=
  let gen := (s.led.gen + 1) % 2 ^ 32
  let k := gen % 64
  let s := s.eraseSector (ledSector k)
  let s : State := { s with led := { s.led with gen := gen, pend := false, urgent := false, lastOpsec := s.led.opsec, sector := k } }
  let body := s.ledBody
  s.program (ledSector k) (body ++ leBytes 4 (crc32c body))

/-- A valid snapshot's generation. -/
def snapGen (l : List Byte) : Option Nat :=
  if l.take 4 = [0x4C#8, 0x44#8, 0x47#8, 0x52#8] ∧ crc32c (l.take 4092) = ofLe (l.drop 4092) then
    some (ofLe ((l.drop 4).take 4))
  else none

/-- The valid snapshot with the highest generation, with its sector. -/
def State.bestSnap (s : State) : Option (Nat × Nat × List Byte) :=
  (List.range 64).foldl (fun (r : Option (Nat × Nat × List Byte)) k =>
    let l := s.flashRead (ledSector k) 4096
    match snapGen l, r with
    | some g, some b => if b.1 < g then some (g, k, l) else r
    | some g, none => some (g, k, l)
    | none, _ => r) none

/-- Counters of an array from a snapshot. -/
def ledTable (l : List Byte) (o n : Nat) : Tbl Nat :=
  (List.range n).foldl (fun t i => tblSet zeroN t i (ofLe ((l.drop (o + 4 * i)).take 4))) []

/-- The ledger that a snapshot spells. -/
def ledOf (k : Nat) (l : List Byte) : LedSt :=
  let w := fun (o n : Nat) => ofLe ((l.drop o).take n)
  { gen := w 4 4, opsec := w 8 4, pwrcyc := w 12 3, primaryB := (w 15 1).testBit 0, recSeq := w 16 4, dropped := w 20 4
    clears := w 24 4, retrain := ledTable l 32 68, poc := ledTable l 304 64, erase := ledTable l 560 256
    temp := ledTable l 1584 16
    age := (List.range 8).foldl (fun t m => tblSet (fun _ => (0, 0)) t m (w (1648 + 4 * m) 2, w (1650 + 4 * m) 2)) []
    cal := (List.range 32).foldl (fun t i => tblSet (fun _ => calNone) t i (calOf ((l.drop (1680 + 16 * i)).take 16))) []
    ageWarned := [], pend := false, urgent := false, loaded := true, lastOpsec := w 8 4, sector := k }

/-- Load the ledger after VDD_AON was absent (R397); the event of a ledger with no valid snapshot is logged once the log
is open. -/
def State.loadLedger (s : State) : State := match s.bestSnap with
  | some (_, k, l) => { s with led := ledOf k l }
  | none => { s with led := ledZero }

/-- The calendar registers show the ledger's entries at a start. -/
def State.calRegs (s : State) : State :=
  (List.range 32).foldl (fun s i =>
    let c := s.calEnt i
    let w := (if c.valid then 1 else 0) + (if c.basis then 2 else 0) + c.tag * 2 ^ 16
    (s.setPair (A.LED_CAL_DUE_LO i) 16 c.due).setReg (A.LED_CAL_CFG i) (BitVec.ofNat 32 w)) s

/-- Whether a due snapshot may be written now: apart from the exempt ones, 60 s after the last (R397). -/
def State.snapDue (s : State) : Bool :=
  s.led.pend && (s.led.urgent || decide (s.led.lastOpsec + 60 ≤ s.led.opsec))

/-! ### The log at a start and its window (R387, R392, R393) -/

/-- Whether a slot's bytes 0–3 read erased. -/
def State.slotFree (s : State) (k : Nat) : Bool := s.flashRead (slotAddr k) 4 == List.replicate 4 0xFF#8

/-- The first free slot, by binary search between `lo` and `hi` (R387). -/
def State.freeSlot : Nat → State → Nat → Nat → Nat
  | 0, _, lo, _ => lo
  | fuel + 1, s, lo, hi =>
    if hi ≤ lo then lo
    else
      let m := (lo + hi) / 2
      if s.slotFree m then State.freeSlot fuel s lo m else State.freeSlot fuel s (m + 1) hi

/-- Open the log at a start (R387): find NEXT, and close a record that was left open. -/
def State.openLog (s : State) : State :=
  let n := State.freeSlot 17 s 0 32768
  let copy := s.recs.aonCopy
  let s : State := { s with recs := { s.recs with next := n, full := decide (32768 ≤ n), openRec := none, aonCopy := none } }
  let slot := n - 1
  let l := s.flashRead (slotAddr slot) 32
  let tail := l.drop 26
  if n = 0 ∨ crc32c (l.take 28) = ofLe (l.drop 28) ∨ tail ≠ List.replicate 6 0xFF#8 then s
  else
    let head := l.take 26
    match copy.filter fun r => r.bytes == head with
    | some r => s.program (slotAddr slot + 26) (recordTail head r.rep)
    | none =>
      let rep := leBytes 2 0
      let s := s.program (slotAddr slot + 26) (rep ++ leBytes 4 (crc32c (head ++ rep) ^^^ 0xFFFFFFFF))
      s.log 387 noSrc []

/-- A slot's 32 bytes as the window presents them now (R392, R393). -/
def State.slotBytes (s : State) (k : Nat) : List Byte :=
  match s.recs.openRec.filter fun r => r.slot = k with
  | some r => if s.recs.clear.isSome then List.replicate 32 0xFF#8 else r.bytes ++ recordTail r.bytes r.rep
  | none => if s.recs.clear.isSome || decide (s.recs.next ≤ k) then List.replicate 32 0xFF#8 else s.flashRead (slotAddr k) 32

/-- A slot's eight words. -/
def State.slotWords (s : State) (k : Nat) : List Word :=
  let l := s.slotBytes k
  (List.range 8).map fun w => BitVec.ofNat 32 (ofLe ((l.drop (4 * w)).take 4))

/-- The words of a path's window: those of the closed record loaded, else of its slot as it is now. While a clear erases, every
slot reads as empty. -/
def State.windowWords (s : State) (p : Path) : List Word :=
  let x := s.path p
  if x.window = [] || s.recs.clear.isSome then s.slotWords x.cursor else x.window

/-- Start a load of slot `idx` into a path's window; until it ends the window keeps what it shows. -/
def State.loadSlot (s : State) (p : Path) (idx : Nat) : State :=
  s.setPath p { s.path p with cursor := idx, ready := false, loading := true, window := s.windowWords p }

/-- A write of REC_CURSOR. -/
def State.recCursor (s : State) (p : Path) (v : Word) : State :=
  let s := s.loadSlot p (fldGet v 0 15)
  s.setPath p { s.path p with autoInc := bitOn v 16 }

/-- A window load ends: a closed record stays as loaded, the open record and NEXT stay live. -/
def State.windowLoaded (s : State) (p : Path) : State :=
  let x := s.path p
  let live := decide (s.recs.next ≤ x.cursor) || s.recs.clear.isSome || (s.recs.openRec.map (·.slot)) == some x.cursor
  if !x.loading then s
  else s.setPath p { x with ready := true, loading := false, window := if live then [] else s.slotWords x.cursor }

/-- A read of REC_WINDOW[w] (R392). -/
def State.windowRead (s : State) (p : Path) (w : Nat) : State :=
  let v := (s.windowWords p)[w]?.getD 0xFFFFFFFF#32
  let s := s.answer p v
  if w = 7 && (s.path p).autoInc then s.loadSlot p (((s.path p).cursor + 1) % 2 ^ 15) else s

/-! ### Clearing (R394) -/

/-- Begin a log clear: the open record closes, and the sectors are erased. -/
def State.beginClear (s : State) (authority keySlot : Nat) : State :=
  let s := s.closeRec
  let seq := fun (k : Nat) => ofLe (s.flashRead (slotAddr k) 4)
  { s with recs := { s.recs with clear := some ⟨seq 0, seq (s.recs.next - 1), authority, keySlot⟩ } }

/-- The paths' windows hold no closed record any more. -/
def State.windowsLive (s : State) : State :=
  [Path.bar0, .mgmt, .jtag].foldl (fun s p => s.setPath p { s.path p with window := [] }) s

/-- The erase has ended: slot 0 records the clear, and held events follow. -/
def State.endClear (s : State) : State :=
  match s.recs.clear with
  | none => s
  | some c =>
    let s := (List.range 256).foldl (fun s k => s.eraseSector (0x1000000 + 4096 * k)) s
    let s : State := { s with recs := { s.recs with next := 0, full := false, openRec := none, aonCopy := none } }
    let s := State.openRec (s.badSlots.length + 1) s ⟨394, noSrc, det 4 c.firstSeq ++ det 4 c.lastSeq ++ det 1 c.authority ++ det 1 c.keySlot⟩
    let n := s.led.clears
    let s : State := { s with recs := { s.recs with clear := none }, led := { s.led with clears := ledBump 0xFFFFFFFF n } }
    (s.windowsLive.writeHeld).ledNote 0xFFFFFFFF n

/-- A write of REC_CTRL on a path: it clears only in Returned, through the management port, with its key. -/
def State.recCtrl (s : State) (p : Path) (v : Word) : State :=
  if p = .mgmt && s.lc == 3 && fldGet v 16 16 == 0x434C && bitOn v 0 && s.recs.clear.isNone then s.beginClear 1 0xFF else s

/-! ### The operating second (R389, R398, R400, R402) -/

/-- The TEMP bin of a reading in °C (R400). -/
def tempBin (t : Int) : Nat := if t < -30 then 0 else if 110 ≤ t then 15 else ((t + 40) / 10).toNat

/-- The highest reading of the die sensors, once one has been taken. -/
def State.hottest (s : State) : Option Int :=
  s.link.dieTemp.foldl (fun m c => some (match m with | some x => max x c.2 | none => c.2)) none

/-- A second in a TEMP bin. -/
def State.tempSecond (s : State) : State :=
  let (b, s) := match s.hottest with
    | some t => (tempBin t, s)
    | none => (s.free 4, s.drawn)
  let n := tblGet zeroN s.led.temp b
  ({ s with led := { s.led with temp := ledAdd s.led.temp b } } : State).ledNote 0xFFFFFFFF n

/-- The value that a calendar entry compares, where it compares one now. -/
def State.calNow (s : State) (c : CalEnt) : Option Nat :=
  if c.basis then some s.led.opsec
  else if s.flag F.TIME_STAT_SYNCED then some (s.now / tuPerSec % 2 ^ 48) else none

/-- A calendar entry is checked. -/
def State.calCheck (s : State) (i : Nat) : State :=
  let c := s.calEnt i
  let due := match s.calNow c with
    | some v => decide (c.due ≤ v)
    | none => false
  if c.valid && !c.fired && due then
    ({ s with led := { s.led with cal := tblSet (fun _ => calNone) s.led.cal i { c with fired := true } } } : State).log
      402 i (det 2 c.tag)
  else s

/-- One operating second passes. -/
def State.opSecond (s : State) : State :=
  let n := s.led.opsec
  let s : State := { s with led := { s.led with opsec := ledBump 0xFFFFFFFF n }
                            recs := { s.recs with rateCount := 0, rateHit := false } }
  let s := s.ledNote 0xFFFFFFFF n
  let s := if s.core then s.tempSecond else s
  let s := if s.led.lastOpsec + 3600 ≤ s.led.opsec then { s with led := { s.led with pend := true } } else s
  (List.range 32).foldl State.calCheck s

/-! ### Ageing (R401) -/

/-- Monitor m is read: its reading is the part's own, a free value. -/
def State.ageOne (s : State) (m : Nat) : State :=
  let r := s.free 16
  let s := s.drawn
  let was := tblGet (fun _ => (0, 0)) s.led.age m
  let ref := if was.2 = 0 then r else was.2
  let s : State := { s with led := { s.led with age := tblSet (fun _ => (0, 0)) s.led.age m (r, ref) } }
  let warn := s.fld F.LED_AGE_CFG_WARN_PM
  let excess := ref ≠ 0 && warn ≠ 0 && decide (warn ≤ (ref - r) * 1000 / ref)
  if !excess then { s with led := { s.led with ageWarned := s.led.ageWarned.filter (· != m) } }
  else if m ∈ s.led.ageWarned then s
  else ({ s with led := { s.led with ageWarned := setIns m s.led.ageWarned } } : State).log 401 noSrc (det 1 m)

/-- All monitors are read. -/
def State.ageMeasure (s : State) : State := (List.range 8).foldl State.ageOne s

/-! ### The calendar's registers (R402) -/

/-- A write of LED_CAL_CFG[i]; COMMIT takes the entry, clears FIRED and asks for a snapshot. -/
def State.calCfg (s : State) (i : Nat) (v : Word) : State :=
  let s := s.plainWrite (A.LED_CAL_CFG i) v
  if !bitOn v 3 then s
  else
    let w := s.reg (A.LED_CAL_CFG i)
    let c : CalEnt := ⟨s.pair (A.LED_CAL_DUE_LO i) 16, bitOn w 0, bitOn w 1, false, fldGet w 16 16⟩
    { s with led := { s.led with cal := tblSet (fun _ => calNone) s.led.cal i c, pend := true } }

/-! ### Commands -/

/-- OPERATING_SECOND (R398): in every mode and in Refuge, while VDD_AON is present. -/
def execOperatingSecond (s : State) : Result := .next (if s.start.phase == .off then s else s.opSecond)

/-- LEDGER_SNAPSHOT (R397): a due snapshot is written, while the firmware and the flash can. -/
def execLedgerSnapshot (s : State) : Result :=
  .next (if s.core && !s.start.fwBusy && s.snapDue then s.snapshot else s)

/-- AGE_MEASURE (R401). -/
def execAgeMeasure (s : State) : Result := .next (if s.core then s.ageMeasure else s)

/-- LED_CAL_CFG_COMMIT (R402). -/
def execLedCalCfgCommit (path : Path) (i : Fin 32) (v : Word) (s : State) : Result :=
  .next (s.guarded path (A.LED_CAL_CFG i) false fun s => s.calCfg i (v ||| 8#32))

/-- REC_CURSOR_WRITE (R392). -/
def execRecCursorWrite (path : Path) (v : Word) (s : State) : Result :=
  .next (s.guarded path A.REC_CURSOR false fun s => s.recCursor path v)

/-- REC_WINDOW_LOADED (R392). -/
def execRecWindowLoaded (path : Path) (s : State) : Result := .next (if s.core then s.windowLoaded path else s)

/-- REC_WINDOW7_READ (R392). -/
def execRecWindow7Read (path : Path) (s : State) : Result :=
  .next (s.guardedRead path (A.REC_WINDOW 7) fun s => s.windowRead path 7)

/-- LOG_CLEAR_ERASE_DONE (R394). -/
def execLogClearEraseDone (s : State) : Result := .next (if s.core && !s.start.fwBusy then s.endClear else s)

end Sys2Proof.Machine
end

