-- ==== Sys2Proof/Machine/Image.lean ====
section
/-! DEFINITION. The configuration image (chapter 11): its layout in flash (R292–R304), its validation in the order of
R306, the composition of base and overlays (R307), the boot selector (R309) and the flash commands (R310, R311). -/

namespace Sys2Proof.Machine

/-- A rejection: the CAUSE of R306 and the image offset of the failing item. -/
abbrev Checked (α : Type) := Except (Nat × Nat) α

/-- Go on where `ok`; else reject with a cause at an offset. -/
def need (ok : Bool) (cause ofs : Nat) : Checked Unit := if ok then .ok () else .error (cause, ofs)

/-- Go on where nothing was found wrong; else reject with a cause at the offset found. -/
def needNone (bad : Option Nat) (cause : Nat) : Checked Unit := match bad with
  | none => .ok ()
  | some ofs => .error (cause, ofs)

/-- A little-endian field of bytes. -/
def leAt (l : List Byte) (o n : Nat) : Nat := ofLe ((l.drop o).take n)

/-- The first offset at which bytes are not 0, counted from `o`. -/
def firstNonZero (o : Nat) : List Byte → Option Nat
  | [] => none
  | b :: t => if b = 0#8 then firstNonZero (o + 1) t else some o

/-! ### Header (R293, R294) -/

/-- Directory entry i of a header: OFS, LEN, MODE and VALID. -/
structure DirEnt where
  ofs : Nat
  len : Nat
  mode : Nat
  valid : Bool

/-- Read a directory entry; `none` where its reserved bits are not 0. -/
def dirEnt (h : List Byte) (i : Nat) : Option DirEnt :=
  let m := leAt h (47 + 8 * i) 1
  if m / 8 % 16 = 0 then some ⟨leAt h (40 + 8 * i) 4, leAt h (44 + 8 * i) 3, m % 8, decide (128 ≤ m)⟩ else none

/-- Check 2, FORMAT: fixed fields, and reserved bytes and bits 0; the offset is that of the failing header field. -/
def headFormat (h : List Byte) : Option Nat :=
  let at' := fun (o : Nat) (bad : Bool) => if bad then some o else none
  (at' 0 (leAt h 0 4 != 0x49484C4C)).or <| (at' 4 (leAt h 4 2 != 1)).or <| (at' 6 (leAt h 6 2 != 0x200)).or <|
    (at' 12 (decide (2 ≤ leAt h 12 1))).or <| (at' 13 (decide (4 ≤ leAt h 13 1))).or <|
    (at' 14 (decide (8 ≤ leAt h 14 1))).or <| (at' 32 (leAt h 32 4 != 0x200)).or <|
    (at' 152 (leAt h 12 1 == 0 && leAt h 152 12 != 0)).or <| (at' 164 (leAt h 12 1 == 0 && leAt h 164 16 != 0)).or <|
    (at' 277 (leAt h 277 119 != 0)).or (at' 496 (leAt h 496 16 != 0))

/-- The valid directory entries, with their indices. -/
def dirValid (h : List Byte) : List (Nat × DirEnt) :=
  (List.range 8).filterMap fun i => (dirEnt h i).bind fun e => if e.valid then some (i, e) else none

/-- Check 3, LENGTH, as far as the header says it: R292 and R294. -/
def headLength (h : List Byte) : Option Nat :=
  let n := leAt h 8 4
  let es := dirValid h
  let base := 512 + leAt h 36 4
  if n % 64 ≠ 0 ∨ 8388608 < n then some 8
  else if n < base then some 36
  else
    let entry := fun (i : Nat) => match dirEnt h i with
      | none => true
      | some e => if e.valid then decide (es.length ≤ i) else (firstNonZero 0 ((h.drop (40 + 8 * i)).take 8)).isSome
    let span := es.foldl (fun (r : Nat × Option Nat) c =>
      let bad := c.2.len < 8 || 262144 < c.2.len || c.2.ofs % 64 != 0 || c.2.ofs < r.1 || n < c.2.ofs + c.2.len
      (c.2.ofs + c.2.len, r.2.or (if bad then some (40 + 8 * c.1) else none))) (base, none)
    (if leAt h 15 1 = es.length then none else some 15).or <|
      (((List.range 8).find? entry).map fun i => 40 + 8 * i).or span.2

/-- A byte between two sections that is not 0 (R292); `body` starts at offset 512. -/
def gapBad (h body : List Byte) : Option Nat :=
  ((dirValid h).foldl (fun (r : Nat × Option Nat) c =>
    (c.2.ofs + c.2.len, r.2.or (firstNonZero r.1 ((body.drop (r.1 - 512)).take (c.2.ofs - r.1)))))
    (512 + leAt h 36 4, none)).2

/-! ### Records (R297, R298) -/

/-- A record: its type, the image offset of its header, its payload. -/
structure ImgRec where
  typ : Nat
  ofs : Nat
  data : List Byte

/-- Whether a section allows a type: base and overlay columns of R298. -/
def typeAllowed (base : Bool) (t : Nat) : Bool :=
  if base then t == 1 || t == 2 || t == 3 || t == 4 || t == 5 || t == 6 else t == 2 || t == 7

/-- Whether a type may appear once only. -/
def typeOnce (t : Nat) : Bool := t == 4 || t == 5 || t == 6 || t == 7

/-- Split a section into its records, its END last (R297). -/
def readRecords (base : Bool) : Nat → Nat → List Nat → List Byte → Checked (List ImgRec)
  | 0, ofs, _, _ => .error (9, ofs)
  | fuel + 1, ofs, seen, l =>
    let t := leAt l 0 1
    let n := leAt l 4 4
    let full := ceilDiv n 8 * 8
    if l.length < 8 ∨ leAt l 1 3 ≠ 0 ∨ l.length < 8 + full then .error (9, ofs)
    else if t = 15 then (if n = 0 ∧ l.length = 8 then .ok [] else .error (9, ofs))
    else if !typeAllowed base t || (typeOnce t && seen.contains t) ||
        (firstNonZero 0 ((l.drop (8 + n)).take (full - n))).isSome then .error (9, ofs)
    else
      (readRecords base fuel (ofs + 8 + full) (t :: seen) (l.drop (8 + full))).map
        (⟨t, ofs, (l.drop 8).take n⟩ :: ·)

/-- Payload entries of `k` bytes, with their image offsets. -/
def ImgRec.entries (r : ImgRec) (k : Nat) : List (Nat × List Byte) :=
  (List.range (r.data.length / k)).map fun i => (r.ofs + 8 + k * i, (r.data.drop (k * i)).take k)

/-- The first entry that repeats the key of an earlier one. -/
def firstRepeat (key : List Byte → Nat) : List Nat → List (Nat × List Byte) → Option Nat
  | _, [] => none
  | seen, e :: t => if seen.contains (key e.2) then some e.1 else firstRepeat key (key e.2 :: seen) t

/-- The first entry that `bad` finds wrong. -/
def firstEntry (bad : List Byte → Bool) (l : List (Nat × List Byte)) : Option Nat := (l.find? fun e => bad e.2).map (·.1)

/-- Groups of a POC_SEQ payload: channel mask and delay (R303). -/
def pocGroups (r : ImgRec) : List (Nat × List Byte) :=
  (List.range ((r.data.length - 8) / 16)).map fun i => (r.ofs + 16 + 16 * i, (r.data.drop (8 + 16 * i)).take 16)

/-- The first group that shares a channel with an earlier one. -/
def pocOverlap : Nat → List (Nat × List Byte) → Option Nat
  | _, [] => none
  | used, e :: t =>
    let m := leAt e.2 0 8
    if m &&& used ≠ 0 then some e.1 else pocOverlap (used ||| m) t

/-- What is wrong with a record's layout (R298, R301–R304), as an image offset. -/
def recordBad (r : ImgRec) : Option Nat :=
  let n := r.data.length
  let whole := fun (k : Nat) => if n % k = 0 then none else some r.ofs
  match r.typ with
  | 1 => whole 8
  | 2 => whole 12
  | 3 => if n < 4 then some r.ofs else none
  | 4 =>
    (whole 12).or <| (firstEntry (fun e => decide (80 ≤ leAt e 0 1) || decide (5 ≤ leAt e 1 1) || decide (3 ≤ leAt e 2 1) ||
      leAt e 3 1 != 0) (r.entries 12)).or (firstRepeat (fun e => leAt e 0 3) [] (r.entries 12))
  | 5 =>
    (whole 40).or <| (if 320 < n then some r.ofs else none).or <|
      (firstEntry (fun e => decide (8 ≤ leAt e 0 1) || leAt e 1 7 != 0) (r.entries 40)).or
        (firstRepeat (fun e => leAt e 0 1) [] (r.entries 40))
  | 6 =>
    let g := leAt r.data 4 1
    let boot := leAt r.data 2 2
    (if n < 8 ∨ g = 0 ∨ 16 < g ∨ n ≠ 8 + 16 * g ∨ boot = 0 ∨ 1000 < boot ∨ leAt r.data 5 3 ≠ 0 then some r.ofs else none).or <|
      (firstEntry (fun e => decide (1000 < leAt e 8 2) || leAt e 10 6 != 0) (pocGroups r)).or (pocOverlap 0 (pocGroups r))
  | _ => (whole 2).or (firstEntry (fun e => decide (1024 ≤ leAt e 0 2)) (r.entries 2))

/-! ### Settings (R299–R304) -/

/-- A setting of register bits: where it stands in the image, the address, the mask, the value; `whole` for REG_WRITE. -/
structure Setting where
  ofs : Nat
  addr : Nat
  mask : Word
  value : Word
  whole : Bool

/-- The register address of an equalisation word: port, step and band (R86, R301). -/
def eqAddr (e : List Byte) : Nat := A.TRL_EQ_LO (leAt e 0 1) (leAt e 1 1 * 3 + leAt e 2 1)

/-- The settings of a record, in image order. -/
def ImgRec.settings (r : ImgRec) : List Setting :=
  let w := fun (e : List Byte) (o : Nat) => BitVec.ofNat 32 (leAt e o 4)
  match r.typ with
  | 1 => (r.entries 8).map fun e => ⟨e.1, leAt e.2 0 4, BitVec.allOnes 32, w e.2 4, true⟩
  | 2 => (r.entries 12).map fun e => ⟨e.1, leAt e.2 0 4, w e.2 4, w e.2 8, false⟩
  | 4 => (r.entries 12).flatMap fun e =>
      [⟨e.1, eqAddr e.2, BitVec.allOnes 32, w e.2 4, true⟩, ⟨e.1, eqAddr e.2 + 4, BitVec.allOnes 32, w e.2 8, true⟩]
  | _ => []

/-- The mask of a register's RW and RWS fields. -/
def RegRow.rwMask (r : RegRow) : Word :=
  r.fields.foldl (fun m f => if f.acc = .rw ∨ f.acc = .rws then m ||| fldMask f.lo f.w else m) 0#32

/-- The writable bits of the register at an address; 0 where there is none. -/
def rwBits (a : Nat) : Word := match rowAt a with
  | some (r, _) => r.rwMask
  | none => 0#32

/-- Whether a mask covers each field wholly or not at all (R299). -/
def RegRow.wholeFields (r : RegRow) (m : Word) : Bool :=
  r.fields.all fun f => let x := m &&& fldMask f.lo f.w; x == 0#32 || x == fldMask f.lo f.w

/-- The registers that an overlay must not name (R299). -/
def overlayBarred (name : String) : Bool :=
  ["HEP_ATT_", "DMA_CH_", "DMA_POOL_", "DMA_CFG", "DMA_WMK_BASE_", "CQ_", "PLC_POOL_", "PLC_LOG_"].any fun p =>
    p.toList.isPrefixOf name.toList

/-- Whether R299 accepts a setting. -/
def Setting.ok (base : Bool) (x : Setting) : Bool :=
  match rowAt x.addr with
  | none => false
  | some (r, _) =>
    x.addr % 4 == 0 && r.rwMask != 0#32 &&
      (x.whole || ((x.value &&& ~~~ r.rwMask) == 0#32 && r.wholeFields x.mask)) &&
      (base || !overlayBarred r.name)

/-- Whether a BLOCK's range is allowed (R300). -/
def blockOk (r : ImgRec) : Bool :=
  let a := leAt r.data 0 4
  a % 4 == 0 && inTbl a (r.data.length - 4)

/-- What check 10 finds in a record. -/
def addressBad (base : Bool) (r : ImgRec) : Option Nat :=
  if r.typ = 3 then (if blockOk r then none else some r.ofs)
  else if r.typ = 4 then none
  else (r.settings.find? fun x => !x.ok base).map (·.ofs)

/-- Whether a setting names a QUORUM bit (R304). -/
def Setting.quorum (x : Setting) : Bool :=
  let o := x.addr - A.PLC_OSID_CFG 0
  decide (A.PLC_OSID_CFG 0 ≤ x.addr) && o % 16 == 0 && decide (o / 16 < 1024) && bitOn x.mask 11

/-- Lay a setting over a register word; bits that are not RW or RWS ignore it. -/
def Setting.on (x : Setting) (w : Word) : Word :=
  let m := x.mask &&& rwBits x.addr
  (w &&& ~~~ m) ||| (x.value &&& m)

/-- The words that a base gives the registers it writes. -/
def baseWords (l : List Setting) : Tbl Word :=
  l.foldl (fun t x => tblSet regReset t x.addr (x.on (tblGet regReset t x.addr))) []

/-- Registers whose reset value is not fixed, which a base may set all the same (R44, R309). -/
def heldReg (a : Nat) : Bool := a == A.CFG_SEL || a == A.GLB_AON_ALARM_LO || a == A.GLB_AON_ALARM_HI

/-- What settings name in those registers. -/
def heldFields (l : List Setting) : List (Nat × Word × Word) :=
  (l.filter fun x => heldReg x.addr).map fun x => (x.addr, x.mask &&& rwBits x.addr, x.value)

/-- The table memory that a base's BLOCKs give. -/
def baseTables (rs : List ImgRec) : Tbl Byte :=
  rs.foldl (fun t r => if r.typ = 3 then tblStore t (leAt r.data 0 4 - tblBase) (r.data.drop 4) else t) []

/-- The fields of an overlay's QUORUM record: every OSID's QUORUM bit (R304). -/
def quorumFields (rs : List ImgRec) : List (Nat × Word × Word) :=
  match rs.find? fun r => r.typ = 7 with
  | none => []
  | some r =>
    let on := (r.entries 2).map fun e => leAt e.2 0 2
    (List.range 1024).map fun o => (A.PLC_OSID_CFG o, fldMask 11 1, if on.contains o then fldMask 11 1 else 0#32)

/-- An overlay from its records. -/
def overlayOf (mode : Nat) (rs : List ImgRec) : Overlay :=
  ⟨mode, (rs.flatMap ImgRec.settings).map (fun x => (x.addr, x.mask &&& rwBits x.addr, x.value)) ++ quorumFields rs⟩

/-- POC_SEQ, with nothing in it where the base holds none. -/
def pocOf (rs : List ImgRec) : PocSeq :=
  match rs.find? fun r => r.typ = 6 with
  | none => ⟨0, 0, []⟩
  | some r => ⟨leAt r.data 0 2, leAt r.data 2 2, (pocGroups r).map fun e => (leAt e.2 0 8, leAt e.2 8 2)⟩

/-- The trust roots: ROOT_ID and hash (R302). -/
def rootsOf (rs : List ImgRec) : List (Nat × List Byte) :=
  (rs.filter fun r => r.typ = 5).flatMap fun r => (r.entries 40).map fun e => (leAt e.2 0 1, e.2.drop 8)

/-! ### Composition (R307) -/

/-- The overlay of a mode. -/
def Image.overlay (im : Image) (m : Nat) : Option Overlay := im.overlays.find? fun o => o.mode = m

/-- Lay an overlay over register words. -/
def Overlay.onWords (o : Overlay) (t : Tbl Word) : Tbl Word :=
  o.fields.foldl (fun t f =>
    tblSet regReset t f.1 ((tblGet regReset t f.1 &&& ~~~ f.2.1) ||| (f.2.2 &&& f.2.1))) t

/-- The register words of base and the overlay of mode m, `none` for the base alone. -/
def Image.words (im : Image) (m : Option Nat) : Tbl Word :=
  match m.bind im.overlay with
  | some o => o.onWords im.base
  | none => im.base

/-- A hub whose registers and table memory are those of an image, for judging it. -/
def State.tryImage (s : State) (im : Image) (m : Option Nat) : State :=
  { s with regs := im.words m, data := { s.data with tbl := im.tbl, poison := [] }, image := some im }

/-- Bits of a word under a mask. -/
def merge (w m v : Word) : Word := (w &&& ~~~ m) ||| (v &&& m)

/-- Do `act` to every access path. -/
def State.eachPath (s : State) (act : PathSt → PathSt) : State :=
  { s with pBar0 := act s.pBar0, pMgmt := act s.pMgmt, pJtag := act s.pJtag }

/-- The bits `m` of the register at an address take the value of an image (R12, R307): in the stored word, or where the hub
holds the register otherwise; of a register that each path has for itself, on every path. -/
def State.putField (s : State) (a : Nat) (m v : Word) : State :=
  let inc := s.time.inc
  let low := fun (n : Nat) => (merge (BitVec.ofNat 32 n) m v).toNat
  if a = A.TIME_INC_LO then
    let lo := low inc
    { s with time := { s.time with inc := inc / 2 ^ 32 * 2 ^ 32 + lo, incLo := BitVec.ofNat 32 lo } }
  else if a = A.TIME_INC_HI then { s with time := { s.time with inc := low (inc / 2 ^ 32) * 2 ^ 32 + inc % 2 ^ 32 } }
  else if a = A.GLB_MODE_REQ then s.eachPath fun x => { x with modeReq := low x.modeReq }
  else if a = A.CFG_SEL then
    if bitOn m 0 then { s with led := { s.led with primaryB := bitOn v 0, pend := true, urgent := true } } else s
  else if a = A.REC_CURSOR then
    s.eachPath fun x =>
      let w := merge (BitVec.ofNat 32 (x.cursor + if x.autoInc then 2 ^ 16 else 0)) m v
      { x with cursor := fldGet w 0 15, autoInc := bitOn w 16 }
  else match (List.range 8).find? fun k => a == A.GRZ_REQ_W k with
    | some k => s.eachPath fun x =>
        { x with grzReq := tblSet (fun _ => 0#32) x.grzReq k (merge (tblGet (fun _ => 0#32) x.grzReq k) m v) }
    | none => s.setReg a (merge (s.reg a) m v)

/-- Fields take their values. -/
def State.putFields (s : State) (l : List (Nat × Word × Word)) : State := l.foldl (fun s f => s.putField f.1 f.2.1 f.2.2) s

/-- TIME_INC as an image leaves it, where R46 allows the value; else `was` (log entry 197). -/
def State.incFrom (s : State) (was : Nat) : State :=
  if incOk s.time.inc then s else { s with time := { s.time with inc := was, incLo := BitVec.ofNat 32 was } }

/-- What the base gives the bits of a register. -/
def Image.baseWord (im : Image) (a : Nat) : Word :=
  im.held.foldl (fun w f => if f.1 = a then merge w f.2.1 f.2.2 else w) (tblGet regReset im.base a)

/-- At a switch, fields that the old overlay names return to their base values, and the new overlay's fields take its
values; every other field keeps its value (R12, R307). -/
def State.applyOverlay (s : State) (old new : Nat) : State :=
  match s.image with
  | none => s
  | some im =>
    let back := match im.overlay old with
      | none => s
      | some o => s.putFields (o.fields.map fun (f : Nat × Word × Word) => (f.1, f.2.1, im.baseWord f.1))
    (match im.overlay new with
      | none => back
      | some o => back.putFields o.fields).incFrom s.time.inc

/-! ### Field values (check 11) -/

/-- The register addresses at which `bad` holds, of an array's elements that differ from reset. -/
def State.listedBad (s : State) (addr : Nat → Nat) (stride count : Nat) (bad : Nat → Bool) : List Nat :=
  ((s.listed (addr 0) stride count).filter bad).map addr


/-- ROI entry `r` of stream i breaks R165 or R169. -/
def State.roiBad (s : State) (i r : Nat) : Bool :=
  let g := s.geoOf i ⟨[], 0, []⟩
  let w := s.fld (F.ROI_SIZE_W r)
  let h := s.fld (F.ROI_SIZE_H r)
  let x := s.fld (F.ROI_POS_X r)
  let y := s.fld (F.ROI_POS_Y r)
  let pack := s.fld (F.ROI_CFG_PACK r)
  let stats := s.flag (F.ROI_CFG_STATS_EN r)
  let least := if stats then 16 else 2
  let same := !g.decomp && !g.black && !g.sdef && !g.ddef && !g.shade && !g.gain && !g.curve && g.scale == 0 &&
    s.fld (F.SLC_STR_CFG1_ROI_CNT i) == 1 && !stats && x == 0 && y == 0 && w == g.width && h == g.lines
  s.flag (F.ROI_CFG_VALID r) &&
    (x % 2 != 0 || y % 2 != 0 || w % 2 != 0 || h % 2 != 0 || w % packGroupOf pack g.dt != 0 || decide (w < least) ||
      decide (h < least) || decide (g.outW < x + w) || decide (g.outH < y + h) || !packBits pack g.bits || (pack == 5 && !same))

/-- Limits that hold of every entry of the stream table. -/
def State.entryLimits (s : State) : List Nat :=
  s.listedBad A.ING_ENT0 0x80 1024 (fun i =>
    let k := s.fld (F.ING_ENT0_K i)
    decide (k < 1) || decide (8 < k) || (s.flag (F.ING_ENT0_RATIO i) && decide (k ≤ s.fld (F.ING_ENT0_P i)))) ++
  s.listedBad A.SLC_STR_CFG1 0x80 1024 (fun i =>
    let n := s.fld (F.SLC_STR_CFG1_ROI_CNT i)
    decide (16 < n) || decide (4096 < s.fld (F.SLC_STR_CFG1_ROI_BASE i) + n)) ++
  s.listedBad A.SLC_STR_DEF1 0x80 1024 (fun i =>
    decide (262144 < s.fld (F.SLC_STR_DEF0_DEF_BASE i) + s.fld (F.SLC_STR_DEF1_DEF_COUNT i))) ++
  s.listedBad A.SLC_STR_HRATIO 0x80 1024 (fun i =>
    let n := s.fld (F.SLC_STR_HRATIO_RATIO i); decide (n < 65536) || decide (524288 < n)) ++
  s.listedBad A.SLC_STR_VRATIO 0x80 1024 (fun i =>
    let n := s.fld (F.SLC_STR_VRATIO_RATIO i); decide (n < 65536) || decide (524288 < n))

/-- The registers of a valid input stream entry that break a rule; `before` are the valid entries below it, `sel` its table
set in force (R452). -/
def State.streamLimits (s : State) (sel : Nat → Nat) (before : List Nat) (i : Nat) : List Nat :=
  let g := s.geoOf i ⟨[], 0, []⟩
  let t := fun (a : Nat) (bad : Bool) => if bad then [a] else []
  let rois := s.rois i
  t (A.ING_ENT0 i) (dtBits g.dt == 0 || before.any fun j =>
    s.fld (F.ING_ENT0_NA j) == s.fld (F.ING_ENT0_NA i) && s.fld (F.ING_ENT0_VC j) == s.fld (F.ING_ENT0_VC i)) ++
  t (A.ING_ENT1 i) (g.width == 0 || decide (16384 < g.width) || g.lines == 0 || decide (16384 < g.lines) ||
    g.width % (dtGroup g.dt).1 != 0) ++
  t (A.SLC_STR_CFG0 i) (((g.sdef || g.ddef) && (decide (g.width < 5) || decide (g.lines < 5))) ||
    ((g.scale == 1 || g.scale == 2) && (g.width % (2 * g.bin) != 0 || g.lines % (2 * g.bin) != 0)) ||
    !s.setReadable i (sel i)) ++
  t (A.SLC_STR_TSET i) (decide (16205 < s.fld (F.SLC_STR_TSET_TSET_A i)) || decide (16205 < s.fld (F.SLC_STR_TSET_TSET_B i))) ++
  t (A.SLC_STR_DEF0 i) (s.defectsBad i) ++
  ((rois.filter fun r => decide (r < 4096) && s.roiBad i r).map A.ROI_CFG)

/-- The registers whose values fail check 11, in no further order; `sel` gives each stream's table set in force. -/
def State.valueFails (s : State) (sel : Nat → Nat) : List Nat :=
  let t := fun (a : Nat) (bad : Bool) => if bad then [a] else []
  let rate := s.fld F.GLB_TICK_CFG_RATE_HZ
  let dl := s.fld F.GLB_HERD_CFG_DEADLINE
  let dc := s.fld F.PLC_CFG_DC_NUM
  t A.GLB_TICK_CFG (rate == 0 || decide (240 < rate)) ++
  t A.GLB_HERD_CFG (dl == 0 || decide (512 < dl)) ++
  t A.PLC_CFG (dc == 0 || decide (256 < dc)) ++
  t A.GRZ_CFG (decide (s.fld F.GRZ_CFG_CH < dc)) ++
  s.listedBad A.TIME_NODE_OFS 8 512 (fun n =>
    decide (tuPerSec < (signed 32 (s.fld (F.TIME_NODE_OFS_OFS n))).natAbs * rate)) ++
  ((List.range 80).filter fun p => decide (4 < s.fld (F.TRL_CFG_MAX_STEP p)) ||
    (isLane p && !s.flag (F.TRL_CFG_MEDIUM p))).map A.TRL_CFG ++
  ((List.range 4).filter fun k => s.fld (F.TRK_BOND_CFG_MIN_W k) == 3).map A.TRK_BOND_CFG ++
  ((List.range 16).filter fun n => s.fld (F.LW_CFG_SPEED n) == 3).map A.LW_CFG ++
  ((List.range 64).filter fun n =>
    let lim := s.fld (F.PWR_PC_CFG_ILIM n)
    let grouped := (s.image.map fun im => im.poc.groups.any fun g => g.1.testBit n).getD false
    decide (lim < 5) || decide (120 < lim) || (grouped && decide ((s.image.map fun im => im.poc.inrush).getD 0 < 10 * lim))).map
    A.PWR_PC_CFG ++
  s.entryLimits ++
  (s.isids.foldl (fun (r : List Nat × List Nat) i => (r.1 ++ [i], r.2 ++ s.streamLimits sel r.1 i)) ([], [])).2

/-! ### Validation (R306) -/

/-- What a bank's header and body spell, once checks 1–10 have passed: its header, its sections' records with their modes and
first offsets. -/
structure Parsed where
  head : List Byte
  base : List ImgRec
  ovls : List (Nat × Nat × List ImgRec)

/-- The image offset of the last setting of a register, in an overlay, then in the base; else the section's own. -/
def Parsed.where' (p : Parsed) (m : Option Nat) (a : Nat) : Nat :=
  let last := fun (rs : List ImgRec) => ((rs.flatMap ImgRec.settings).filter fun x => x.addr = a).getLast?.map (·.ofs)
  match m.bind fun m => p.ovls.find? fun o => o.1 = m with
  | some o => ((last o.2.2).or (last p.base)).getD o.2.1
  | none => (last p.base).getD 512

/-- The bank's first flash byte (R290). -/
def bankAddr (bank : Nat) : Nat := bank * 0x800000

/-- The 512 header bytes of a bank. -/
def State.header (s : State) (bank : Nat) : List Byte := s.flashRead (bankAddr bank) 512

/-- A key slot's usage byte (R330): 0 IMAGE, 1 TOKEN, 6 PRESENT, 7 REVOKED. -/
def State.keyUse (s : State) (k b : Nat) : Bool := (tblGet (fun _ => 0#8) s.sec.otp (0x120 + k)).getLsbD b

/-- The hash in a key slot. -/
def State.keyHash (s : State) (k : Nat) : List Byte := s.otp (0x60 + 48 * k) 48

/-- Whether a slot verifies for a use (0 images, 1 tokens). -/
def State.keyGood (s : State) (k use : Nat) : Bool := s.keyUse k 6 && s.keyUse k use && !s.keyUse k 7

/-- Checks 4 and 5 (R295): the key slot, and the signature over header bytes 0–399. -/
def State.checkKey (s : State) (h : List Byte) : Checked Unit := do
  let k := leAt h 13 1 % 4
  let pub := (h.drop 180).take 97
  need (s.keyGood k 0) 4 13
  need (decide (sha384 pub = s.keyHash k)) 4 180
  need (p384.verify pub (sha384 (h.take 400)) ((h.drop 400).take 48) ((h.drop 448).take 48)) 5 400

/-- The security version floor: set bits of its thermometer (R333). -/
def State.floor (s : State) : Nat :=
  (s.otp 0x140 32).foldl (fun n b => n + (List.range 8).countP fun i => b.getLsbD i) 0

/-- Split a section into records and check their layouts (check 9). -/
def readSection (base : Bool) (ofs : Nat) (l : List Byte) : Checked (List ImgRec) := do
  let rs ← readRecords base (l.length + 1) ofs [] l
  needNone (rs.findSome? recordBad) 9
  let named := if rs.any fun r => r.typ = 7 then ((rs.flatMap ImgRec.settings).find? Setting.quorum).map (·.ofs) else none
  needNone (if base then none else named) 9
  return rs

/-- Checks 1 to 3 of a header. -/
def headGood (h : List Byte) : Checked Unit := do
  need (decide (crc32c (h.take 396) = leAt h 396 4)) 1 396
  needNone (headFormat h) 2
  needNone (headLength h) 3

/-- Checks 1 to 10 of a bank; `keys` says whether checks 4 and 5 are made. -/
def State.parseImage (s : State) (bank : Nat) (keys : Bool) : Checked Parsed := do
  let h := s.header bank
  headGood h
  let enc := leAt h 12 1 == 1
  let stored := s.flashRead (bankAddr bank + 512) (leAt h 8 4 - 512)
  needNone (if enc then none else gapBad h stored) 3
  if keys then s.checkKey h
  need (decide (s.floor ≤ leAt h 20 4)) 6 20
  need (decide (sha384 stored = (h.drop 104).take 48)) 7 104
  let iek := s.otp 0x40 32
  let iv := (h.drop 152).take 12
  need (!enc || (s.lc != 3 && decide (gcmTag iek iv (h.take 104) stored = (h.drop 164).take 16))) 8 164
  let body := if enc then gcmCrypt iek iv stored else stored
  needNone (if enc then gapBad h body else none) 3
  let part := fun (o n : Nat) => (body.drop (o - 512)).take n
  let base ← readSection true 512 (part 512 (leAt h 36 4))
  let ovls ← (dirValid h).mapM fun e => do
    let rs ← readSection false e.2.ofs (part e.2.ofs e.2.len)
    return (e.2.mode, e.2.ofs, rs)
  needNone (base.findSome? (addressBad true)) 10
  needNone (ovls.findSome? fun o => o.2.2.findSome? (addressBad false)) 10
  return ⟨h, base, ovls⟩

/-- The image that a parsed bank spells. -/
def Parsed.image (p : Parsed) (bank : Nat) : Image where
  bank := bank
  enc := leAt p.head 12 1 == 1
  keyIdx := leAt p.head 13 1 % 4
  startMode := leAt p.head 14 1 % 8
  imgVer := leAt p.head 16 4
  secVer := leAt p.head 20 4
  digest := (p.head.drop 104).take 48
  base := baseWords (p.base.flatMap ImgRec.settings)
  held := heldFields (p.base.flatMap ImgRec.settings)
  tbl := baseTables p.base
  overlays := p.ovls.map fun o => overlayOf o.1 o.2.2
  roots := rootsOf p.base
  poc := pocOf p.base

/-- The base alone, then the base with each overlay. -/
def Image.places (im : Image) : List (Option Nat) := none :: im.overlays.map fun o => some o.mode

/-- Check 11: the offset of a value that fails. The table set in force at start is the one that the image names for its
START_MODE (R452; log entry 196). -/
def State.valueBad (s : State) (p : Parsed) (im : Image) : Option Nat :=
  let start := s.tryImage im (some im.startMode)
  im.places.findSome? fun m =>
    ((s.tryImage im m).valueFails fun i => start.fld (F.SLC_STR_LIVE_TSEL i)).head?.map (p.where' m)

/-- Check 12 (R305): the failing header field, directory entry or setting. -/
def State.overlaysBad (s : State) (p : Parsed) (im : Image) : Option Nat :=
  let modes := p.ovls.map (·.1)
  let twice := ((List.range modes.length).zip modes).find? fun c => (modes.take c.1).contains c.2
  let wake := im.places.find? fun m =>
    let w := (s.tryImage im m).fld F.GLB_WAKE_CFG_WAKE_MODE
    !modes.contains (if w = 0 then 1 else w)
  (twice.map fun c => 40 + 8 * c.1).or <|
    (if im.startMode ≠ 0 ∧ modes.contains im.startMode then none else some 14).or <|
    (if modes.contains 7 then none else some 15).or (wake.map fun m => p.where' m A.GLB_WAKE_CFG)

/-- Whether an enabled port has a VALID step-0 entry in each band (R87). -/
def State.eqMissing (s : State) : Option Nat :=
  (List.range 80).find? fun p => s.portOn p && !((List.range 3).all fun b => s.flag (F.TRL_EQ_LO_VALID p b))

/-- Check 13: every enabled port and lane, in every mode. -/
def State.eqBad (s : State) (p : Parsed) (im : Image) : Option Nat :=
  im.overlays.findSome? fun o => (s.tryImage im (some o.mode)).eqMissing.map fun n => p.where' (some o.mode) (A.TRL_CFG n)

/-- Checks 1 to 13 of a bank (R306, R310). -/
def State.checkImage (s : State) (bank : Nat) (keys : Bool) : Checked (Parsed × Image) := do
  let p ← s.parseImage bank keys
  let im := p.image bank
  needNone (s.valueBad p im) 11
  needNone (s.overlaysBad p im) 12
  needNone (s.eqBad p im) 13
  return (p, im)

/-- The nominal capacities of the start check (R34). -/
def nominalCaps : Caps0 := ⟨32, 16, 128, true⟩

/-- The modes of an image whose demand does not fit nominal capacities (R34). -/
def State.unfit (s : State) (im : Image) : List Nat :=
  (im.overlays.map (·.mode)).filter fun m => !(s.tryImage im (some m)).modeFits m nominalCaps

/-- All checks of a start: the image, and the modes that admission bars (R34, R306). -/
def State.validate (s : State) (bank : Nat) (keys : Bool) : Checked (Image × List Nat) := do
  let (p, im) ← s.checkImage bank keys
  let bad := s.unfit im
  let at' := fun (m : Nat) => ((p.ovls.find? fun o => o.1 = m).map (·.2.1)).getD 512
  need (!bad.contains 7) 14 (at' 7)
  need (!bad.contains im.startMode) 14 (at' im.startMode)
  return (im, bad)

/-! ### Service writes (R11) -/

/-- A discarded write of an input stream entry that would have made a second valid entry for a pair in use also logs the
event of R124; `t` is the state it would have given. -/
def State.pairEvent (s t : State) (a : Nat) : State :=
  let i := (a - A.ING_ENT0 0) / 0x80
  let na := t.fld (F.ING_ENT0_NA i)
  let vc := t.fld (F.ING_ENT0_VC i)
  if a = A.ING_ENT0 i ∧ i < 1024 ∧ t.flag (F.ING_ENT0_VALID i) ∧
      t.isids.any (fun j => j != i && t.fld (F.ING_ENT0_NA j) == na && t.fld (F.ING_ENT0_VC j) == vc) then
    s.log 124 na (det 1 1 ++ det 1 vc)
  else s

/-- A Service-mode write of an image-owned register that check 11 or R299 would reject is discarded; `act` writes it. -/
def State.imageWrite (s : State) (a : Nat) (act : State → State) : State :=
  let s' := act s
  let sel := fun i => s.fld (F.SLC_STR_LIVE_TSEL_CUR i)
  let was := s.valueFails sel
  if rwBits a = 0#32 ∨ (s'.valueFails sel).any fun x => x = a || !was.contains x then (s.imageReject a).pairEvent s' a else s'

/-! ### The boot selector and flash commands (R309–R311) -/

/-- Whether a bank has passed VERIFY since its last erase or program. -/
def State.verified (s : State) (bank : Nat) : Bool :=
  if bank = 0 then s.flag F.CFG_FL_STAT_VER_A_OK else s.flag F.CFG_FL_STAT_VER_B_OK

/-- Set or clear a bank's VER_x_OK. -/
def State.setVerified (s : State) (bank : Nat) (ok : Bool) : State :=
  if bank = 0 then s.setFlag F.CFG_FL_STAT_VER_A_OK ok else s.setFlag F.CFG_FL_STAT_VER_B_OK ok

/-- A write of CFG_SEL (R309, R324): the selector changes in the ledger and clears both fail counts, or is refused. -/
def State.cfgSel (s : State) (v : Word) : State :=
  let bank := fldGet v 0 1
  if !s.verified bank then s.setFlag F.CFG_SEL_SEL_REJ true
  else
    let s : State := { s with led := { s.led with primaryB := bank == 1, pend := true, urgent := true } }
    let s := s.plainWrite A.CFG_SEL v
    (s.setFld F.GLB_START_FAIL_FAILS_A 0).setFld F.GLB_START_FAIL_FAILS_B 0

/-- Whether a flash range is one that ERASE and PROGRAM are refused for (R311): the bank in force, the log, the
ledger. -/
def State.flashShut (s : State) (a : Nat) : Bool :=
  (0x1000000 ≤ a && a < 0x1140000) || (decide (a < 0x1000000) && (s.image.map (·.bank)) == some (a / 0x800000))

/-- A write of CFG_FL_CMD (R310): the command starts, is refused (R311), or is discarded. -/
def State.flashCmd (s : State) (cmd : Nat) : State :=
  let a := s.fld F.CFG_FL_ADDR_ADDR
  if s.flag F.CFG_FL_STAT_BUSY || cmd = 0 || 4 < cmd then s.setFlag F.CFG_FL_STAT_CMD_REJ true
  else
    let s := (s.setFld F.CFG_FL_STAT_LAST_CMD cmd).setFld F.CFG_FL_STAT_RESULT 0
    let odd := match cmd with
      | 1 => a % 4096 != 0
      | 2 | 3 => a % 256 != 0
      | _ => false
    if odd || ((cmd = 1 || cmd = 2) && s.flashShut a) then s.setFld F.CFG_FL_STAT_RESULT 3
    else
      let s := if (cmd = 1 || cmd = 2) && a < 0x1000000 then s.setVerified (a / 0x800000) false else s
      let page := (List.range 64).flatMap fun i => leBytes 4 (s.reg (A.CFG_FL_BUF i)).toNat
      ({ s with flCmd := some (a, page) } : State).setFlag F.CFG_FL_STAT_BUSY true

/-- Place bytes in the page buffer. -/
def State.setPage (s : State) (l : List Byte) : State :=
  (List.range 64).foldl (fun s i => s.setReg (A.CFG_FL_BUF i) (BitVec.ofNat 32 (leAt l (4 * i) 4))) s

/-- Overwrite flash bytes. -/
def State.flashPut (s : State) (a : Nat) (l : List Byte) : State :=
  (s.eraseRange a l.length).program a l

/-- The action of a flash command that ends in time; whether it ends OK. -/
def State.flashRun (s : State) (cmd a : Nat) (page : List Byte) : State × Bool :=
  match cmd with
  | 1 => (s.eraseSector a, true)
  | 2 => (s.program a page, true)
  | 3 => (s.setPage (s.flashRead a 256), true)
  | _ => match s.checkImage (a / 0x800000 % 2) true with
    | .ok _ => (s.setVerified (a / 0x800000 % 2) true, true)
    | .error e => (s.setFld F.CFG_FL_STAT_VCAUSE e.1, false)

/-- What a flash command that ends FAIL leaves where it was to write: bytes that the spec does not state. -/
def State.flashSpoil (s : State) (cmd a : Nat) : State :=
  match cmd with
  | 1 => let s := s.eraseSector a; (s.flashPut a (s.freeBytes 4096)).drawnN 4096
  | 2 => (s.flashPut a (s.freeBytes 256)).drawnN 256
  | 3 => (s.setPage (s.freeBytes 256)).drawnN 256
  | _ => s

/-- The command in progress ends. -/
def State.flashEnd (s : State) (late : Bool) : State :=
  match s.flCmd with
  | none => s
  | some (a, page) =>
    let cmd := s.fld F.CFG_FL_STAT_LAST_CMD
    let (t, ok) := if late then (s.flashSpoil cmd a, false) else s.flashRun cmd a page
    (({ t with flCmd := none } : State).setFlag F.CFG_FL_STAT_BUSY false).setFld F.CFG_FL_STAT_RESULT (if ok then 1 else 2)

/-- CFG_SEL_WRITE (R309). -/
def execCfgSelWrite (path : Path) (v : Word) (s : State) : Result :=
  .next (s.guarded path A.CFG_SEL false fun s => s.cfgSel v)

/-- ERASE (R310, R311). -/
def execErase (path : Path) (s : State) : Result := .next (s.guarded path A.CFG_FL_CMD false fun s => s.flashCmd 1)

/-- PROGRAM (R310, R311). -/
def execProgram (path : Path) (s : State) : Result := .next (s.guarded path A.CFG_FL_CMD false fun s => s.flashCmd 2)

/-- READ (R310). -/
def execRead (path : Path) (s : State) : Result := .next (s.guarded path A.CFG_FL_CMD false fun s => s.flashCmd 3)

/-- VERIFY (R310). -/
def execVerify (path : Path) (s : State) : Result := .next (s.guarded path A.CFG_FL_CMD false fun s => s.flashCmd 4)

/-- FLASH_COMMAND_DONE (R310): the command in progress ends in time, or at its time limit. During a firmware restart
flash commands wait (R326). -/
def execFlashCommandDone (late : Bool) (s : State) : Result :=
  .next (if s.core && !s.start.fwBusy then s.flashEnd late else s)

end Sys2Proof.Machine
end

