-- ==== Sys2Proof/Machine/Security.lean ====
section
/-! DEFINITION. The lifecycle and key store (R328–R333), authorisation tokens (R334, R335), debug access and the JTAG
instructions (R346–R348). -/

namespace Sys2Proof.Machine

/-! ### Operations (SEC_OP_STAT) -/

/-- RESULT codes: OK and REFUSED (R335). -/
def resOk : Nat := 1
def resRefused : Nat := 7

/-- Begin an operation of kind `op` (1 lifecycle, 2 OTP program, 3 token, 4 floor commit), which will end with `r`. -/
def State.beginOp (s : State) (op r : Nat) (token : List Byte) : State :=
  ({ s with sec := { s.sec with op := some (op, r, token) } } : State).setFlag F.SEC_OP_STAT_BUSY true
    |>.setFld F.SEC_OP_STAT_LAST_OP op

/-- Do `act` as an operation, or note that one arrived while BUSY. -/
def State.secOp (s : State) (act : State → State) : State :=
  if s.flag F.SEC_OP_STAT_BUSY then s.setFlag F.SEC_OP_STAT_REJ true else act s

/-- The operation in progress ends: RESULT, and a token's event (R335). -/
def State.endOp (s : State) : State :=
  match s.sec.op with
  | none => s
  | some (op, r, token) =>
    let s : State := { s with sec := { s.sec with op := none } }
    let s := (s.setFlag F.SEC_OP_STAT_BUSY false).setFld F.SEC_OP_STAT_RESULT r
    if op = 3 then s.log 335 noSrc (det 1 (leAt token 4 1) ++ det 1 r) else s

/-! ### The OTP (R330, R332) -/

/-- Program OTP bits: a fuse once set stays set. The retained digest no longer lets a start skip
its signature check (R315). -/
def State.fuse (s : State) (o : Nat) (l : List Byte) : State :=
  let t := ((List.range l.length).zip l).foldl (fun t c =>
    tblSet (fun _ => 0#8) t (o + c.1) (tblGet (fun _ => 0#8) t (o + c.1) ||| c.2)) s.sec.otp
  { s with sec := { s.sec with otp := t, otpSame := false } }

/-- Set the lifecycle fuse of a state. -/
def State.setLc (s : State) (bit : Nat) : State := s.fuse 0 [BitVec.ofNat 8 (2 ^ bit)]

/-- Whether an unrevoked slot has IMAGE usage and one has TOKEN usage, slot `but` aside. -/
def State.keysLeft (s : State) (but : Nat) : Bool :=
  let ks := (List.range 4).filter (· != but)
  ks.any (fun k => s.keyGood k 0) && ks.any (fun k => s.keyGood k 1)

/-- Whether the UID has been programmed. -/
def State.uidOk (s : State) : Bool := (s.otp 0x10 8).any (· != 0#8)

/-- What SEC_OTP_PROG does with a word, and whether it is accepted (R332): the key slots and their usage bytes once each,
the IEK, the certificate chain. -/
def State.otpProg (s : State) (o : Nat) (v : Word) : State × Bool :=
  let w := leBytes 4 v.toNat
  if 2 ≤ s.lc then (s, false)
  else if 0x60 ≤ o ∧ o < 0x120 then
    if s.keyUse ((o - 0x60) / 48) 6 || (s.otp o 4).any (· != 0#8) then (s, false) else (s.fuse o w, true)
  else if o = 0x120 then
    let use := w.map fun b => b &&& 3#8
    let named := (List.range 4).filter fun k => use[k]?.getD 0#8 != 0#8
    if named = [] ∨ named.any fun k => s.keyUse k 6 then (s, false)
    else (s.fuse o (use.map fun b => if b = 0#8 then b else b ||| 0x40#8), true)
  else if (0x40 ≤ o ∧ o < 0x60) ∨ (0x400 ≤ o ∧ o < 0xC00) then (s.fuse o w, true)
  else (s, false)

/-- SEC_OTP_PROG.GO. -/
def State.otpGo (s : State) : State :=
  s.secOp fun s =>
    let (t, ok) := s.otpProg (s.fld F.SEC_OTP_ADDR_WORD * 4) (s.reg A.SEC_OTP_DATA)
    t.beginOp 2 (if ok then resOk else resRefused) []

/-! ### Lifecycle (R328, R329, R331) -/

/-- Whether debug scope `k` is open to JTAG: everywhere but in Field, there once unlocked. -/
def State.scopeOpen (s : State) (k : Nat) : Bool := s.lc != 2 || (s.fld F.SEC_STAT_DBG_SCOPE).testBit k

/-- An instruction that is no longer allowed acts as BYPASS (R329, R346). -/
def State.jtagLock (s : State) : State :=
  let ok := match s.sec.jtag with
    | .extest | .intest | .clamp | .highz => s.scopeOpen 0
    | .trace => s.scopeOpen 2
    | _ => true
  if ok then s else { s with sec := { s.sec with jtag := .bypass } }

/-- A lifecycle command: 1 GEN_DUS, 2 PROVISION, 3 FIELD; what it does, and whether it is accepted. -/
def State.lcRun (s : State) (cmd : Nat) : State × Bool :=
  match cmd with
  | 1 => if s.dusOk then (s, false) else ((s.fuse 0x20 (s.freeBytes 32)).drawnN 32, true)
  | 2 => if s.lc = 0 && s.dusOk && s.uidOk && s.keysLeft 4 then (s.setLc 0, true) else (s, false)
  | 3 => if s.lc = 1 && s.keysLeft 4 then ((s.setLc 1).jtagLock, true) else (s, false)
  | _ => (s, false)

/-- A write of SEC_LC_CTRL: only the management port or JTAG with the key acts (R329). -/
def State.lcCtrl (s : State) (p : Path) (v : Word) : State :=
  if p = .bar0 ∨ fldGet v 16 16 ≠ 0x4C43 then s.setFld F.SEC_OP_STAT_RESULT resRefused
  else s.secOp fun s =>
    let (t, ok) := s.lcRun (fldGet v 0 2)
    t.beginOp 1 (if ok then resOk else resRefused) []

/-- SEC_ROLL_CTRL.COMMIT: the floor rises to the image's SEC_VER, or the write is refused (R333). -/
def State.rollCommit (s : State) : State :=
  s.secOp fun s => match s.image with
    | some im =>
      if s.sec.coldImage && s.start.clearDue == [] then
        let n := 2 ^ min im.secVer 256 - 1
        (s.fuse 0x140 (leBytes 32 n)).beginOp 4 resOk []
      else s.beginOp 4 resRefused []
    | none => s.beginOp 4 resRefused []

/-! ### Tokens (R334, R335) -/

/-- A fresh challenge. -/
def State.newChallenge (s : State) : State :=
  let l := s.freeBytes 32
  let s := (List.range 8).foldl (fun s i => s.setReg (A.SEC_CHAL i) (BitVec.ofNat 32 (leAt l (4 * i) 4))) (s.drawnN 32)
  ({ s with sec := { s.sec with chalAt := some s.time.elapsed } } : State).setFlag F.SEC_CHAL_CTRL_CURRENT true

/-- The challenge stops being current. -/
def State.dropChallenge (s : State) : State :=
  ({ s with sec := { s.sec with chalAt := none } } : State).setFlag F.SEC_CHAL_CTRL_CURRENT false

/-- The current challenge's bytes. -/
def State.challenge (s : State) : List Byte := (List.range 8).flatMap fun i => leBytes 4 (s.reg (A.SEC_CHAL i)).toNat

/-- The 272 bytes in SEC_TOK_BUF. -/
def State.token (s : State) : List Byte := (List.range 68).flatMap fun j => leBytes 4 (s.reg (A.SEC_TOK_BUF j)).toNat

/-- Whether MAGIC, CMD and reserved bytes are as R334 fixes. -/
def tokenForm (t : List Byte) : Bool :=
  let cmd := leAt t 4 1
  let arg := leAt t 6 2
  leAt t 0 4 == 0x4B544441 && decide (1 ≤ cmd) && decide (cmd ≤ 4) && decide (leAt t 5 1 < 4) &&
    decide (arg < match cmd with | 1 => 8 | 4 => 4 | _ => 1) && leAt t 48 16 == 0 && leAt t 161 15 == 0

/-- Whether a token's command is allowed in the present state (R329, R332, R347, R394). -/
def State.tokenAllowed (s : State) (t : List Byte) : Bool :=
  let arg := leAt t 6 2
  match leAt t 4 1 with
  | 1 => s.lc == 2
  | 2 => s.recs.clear.isNone
  | 3 => s.lc == 1 || s.lc == 2
  | _ => (s.image.map (·.keyIdx)) != some arg && s.keysLeft arg

/-- The result of a token's checks, in order. -/
def State.tokenCheck (s : State) (p : Path) (t : List Byte) : Nat :=
  let k := leAt t 5 1 % 4
  let pub := (t.drop 64).take 97
  if p != .mgmt && leAt t 4 1 != 1 then 2
  else if !tokenForm t then 3
  else if s.sec.chalAt.isNone || (t.drop 16).take 32 != s.challenge || (t.drop 8).take 8 != s.otp 0x10 8 then 4
  else if sha384 pub != s.keyHash k || !s.keyGood k 1 then 5
  else if !p384.verify pub (sha384 (t.take 176)) ((t.drop 176).take 48) ((t.drop 224).take 48) then 6
  else if !s.tokenAllowed t then 7 else 1

/-- Open debug scopes (R347). -/
def State.openScopes (s : State) (scopes : Nat) : State :=
  let n := s.fld F.SEC_STAT_DBG_SCOPE ||| scopes
  ((s.setFld F.SEC_STAT_DBG_SCOPE n).setFlag F.SEC_STAT_DBG_OPEN (n != 0)).log 347 noSrc []

/-- Close every debug scope (R347). -/
def State.relock (s : State) : State :=
  ((s.setFld F.SEC_STAT_DBG_SCOPE 0).setFlag F.SEC_STAT_DBG_OPEN false).jtagLock.log 347 noSrc []

/-- What an accepted token does. -/
def State.tokenAct (s : State) (t : List Byte) : State :=
  match leAt t 4 1 with
  | 1 => s.openScopes (leAt t 6 2)
  | 2 => s.beginClear 0 (leAt t 5 1)
  | 3 => s.setLc 2
  | _ => s.fuse (0x120 + leAt t 6 2) [0x80#8]

/-- SEC_TOK_CTRL.GO on a path (R335): BAR0 is discarded; a challenge serves one check. -/
def State.tokenGo (s : State) (p : Path) : State :=
  if p = .bar0 then s
  else s.secOp fun s =>
    let t := s.token
    let r := s.tokenCheck p t
    let s := if r = 2 ∨ r = 3 then s else s.dropChallenge
    (if r = 1 then s.tokenAct t else s).beginOp 3 r t

/-- GO, where the buffer holds a token of command `cmd`. -/
def State.tokenRow (s : State) (p : Path) (cmd : Nat) : State :=
  s.guarded p A.SEC_TOK_CTRL false fun s => if leAt s.token 4 1 = cmd then s.tokenGo p else s

/-! ### JTAG (R346) -/

/-- The port takes an instruction, or BYPASS where it is not allowed. -/
def State.jtag (s : State) (j : Jtag) (ok : Bool) : State :=
  if s.core then { s with sec := { s.sec with jtag := if ok then j else .bypass } } else s

/-! ### Commands -/

/-- GEN_DUS (R331). -/
def execGenDus (path : Path) (key : BitVec 16) (s : State) : Result :=
  .next (s.guarded path A.SEC_LC_CTRL false fun s => s.lcCtrl path (key.setWidth 32 <<< 16 ||| 1#32))

/-- PROVISION (R329). -/
def execProvision (path : Path) (key : BitVec 16) (s : State) : Result :=
  .next (s.guarded path A.SEC_LC_CTRL false fun s => s.lcCtrl path (key.setWidth 32 <<< 16 ||| 2#32))

/-- FIELD (R329). -/
def execField (path : Path) (key : BitVec 16) (s : State) : Result :=
  .next (s.guarded path A.SEC_LC_CTRL false fun s => s.lcCtrl path (key.setWidth 32 <<< 16 ||| 3#32))

/-- SEC_OTP_PROG (R332). -/
def execSecOtpProg (path : Path) (s : State) : Result := .next (s.guarded path A.SEC_OTP_PROG false State.otpGo)

/-- SEC_ROLL_CTRL_COMMIT (R333). -/
def execSecRollCtrlCommit (path : Path) (s : State) : Result := .next (s.guarded path A.SEC_ROLL_CTRL false State.rollCommit)

/-- SEC_CHAL_CTRL_NEW (R335). -/
def execSecChalCtrlNew (path : Path) (s : State) : Result := .next (s.guarded path A.SEC_CHAL_CTRL false State.newChallenge)

/-- CHALLENGE_EXPIRE (R335). -/
def execChallengeExpire (s : State) : Result :=
  .next (if s.core && s.sec.chalAt.isSome then s.dropChallenge else s)

/-- DEBUG_UNLOCK (R347). -/
def execDebugUnlock (path : Path) (s : State) : Result := .next (s.tokenRow path 1)

/-- LOG_CLEAR (R394): by token, or by REC_CTRL.CLEAR in Returned. -/
def execLogClear (path : Path) (byToken : Bool) (v : Word) (s : State) : Result :=
  .next (if byToken then s.tokenRow path 2
    else s.guarded path A.REC_CTRL false fun s => s.recCtrl path (v ||| 1#32))

/-- RETURN (R329). -/
def execReturn (path : Path) (s : State) : Result := .next (s.tokenRow path 3)

/-- REVOKE (R332). -/
def execRevoke (path : Path) (s : State) : Result := .next (s.tokenRow path 4)

/-- SEC_DBG_CTRL_RELOCK (R347). -/
def execSecDbgCtrlRelock (path : Path) (s : State) : Result := .next (s.guarded path A.SEC_DBG_CTRL false State.relock)

/-- SECURITY_OPERATION_DONE (R335). -/
def execSecurityOperationDone (s : State) : Result := .next (if s.core then s.endOp else s)

/-- BYPASS (R346). -/
def execBypass (s : State) : Result := .next (s.jtag .bypass true)

/-- IDCODE (R346): the part's identification code is shifted out, a value that the spec does not state. -/
def execIdcode (s : State) : Result :=
  .next (if s.core then ((s.jtag .idcode true).answer .jtag (BitVec.ofNat 32 (s.free 32))).drawn else s)

/-- SAMPLE/PRELOAD (R346). -/
def execSamplePreload (s : State) : Result := .next (s.jtag .sample true)

/-- EXTEST (R346). -/
def execExtest (s : State) : Result := .next (s.jtag .extest (s.scopeOpen 0))

/-- INTEST (R346). -/
def execIntest (s : State) : Result := .next (s.jtag .intest (s.scopeOpen 0))

/-- CLAMP (R346). -/
def execClamp (s : State) : Result := .next (s.jtag .clamp (s.scopeOpen 0))

/-- HIGHZ (R346). -/
def execHighz (s : State) : Result := .next (s.jtag .highz (s.scopeOpen 0))

/-- TRACE (R346). -/
def execTrace (s : State) : Result := .next (s.jtag .trace (s.scopeOpen 2))

end Sys2Proof.Machine
end

