-- ==== Sys2Proof/Machine/Power.lean ====
section
/-! DEFINITION. Hub rails (R370–R372), thermal protection (R85, R449) and camera power channels (R373–R381). -/

namespace Sys2Proof.Machine

/-! ### Which ports a mode powers -/

/-- Whether a mode powers a camera port or the trunk port of a lane: the mode table of chapter 01; in Park and Limp the
ports of the nodes whose streams the mode demands, and the trunk ports they are routed over (log entry 62). -/
def State.portPowered (s : State) (mode p : Nat) : Bool :=
  match mode with
  | 0 => false
  | 6 => decide (p < 16)
  | 2 | 7 => (s.demand mode []).any fun c =>
      if isLane p then decide (2 ≤ s.destOf mode c.1) && s.fld (F.PLC_OSID_CFG_TRK c.1) == laneTrunk p
      else s.fld (F.ING_ENT0_NA c.2.isid) / 8 == p
  | _ => true

/-- A port that its mode does not power: its nodes are lost and its link stops. -/
def State.portOff (s : State) (p : Nat) : State :=
  let s := (s.loseFrom p 0).setBrup p 0
  s.setPort p { s.port p with waits := [], pronk := none, polls := [], redisc := false, stopped := true, loop := none, more := [] }

/-! ### PoC channels -/

/-- Channel states (PWR_PC_STAT.STATE). -/
def pcOff : Nat := 0
def pcQueued : Nat := 1
def pcSoft : Nat := 2
def pcOn : Nat := 3
def pcRetry : Nat := 4
def pcLatched : Nat := 5

/-- A channel's state. -/
def State.pc (s : State) (n : Nat) : Nat := s.fld (F.PWR_PC_STAT_STATE n)

/-- Whether a channel's gate is driven. -/
def State.pcDriven (s : State) (n : Nat) : Bool := s.pc n == pcSoft || s.pc n == pcOn

/-- The POC_SEQ group of a channel (R303). -/
def State.pocGroup (s : State) (n : Nat) : Option Nat :=
  match s.image with
  | none => none
  | some im => (List.range im.poc.groups.length).find? fun g => ((im.poc.groups[g]?).map fun x => x.1.testBit n).getD false

/-- Whether a channel may be powered, LATCHED aside (R374). -/
def State.pcAllowed (s : State) (n : Nat) : Bool :=
  s.up && s.portPowered s.planMode n && (s.pocGroup n).isSome && !s.flag (F.PWR_PC_CTRL_FORCE_OFF n)

/-- ILIM in mA. -/
def State.pcLimit (s : State) (n : Nat) : Nat := 10 * s.fld (F.PWR_PC_CFG_ILIM n)

/-- The sum of ILIM in soft-start, in mA (R380). -/
def State.pcBudget (s : State) : Nat :=
  (List.range 64).foldl (fun t n => if s.pc n = pcSoft then t + s.pcLimit n else t) 0

/-- PWR_GLB.QUEUED and BUDGET_USED. -/
def State.pwrRegs (s : State) : State :=
  (s.setFld F.PWR_GLB_QUEUED s.pwr.queue.length).setFld F.PWR_GLB_BUDGET_USED (min 8191 s.pcBudget)

/-- Set a channel's state; what counted for the old state starts anew. -/
def State.setPc (s : State) (n st : Nat) : State :=
  let s := (s.setFld (F.PWR_PC_STAT_STATE n) st).setFlag (F.PWR_PC_STAT_OPEN n) false
  let w := s.pwr
  { s with pwr := { w with queue := if st = pcQueued then w.queue else w.queue.filter (· != n)
                           oc := tblPut w.oc n none, opn := tblPut w.opn n none } }.pwrRegs

/-- Turn a channel off into a state; the nodes of a port whose gate turns off are lost (R106, R376). -/
def State.pcDown (s : State) (n st : Nat) : State :=
  if !s.pcDriven n then s.setPc n st
  else
    let s := (s.setPc n st).emit (.pin "PC_GATE" n false (st48 s.now))
    ({ s with pwr := { s.pwr with boot := s.pwr.boot.filter (· != n) } } : State).loseFrom n 0

/-- Queue a channel for a soft-start (R380). -/
def State.pcEnqueue (s : State) (n : Nat) : State :=
  if s.pcAllowed n && (s.pc n == pcOff || s.pc n == pcRetry) then
    let s : State := { s with pwr := { s.pwr with queue := s.pwr.queue ++ [n] } }
    s.setPc n pcQueued
  else s

/-- A fault of a channel (R376): noted and counted, one event. -/
def State.pcNote (s : State) (n fault : Nat) : State :=
  ((s.setFld (F.PWR_PC_STAT_FAULT n) fault).count31 (A.PWR_PC_FAULT_CNT n) 1).log 376 n []

/-- A fault that turns a channel off; `counts` says whether its retry counts toward RETRY_LIM (R377, R378). With CLR in the same
1 ms sample the fault wins, and RETRIES is 1 (R379). -/
def State.pcFault (s : State) (n fault : Nat) (counts : Bool) : State :=
  let s := s.pcNote n fault
  let lim := s.fld (F.PWR_PC_CFG_RETRY_LIM n)
  let used := s.fld (F.PWR_PC_STAT_RETRIES n)
  if s.pwr.clrs.contains n then (s.pcDown n pcRetry).setFld (F.PWR_PC_STAT_RETRIES n) 1
  else if !counts then s.pcDown n pcRetry
  else if lim ≠ 15 ∧ lim ≤ used then s.pcDown n pcLatched
  else (s.pcDown n pcRetry).setFld (F.PWR_PC_STAT_RETRIES n) (min 15 (used + 1))

/-- A fault between two samples: the gate is off at once. It is recorded, and its retry decided on, at the sample that ends the
1 ms, since FORCE_OFF or CLR may still meet it there (R376, R379; log entry 205). -/
def State.pcTrip (s : State) (n fault : Nat) (counts : Bool) : State :=
  let s := s.pcDown n pcRetry
  { s with pwr := { s.pwr with faults := tblPut s.pwr.faults n (some (fault, counts)) } }

/-- Whether a channel has a fault that its sample is still to record. -/
def State.pcTripped (s : State) (n : Nat) : Bool := (tblOpt s.pwr.faults n).isSome

/-- The faults that the past 1 ms met are recorded; a channel that something else has turned off since stays so. -/
def State.pcSettle (s : State) : State :=
  let s := s.pwr.faults.foldl (fun s c =>
    if s.pc c.1 = pcRetry then s.pcFault c.1 c.2.1 c.2.2 else s.pcNote c.1 c.2.1) s
  { s with pwr := { s.pwr with faults := [] } }

/-- The queue's head starts its soft-start, if the budget allows (R375, R380). -/
def State.softBegin (s : State) : State :=
  match s.pwr.queue with
  | [] => s
  | n :: _ =>
    let inrush := (s.image.map fun im => im.poc.inrush).getD 0
    if s.flag F.PWR_GLB_VIN_OV || inrush < s.pcBudget + s.pcLimit n then s
    else
      let was := tblGet zeroN s.led.poc n
      let s : State := { s with led := { s.led with poc := ledAdd s.led.poc n }
                                pwr := { s.pwr with boot := setIns n s.pwr.boot } }
      let s := (s.setPc n pcSoft).emit (.pin "PC_GATE" n true (st48 s.now))
      s.ledNote 0xFFFFFFFF was

/-- A soft-start ends with the output at voltage code `v` (R375). -/
def State.softEnd (s : State) (n v : Nat) : State :=
  if s.pc n ≠ pcSoft then s
  else
    let s := s.setFld (F.PWR_PC_MEAS_V n) v
    if 9 * s.fld F.PWR_GLB_VIN ≤ 10 * v then s.setPc n pcOn else s.pcTrip n 1 true

/-- OVERCURRENT of one channel's sample (R376). -/
def State.ocCheck (s : State) (n i : Nat) : State :=
  if s.pc n ≠ pcOn then s
  else
    let k := if s.pcLimit n < 2 * i then tblGet zeroN s.pwr.oc n + 1 else 0
    let s : State := { s with pwr := { s.pwr with oc := tblSet zeroN s.pwr.oc n k } }
    if max 1 (s.fld (F.PWR_PC_CFG_OC_MS n)) ≤ k then s.pcFault n 2 true else s

/-- OPEN of one channel's sample (R376, R378). -/
def State.openCheck (s : State) (n i : Nat) : State :=
  let lim := s.fld (F.PWR_PC_CFG_OPEN_MA n)
  if s.pc n ≠ pcOn ∨ lim = 0 then s
  else if lim ≤ i then
    let s : State := { s with pwr := { s.pwr with opn := tblSet zeroN s.pwr.opn n 0 } }
    if s.flag (F.PWR_PC_STAT_OPEN n) then (s.setFlag (F.PWR_PC_STAT_OPEN n) false).log 378 n [] else s
  else
    let k := tblGet zeroN s.pwr.opn n + 1
    let s : State := { s with pwr := { s.pwr with opn := tblSet zeroN s.pwr.opn n k } }
    if k < 10 * max 1 (s.fld (F.PWR_PC_CFG_OPEN_MS n)) || s.flag (F.PWR_PC_STAT_OPEN n) then s
    else if s.flag (F.PWR_PC_CFG_OPEN_ACT n) then s.pcFault n 3 false
    else (s.pcNote n 3).setFlag (F.PWR_PC_STAT_OPEN n) true

/-- The supply sample (R376): VIN_OV turns every gate off, VIN_UV is noted. -/
def State.vinCheck (s : State) (vin : Nat) : State :=
  let s := s.setFld F.PWR_GLB_VIN vin
  let hi := if 825 < vin then s.pwr.vinHi + 1 else 0
  let lo := if vin < 425 then s.pwr.vinLo + 1 else 0
  let s : State := { s with pwr := { s.pwr with vinHi := hi, vinLo := lo } }
  let s := if 2 ≤ lo && !s.flag F.PWR_GLB_VIN_UV then (s.setFlag F.PWR_GLB_VIN_UV true).log 376 noSrc [] else s
  if hi < 2 then s
  else
    let s := s.setFlag F.PWR_GLB_VIN_OV true
    (List.range 64).foldl (fun s n => if s.pcDriven n then s.pcFault n 4 false else s) s

/-- One channel of a 1 ms sample. -/
def State.pcSample (s : State) (n i v : Nat) : State :=
  let s := s.setReg (A.PWR_PC_MEAS n) (BitVec.ofNat 32 (i + v * 65536))
  (s.ocCheck n i).openCheck n i

/-- A 1 ms sample of the supply and of every channel (R373). It ends the millisecond in which events meet (R379). -/
def State.pocSample (s : State) (vin : Nat) (ch : List (BitVec 10 × BitVec 10)) : State :=
  let s := ((List.range 64).zip ch).foldl (fun s c => s.pcSample c.1 c.2.1.toNat c.2.2.toNat) (s.pcSettle.vinCheck vin)
  { s with pwr := { s.pwr with clrs := [] } }

/-- The supply has come back (R377): every channel that it turned off returns to the queue. -/
def State.vinRelease (s : State) : State :=
  if !s.flag F.PWR_GLB_VIN_OV then s
  else
    let s := s.setFlag F.PWR_GLB_VIN_OV false
    (List.range 64).foldl (fun s n =>
      if s.pc n = pcRetry ∧ s.fld (F.PWR_PC_STAT_FAULT n) = 4 ∧ !s.pcTripped n then (s.setPc n pcOff).pcEnqueue n else s) s

/-- A retry wait ends (R377). -/
def State.retryEnd (s : State) (n : Nat) : State :=
  if s.pc n ≠ pcRetry ∨ s.fld (F.PWR_PC_STAT_FAULT n) = 4 ∨ s.pcTripped n then s else (s.setPc n pcOff).pcEnqueue n

/-- Ten seconds ON without a fault clear the retries (R377). -/
def State.retriesClear (s : State) (n : Nat) : State :=
  if s.pc n = pcOn then s.setFld (F.PWR_PC_STAT_RETRIES n) 0 else s

/-- A write of PWR_PC_CTRL[n] (R374, R377, R379): CLR on a latched channel queues it at once; any other channel that is off
waits out the delay of its group first. FORCE_OFF in the 1 ms sample of a fault leaves no fault recorded and no retry. -/
def State.pcCtrl (s : State) (n : Nat) (v : Word) : State :=
  let s := s.plainWrite (A.PWR_PC_CTRL n) v
  let free := bitOn v 1 && s.pc n == pcLatched
  let s := if bitOn v 1 then
      let s : State := { s with pwr := { s.pwr with clrs := setIns n s.pwr.clrs } }
      let s := s.setFld (F.PWR_PC_STAT_RETRIES n) 0
      if free then s.setPc n pcOff else s
    else s
  if s.flag (F.PWR_PC_CTRL_FORCE_OFF n) then
    let s : State := { s with pwr := { s.pwr with faults := tblPut s.pwr.faults n none } }
    if s.pc n = pcLatched then s else s.pcDown n pcOff
  else if s.pc n = pcOff && (free || s.pwr.due.all fun c => c.2 != n) then s.pcEnqueue n
  else s

/-- DELAY_MS of a group in TU. -/
def State.groupDelay (s : State) (g : Nat) : Nat :=
  16000000 * ((s.image.bind fun im => im.poc.groups[g]?).map (·.2)).getD 0

/-- A channel begins to wait out a delay. -/
def State.pcWait (s : State) (n delay : Nat) : State :=
  { s with pwr := { s.pwr with due := s.pwr.due ++ [(s.time.elapsed + delay, n)] } }

/-- A mode switch has changed what a channel is to do (R374, R381): one that may not be powered turns off, a LATCHED one stays so
until CLR, and one newly powered waits out the delay of its own group. -/
def State.pcMode (s : State) (n : Nat) : State :=
  let waits := s.pwr.due.any fun c => c.2 == n
  if !s.pcAllowed n then
    let s : State := { s with pwr := { s.pwr with due := s.pwr.due.filter fun c => c.2 != n } }
    if s.pc n = pcOff ∨ s.pc n = pcLatched then s else s.pcDown n pcOff
  else if s.pc n = pcOff ∧ !waits then s.pcWait n (s.groupDelay ((s.pocGroup n).getD 0))
  else s

/-- A group's delay has passed (R320, R381): the channels whose delays end with it, those of other groups among them, queue in
ascending order (R380). -/
def State.groupOn (s : State) (g : Nat) : State :=
  match (s.pwr.due.filter fun c => s.pocGroup c.2 == some g).map (·.1) with
  | [] => s
  | t :: ts =>
    let t := ts.foldl min t
    let go := (s.pwr.due.filter fun c => c.1 = t).foldl (fun l c => setIns c.2 l) []
    go.foldl State.pcEnqueue { s with pwr := { s.pwr with due := s.pwr.due.filter fun c => c.1 != t } }

/-- BOOT_MS after its channel switched on, a port starts discovery (R320). -/
def State.bootEnd (s : State) (p : Nat) : State :=
  if p ∈ s.pwr.boot then
    let s : State := { s with pwr := { s.pwr with boot := s.pwr.boot.filter (· != p) } }
    if s.portOn p && !s.sensorEnd p then s.discover p else s
  else s

/-! ### Rails (R370–R372) -/

/-- Drive a PS_EN pin. -/
def State.psEn (s : State) (r : Nat) (on : Bool) : State := s.emit (.pin "PS_EN" r on (st48 s.now))

/-- Every PoC gate off at once. -/
def State.gatesOff (s : State) : State :=
  let s := (List.range 64).foldl (fun s n => if s.pcDriven n then s.emit (.pin "PC_GATE" n false (st48 s.now)) else s) s
  { s with pwr := { s.pwr with queue := [], due := [], boot := [], faults := [], clrs := [] } }

/-- Power down in reverse order (R371); the open record closes and the ledger is saved while the flash can still be
written (R386, R397). -/
def State.powerDown (s : State) (phase : Phase) : State :=
  let s := if s.core then
      let s := s.closeRec
      if s.start.fwBusy || !s.start.hw.flashOk then s else s.snapshot
    else s
  let up := match s.start.phase with | .rails => min 6 (s.start.railsUp + 1) | .run => 6 | .refuge => 6 | _ => 0
  let s := (List.range up).reverse.foldl (fun s r => s.psEn r false) s.gatesOff
  ({ s with start := { s.start with phase := phase, railsUp := 0, warm := false } } : State).setFld F.PWR_RAIL_STAT_PG 0

/-- A rail or thermal fault (R372, R449): gates off, power down, and a wait before the cold start. -/
def State.railFault (s : State) (rail kind : Nat) : State :=
  let s := (s.setFld F.PWR_RAIL_FAULT_RAIL rail).setFld F.PWR_RAIL_FAULT_KIND kind
  let s := s.powerDown .wait
  ({ s with start := { s.start with waitFor := max 1 s.start.waitFor } } : State).log 372 rail []

/-- Whether a rail is enabled and up. -/
def State.railOn (s : State) (r : Nat) : Bool :=
  match s.start.phase with
  | .run => true
  | .refuge => true
  | .rails => decide (r < s.start.railsUp)
  | _ => false

/-- Whether a rail is enabled now, its PS_PG awaited or not yet high for 0.5 ms included. -/
def State.railEnabled (s : State) (r : Nat) : Bool :=
  s.railOn r || (s.start.phase == .rails && s.start.railsUp == r)

/-- Nominal rail voltages in mV (R370). -/
def railNominal (r : Nat) : Nat := [750, 800, 900, 1200, 1800, 1800].getD r 0

/-- Whether a reading leaves its nominal by more than `pct` per cent. -/
def railOutside (r mv pct : Nat) : Bool :=
  let n := railNominal r
  decide (100 * mv < (100 - pct) * n) || decide ((100 + pct) * n < 100 * mv)

/-- One rail of a 10 µs sample: warning after 10 samples, fault after 5. -/
def State.railSample (s : State) (r mv : Nat) : State :=
  if !s.railOn r then s
  else
    let s := s.setFld (F.PWR_RAIL_MV_MV r) mv
    let w := if railOutside r mv 5 then tblGet zeroN s.pwr.warnRun r + 1 else 0
    let f := if railOutside r mv 10 then tblGet zeroN s.pwr.faultRun r + 1 else 0
    let s : State := { s with pwr := { s.pwr with warnRun := tblSet zeroN s.pwr.warnRun r w
                                                  faultRun := tblSet zeroN s.pwr.faultRun r f } }
    let warn := s.fld F.PWR_RAIL_STAT_WARN
    let s := if 10 ≤ w && !warn.testBit r then (s.setFld F.PWR_RAIL_STAT_WARN (warn ||| 2 ^ r)).log 372 r [] else s
    if 5 ≤ f then s.railFault r 1 else s

/-! ### Die temperature (R85, R449) -/

/-- A sample of the die sensor of serialiser quadrant q; the highest reading decides on the protection of R449 (R448), and
`held` says that it has stood above 135 °C for 1 ms. -/
def State.dieSample (s : State) (q : Nat) (t : Int) (held : Bool) : State :=
  let s : State := { s with link := { s.link with dieTemp := tblPut s.link.dieTemp q (some t) } }
  let s := (List.range 80).foldl (fun s p =>
    if (Config.portQuadrant p).val = q then s.bandChange p (nextBand (s.fld (F.TRL_STAT_BAND p)) t) else s) s
  let was := s.link.dieHot != []
  let hot := decide (128 ≤ t)
  let s : State := { s with link := { s.link with dieHot := if hot then setIns q s.link.dieHot else s.link.dieHot.filter (· != q) } }
  let s := if hot && !was then s.log 449 noSrc [] else s
  if held && decide (135 < t) then
    let s := s.powerDown .wait
    ({ s with start := { s.start with waitFor := 2 } } : State).log 449 noSrc []
  else s

/-! ### Commands -/

/-- PS_PG_FALL (R372). -/
def execPsPgFall (r : Fin 6) (s : State) : Result := .next (if s.railEnabled r then s.railFault r 2 else s)

/-- PS_PG_TIMEOUT (R372): the rail being enabled does not come up. -/
def execPsPgTimeout (s : State) : Result :=
  .next (if s.start.phase == .rails then s.railFault s.start.railsUp 3 else s)

/-- RAIL_SAMPLE (R372): the six readings in mV. -/
def execRailSample (mv : List (BitVec 12)) (s : State) : Result :=
  .next (((List.range 6).zip mv).foldl (fun s c => s.railSample c.1 c.2.toNat) s)

/-- A thermal fault in the same 1 ms as a rail fault: the wait that follows is the 10 s one (R449). -/
def State.bothFaults (s : State) : State := ({ s with start := { s.start with waitFor := 2 } } : State).log 449 noSrc []

/-- DIE_TEMP_SAMPLE (R85, R449). -/
def execDieTempSample (q : Fin 4) (t : Int) (held : Bool) (s : State) : Result :=
  .next (if s.core then s.dieSample q t held
    else if s.start.phase == .wait && s.start.waitFor == 1 && held && decide (135 < t) then s.bothFaults else s)

/-- POC_SAMPLE (R373): the supply's code, and each channel's current and voltage codes. -/
def execPocSample (vin : BitVec 10) (ch : List (BitVec 10 × BitVec 10)) (s : State) : Result :=
  .next (if s.core then s.pocSample vin.toNat ch else s)

/-- SHORT_COMPARATOR (R376). -/
def execShortComparator (n : Fin 64) (s : State) : Result := .next (if s.pcDriven n && s.up then s.pcTrip n 1 true else s)

/-- SOFTSTART_BEGIN (R380). -/
def execSoftstartBegin (s : State) : Result := .next (s.timer .softstartBegin State.softBegin)

/-- SOFTSTART_END (R375). -/
def execSoftstartEnd (n : Fin 64) (v : BitVec 10) (s : State) : Result := .next (s.whenUp fun s => s.softEnd n v.toNat)

/-- RETRY_WAIT_END (R377). -/
def execRetryWaitEnd (n : Fin 64) (s : State) : Result := .next (s.timer (.retryWaitEnd n) fun s => s.retryEnd n)

/-- RETRIES_CLEAR (R377). -/
def execRetriesClear (n : Fin 64) (s : State) : Result := .next (s.timer (.retriesClear n) fun s => s.retriesClear n)

/-- VIN_OV_RELEASE (R377). -/
def execVinOvRelease (s : State) : Result := .next (s.timer .vinOvRelease State.vinRelease)

/-- FORCE_OFF (R374): a write of PWR_PC_CTRL[n] with FORCE_OFF as given. -/
def execForceOff (path : Path) (n : Fin 64) (off : Bool) (s : State) : Result :=
  .next (s.guarded path (A.PWR_PC_CTRL n) false fun s => s.pcCtrl n (if off then 1#32 else 0#32))

/-- CLR (R377): a write of PWR_PC_CTRL[n] with CLR. -/
def execClr (path : Path) (n : Fin 64) (v : Word) (s : State) : Result :=
  .next (s.guarded path (A.PWR_PC_CTRL n) false fun s => s.pcCtrl n (v ||| 2#32))

/-- POC_GROUP_ON (R320, R381). -/
def execPocGroupOn (g : Fin 16) (s : State) : Result := .next (s.timer (.pocGroupOn g) fun s => s.groupOn g)

/-- DISCOVERY_START (R320). -/
def execDiscoveryStart (p : Fin 64) (s : State) : Result := .next (s.timer (.discoveryStart p) fun s => s.bootEnd p)

/-- Run a timer of the camera supply that a firmware restart held (R326, R379). -/
def State.replayPower (s : State) (i : Instr) : State :=
  match i with
  | .softstartBegin => s.softBegin
  | .retryWaitEnd n => s.retryEnd n
  | .retriesClear n => s.retriesClear n
  | .vinOvRelease => s.vinRelease
  | .pocGroupOn g => s.groupOn g
  | .discoveryStart p => s.bootEnd p
  | _ => s.replayAny i

end Sys2Proof.Machine
end

