-- ==== Sys2Proof/Machine/Starts.lean ====
section
/-! DEFINITION. Starts (R312–R325): what a start resets and keeps, its steps 1 to 11, failed starts and Refuge, and what
follows step 11 (R320). -/

namespace Sys2Proof.Machine

/-! ### What a start resets (R12, R308, R424) -/

/-- Registers that the always-on island holds through every start. -/
def aonHeld (a : Nat) : Bool :=
  a == A.GLB_START_FAIL || a == A.PWR_RAIL_FAULT || a == A.GLB_AON_ALARM_LO || a == A.GLB_AON_ALARM_HI ||
    (decide (A.LST_BANK_SPARE 0 ≤ a) && decide (a < A.LST_BANK_SPARE 64))

/-- The state registers of the PoC channels, whose gates stay driven through a commanded warm start. -/
def pcStat (a : Nat) : Bool := (List.range 64).any fun n => a == A.PWR_PC_STAT n

/-- TRIG pins are low from reset until the image is applied (R52), and PPS_OUT falls. -/
def State.pinsLow (s : State) : State :=
  let s := (List.range 64).foldl (fun s n =>
    if s.flag (F.TIME_CMP_STAT_PIN n) then s.emit (.pin "TRIG" n false (st48 s.now)) else s) s
  if s.time.ppsOut.isSome then s.emit (.pin "PPS_OUT" 0 false (st48 s.now)) else s

/-- TRIG pins hold their inactive level through a commanded warm start (R316), and PPS_OUT falls. -/
def State.pinsRest (s : State) : State :=
  let s := (List.range 64).foldl (fun s n => s.drivePin n (s.pinIdle n) s.now) s
  if s.time.ppsOut.isSome then s.emit (.pin "PPS_OUT" 0 false (st48 s.now)) else s

/-- The levels that the TRIG pins stand at are those of another state. -/
def State.pinsAs (s o : State) : State :=
  (List.range 64).foldl (fun s n => s.setFlag (F.TIME_CMP_STAT_PIN n) (o.flag (F.TIME_CMP_STAT_PIN n))) s

/-- A flash command in progress ends FAIL (R326; log entry 61). -/
def State.flashCut (s : State) : State := if s.flCmd.isSome then s.flashEnd true else s

/-- Every register and all work of the core at its reset value, but for what the always-on island and the retained memories
hold. -/
def State.coreClear (s : State) (kind : Nat) : State :=
  let aon := if kind = 0 then { s.aon with herd := 0 } else s.aon
  { s with
    regs := s.regs.filter fun c => aonHeld c.1 || (kind != 0 && c.1 == A.GLB_START_CFG) || (kind == 2 && pcStat c.1)
    aon := aon
    start := { s.start with fwBusy := false, fwTimes := [], fwHeld := [] }
    time := { timeReset with elapsed := s.time.elapsed }
    recs := { s.recs with openRec := none, clear := none, rateHit := false, suppress := [] }
    link := { linkReset with lastUid := if kind = 0 then [] else s.link.lastUid }
    ep := epReset
    hep := { hepReset with
      wakeN := s.hep.wakeN, perst := s.hep.perst, downSince := some s.time.elapsed
      aerUnc := if kind = 0 then hepReset.aerUnc else s.hep.aerUnc
      aerCor := if kind = 0 then hepReset.aerCor else s.hep.aerCor
      aerHdr := if kind = 0 then hepReset.aerHdr else s.hep.aerHdr
      aerHdrOvf := kind != 0 && s.hep.aerHdrOvf }
    data := { dataReset with spares := s.data.spares }
    herds := []
    modes := { modeReset with limpN := s.modes.limpN, lastBeat := s.time.elapsed }
    plc := plcReset
    grz := grzReset
    dma := dmaReset
    image := if kind = 2 then s.image else none
    sec := { s.sec with op := none, chalAt := none, jtag := if kind = 2 then s.sec.jtag else .bypass }
    pwr := pwrReset
    bus := { busReset with rst := s.bus.rst }
    pBar0 := pathReset
    pMgmt := pathReset
    pJtag := pathReset }

/-- The core after a reset for a start of a kind: 0 cold, 1 warm from Standby, 2 commanded warm. The always-on island, the
ledger, the flash, the OTP and what the board presents stay. -/
def State.coreReset (s : State) (kind : Nat) : State :=
  let s := s.flashCut
  let s := if kind = 2 then s.pinsRest else s.pinsLow
  let t := s.coreClear kind
  if kind = 2 then t.pinsAs s else t

/-- Step 1 begins (R314, R370): the first rail is enabled. -/
def State.beginStart (s : State) (kind : Nat) : State :=
  let s := (s.coreReset kind).setFld F.GLB_START_STAT_KIND kind
  ({ s with start := { s.start with phase := .rails, railsUp := 0, warm := kind == 1, watch := true } } : State).psEn 0 true

/-! ### Failed starts and Refuge (R323–R325) -/

/-- Where a bank's failed starts are counted. -/
def failsFld (bank : Nat) : Fld := if bank = 0 then F.GLB_START_FAIL_FAILS_A else F.GLB_START_FAIL_FAILS_B

/-- The bank that the next attempt tries: the primary one, then the other one, below 3 failures. -/
def State.tryBank (s : State) : Option Nat :=
  let p := if s.led.primaryB then 1 else 0
  if s.fld (failsFld p) < 3 then some p else if s.fld (failsFld (1 - p)) < 3 then some (1 - p) else none

/-- Enter Refuge at step `step`: no image, no host link, every PoC channel off and every TRIG pin low (R325). -/
def State.refuge (s : State) (step : Nat) : State :=
  let s := s.gatesOff.pinsLow
  let s := (List.range 64).foldl (fun s n => s.setFlag (F.TIME_CMP_STAT_PIN n) false) s
  let s : State := { s with
    start := { s.start with phase := .refuge, railsUp := 6, warm := false, watch := false }, image := none
    time := { s.time with ppsOut := none } }
  let s := (s.resetRegs (A.PWR_PC_CFG 0) (A.PWR_PC_CFG 64)).setFlag F.CFG_STAT_REFUGE true
  ((s.setFld F.GLB_START_STAT_KIND 3).setFld F.GLB_START_STAT_STEP step).writeHeld

/-- A start fails: it is counted and recorded; the next attempt follows after the core powers down, unless no bank is left
to try. FLASH leads to Refuge at once. -/
def State.startFail (s : State) (cause step bank : Nat) : State :=
  let s := s.setFld (failsFld bank) (min 3 (s.fld (failsFld bank) + 1))
  let s := ((s.setFld F.GLB_START_FAIL_LAST_CAUSE cause).setFld F.GLB_START_FAIL_LAST_STEP step).setFld
    F.GLB_START_FAIL_LAST_BANK bank
  let s := s.log 323 noSrc (det 1 cause ++ det 1 step ++ det 1 bank)
  let up := s.core || (s.start.phase == .rails && s.start.railsUp == 6)
  if up && (cause == 1 || s.tryBank.isNone) then s.refuge step
  else
    let s := s.powerDown .wait
    { s with start := { s.start with waitFor := 0, watch := false } }

/-! ### Steps 2 to 10 -/

/-- The log and the ledger at a start (R387, R397, R398): opened, loaded where VDD_AON was absent, PWRCYC counted at a
cold start. -/
def State.openRecords (s : State) (cold : Bool) : State :=
  if !s.start.hw.flashOk then s
  else
    let s := s.openLog
    let s := if !s.start.fresh then s
      else
        let t := s.loadLedger
        let t : State := { t with start := { t.start with fresh := false } }
        if t.led.loaded then t else t.log 397 noSrc []
    let n := s.led.pwrcyc
    let s := if cold then
        ({ s with led := { s.led with pwrcyc := ledBump 0xFFFFFF n } } : State).ledNote 0xFFFFFF n
      else s
    s.calRegs

/-- Step 2: the OTP is sensed into its shadow, or the shadow serves, while it passes its CRC-32C (R315). A shadow that is sensed
again may have changed since the retained digest was held (R315). -/
def State.otpSense (s : State) (warm : Bool) : State :=
  if warm && s.sec.shadow && !s.start.hw.shadowBad then s.setFlag F.GLB_START_STAT_SKIP_OTP true
  else
    let s : State := { s with sec := { s.sec with shadow := true, otpSame := s.sec.otpSame && !s.start.hw.shadowBad } }
    if s.sec.otpBad = [] then s else s.setFlag F.SEC_STAT_OTP_ERR true

/-- Whether step 4 runs no BIST (R315): the repair map passes its CRC-32C, and FORCE_BIST is 0. -/
def State.skipBist (s : State) (warm : Bool) : Bool :=
  warm && s.sec.repair && !s.start.hw.repairBad && !s.flag F.GLB_START_CFG_FORCE_BIST

/-- The failing rows of a bank. -/
def rowsOf (h : Found) (bank : Nat) : List Nat :=
  h.badRows.foldl (fun l c => if c.1.val = bank then setIns c.2.val l else l) []

/-- Whether BIST fails the start (R314). -/
def bistFails (h : Found) : Bool := h.mgmtBad || (List.range 64).any fun b => decide (32 < (rowsOf h b).length)

/-- The repair map that BIST leaves (R416). -/
def State.bist (s : State) : State :=
  let s := (List.range 64).foldl (fun s b =>
    let n := rowsOf s.start.hw b
    let s : State := { s with data := { s.data with spares := tblSet (fun _ => []) s.data.spares b n } }
    (s.setFld (F.LST_BANK_SPARE_USED b) n.length).setFld (F.LST_BANK_SPARE_ONLINE b) 0) s
  { s with sec := { s.sec with repair := true } }

/-- Step 10: slices that pass take their roles (R198). -/
def State.sliceRoles (s : State) : State :=
  let good := (List.range 34).filter fun sl => !(s.start.hw.badSlices.any fun b => b.val == sl)
  let spare := good.reverse.take 2
  let s := (List.range 34).foldl (fun s sl =>
    s.setFld (F.SLC_STAT_STATE sl) (if !(good.contains sl) then 4 else if spare.contains sl then 1 else 2)) s
  s.roleRegs

/-- Whether a commanded warm start reuses the image in management memory (R315), which passes its CRC-32C. -/
def State.skipRead (s : State) (kind bank : Nat) : Bool :=
  kind == 2 && !s.start.hw.imageBad && (s.image.map (·.bank)) == some bank &&
    (s.header bank |>.drop 104).take 48 == s.sec.digest && !s.flag F.GLB_START_CFG_FORCE_READ

/-- Whether step 7 is skipped (R315); where step 6 runs, the stored body must also hash to DIGEST. -/
def State.skipSig (s : State) (kind bank : Nat) : Bool :=
  let h := s.header bank
  let k := leAt h 13 1
  kind != 0 && s.sec.digest != [] && (h.drop 104).take 48 == s.sec.digest && k == s.sec.keyIdx && s.sec.otpSame &&
    !s.keyUse (k % 4) 7 &&
    (s.skipRead kind bank || (headGood h).isOk && sha384 (s.flashRead (bankAddr bank + 512) (leAt h 8 4 - 512)) == s.sec.digest)

/-- The step in which a check of R306 is made. -/
def checkStep (cause : Nat) : Nat :=
  if cause ≤ 3 then 5 else if cause ≤ 5 then 7 else if cause = 6 then 9 else if cause = 7 then 6 else if cause = 8 then 8 else 9

/-- Steps 5 to 9: the image of a bank, with the modes that admission bars. Step 5 reads the header at every start (R314). -/
def State.obtain (s : State) (kind bank : Nat) : Checked (Image × List Nat) :=
  match s.skipRead kind bank, s.image with
  | true, some im => do
    headGood (s.header bank)
    if s.skipSig kind bank then pure () else s.checkKey (s.header bank)
    return (im, s.unfit im)
  | _, _ => s.validate bank (!s.skipSig kind bank)

/-- The image is rejected (R306). -/
def State.imageFail (s : State) (bank : Nat) (e : Nat × Nat) : State :=
  let s := (s.setFld F.CFG_VAL_STAT_CAUSE e.1).setFld F.CFG_VAL_STAT_BANK bank
  let s := (s.setFld F.CFG_VAL_OFS_OFS e.2).log 306 noSrc (det 1 e.1 ++ det 3 e.2)
  s.startFail 3 (checkStep e.1) bank

/-! ### Step 11 -/

/-- The bits of a register that the image sets at a start: at a warm start RWS fields keep their values (R308). -/
def startMask (warm : Bool) (a : Nat) : Word :=
  match rowAt a with
  | some (r, _) => r.fields.foldl (fun m f => if f.acc = .rw ∨ (f.acc = .rws ∧ !warm) then m ||| fldMask f.lo f.w else m) 0#32
  | none => 0#32

/-- Base and overlay of a mode are applied to the registers (R12, R308). GLB_AON_ALARM, which survives a start (R44), and
CFG_SEL, which the ledger holds (R309), take a value at a cold start where the image names them (log entry 197). -/
def State.applyImage (s : State) (im : Image) (mode : Nat) (warm : Bool) : State :=
  let s := (im.words (some mode)).foldl (fun s c =>
    if aonHeld c.1 || heldReg c.1 then s else s.putField c.1 (startMask warm c.1) c.2) s
  let named := im.held ++ (((im.overlay mode).map (·.fields)).getD []).filter fun f => heldReg f.1
  (s.putFields (named.map fun f => (f.1, f.2.1 &&& startMask warm f.1, f.2.2))).incFrom (16 * 2 ^ 32)

/-- The live parameters of every stream are those staged. -/
def State.liveAll (s : State) : State :=
  s.isids.foldl (fun s i =>
    let s := s.setStr i { s.str i with gains := s.stagedGains i }
    let s := (s.rois i).foldl (fun s r => s.setReg (A.ROI_CUR r) (s.reg (A.ROI_POS r))) s
    s.setFld (F.SLC_STR_LIVE_TSEL_CUR i) (s.fld (F.SLC_STR_LIVE_TSEL i))) s

/-- CFG_STAT and its companions show the image in force. -/
def State.imageRegs (s : State) (im : Image) (reused : Bool) : State :=
  let ovl := im.overlays.foldl (fun m o => m ||| 2 ^ o.mode) 0
  let w := im.bank + (if im.enc then 2 else 0) + (if reused then 8 else 0) + im.keyIdx * 16 + ovl * 256 + im.startMode * 65536
  let s := ((s.setReg A.CFG_STAT (BitVec.ofNat 32 w)).setReg A.CFG_IMG_VER (BitVec.ofNat 32 im.imgVer)).setReg A.CFG_SEC_VER
    (BitVec.ofNat 32 im.secVer)
  (List.range 12).foldl (fun s i => s.setReg (A.CFG_DIGEST i) (BitVec.ofNat 32 (leAt im.digest (4 * i) 4))) s

/-- The mode entered, and the result shown for it (R37, R314): an unavailable one gives way to START_MODE. -/
def State.modeEntered (im : Image) (bad : List Nat) (want : Nat) : Nat × Nat :=
  if (im.overlay want).isNone then (im.startMode, 2) else if bad.contains want then (im.startMode, 5) else (want, 1)


/-- Device time starts (R42); the seconds of the always-on island count on (R43). -/
def State.startTime (s : State) (cold : Bool) : State :=
  let t := (if cold then s.epoch else s.aon.sec) * tuPerSec
  { s with
    time := { s.time with tu := t, gridFrom := t, rate := s.cfgRate }
    aon := if cold then { s.aon with sec := s.epoch } else s.aon }

/-- General channels that the image enables stand IDLE (R223). -/
def State.imageChans (s : State) : State :=
  (s.listed (A.DMA_CH_CFG 0) 0x1000 256).foldl (fun s c =>
    if s.flag (F.DMA_CH_CFG_EN c) && decide (s.fld F.PLC_CFG_DC_NUM ≤ c) && c != s.fld F.GRZ_CFG_CH then s.setChState c chIdle
    else s) s

/-- Step 11: the image, the overlay of the mode entered, device time, placement's inputs; `want` is the mode to enter,
`src` the source of the request. -/
def State.step11 (s : State) (kind : Nat) (im : Image) (bad : List Nat) (want src : Nat) (reused : Bool) : State :=
  let (mode, result) := State.modeEntered im bad want
  let s := (s.applyImage im mode (kind != 0)).imageRegs im reused
  let s : State := { s with
    image := some im
    data := { s.data with tbl := im.tbl }
    modes := { s.modes with barred := bad } }
  let s := ((s.setFld F.GLB_MODE_STAT_CUR_MODE mode).setFld F.GLB_MODE_STAT_LAST_SRC src).setFld
    F.GLB_MODE_STAT_LAST_RESULT result
  let s := if result = 1 then s else s.log 37 noSrc (det 1 want)
  let s := ((s.startTime (kind == 0)).liveAll).imageChans
  let s := (List.range 64).foldl (fun s n => s.drivePin n (s.pinIdle n) s.now) s
  let s := ({ s with plc := { s.plc with pools := s.stagedPools, trig := 1 } } : State).grzRefill
  { s with
    start := { s.start with phase := .run, warm := false, toLimp := false, watch := false
                            clearDue := s.start.clearDue ++ [im.bank], step11 := s.time.elapsed }
    sec := { s.sec with
      digest := im.digest, keyIdx := im.keyIdx, otpSame := true
      coldImage := kind == 0 || (reused && s.sec.coldImage) } }

/-! ### Kept links (R316, R317) -/

/-- Whether a port's link stands: every hop committed, locked, descrambling. -/
def State.linkStands (s : State) (p : Nat) : Bool :=
  let n := if isLane p then 1 else s.fld (F.TRL_BRUP_STAT_NODES p)
  s.portOn p && (s.sensorEnd p || (n != 0 && (s.port p).pronk.isNone && (s.port p).loop.isNone &&
    (List.range n).all fun h => s.hopUp p h)) &&
    s.flag (F.TRL_STAT_LOCK p) && s.flag (F.TRL_STAT_SCR_SYNC p)

/-- The steps that a port's hops have committed. -/
def State.stepsOf (s : State) (p : Nat) : List Nat :=
  if isLane p then [s.fld (F.TRL_STAT_STEP p)] else (List.range (s.fld (F.TRL_BRUP_STAT_NODES p))).map fun h => s.hopStep p h

/-- Whether the new image `t` leaves what R317 asks of a port as it was in `s`. -/
def State.linkSame (s t : State) (p : Nat) : Bool :=
  s.fld (F.TRL_CFG_EN p) == t.fld (F.TRL_CFG_EN p) && s.fld (F.TRL_CFG_MEDIUM p) == t.fld (F.TRL_CFG_MEDIUM p) &&
    s.sensorEnd p == t.sensorEnd p &&
    (s.stepsOf p).all fun st => decide (st ≤ t.fld (F.TRL_CFG_MAX_STEP p)) &&
      (List.range 3).all fun b =>
        s.reg (A.TRL_EQ_LO p (eqIndex st b)) == t.reg (A.TRL_EQ_LO p (eqIndex st b)) &&
          s.reg (A.TRL_EQ_LO p (eqIndex st b) + 4) == t.reg (A.TRL_EQ_LO p (eqIndex st b) + 4)

/-- The camera ports and lanes that keep their links: those of a trunk all together. -/
def State.keptPorts (s t : State) : List Nat :=
  let one := fun (p : Nat) => s.linkStands p && s.linkSame t p
  let lanes := fun (k : Nat) => ((List.range 4).map (laneOf k)).filter fun p => s.portOn p || t.portOn p
  if !t.flag F.GLB_START_CFG_KEEP_LINKS then []
  else (List.range 64).filter one ++ (List.range 4).flatMap fun k => if (lanes k).all one then lanes k else []

/-- Take registers over from another state. -/
def State.copyRegs (s o : State) (l : List Nat) : State := l.foldl (fun s a => s.setReg a (o.reg a)) s

/-- The registers that describe a link, its nodes and its sessions. -/
def linkRegs (p : Nat) : List Nat :=
  [A.TRL_STAT p, A.TRL_BRUP_STAT p, A.TRL_HOP_STEP p] ++
    if isLane p then [A.TRK_BOND_STAT (laneTrunk p), A.SEC_NODE_STAT (512 + laneTrunk p)]
    else (List.range 8).flatMap fun q =>
      let na := nodeAddr p q
      [A.NODE_ENT na, A.NODE_UID_LO na, A.NODE_UID_HI na, A.NODE_CAPS0 na, A.NODE_CAPS1 na, A.NODE_CAPS2 na,
       A.TIME_NODE_DLY na, A.SEC_NODE_STAT na]

/-- The nodes behind kept ports, trunks as 512 + t. -/
def keptNodes (ps : List Nat) : List Nat :=
  ps.foldl (fun l p => if isLane p then setIns (512 + laneTrunk p) l
    else (List.range 8).foldl (fun l q => setIns (nodeAddr p q) l) l) []

/-- The ID under which the new image holds the trust root of a node's session, where the session stays: it is in force, and
the session table passes its CRC-32C (R317, R341). -/
def State.rootKept (s o : State) (n : Nat) : Option Nat :=
  let roots := fun (x : State) => (x.image.map (·.roots)).getD []
  if (o.sess n).key == [] || s.start.hw.sessBad then none
  else match (roots o).find? fun r => r.1 = o.fld (F.SEC_NODE_STAT_ROOT_ID n) with
    | some r => if (roots s).contains r then some r.1 else ((roots s).find? fun x => x.2 = r.2).map (·.1)
    | none => none

/-- A node on a kept port: its session stays, or it waits for a new one. ROOT_ID shows the ID that the image in force gives the
session's root (DESIGN CHOICE, log entry 204). -/
def State.keepNode (s o : State) (n : Nat) : State :=
  match s.rootKept o n with
  | some k => (s.setSess n { o.sess n with engine := false, rekey := false, hello := [], kConf := [], th := [], kNext := [] }).setFld
      (F.SEC_NODE_STAT_ROOT_ID n) k
  | none =>
    let s := s.setReg (A.SEC_NODE_STAT n) 0
    let s := if n < 512 ∧ 3 ≤ s.fld (F.NODE_ENT_STATE n) ∧ s.fld (F.NODE_ENT_STATE n) ≤ 4 then s.setFld (F.NODE_ENT_STATE n) 2 else s
    if n < 512 ∧ !s.flag (F.NODE_ENT_PRESENT n) then s else s.wantSession n

/-- Keep the links of ports `ps` as they were in `o`. -/
def State.keepLinks (s o : State) (ps : List Nat) : State :=
  let s := ps.foldl (fun s p =>
    let s := s.copyRegs o (linkRegs p)
    let x := o.port p
    let s := s.setPort p { x with waits := [], more := [], mute := [], loop := none, seq := [] }
    let s := (s.setRx p (o.rx p)).setTx p { o.tx p with queue := [], trigs := [], slot := s.now }
    let s := s.setSensor p (o.sensor p)
    if isLane p then s.setBond (laneTrunk p) { o.bond (laneTrunk p) with queue := [] } else s) s
  let s : State := { s with link := { s.link with sids := o.link.sids, dieTemp := o.link.dieTemp, dieHot := o.link.dieHot } }
  let s := (keptNodes ps).foldl (fun s n => s.keepNode o n) s
  s.setFlag F.GLB_START_STAT_LINKS_KEPT (ps != [])

/-- PoC channels that are driven stay on where the new image lets them (R314 step 12). -/
def State.keepPower (s o : State) : State :=
  let on := (List.range 64).filter o.pcDriven
  let s := (List.range 64).foldl (fun s n =>
    if o.pcDriven n then s.copyRegs o [A.PWR_PC_STAT n, A.PWR_PC_MEAS n] else s.setReg (A.PWR_PC_STAT n) 0) s
  let s := s.copyRegs o [A.PWR_GLB, A.PWR_RAIL_STAT]
  let s : State := { s with pwr := { o.pwr with queue := [], due := [] } }
  (on.foldl (fun s n => if s.pcAllowed n then s else s.pcDown n pcOff) s).pwrRegs

/-- The host link stays up through a commanded warm start (R316). -/
def State.keepHost (s o : State) : State :=
  let s := s.copyRegs o [A.HEP_LINK_STAT]
  { s with
    hep := { s.hep with downSince := o.hep.downSince, quar := o.hep.quar, freed := o.hep.freed, aerUncMask := o.hep.aerUncMask
                        aerSev := o.hep.aerSev, aerCorMask := o.hep.aerCorMask }
    plc := { s.plc with width := o.plc.width, gts := o.plc.gts } }

/-! ### After step 11 (R320) -/

/-- A port's transmitter starts with SYNC now. -/
def State.startTx (s : State) (p : Nat) : State :=
  (s.setTx p { txReset p with slot := s.now }).loadEq p (s.fld (F.TRL_STAT_STEP p))

/-- Power groups, and ports that need none, begin: the channels of each group wait out its delay; a port without a
channel, one whose channel is on already, and a trunk lane start discovery at once. -/
def State.findSystem (s : State) (kept : List Nat) : State :=
  let s := (List.range 64).foldl (fun s n =>
    match s.pocGroup n with
    | some g =>
      if s.pcAllowed n && !s.pcDriven n then s.pcWait n (((List.range (g + 1)).map s.groupDelay).foldl (· + ·) 0) else s
    | none => s) s
  (List.range 80).foldl (fun s p =>
    if kept.contains p || !s.portOn p || !s.portPowered s.mode p then s
    else
      let s := s.startTx p
      let now := isLane p || (s.pocGroup p).isNone || (s.pc p == pcOn && !s.pwr.boot.contains p)
      if now && !s.sensorEnd p then s.discover p else s) s

/-- Nodes on kept links are triggered at the first two boundaries (R63). -/
def State.planFirst (s : State) : State := { s with time := { s.time with planTo := s.time.gridFrom } }.planAhead

/-- LIMP_N still asserted requests Limp (R38). -/
def State.limpHeld (s : State) : State :=
  if s.modes.limpN && s.mode != 7 then
    { s with modes := { s.modes with loss := 4, reqs := [(1, 2, 7)] } }
  else s

/-- The start ends (R314): DONE, its duration from the trigger (R321), the snapshot of a cold start. -/
def State.endStart (s : State) (kind : Nat) : State :=
  let s := (s.setFlag F.GLB_START_STAT_DONE true).setFld F.GLB_START_MS_IMG_MS (min 65535 s.start.hw.ms)
  let s := s.limpHeld.planFirst
  let s := if kind = 0 then s.ageMeasure else s
  if kind = 0 then s.snapshot else s

/-! ### The whole of steps 2 to 11 -/

/-- The mode to enter and the source of the request, by the kind of start (R37, R314). -/
def State.wanted (s o : State) (kind : Nat) (im : Image) : Nat × Nat :=
  match kind with
  | 0 => (im.startMode, 5)
  | 1 =>
    if s.start.toLimp then (7, 2)
    else
      let words := im.words (some 0)
      let w := fldGet (tblGet regReset words A.GLB_WAKE_CFG) 0 3
      (if w = 0 then 1 else w, 3)
  | _ => (o.mode, 5)

/-- FL_RST_N pulses low at every cold start, before the SFDP read (R443). -/
def State.flashReset (s : State) : State :=
  (s.emit (.pin "FL_RST_N" 0 false (st48 s.now))).emit (.pin "FL_RST_N" 0 true (st48 s.now))

/-- Steps 2 to 11 of a start of a kind; `o` is the hub before a commanded warm start. -/
def State.runStart (s o : State) (kind : Nat) : State :=
  let warm := kind != 0
  let s := (s.openRecords (kind == 0)).otpSense warm
  let s := if warm then s else s.flashReset
  let first := if s.led.primaryB then 1 else 0
  let skip := s.skipBist warm
  if s.lc = 0 then s.refuge 3
  else if !skip && bistFails s.start.hw then s.startFail 2 4 (s.tryBank.getD first)
  else
    let s := if skip then s.setFlag F.GLB_START_STAT_SKIP_BIST true else s.bist
    if !s.start.hw.flashOk then s.startFail 1 5 (s.tryBank.getD first)
    else match s.tryBank with
      | none => s.refuge 5
      | some bank =>
        let read := s.skipRead kind bank
        let sig := s.skipSig kind bank
        match s.obtain kind bank with
        | .error e => s.imageFail bank e
        | .ok (im, bad) =>
          let s := (s.setFlag F.GLB_START_STAT_SKIP_READ read).setFlag F.GLB_START_STAT_SKIP_SIG sig
          let (want, src) := s.wanted o kind im
          let t := (s.sliceRoles.step11 kind im bad want src read).writeHeld
          let ps := if kind = 2 then o.keptPorts t else []
          let t := if kind = 2 then ((t.keepHost o).keepPower o).keepLinks o ps else t
          let t := if kind = 2 && t.mode == 7 then t.setFld F.GLB_MODE_STAT_LIMP_CAUSE (o.fld F.GLB_MODE_STAT_LIMP_CAUSE)
            else if t.mode == 7 then t.setFld F.GLB_MODE_STAT_LIMP_CAUSE (if t.modes.limpN then 4 else 0) else t
          (t.findSystem ps).endStart kind

end Sys2Proof.Machine
end

