-- ==== Sys2Proof/Machine/Tunnel.lean ====
section
/-! DEFINITION. The local two-wire ports (R364–R367) and the tunnelled buses (R116, R368, R369). -/

namespace Sys2Proof.Machine

/-! ### Local ports -/

/-- Bytes a buffer of eight or four registers holds, from byte 0. -/
def State.bufBytes (s : State) (addr : Nat → Nat) (n : Nat) : List Byte :=
  ((List.range (ceilDiv n 4)).flatMap fun i => leBytes 4 (s.reg (addr i)).toNat).take n

/-- Replace the first bytes of such a buffer. -/
def State.setBuf (s : State) (addr : Nat → Nat) (l : List Byte) : State :=
  (List.range (ceilDiv l.length 4)).foldl (fun s i =>
    let old := leBytes 4 (s.reg (addr i)).toNat
    let new := (l.drop (4 * i)).take 4
    s.setReg (addr i) (BitVec.ofNat 32 (ofLe (new ++ old.drop new.length)))) s

/-- LW_CMD of port w as its last GO found it, and its OP. -/
def State.lwWord (s : State) (w : Nat) : Word := tblGet (fun _ => 0#32) s.bus.lwCmd w
def State.lwOp (s : State) (w : Nat) : Nat := fldGet (s.lwWord w) 8 2

/-- The lengths of port w's transaction: above 32 is treated as 32. -/
def State.lwWlen (s : State) (w : Nat) : Nat := min 32 (fldGet (s.lwWord w) 10 6)
def State.lwRlen (s : State) (w : Nat) : Nat := min 32 (fldGet (s.lwWord w) 16 6)

/-- Put the transaction on the bus, from START. -/
def State.lwSend (s : State) (w : Nat) : State :=
  let op := s.lwOp w
  s.emit (.lw w (fldGet (s.lwWord w) 0 7) op (if op = 1 then [] else s.bufBytes (A.LW_WBUF w) (s.lwWlen w))
    (if op = 0 then 0 else s.lwRlen w))

/-- A transaction ends. -/
def State.lwEnd (s : State) (w result acked : Nat) : State :=
  ((s.setFld (F.LW_STAT_STATE w) 2).setFld (F.LW_STAT_RESULT w) result).setFld (F.LW_STAT_ACKED w) acked

/-- A write of LW_CMD[w] (R364): with GO it starts the transaction, or is discarded on a busy or disabled port; OP 3 ends
BUS_ERR at once. -/
def State.lwCmd (s : State) (w : Nat) (v : Word) : State :=
  if !bitOn v 31 then s.plainWrite (A.LW_CMD w) v
  else if s.fld (F.LW_STAT_STATE w) = 1 || !s.flag (F.LW_CFG_EN w) then s.setFlag (F.LW_STAT_GO_REJ w) true
  else
    let s : State := { s.plainWrite (A.LW_CMD w) v with bus := { s.bus with lwCmd := tblSet (fun _ => 0#32) s.bus.lwCmd w v } }
    let s := (s.lwEnd w 0 0).setFld (F.LW_STAT_RETRIES w) 0
    if s.lwOp w = 3 then s.lwEnd w 6 0
    else
      let s := s.setFld (F.LW_STAT_STATE w) 1
      if s.bus.stuck.contains w then s else s.lwSend w

/-- Bytes acknowledged when a transaction ends with a result. -/
def State.lwAcked (s : State) (w result acked : Nat) : Nat :=
  if s.lwOp w = 1 then 0 else if result = 0 then s.lwWlen w else min (s.lwWlen w) acked

/-- The recovery that a GO on a stuck bus repeats first has succeeded: the transaction goes on the bus (R367). -/
def State.lwFreed (s : State) (w : Nat) : State :=
  if s.bus.stuck.contains w then
    ({ s with bus := { s.bus with stuck := s.bus.stuck.filter (· != w) } } : State).lwSend w
  else s

/-- A transaction ends on the bus: `result` 0 OK, 1 address NACK, 2 data NACK, else a bus error; `clr` says that a stuck
bus was cleared first (R367). -/
def State.lwDone (s : State) (w result acked : Nat) (data : List Byte) (clr : Bool) : State :=
  if s.fld (F.LW_STAT_STATE w) ≠ 1 then s
  else
    let s := s.lwFreed w
    let s := if clr then s.setFlag (F.LW_STAT_BUS_CLR w) true else s
    let r := if result ≤ 2 then result else 6
    let s := if r = 0 && s.lwOp w != 0 then s.setBuf (A.LW_RBUF w) (padTo (s.lwRlen w) data) else s
    s.lwEnd w r (s.lwAcked w r acked)

/-- Arbitration is lost on a multi-controller bus (R366): the transaction starts again, or ends. -/
def State.lwArbitration (s : State) (w : Nat) : State :=
  if s.fld (F.LW_STAT_STATE w) ≠ 1 ∨ !s.flag (F.LW_CFG_MULTI w) then s
  else
    let s := (s.lwFreed w).count31 (A.LW_ARB_LOST w) 1
    let n := s.fld (F.LW_STAT_RETRIES w)
    if n < s.fld (F.LW_CFG_RETRY_LIM w) then (s.setFld (F.LW_STAT_RETRIES w) (n + 1)).lwSend w else s.lwEnd w 3 0

/-- A target holds SCL too long (R367); `sdaLow` says that SDA is low once SCL is high. -/
def State.lwStretch (s : State) (w acked : Nat) (sdaLow : Bool) : State :=
  if s.fld (F.LW_STAT_STATE w) ≠ 1 then s
  else
    let s := ((s.lwFreed w).count31 (A.LW_TIMEOUT w) 1).lwEnd w 4 (min (s.lwWlen w) acked)
    if sdaLow then s.setFlag (F.LW_STAT_BUS_CLR w) true else s

/-- SCL stays low a further 25 ms (R367). -/
def State.lwStuck (s : State) (w : Nat) : State :=
  let again := s.fld (F.LW_STAT_STATE w) = 1 && s.bus.stuck.contains w
  if again || (s.fld (F.LW_STAT_STATE w) = 2 && s.fld (F.LW_STAT_RESULT w) = 4) then
    let s := (s.setFld (F.LW_STAT_STATE w) 2).setFld (F.LW_STAT_RESULT w) 5
    { s with bus := { s.bus with stuck := setIns w s.bus.stuck } }
  else s

/-! ### Tunnels -/

/-- Transactions outstanding at a node. -/
def State.tunOut (s : State) (na : Nat) : Nat :=
  (List.range 64).countP fun k => s.fld (F.TUN_STAT_STATE k) == 2 && s.tunNa k == na

/-- Send a slot's request (R116): TXN names the slot and counts its uses. -/
def State.tunSend (s : State) (k : Nat) : State :=
  let n := tblGet zeroN s.bus.uses k
  let txn := k + 64 * (n % 4)
  let na := s.tunNa k
  let s : State := { s with bus := { s.bus with uses := tblSet zeroN s.bus.uses k ((n + 1) % 4) } }
  let s := (s.setFld (F.TUN_STAT_STATE k) 2).setFld (F.TUN_STAT_TXN k) txn
  let c := s.tunWord k
  let w := fldGet c 18 5
  let op := fldGet c 9 2
  s.sendCtl (na / 8) 0x04 (na % 8) (leBytes 1 op ++ leBytes 1 txn ++ leBytes 1 (fldGet c 11 7) ++ leBytes 1 w ++
    leBytes 1 (fldGet c 23 5) ++ leBytes 1 (fldGet c 28 2) ++
    (if op = 1 then [] else s.bufBytes (A.TUN_WDATA k) w))

/-- Send what may be sent: the queued slots in the order of their GO writes, at most 4 outstanding per node; nothing
during a firmware restart (R326, R368). -/
def State.tunPump (s : State) : State :=
  if s.start.fwBusy then s
  else
    let q := s.bus.order.filter fun k => s.fld (F.TUN_STAT_STATE k) == 1
    q.foldl (fun s k =>
      if s.tunOut (s.tunNa k) < 4 then
        ({ s with bus := { s.bus with order := s.bus.order.filter (· != k) } } : State).tunSend k
      else s) { s with bus := { s.bus with order := q } }

/-- A slot is done. -/
def State.tunDone (s : State) (k result acked : Nat) : State :=
  ((s.setFld (F.TUN_STAT_STATE k) 3).setFld (F.TUN_STAT_RESULT k) result).setFld (F.TUN_STAT_ACKED k) acked

/-- A write of TUN_CMD[k] (R368): with GO on a slot that is IDLE or DONE it queues the transaction. -/
def State.tunCmd (s : State) (k : Nat) (v : Word) : State :=
  let st := s.fld (F.TUN_STAT_STATE k)
  let busy := st == 1 || st == 2
  if !bitOn v 31 then s.plainWrite (A.TUN_CMD k) v
  else if busy then
    let t := s.setFlag F.MGT_TUN_STAT_GO_REJ true
    let full := (List.range 64).all fun k => s.fld (F.TUN_STAT_STATE k) == 1 || s.fld (F.TUN_STAT_STATE k) == 2
    if full then t.tableFull 6 else t
  else
    let s : State := { s.plainWrite (A.TUN_CMD k) v with bus := { s.bus with tunCmd := tblSet (fun _ => 0#32) s.bus.tunCmd k v } }
    if 16 < fldGet v 18 5 ∨ 16 < fldGet v 23 5 ∨ fldGet v 9 2 = 3 then s.tunDone k 8 0
    else if !s.flag (F.NODE_ENT_PRESENT (s.tunNa k)) then s.tunDone k 7 0
    else
      let s := ((s.setFld (F.TUN_STAT_STATE k) 1).setFld (F.TUN_STAT_RESULT k) 0).setFld (F.TUN_STAT_ACKED k) 0
      ({ s with bus := { s.bus with order := s.bus.order.filter (· != k) ++ [k] } } : State).tunPump

/-- A forward CTRL reply of node `na` (R369): it ends its slot, or is stray. -/
def State.tunReply (s : State) (na txn status count : Nat) (data : List Byte) : State :=
  let k := txn % 64
  if s.fld (F.TUN_STAT_STATE k) = 2 ∧ s.tunNa k = na ∧ s.fld (F.TUN_STAT_TXN k) = txn then
    let s := s.tunDone k (status + 1) count
    let s := if status = 0 then s.setBuf (A.TUN_RDATA k) (padTo 16 data)
      else if status = 2 then s.setBuf (A.TUN_RDATA k) (padTo (min 16 count) data) else s
    s.tunPump
  else s.count31 A.MGT_TUN_STRAY 1

/-- 10 ms without a reply (R369); a slot that a firmware restart keeps waiting ends alike (R326). -/
def State.tunTimeout (s : State) (k : Nat) : State :=
  let st := s.fld (F.TUN_STAT_STATE k)
  if st = 2 ∨ (st = 1 ∧ s.start.fwBusy) then (s.tunDone k 5 0).tunPump else s

/-! ### Commands -/

/-- A value of LW_CMD or TUN_CMD with GO and an OP of two bits at `lo`. -/
def goOp (v : Word) (lo op : Nat) : Word := fldPut v lo 2 op ||| 0x80000000#32

/-- LW_WRITE (R364): a write of LW_CMD[w] with GO and OP 0. -/
def execLwWrite (path : Path) (w : Fin 16) (v : Word) (s : State) : Result :=
  .next (s.guarded path (A.LW_CMD w) false fun s => s.lwCmd w (goOp v 8 0))

/-- LW_READ (R364): with GO and OP 1. -/
def execLwRead (path : Path) (w : Fin 16) (v : Word) (s : State) : Result :=
  .next (s.guarded path (A.LW_CMD w) false fun s => s.lwCmd w (goOp v 8 1))

/-- LW_WRITE_READ (R364): with GO and OP 2. -/
def execLwWriteRead (path : Path) (w : Fin 16) (v : Word) (s : State) : Result :=
  .next (s.guarded path (A.LW_CMD w) false fun s => s.lwCmd w (goOp v 8 2))

/-- LW_TRANSACTION_DONE (R364). -/
def execLwTransactionDone (w : Fin 16) (result : Fin 4) (acked : Fin 64) (data : List Byte) (clr : Bool) (s : State) : Result :=
  .next (if s.core then s.lwDone w result acked data clr else s)

/-- LW_ARBITRATION_RETRY (R366). -/
def execLwArbitrationRetry (w : Fin 16) (s : State) : Result := .next (if s.core then s.lwArbitration w else s)

/-- LW_STRETCH_TIMEOUT (R367). -/
def execLwStretchTimeout (w : Fin 16) (acked : Fin 64) (sdaLow : Bool) (s : State) : Result :=
  .next (if s.core then s.lwStretch w acked sdaLow else s)

/-- LW_STUCK (R367). -/
def execLwStuck (w : Fin 16) (s : State) : Result := .next (if s.core then s.lwStuck w else s)

/-- TUN_WRITE (R368): a write of TUN_CMD[k] with GO and OP 0. -/
def execTunWrite (path : Path) (k : Fin 64) (v : Word) (s : State) : Result :=
  .next (s.guarded path (A.TUN_CMD k) false fun s => s.tunCmd k (goOp v 9 0))

/-- TUN_READ (R368): with GO and OP 1. -/
def execTunRead (path : Path) (k : Fin 64) (v : Word) (s : State) : Result :=
  .next (s.guarded path (A.TUN_CMD k) false fun s => s.tunCmd k (goOp v 9 1))

/-- TUN_WRITE_READ (R368): with GO and OP 2. -/
def execTunWriteRead (path : Path) (k : Fin 64) (v : Word) (s : State) : Result :=
  .next (s.guarded path (A.TUN_CMD k) false fun s => s.tunCmd k (goOp v 9 2))

/-- CTRL_REPLY (R369): STATUS, TXN, the byte count and data of the block. A firmware restart takes no reply. -/
def execCtrlReply (p : Fin 64) (pos : Fin 8) (txn : Byte) (status : Fin 6) (count : Fin 32) (data : List Byte) (s : State) :
    Result :=
  .next (s.whenUp fun s => if s.start.fwBusy then s else s.tunReply (nodeAddr p pos) txn.toNat status count data)

/-- TUNNEL_TIMEOUT (R369). -/
def execTunnelTimeout (k : Fin 64) (s : State) : Result := .next (s.whenUp fun s => s.tunTimeout k)

end Sys2Proof.Machine
end

