-- ==== Sys2Proof/Machine/Restart.lean ====
section
/-! DEFINITION. What begins a start or ends one (R31, R312–R325, R436), the restart of the management firmware (R326, R327),
the quorum notice (R322), and service on slices (R413, R414). -/

namespace Sys2Proof.Machine

/-! ### Power-up, rails, retries -/

/-- VDD_AON comes up: what the always-on island held is gone, and a cold start begins (R312, R436). -/
def State.powerUp (s : State) (addrPins : Nat) : State :=
  if s.start.phase != .off then s
  else
    let s : State := { s with
      regs := []
      aon := aonReset
      start := { startReset with fresh := true, hw := s.start.hw, addrPins := addrPins }
      recs := recReset
      led := ledZero
      time := { timeReset with elapsed := s.time.elapsed }
      hep := { hepReset with perst := s.hep.perst }
      modes := { modeReset with limpN := s.modes.limpN }
      data := { s.data with spares := [] }
      sec := { s.sec with shadow := false, repair := false, digest := [], otpSame := false } }
    s.beginStart 0

/-- VDD_AON browns out (R436): gates and enables off until the next power-up. -/
def State.brownOut (s : State) : State :=
  let up := match s.start.phase with | .rails => s.start.railsUp + 1 | .run => 6 | .refuge => 6 | _ => 0
  let s := (List.range (min 6 up)).foldl (fun s r => s.psEn r false) s.gatesOff
  { s with start := { s.start with phase := .off, railsUp := 0, warm := false, watch := false, fwBusy := false } }

/-- What a start finds (log entry 58). -/
def State.finds (s : State) (hw : Found) : State :=
  { s with start := { s.start with hw := hw }, badSlots := hw.badOpens.map (·.val), badTails := hw.badCloses.map (·.val) }

/-- A rail's PS_PG has been high for 0.5 ms (R370): the next rail is enabled; after the sixth, the steps of the start run
with what they find, `hw`. -/
def State.railNext (s : State) (hw : Found) : State :=
  if s.start.phase != .rails then s
  else
    let n := s.start.railsUp + 1
    let s := s.setFld F.PWR_RAIL_STAT_PG (2 ^ n - 1)
    let s : State := { s with start := { s.start with railsUp := n } }
    if n < 6 then s.psEn n true
    else
      let s := s.finds hw
      s.runStart s (if s.start.warm then 1 else 0)

/-- Leave Standby (R37): a warm start begins; LIMP_N takes it to Limp (R38). -/
def State.wake (s : State) (toLimp : Bool) : State :=
  if s.start.phase != .standby then s
  else
    let s := s.beginStart 1
    { s with start := { s.start with toLimp := toLimp } }

/-- A cold start that is commanded (R313, R324): both fail counts clear, the core powers down, and step 1 begins. -/
def State.startCold (s : State) : State :=
  let s := (s.setFld F.GLB_START_FAIL_FAILS_A 0).setFld F.GLB_START_FAIL_FAILS_B 0
  (s.powerDown .wait).beginStart 0

/-- The running work ends before a commanded warm start (R316): open herds, graze requests, channels in progress. -/
def State.endWork (s : State) : State :=
  let s := ((s.herds.filter fun h => !h.closed).map (·.num)).foldl (fun s n => s.closeHerd n 2) s
  let s := s.grzAbortAll
  let s := s.liveChans.foldl (fun s c => if (s.chan c).cur.isSome then s.chAbort c else s) s
  let s := s.epResetAll true
  { s with hep := { s.hep with flrBusy := false } }

/-- A commanded warm start (R316), whose steps find `hw` (log entry 58). -/
def State.startWarm (s : State) (hw : Found) : State :=
  if !s.up then s
  else
    let o := s.endWork
    let t := (o.coreReset 2).setFld F.GLB_START_STAT_KIND 2
    let t : State := { t with sec := { t.sec with jtag := t.jtagLock.sec.jtag } }
    (t.finds hw).runStart o 2

/-! ### The firmware restart (R326, R327) -/

/-- A restart escalates to a commanded warm start. Within 10 s of step 11 it counts as a failed start, and the bank's fail count
is not cleared for that start (R323, R324, R327). -/
def State.escalate (s : State) (hw : Found) : State :=
  let s : State := { s.setFlag F.GLB_FW_STAT_RESTARTING false with start := { s.start with fwBusy := false } }
  if !s.up then s
  else if s.start.clearDue != [] then
    ({ s with start := { s.start with clearDue := s.start.clearDue.dropLast } } : State).startFail 4 11
      ((s.image.map (·.bank)).getD 0)
  else s.startWarm hw

/-- The firmware restarts: 1 watchdog, 2 fault, 3 command; a fourth restart within 10 s escalates to a start that finds `hw`. -/
def State.fwRestart (s : State) (cause : Nat) (hw : Found) : State :=
  if !s.core || s.start.fwBusy then s
  else
    let recent := s.start.fwTimes.filter fun t => decide (s.time.elapsed < t + 10 * tuPerSec)
    let s := (s.setFlag F.GLB_FW_STAT_RESTARTING true).setFld F.GLB_FW_STAT_LAST_CAUSE cause
    let s := s.countSmall F.GLB_FW_STAT_RESTARTS
    let s : State := { s with start := { s.start with fwTimes := s.time.elapsed :: recent } }
    if 3 ≤ recent.length then s.escalate hw
    else
      let s := s.flashCut
      { s with start := { s.start with fwBusy := true } }

/-- The restart completes: what waited proceeds, commands and timers in their order first, then the delay rounds that are due, the
two-wire transactions, and the events held (R60, R326, R368, R390). -/
def State.fwDone (s : State) : State :=
  if !s.start.fwBusy then s
  else
    let l := s.start.fwHeld
    let s : State := { s with start := { s.start with fwBusy := false, fwHeld := [] } }
    let s := l.foldl State.replayPower (s.setFlag F.GLB_FW_STAT_RESTARTING false)
    ((List.range 64).foldl State.runDue s).tunPump.writeHeld

/-! ### GLB_START_CTRL (R313) -/

/-- A write of GLB_START_CTRL on a path: without its key it is discarded; COLD wins over WARM; Refuge ends only by COLD
through the management port (R325), where the firmware may still restart (R326). A warm start that follows finds `hw`. -/
def State.startCtrl (s : State) (p : Path) (v : Word) (hw : Found) : State :=
  let refuge := s.start.phase == .refuge
  if fldGet v 16 16 ≠ 0x5354 then s.log 313 noSrc []
  else if bitOn v 1 && (!refuge || p == .mgmt) then s.startCold
  else if bitOn v 0 && !refuge then s.startWarm hw
  else if bitOn v 2 then s.fwRestart 3 hw
  else s

/-! ### After the start -/

/-- Ten seconds after a successful start the fail count of its bank clears (R324), whatever the hub does by then; the
always-on island holds the count while VDD_AON is there. -/
def State.failClear (s : State) : State :=
  match s.start.clearDue with
  | [] => s
  | bank :: due =>
    if s.start.phase == .off then s
    else ({ s with start := { s.start with clearDue := due } } : State).setFld (failsFld bank) 0

/-- Whether an output stream's member is present: its node has joined with a session, and it is placed (R27). -/
def State.memberPresent (s : State) (osid : Nat) : Bool :=
  match tblOpt s.plc.force.outs osid with
  | some o =>
    let na := s.fld (F.ING_ENT0_NA o.form.isid)
    o.state == 1 && (s.trunkNode na || s.flag (F.NODE_ENT_PRESENT na) && s.fld (F.SEC_NODE_STAT_STATE na) == 2)
  | none => false

/-- The quorum is still absent QUORUM_MS after step 11 (R322). -/
def State.quorumLimit (s : State) : State :=
  let absent := s.quorumSet.filter fun o => !s.memberPresent o
  if s.fld F.GLB_QUORUM_CFG_QUORUM_MS = 0 ∨ s.flag F.GLB_START_STAT_QUORUM_LATE ∨ s.modes.quorum ∨ absent = [] then s
  else (s.setFlag F.GLB_START_STAT_QUORUM_LATE true).log 322 noSrc (det 2 absent.length)

/-- One second of the RC clock, with the core off (R43): the counter advances, and the alarm may wake a hub in Standby
(R44). -/
def State.rcSecond (s : State) : State :=
  if !(s.start.phase == .standby || s.start.phase == .wait) then s
  else
    let s : State := { s with aon := { s.aon with sec := (s.aon.sec + 1) % 2 ^ 48 } }
    if s.alarmDue then s.alarmCheck.wake false else s

/-- PERST_N deasserts (R273): the hub wakes from Standby; elsewhere the link trains. -/
def State.perstOff (s : State) : State :=
  let s : State := { s with hep := { s.hep with perst := false } }
  s.wake false

/-! ### Slices in service (R413, R414) -/

/-- A write of SLC_SVC_CTRL[s] with BIST. -/
def State.sliceBist (s : State) (sl : Nat) : State :=
  let st := s.fld (F.SLC_STAT_STATE sl)
  if st = 1 ∨ st = 4 then
    let s := s.setFld (F.SLC_SVC_STAT_STATE sl) 1
    if (s.plc.audit.map (·.auditor)) = some sl then { s with plc := { s.plc with audit := none } } else s
  else s.setFlag (F.SLC_SVC_STAT_REJ sl) true

/-- A slice BIST ends: a spare that fails is RETIRED. -/
def State.sliceBistDone (s : State) (sl : Nat) (pass : Bool) : State :=
  if s.fld (F.SLC_SVC_STAT_STATE sl) ≠ 1 then s
  else
    if pass then s.setFld (F.SLC_SVC_STAT_STATE sl) 2
    else
      let s := if s.fld (F.SLC_STAT_STATE sl) = 1 then (s.retireSlice sl).roleRegs.plcTrigger 4 else s
      s.setFld (F.SLC_SVC_STAT_STATE sl) 3

/-- A write of SLC_SVC_CTRL[s] with RETURN: an accepted one acts at the next boundary. -/
def State.sliceReturn (s : State) (sl : Nat) : State :=
  if s.fld (F.SLC_STAT_STATE sl) = 4 && s.fld (F.SLC_SVC_STAT_STATE sl) == 2 && !s.flag (F.SLC_SVC_STAT_LOCK sl) then
    { s with plc := { s.plc with returns := setIns sl s.plc.returns } }
  else s.setFlag (F.SLC_SVC_STAT_REJ sl) true

/-- A write of SLC_SVC_CTRL[s]. -/
def State.sliceSvc (s : State) (sl : Nat) (v : Word) : State :=
  let s := if bitOn v 0 then s.sliceBist sl else s
  if bitOn v 1 then s.sliceReturn sl else s

/-- The returns accepted before a boundary act at it. -/
def State.returnsNow (s : State) : State :=
  s.plc.returns.foldl (fun s sl =>
    let st := if 32 ≤ (s.slicesIn 2).length then 1 else 2
    let s := s.setFld (F.SLC_STAT_STATE sl) st
    let s := (List.range 34).foldl (fun s k => s.setFlag (F.SLC_STAT_REPL k) false) s
    let s : State := { s with plc := { s.plc with
      strikes := [], leaving := s.plc.leaving.filter (· != sl), returned := tblPut s.plc.returned sl (some s.led.opsec) } }
    ((s.countSmall (F.SLC_SVC_STAT_RETURNS sl)).roleRegs.strikeRegs.plcTrigger 4).log 414 sl [])
    { s with plc := { s.plc with returns := [] } }

/-! ### Commands -/

/-- VDD_AON_POWER_UP (R436): MG_ADDR as the board straps it. -/
def execVddAonPowerUp (addrPins : Fin 8) (s : State) : Result := .next (s.powerUp addrPins)

/-- VDD_AON_BROWN_OUT (R436). -/
def execVddAonBrownOut (s : State) : Result := .next s.brownOut

/-- RAIL_ENABLE_NEXT (R370): after the sixth rail, step 1 ends, and steps 2 to 11 run with what they find. -/
def execRailEnableNext (found : Found) (s : State) : Result := .next (s.railNext found)

/-- RAIL_FAULT_RESTART (R372, R449): the wait after a rail or thermal fault ends. -/
def execRailFaultRestart (s : State) : Result :=
  .next (if s.start.phase == .wait && s.start.waitFor != 0 then s.beginStart 0 else s)

/-- START_RETRY (R324): 100 ms after a failed start. -/
def execStartRetry (s : State) : Result :=
  .next (if s.start.phase == .wait && s.start.waitFor == 0 then s.beginStart 0 else s)

/-- START_WATCHDOG (R323): 2 s after the first step 1. -/
def execStartWatchdog (s : State) : Result :=
  .next (if s.start.watch && (s.start.phase == .rails || s.start.phase == .wait) then
    s.startFail 4 1 (s.tryBank.getD 0) else s)

/-- FAIL_COUNT_CLEAR (R324). -/
def execFailCountClear (s : State) : Result := .next s.failClear

/-- START_WARM (R316): a write of GLB_START_CTRL with WARM; what the start's steps find is told with it (log entry 58). -/
def execStartWarm (path : Path) (key : BitVec 16) (found : Found) (s : State) : Result :=
  .next (s.guarded path A.GLB_START_CTRL false fun s => s.startCtrl path (key.setWidth 32 <<< 16 ||| 1#32) found)

/-- START_COLD (R313): a write of GLB_START_CTRL with COLD, and WARM as given. -/
def execStartCold (path : Path) (key : BitVec 16) (warm : Bool) (s : State) : Result :=
  .next (s.guarded path A.GLB_START_CTRL false fun s =>
    s.startCtrl path (key.setWidth 32 <<< 16 ||| if warm then 3#32 else 2#32) s.start.hw)

/-- FW_RESTART (R326): a write of GLB_START_CTRL with FW_RESTART. -/
def execFwRestart (path : Path) (key : BitVec 16) (found : Found) (s : State) : Result :=
  .next (s.guarded path A.GLB_START_CTRL false fun s => s.startCtrl path (key.setWidth 32 <<< 16 ||| 4#32) found)

/-- FW_WATCHDOG_EXPIRY (R326). -/
def execFwWatchdogExpiry (found : Found) (s : State) : Result := .next (s.fwRestart 1 found)

/-- FW_PROCESSOR_FAULT (R326). -/
def execFwProcessorFault (found : Found) (s : State) : Result := .next (s.fwRestart 2 found)

/-- FW_RESTART_DONE (R326). -/
def execFwRestartDone (s : State) : Result := .next s.fwDone

/-- FW_RESTART_ESCALATE (R327): the restart is not complete within 50 ms. -/
def execFwRestartEscalate (found : Found) (s : State) : Result := .next (if s.start.fwBusy then s.escalate found else s)

/-- QUORUM_LIMIT (R322). -/
def execQuorumLimit (s : State) : Result := .next (s.whenUp State.quorumLimit)

/-- PERST_N_DEASSERT (R273). -/
def execPerstNDeassert (s : State) : Result := .next s.perstOff

/-- WAKE_IN_ASSERT (R31). -/
def execWakeInAssert (s : State) : Result := .next (s.wake false)

/-- AON_RC_SECOND (R43). -/
def execAonRcSecond (s : State) : Result := .next s.rcSecond

/-- SLICE_BIST (R413). -/
def execSliceBist (path : Path) (sl : Fin 34) (v : Word) (s : State) : Result :=
  .next (s.guarded path (A.SLC_SVC_CTRL sl) true fun s => s.sliceSvc sl (v ||| 1#32))

/-- SLICE_BIST_DONE (R413). -/
def execSliceBistDone (sl : Fin 34) (pass : Bool) (s : State) : Result := .next (s.whenUp fun s => s.sliceBistDone sl pass)

/-- SLICE_RETURN (R414). -/
def execSliceReturn (path : Path) (sl : Fin 34) (v : Word) (s : State) : Result :=
  .next (s.guarded path (A.SLC_SVC_CTRL sl) true fun s => s.sliceSvc sl (v ||| 2#32))

end Sys2Proof.Machine
end

