-- ==== Sys2Proof/Machine/Modes.lean ====
section
/-! DEFINITION. Mode requests, their results, the mode switch (R31–R36), host loss and Limp (R38, R39), and test loops on
a port (R89, R90, R119, R420). -/

namespace Sys2Proof.Machine

/-! ### Test loops -/

/-- Whether a port carries placed streams: those of its nodes, or those routed over its trunk. -/
def State.carriesPlaced (s : State) (p : Nat) : Bool :=
  s.plc.force.outs.any fun c =>
    c.2.state == 1 && if isLane p then c.2.slot.isSome && c.2.trk == laneTrunk p
      else s.fld (F.ING_ENT0_NA c.2.form.isid) / 8 == p

/-- Whether TRL_TEST[n] as written asks for a loop that is refused (R90); LOOP_POS names the node of a far-end loop, STEP
the step of a near-end one. -/
def State.loopRefused (s : State) (p : Nat) : Bool :=
  let far := s.fld (F.TRL_TEST_LOOP p) == 3
  (s.carriesPlaced p && !s.flag (F.TRL_TEST_FORCE p)) ||
    (far && !isLane p && decide (s.fld (F.TRL_BRUP_STAT_NODES p) ≤ s.fld (F.TRL_TEST_LOOP_POS p))) ||
    (!far && !(s.stepsAvail p).testBit (s.fld (F.TRL_TEST_STEP p)))


/-- A near-end loop starts: the chain loses its reverse signal, and the receiver hunts at STEP (R89). -/
def State.loopNear (s : State) (p : Nat) : State :=
  let s := (s.loseFrom p 0).stopTraffic p ⟨s.fld (F.TRL_TEST_LOOP p), s.fld (F.TRL_TEST_LOOP_POS p), false, true⟩
  let s := s.setTx p { s.tx p with blk := 0, queue := [], trigs := [], train := none, slot := max (s.tx p).slot s.now }
  let s := ((s.setBrup p 5).rxStep p (s.fld (F.TRL_TEST_STEP p))).setFlag (F.TRL_STAT_LOOP p) true
  s.setFld (F.TRL_TEST_STAT_STATE p) 1

/-- A far-end loop is asked for (R119); LOOP_REQ is not among the blocks that R94 has resent. -/
def State.loopFar (s : State) (p : Nat) : State :=
  let pos := if isLane p then 0 else s.fld (F.TRL_TEST_LOOP_POS p)
  let s := s.setPort p { s.port p with loop := some ⟨3, pos, true, false⟩ }
  (s.setFld (F.TRL_TEST_STAT_STATE p) 0).sendCtl p 0x09 pos (leBytes 1 2)

/-- A port runs bring-up from step 0 after a loop `l` (R90). -/
def State.loopStop (s : State) (p : Nat) (l : LoopSt) : State :=
  let far := l.kind == 3
  let s := ((s.setFld (F.TRL_TEST_STAT_STATE p) 0).setFlag (F.TRL_TEST_STAT_CHK_LOCK p) false).setFlag (F.TRL_STAT_LOOP p) false
  let s := s.setPort p { s.port p with loop := none }
  let s := if far then s.sendCtl p 0x09 l.pos (leBytes 1 3) else s.rxStep p 0
  if s.portOn p && !s.sensorEnd p then
    s.engine (.trlBrupCtrlRediscover .bar0 (Fin.ofNat 80 p) 2#32) fun s => s.discover p
  else s.setBrup p 0

/-- End the loop of a port, if it has one. -/
def State.loopOff (s : State) (p : Nat) : State :=
  match (s.port p).loop with
  | some l => s.loopStop p l
  | none => s

/-- A write of TRL_TEST[n] (R90). -/
def State.testWrite (s : State) (p : Nat) (v : Word) : State :=
  let t := s.plainWrite (A.TRL_TEST p) v
  let l := t.fld (F.TRL_TEST_LOOP p)
  if l = 0 then (s.loopOff p).plainWrite (A.TRL_TEST p) v
  else if t.loopRefused p then (t.setFld (F.TRL_TEST_STAT_STATE p) 2).log 90 p []
  else if l = 3 then t.loopFar p
  else t.loopNear p

/-- A switch out of Service ends loops, and eye scans in progress end ABORTED (R420). -/
def State.leaveService (s : State) : State :=
  (List.range 80).foldl (fun s p =>
    let s := if (s.port p).loop.isSome then (s.loopOff p).setFld (F.TRL_TEST_LOOP p) 0 else s
    if s.fld (F.TRL_EYE_STAT_STATE p) = 1 then s.setFld (F.TRL_EYE_STAT_STATE p) 3 else s) s

/-! ### Requests (R31–R33) -/

/-- Register a request under its precedence: 1 Limp and host loss, 2 management port, 3 JTAG, 4 host; a newer one takes
the place of an older one of the same path. -/
def State.request (s : State) (key src mode : Nat) : State :=
  let ks := s.modes.reqs.filter fun r => r.1 != key
  { s with modes := { s.modes with reqs := tblIns key (src, mode) ks } }

/-- A request of the path that writes GLB_MODE_REQ. -/
def State.modeReq (s : State) (p : Path) (mode : Nat) : State :=
  let s := s.setPath p { s.path p with modeReq := mode }
  match p with
  | .bar0 => s.request 4 0 mode
  | .mgmt => s.request 2 1 mode
  | .jtag => s.request 3 1 mode

/-- GLB_MODE_STAT shows the result of a request, and its interrupt source pends. -/
def State.modeResult (s : State) (src result : Nat) : State :=
  ((s.setFld F.GLB_MODE_STAT_LAST_SRC src).setFld F.GLB_MODE_STAT_LAST_RESULT result).raiseIrq 290

/-- Whether Limp may be left (R39). -/
def State.limpExit (s : State) : Bool :=
  !s.modes.limpN && s.flag F.HEP_LINK_STAT_DL_UP && s.fld F.HEP_LINK_STAT_LSTATE == 0 && decide (3 ≤ s.modes.beats)

/-- Why a request for a mode is refused: LOCKED, NO_OVERLAY, REFUSED_ADMISSION (R33, R34); `bad` are the reasons for which
phase 2 of its run fails (R180). -/
def State.refusal (s : State) (mode : Nat) (bad : List Nat) : Option Nat :=
  if s.mode = 7 ∧ mode ≠ 7 ∧ !s.limpExit then some 4
  else if ((s.image.bind fun im => im.overlay mode).isNone) then some 2
  else if s.modes.barred.contains mode || (mode != 0 && bad != []) then some 5
  else none

/-! ### The switch (R35, R36) -/

/-- Close every open herd with MODE_CLOSED. -/
def State.closeAll (s : State) : State :=
  ((s.herds.filter fun h => !h.closed).map (·.num)).foldl (fun s n => s.closeHerd n 2) s

/-- Abandon every open herd: no record, no delivery of its lines. -/
def State.abandonHerds (s : State) : State :=
  let n := s.herds.countP fun h => !h.closed
  let s : State := { s with herds := s.herds.map fun h => if h.closed then h else { h with closed := true, delivers := false, bufs := [], waiting := [] } }
  s.log 36 noSrc (det 2 n)

/-- Ports that lose their power at a switch, and those that gain it: a port without a grouped channel starts discovery, any
other one BOOT_MS after its channel switches on (R320). -/
def State.portChange (s : State) (was : List Nat) (p : Nat) : State :=
  let now := s.portPowered s.planMode p
  if was.contains p then (if now then s else s.portOff p)
  else if !now || !s.portOn p then s
  else
    let s := s.startTx p
    if !s.sensorEnd p && (isLane p || (s.pocGroup p).isNone) then s.discover p else s

/-- Trigger blocks of this herd and later ones are planned again, under the ratios and the grid of the new mode; what has
been launched for this boundary is no miss. -/
def State.replan (s : State) : State :=
  let n := s.aon.herd
  let miss := s.time.missed
  let s : State := { s with link := { s.link with tx := s.link.tx.map fun c =>
    (c.1, { c.2 with trigs := c.2.trigs.filter fun g => decide (g.herd < n) }) } }
  let s := s.planTriggers s.time.gridFrom n
  { s with time := { s.time with missed := miss, planTo := s.time.gridFrom } }.planAhead

/-- LIMP_CAUSE: every cause that is true now (R38). -/
def State.limpCause (s : State) (asked : Bool) : Nat :=
  s.modes.loss % 4 + (if s.modes.limpN then 4 else 0) + if asked then 8 else 0

/-- What the new mode does to work in progress (R36, R215). -/
def State.leaveMode (s : State) (old new : Nat) (asked : Bool) : State :=
  let s := if old = 3 ∧ new ≠ 3 then s.leaveService else s
  match new with
  | 0 => s.grzAbortAll.closeAll
  | 7 =>
    let s := s.abandonHerds.grzDrop.setFld F.GLB_MODE_STAT_LIMP_CAUSE (s.limpCause asked)
    { s with modes := { s.modes with beats := 0, prevBeat := none } }
  | 6 => if old = 6 then s else s.grzAbortAll.closeAll
  | 2 =>
    let s := if old = 6 then s.closeAll else s
    { s with modes := { s.modes with parkRef := [], parkRun := [] } }
  | _ => if old = 6 then s.closeAll else s

/-- Switch to a mode at this boundary, its request accepted (R35): the overlay, the new grid, the ports, a placement
run, whose phases 1 and 2 have left `h` and `l`. Standby powers the core down. `asked` says that software asks for Limp at this
boundary (R38). -/
def State.switchTo (s : State) (asked : Bool) (src new : Nat) (h : Health) (l : Placement) : State :=
  let old := s.mode
  let was := (List.range 80).filter (s.portPowered old)
  let s := ((s.modeResult src 0).setFld F.GLB_MODE_STAT_PEND_MODE new).setFlag F.GLB_MODE_STAT_PENDING true
  let s := (s.applyOverlay old new).leaveMode old new asked
  if new = 0 then
    let s := (s.setFlag F.GLB_MODE_STAT_PENDING false).setFld F.GLB_MODE_STAT_CUR_MODE 0
    (s.modeResult src 1).powerDown .standby
  else
    let s : State := { s with
      time := { s.time with
        rate := s.cfgRate
        hist := s.time.hist.map fun b => if b.at' = s.time.gridFrom then { b with rate := s.cfgRate } else b }
      modes := { s.modes with switching := some (new, s.aon.herd + 2) } }
    let s := (s.cmpRegridAll s.time.gridFrom).replan
    let s := (List.range 80).foldl (fun s p => s.portChange was p) ((List.range 64).foldl State.pcMode s)
    s.startRun (s.plc.trig ||| 2) h l

/-- A mode's demand is refused by phase 2 (R186); one barred at the start, or refused for another reason, is no demand of this
run. -/
def State.modeRefuse (s : State) (mode code : Nat) (bad : List Nat) : State :=
  match bad with
  | why :: _ => if code = 5 ∧ !s.modes.barred.contains mode then s.plcRefuse (if why = 12 then 2 else why) else s
  | [] => s

/-- The highest request acted on (R32), its mode's demand tested by phase 2 after phase 1 of the run (R186): it is refused, or
accepted and the switch begins. `asked`: software asks for Limp. -/
def State.modeActOn (s : State) (asked : Bool) (src mode : Nat) : State :=
  let h := s.healthPhase
  let r := (s.applyOverlay s.mode mode).modePhase h mode
  match s.refusal mode r.2 with
  | some code => ((s.modeResult src code).log 33 noSrc []).modeRefuse mode code r.2
  | none => s.switchTo asked src mode h r.1

/-- Act on the pending requests at this boundary (R32): the highest one is refused or accepted, the others are
superseded. The hub's own request for Limp is dropped while Limp is in force; one of software runs the switch to mode 7 again
(log entry 68). -/
def State.modeBoundary (s : State) : State :=
  let reqs := s.modes.reqs.filter fun r => !(r.1 == 1 && s.mode == 7)
  let s : State := { s with modes := { s.modes with reqs := [] } }
  match reqs with
  | [] => s
  | (_, src, mode) :: rest =>
    (rest.foldl (fun s r => s.modeResult r.2.1 3) s).modeActOn (reqs.any fun r => r.1 != 1 && r.2.2 == 7) src mode

/-- A switch completes two boundaries after it was applied, its placement published (R35). -/
def State.switchDone (s : State) : State :=
  match s.modes.switching with
  | some (mode, n) =>
    if n ≤ s.aon.herd && s.plc.run.isNone then
      let s : State := { s with modes := { s.modes with switching := none } }
      let s := (s.setFld F.GLB_MODE_STAT_CUR_MODE mode).setFlag F.GLB_MODE_STAT_PENDING false
      s.modeResult (s.fld F.GLB_MODE_STAT_LAST_SRC) 1
    else s
  | none => s

/-! ### Host loss (R38) -/

/-- The hub declares the host lost for a cause, and requests Limp. -/
def State.hostLost (s : State) (bit : Nat) : State :=
  let s : State := { s with modes := { s.modes with loss := s.modes.loss ||| 2 ^ bit } }
  if s.planMode = 7 then s else s.request 1 4 7

/-- `lim` ms and no event since `since'`, in a mode that looks after the host: the time is that of the limit. -/
def State.lossLimit (s : State) (bit lim since' : Nat) : State :=
  if lim = 0 ∨ s.mode = 0 ∨ s.mode = 2 ∨ s.mode = 3 then s
  else (s.advance (s.now + (since' + lim * 16000000 + 1 - s.time.elapsed))).hostLost bit

/-- Causes that are over are dropped: the link is up, a heartbeat has come. -/
def State.lossNow (s : State) : State :=
  if s.hep.downSince.isNone then { s with modes := { s.modes with loss := s.modes.loss &&& 0xE } } else s

/-- A heartbeat through BAR0: it restarts the timer, and in Limp it counts toward the exit (R39). -/
def State.heartbeat (s : State) : State :=
  let hb := s.fld F.GLB_LIMP_CFG_HB_MS * 16000000
  let now := s.time.elapsed
  let near := match s.modes.prevBeat with
    | some t => hb = 0 || decide (now ≤ t + hb)
    | none => true
  { s with modes := { s.modes with
      beats := if near then s.modes.beats + 1 else 1
      lastBeat := now, prevBeat := some now, loss := s.modes.loss &&& 0xD } }

/-- LIMP_N has been low for 10 µs: it wakes a hub in Standby into Limp, and requests Limp elsewhere. -/
def State.limpPin (s : State) : State :=
  let s : State := { s with modes := { s.modes with limpN := true } }
  match s.start.phase with
  | .standby => s.wake true
  | .run => if s.planMode = 7 then s else s.request 1 2 7
  | _ => s

/-! ### Commands -/

/-- GLB_MODE_REQ_WRITE (R31). -/
def execGlbModeReqWrite (path : Path) (v : Word) (s : State) : Result :=
  .next (s.guarded path A.GLB_MODE_REQ false fun s => s.modeReq path (fldGet v 0 3))

/-- GLB_HEARTBEAT_WRITE (R38): one that does not come through BAR0 is discarded. -/
def execGlbHeartbeatWrite (path : Path) (s : State) : Result :=
  .next (s.guarded path A.GLB_HEARTBEAT false fun s => if path == .bar0 then s.heartbeat else s)

/-- LIMP_N_ASSERT (R38). -/
def execLimpNAssert (s : State) : Result := .next s.limpPin

/-- LINK_DOWN_LIMIT (R38). -/
def execLinkDownLimit (s : State) : Result :=
  .next (s.whenUp fun s => match s.hep.downSince with
    | some t => s.lossLimit 0 (s.fld F.GLB_LIMP_CFG_LINK_MS) t
    | none => s)

/-- HEARTBEAT_LIMIT (R38). -/
def execHeartbeatLimit (s : State) : Result :=
  .next (s.whenUp fun s => s.lossLimit 1 (s.fld F.GLB_LIMP_CFG_HB_MS) s.modes.lastBeat)

/-- LOOP_NEAR_END_SERIAL (R90): a write of TRL_TEST[p] with LOOP = 1. -/
def execLoopNearEndSerial (path : Path) (p : Fin 80) (v : Word) (s : State) : Result :=
  .next (s.guarded path (A.TRL_TEST p) true fun s => s.testWrite p (v &&& ~~~ 3#32 ||| 1#32))

/-- LOOP_NEAR_END_PARALLEL (R90): with LOOP = 2. -/
def execLoopNearEndParallel (path : Path) (p : Fin 80) (v : Word) (s : State) : Result :=
  .next (s.guarded path (A.TRL_TEST p) true fun s => s.testWrite p (v &&& ~~~ 3#32 ||| 2#32))

/-- LOOP_FAR_END (R119): with LOOP = 3. -/
def execLoopFarEnd (path : Path) (p : Fin 80) (v : Word) (s : State) : Result :=
  .next (s.guarded path (A.TRL_TEST p) true fun s => s.testWrite p (v ||| 3#32))

/-- LOOP_END (R90): with LOOP = 0. -/
def execLoopEnd (path : Path) (p : Fin 80) (v : Word) (s : State) : Result :=
  .next (s.guarded path (A.TRL_TEST p) true fun s => s.testWrite p (v &&& ~~~ 3#32))

end Sys2Proof.Machine
end

