-- ==== Sys2Proof/Machine/Boundary.lean ====
section
/-! DEFINITION. A tick boundary (R13–R28): what the hub does at one, in order. -/

namespace Sys2Proof.Machine

/-! ### Parts of a boundary -/

/-- The boundary is acted on: device time, the herd number, the grid (R14). -/
def State.countBoundary (s : State) : State :=
  let b := s.nextBoundary
  let s := s.advance b
  let n := s.aon.herd + 1
  { s with
    aon := { s.aon with herd := n }
    time := { s.time with hist := (⟨b, n, s.time.rate⟩ :: s.time.hist).take 40, gridFrom := b } }

/-- GT/s of a host-link rate code, doubled. -/
def halfGts (rate : Nat) : Nat :=
  match rate with | 0 => 5 | 1 => 10 | 2 => 16 | 3 => 32 | 4 => 64 | _ => 128

/-- The host link's width and rate as they stand; a change asks for a placement run (R20). -/
def State.linkChange (s : State) : State :=
  if !s.flag F.HEP_LINK_STAT_DL_UP then s
  else
    let w := 2 ^ s.fld F.HEP_LINK_STAT_L0P_W
    let g := halfGts (s.fld F.HEP_LINK_STAT_RATE)
    if s.plc.width = w ∧ s.plc.gts = g then s
    else ({ s with plc := { s.plc with width := w, gts := g } } : State).plcTrigger 5

/-- The quorum set, as it stood just before this boundary (R27). -/
def State.quorumCheck (s : State) : State :=
  if s.modes.quorum || !s.quorumSet.all s.memberPresent then s
  else ({ s with modes := { s.modes with quorum := true } } : State).setFlag F.GLB_HERD_STAT_QUORUM_MET true

/-- Triggers that a Legacy placement, which does not re-run, takes no notice of (R30). -/
def State.legacyTriggers (s : State) : State :=
  if s.planMode = 6 then { s with plc := { s.plc with trig := s.plc.trig &&& 31, submit := false } } else s

/-- A placement run starts here if something asks for one (R177, R178); not at a boundary that has published one. -/
def State.runBoundary (s : State) (published : Bool) : State :=
  let s := s.legacyTriggers
  if s.plc.trig = 0 || published || s.plc.run.isSome then s
  else
    let h := s.healthPhase
    s.startRun s.plc.trig h h.after

/-- Open herds whose deadline falls at this boundary, or has passed, close first (R22, R23). -/
def State.closeDue (s : State) : State :=
  (s.herds.filter fun h => !h.closed && decide (h.deadline ≤ s.time.gridFrom)).foldl (fun s h => s.closeHerd h.num 1) s

/-- Close the oldest open herd while two are open (R23). -/
def State.closeOldest : Nat → State → State
  | 0, s => s
  | fuel + 1, s =>
    match s.herds.filter fun h => !h.closed with
    | h :: _ :: _ => State.closeOldest fuel (s.closeHerd h.num 1)
    | _ => s

/-- The herd of this boundary opens (R21, R22, R27); a delivering one takes its buffers (R227). -/
def State.openHerd (s : State) : State :=
  let n := s.aon.herd
  let b := s.time.gridFrom
  let d := s.fld F.GLB_HERD_CFG_DEADLINE * tuPerSec / (256 * s.time.rate)
  let h : Herd := ⟨n, b, b + d, (s.reg A.PLC_GEN).toNat, s.planMode, false, s.planMode != 1 || s.modes.quorum, [], [], [],
    s.herdQueues (s.layout (s.reg A.PLC_GEN).toNat)⟩
  let s : State := { s with herds := s.herds ++ [h] }
  if h.delivers then s.takeBufs n else s

/-- The DMA registers that change at a boundary take effect. -/
def State.dmaBoundary (s : State) : State :=
  { s with dma := { s.dma with dlvRo := s.flag F.DMA_CFG_DLV_RO, wmkEn := s.flag F.DMA_CFG_WMK_EN
                               wmkBase := s.pair A.DMA_WMK_BASE_LO 32 } }

/-- Whether a frame may still be asked about. -/
def State.frameKept (s : State) (i : Nat) (x : StreamSt) (f : FrameRec) : Bool :=
  decide (s.aon.herd ≤ f.herd + 8) || !f.ended || !f.done || f.retained || (x.frames.getLast?.map (·.id)) == some f.id ||
    x.q.lines.any (fun l => l.fid == f.id) || s.data.outq.any (fun l => l.isid == i && l.fid == f.id) ||
    (s.grz.serve.map (·.fid)) == some f.id

/-- Herds, frames and layouts that nothing asks about any more are forgotten; a line of such a herd meets its late policy
first (R26, R233). -/
def State.forget (s : State) : State :=
  let n := s.aon.herd
  let old := fun (h : Herd) => h.closed && decide (h.num + 8 < n)
  let late := s.data.outq.filter fun l => ((s.herd l.herd).map old).getD false
  let s : State := { s with data := { s.data with outq := s.data.outq.filter fun l => !late.contains l } }
  let s := late.foldl State.commitLine s
  let s : State := { s with herds := s.herds.filter fun h => !old h }
  let s : State := { s with plc := { s.plc with layouts := s.plc.layouts.filter fun l =>
    l.1 == (s.reg A.PLC_GEN).toNat || s.herds.any fun h => h.gen == l.1 } }
  { s with data := { s.data with str := s.data.str.map fun c =>
    (c.1, { c.2 with frames := c.2.frames.filter (s.frameKept c.1 c.2) }) } }


/-- What follows the mode and the placement at a boundary, while the core stays on. -/
def State.herdBoundary (s : State) (published : Bool) : State :=
  let s := if s.start.fwBusy then s else s.runBoundary published
  let s := (State.closeOldest 2 s).openHerd.planAhead
  let n := s.aon.herd
  let s := ((s.setAudit n (crc32c (leBytes 6 n))).suspectTick.grzRefill.dmaBoundary)
  s.settleHerds.forget

/-- The run in progress publishes at the next boundary, ahead of TICK_BOUNDARY: the quorum set is looked at as it stands
just before (R27), and that boundary starts no run (R178). A firmware restart holds it (R326). -/
def State.publishEarly (s : State) : State :=
  if s.plc.run.isNone || s.start.fwBusy then s
  else
    let b := s.nextBoundary
    let s := (s.advance b).quorumCheck
    { s with plc := { s.plc with pubAt := some b } }.publish (s.aon.herd + 1) b

/-- A tick boundary; `limpN` says that LIMP_N is still low. -/
def State.tickBoundary (s : State) (limpN : Bool) : State :=
  let s := s.countBoundary.paceMoves.closeDue
  let early := s.plc.pubAt == some s.time.gridFrom
  let s := if early then s else s.quorumCheck
  let s : State := ({ s with modes := { s.modes with limpN := s.modes.limpN && limpN } } : State).lossNow
  let due := s.plc.run.isSome && !s.start.fwBusy
  let s := if due then s.publish s.aon.herd s.time.gridFrom else s
  let published := due || early
  let s := s.returnsNow.nodeChanges.linkChange
  if s.modes.switching.isSome then s.switchDone.herdBoundary published
  else if s.start.fwBusy then s.herdBoundary published
  else
    let s := s.modeBoundary
    if s.up then s.herdBoundary published else s

/-! ### Commands -/

/-- PLACEMENT_PUBLISH (R194): the next boundary is reached, and the run started before it publishes there. -/
def execPlacementPublish (s : State) : Result := .next (s.whenUp State.publishEarly)

/-- TICK_BOUNDARY (R13): `limpN` is the level of LIMP_N there, low while true. -/
def execTickBoundary (limpN : Bool) (s : State) : Result := .next (s.whenUp fun s => s.tickBoundary limpN)

end Sys2Proof.Machine
end

