-- ==== Sys2Proof/Machine/Access.lean ====
section
/-! DEFINITION. Register access (R6–R11, R427–R430): what a read of a register answers, what a write does, on the three
access paths; the table window and the Legacy window; JTAG REGACC (R347). -/

namespace Sys2Proof.Machine

/-! ### What registers read as -/

/-- The port of a TRL register, or the lane of a TRK one (R426). -/
def portIx : List Nat → Nat
  | [t, l] => laneOf t l
  | p :: _ => p
  | [] => 0

/-- The seconds of device time, and the rest in TU (R40). -/
def State.nowSec (s : State) : Nat := s.now / tuPerSec
def State.nowSub (s : State) : Nat := s.now % tuPerSec

/-- The word of TIME_NOW_Wi. -/
def State.timeNow (s : State) (i : Nat) : Word :=
  BitVec.ofNat 32 (match i with | 0 => s.nowSub % 16 | 1 => s.nowSub / 16 | 2 => s.nowSec | _ => s.nowSec / 2 ^ 32)

/-- Half `h` of a quantity. -/
def halfOf (h : Half) (n : Nat) : Word := BitVec.ofNat 32 (if h = .hi then n / 2 ^ 32 else n)

/-- The step of the start in progress (R314): once step 11 has ended, the lowest of steps 12 to 15 still at work. -/
def State.stepNow (s : State) : Nat :=
  if !s.up then s.fld F.GLB_START_STAT_STEP
  else if s.pwr.due != [] || s.pwr.queue != [] || s.pwr.boot != [] then 12
  else if (List.range 80).any fun p => s.fld (F.TRL_BRUP_STAT_STATE p) == 1 || s.fld (F.TRL_BRUP_STAT_STATE p) == 2 ||
    s.fld (F.TRL_BRUP_STAT_STATE p) == 3 then 13
  else if s.link.keyQueue != [] || s.link.sess.any (fun c => c.2.engine && !c.2.rekey) then 14
  else 15

/-- Retained complete frames of a stream (R138), oldest first, and whether the newest complete one is retained. -/
def State.retained (s : State) (i : Nat) : List FrameRec := (s.str i).frames.filter (·.retained)
def State.newestKept (s : State) (i : Nat) : Bool :=
  (((s.str i).frames.filter fun f => f.ended && !f.bad).getLast?.map (·.retained)).getD false

/-- The herd of a retained frame as LST_Q_RET_OLD or _NEW shows it. -/
def retWord (h : Half) (f : Option FrameRec) : Word :=
  match f with
  | some f => if h = .hi then BitVec.ofNat 32 (f.herd / 2 ^ 32 + 2 ^ 31) else BitVec.ofNat 32 f.herd
  | none => 0#32

/-- The fewest free spare rows of a bank, and the lowest such bank (R416). -/
def State.spareMin (s : State) : Nat × Nat :=
  (List.range 64).foldl (fun (m : Nat × Nat) b =>
    let n := 32 - (s.bankSpares b).length
    if n < m.1 then (n, b) else m) (32 - (s.bankSpares 0).length, 0)

/-- A word of OTP as SEC_OTP_DATA reads it (R330, R331). -/
def State.otpWord (s : State) (o : Nat) : Word :=
  if (0x20 ≤ o && o < 0x60) || (0x160 ≤ o && o < 0x400) || 0xC00 ≤ o then 0#32 else BitVec.ofNat 32 (ofLe (s.otp o 4))

/-- The usage of a key slot as SEC_KEY_CFG shows it. -/
def State.keyCfg (s : State) (k : Nat) : Word :=
  let b := fun (i at' : Nat) => if s.keyUse k i then 2 ^ at' else 0
  BitVec.ofNat 32 (b 0 0 + b 1 1 + b 6 7 + b 7 8)

/-- Replace fields of a stored word. -/
def withFlds (w : Word) (l : List (Fld × Nat)) : Word := l.foldl (fun w c => fldPut w c.1.lo c.1.w c.2) w

/-- A flag as a field value. -/
def bit (b : Bool) : Nat := if b then 1 else 0

/-- The present value of a register on a path: the stored word, but for the fields that show other state. -/
def State.readNow (s : State) (p : Path) (a : Nat) (r : RegRow) (ix : List Nat) : Word :=
  let w := s.reg a
  let n := ix.headD 0
  let x := s.path p
  match r.tag with
  | .modeReq => BitVec.ofNat 32 x.modeReq
  | .herdNum => halfOf r.half s.aon.herd
  | .herdStat => withFlds w [(F.GLB_HERD_STAT_OPEN, s.herds.countP fun h => !h.closed)]
  | .aonSec => halfOf r.half s.aon.sec
  | .alarmCtrl => withFlds w [(F.GLB_AON_ALARM_CTRL_ARMED, bit s.aon.armed), (F.GLB_AON_ALARM_CTRL_FIRED, bit s.aon.fired)]
  | .startStat => withFlds w [(F.GLB_START_STAT_STEP, s.stepNow)]
  | .timeStat => withFlds w [(F.TIME_STAT_PPS_OK, bit s.ppsOk), (F.TIME_STAT_REF10M_OK, bit s.ref10mOk)]
  | .timeNow => s.timeNow ((a - A.TIME_NOW_W0) / 4)
  | .timeSt48 => halfOf r.half (st48 s.now)
  | .timeInc => halfOf r.half s.time.inc
  | .tickNext => halfOf r.half (st48 s.nextBoundary)
  | .trlStat => withFlds w [(F.TRL_STAT_STEPS_AVAIL (portIx ix), s.stepsAvail (portIx ix))]
  | .lstRepair => withFlds w [(F.LST_REPAIR_STAT_FREE_MIN, s.spareMin.1), (F.LST_REPAIR_STAT_BANK_MIN, s.spareMin.2)]
  | .lstStat => withFlds w [(F.LST_Q_STAT_OCC n, (s.str n).q.occ), (F.LST_Q_STAT_RET_OK n, bit (s.newestKept n)),
      (F.LST_Q_STAT_RET_CNT n, min 15 (s.retained n).length)]
  | .lstOld => retWord r.half (s.retained n).head?
  | .lstNew => retWord r.half (s.retained n).getLast?
  | .tblPstat => s.tblPstat
  | .grzReq => tblGet (fun _ => 0#32) x.grzReq n
  | .chStat =>
    let dlv := decide (n < s.fld F.PLC_CFG_DC_NUM)
    let held := s.herds.countP fun h => !h.closed && (h.buf n).isSome
    withFlds w ([(F.DMA_CH_STAT_DLV n, bit dlv), (F.DMA_CH_STAT_BUF n, held)] ++
      if dlv then [(F.DMA_CH_STAT_STATE n, if held = 0 then chIdle else chRun)] else [])
  | .linkStat => withFlds w [(F.HEP_LINK_STAT_TAG14, bit (s.tagSpace.2 == 16384)),
      (F.HEP_LINK_STAT_TAG10, bit (s.tagSpace.2 == 768))]
  | .linkDown => match s.hep.downSince with
    | some t => BitVec.ofNat 32 (min (2 ^ 32 - 1) ((s.time.elapsed - t) / 16000000))
    | none => 0#32
  | .fnStat => withFlds w [(F.HEP_FN_STAT_MSE, bit s.ep.mse), (F.HEP_FN_STAT_BME, bit s.ep.bme),
      (F.HEP_FN_STAT_DSTATE, if s.ep.d3 then 3 else 0), (F.HEP_FN_STAT_IRQ_MODE, s.irqMode),
      (F.HEP_FN_STAT_FLR_BUSY, bit s.hep.flrBusy), (F.HEP_FN_STAT_QUAR, bit (s.hep.quar != [])),
      (F.HEP_FN_STAT_NP_OUT, s.hep.tags.length)]
  | .cto => BitVec.ofNat 32 (ctoUs s.ep.cto)
  | .pmCtrl => withFlds w [(F.HEP_PM_CTRL_WAKE_ACT, bit s.hep.wakeN)]
  | .strMem => if s.flag (F.ING_ENT0_VALID n) then BitVec.ofNat 32 (s.streamMem n) else 0#32
  | .irqPend => BitVec.ofNat 32 (s.hep.irqPend.foldl (fun m i => if i / 32 = n then m ||| 2 ^ (i % 32) else m) 0)
  | .secStat => withFlds w [(F.SEC_STAT_LC, s.lc), (F.SEC_STAT_DUS_OK, bit s.dusOk), (F.SEC_STAT_FLOOR, s.floor)]
  | .secUid => halfOf r.half (ofLe (s.otp 0x10 8))
  | .keyHash => BitVec.ofNat 32 (ofLe (s.otp (0x60 + 48 * n + 4 * ix.getD 1 0) 4))
  | .keyCfg => s.keyCfg n
  | .otpData => s.otpWord (s.fld F.SEC_OTP_ADDR_WORD * 4)
  | .tokBuf => 0#32
  | .cfgSel => withFlds w [(F.CFG_SEL_PRIMARY, bit s.led.primaryB)]
  | .mgtStat => withFlds w [(F.MGT_TGT_STAT_ADDR_PINS, s.start.addrPins), (F.MGT_TGT_STAT_CORE_READY, bit (s.start.phase != .rails))]
  | .tunStat => withFlds w [(F.MGT_TUN_STAT_BUSY_SLOTS, (List.range 64).countP fun k =>
      s.fld (F.TUN_STAT_STATE k) == 1 || s.fld (F.TUN_STAT_STATE k) == 2)]
  | .recStat => withFlds w [(F.REC_STAT_NEXT, s.recs.next), (F.REC_STAT_OPEN, bit s.recs.openRec.isSome),
      (F.REC_STAT_FULL, bit s.recs.full), (F.REC_STAT_CLEARING, bit s.recs.clear.isSome), (F.REC_STAT_NO_SUSP, bit s.start.hw.noSusp),
      (F.REC_STAT_HELD, s.recs.held.length)]
  | .recCursor => BitVec.ofNat 32 (x.cursor + bit x.autoInc * 2 ^ 16 + bit x.ready * 2 ^ 17)
  | .recSeq => BitVec.ofNat 32 s.led.recSeq
  | .recDropped => BitVec.ofNat 32 s.led.dropped
  | .ledStat => withFlds w [(F.LED_STAT_PEND, bit s.led.pend), (F.LED_STAT_LOADED, bit s.led.loaded), (F.LED_STAT_SECTOR, s.led.sector)]
  | .ledGen => BitVec.ofNat 32 s.led.gen
  | .ledOpsec => BitVec.ofNat 32 s.led.opsec
  | .ledPwrcyc => BitVec.ofNat 32 s.led.pwrcyc
  | .ledClears => BitVec.ofNat 32 s.led.clears
  | .ledRetrain => BitVec.ofNat 32 (tblGet zeroN s.led.retrain n)
  | .ledPoc => BitVec.ofNat 32 (tblGet zeroN s.led.poc n)
  | .ledErase => BitVec.ofNat 32 (tblGet zeroN s.led.erase n)
  | .ledTemp => BitVec.ofNat 32 (tblGet zeroN s.led.temp n)
  | .ledAge => let m := tblGet (fun _ => (0, 0)) s.led.age n
    BitVec.ofNat 32 (m.1 % 2 ^ 16 + m.2 * 2 ^ 16)
  | _ => w

/-- The present value at an address. -/
def State.readAt (s : State) (p : Path) (a : Nat) : Word :=
  match rowAt a with
  | some (r, ix) => s.readNow p a r ix
  | none => 0#32

/-- Latch the present values of several registers for a path. -/
def State.latchAll (s : State) (p : Path) (l : List Nat) : State := l.foldl (fun t a => t.latchHi p a (s.readAt p a)) s

/-- What a path's latch holds for a register. -/
def State.latched (s : State) (p : Path) (a : Nat) : Word := tblGet (fun _ => 0#32) (s.path p).latch a

/-! ### A read (R7, R10, R408) -/

/-- A read of a register: a low word latches the high one, a high word answers the latch. -/
def State.readReg (s : State) (p : Path) (a : Nat) (r : RegRow) (ix : List Nat) : State :=
  let s := s.unsuppress a
  let s := if r.half = .hi then s.unsuppress (a - 4) else s
  let s := if r.tag = .lstStat then s.onQueue (ix.headD 0) fun s => s else s
  match r.tag, r.half with
  | .captFifo, _ => s.captRead p (ix.headD 0)
  | .recWindow, _ => s.windowRead p (ix.headD 0)
  | .timeNow, _ =>
    if a = A.TIME_NOW_W0 then (s.latchAll p [A.TIME_NOW_W1, A.TIME_NOW_W2, A.TIME_NOW_W3]).answer p (s.timeNow 0)
    else s.answer p (s.latched p a)
  | .ptmSet, _ =>
    if a = A.TIME_PTM_T1_LO then
      (s.latchAll p [A.TIME_PTM_T1_HI, A.TIME_PTM_MASTER_LO, A.TIME_PTM_MASTER_HI, A.TIME_PTM_DELAY]).answer p (s.reg a)
    else s.answer p (s.latched p a)
  | _, .lo => (s.latchAll p [a + 4]).answer p (s.readNow p a r ix)
  | _, .hi => s.answer p (s.latched p a)
  | _, .none => s.answer p (s.readNow p a r ix)

/-! ### A write (R10, R11) -/

/-- Write a field-by-field image of an image-owned register in Service. -/
def State.imagePlain (s : State) (a : Nat) (v : Word) : State := s.imageWrite a fun s => s.plainWrite a v

/-- A write of TRL_CFG or TRK_CFG in Service: a port disabled stops, one enabled starts bring-up (R105). -/
def State.trlCfg (s : State) (p a : Nat) (v : Word) : State :=
  let t := s.imagePlain a v
  if s.portOn p && !t.portOn p then ((t.loopOff p).portOff p)
  else if !s.portOn p && t.portOn p && t.portPowered t.planMode p then
    let t := t.startTx p
    if !t.sensorEnd p && (isLane p || (t.pocGroup p).isNone || t.pc p == pcOn) then
      t.engine (.trlBrupCtrlRediscover .bar0 (Fin.ofNat 80 p) 2#32) fun t => t.discover p
    else t
  else t

/-- A write of SLC_STR_CFG0 in Service: one that would let the stream read a table that fails R150 is discarded and sets
TREJ (R452). -/
def State.strCfg0 (s : State) (i : Nat) (v : Word) : State :=
  let a := A.SLC_STR_CFG0 i
  let t := s.plainWrite a v
  let sel := s.fld (F.SLC_STR_LIVE_TSEL_CUR i)
  if s.setReadable i sel && !t.setReadable i sel then (s.imageReject a).setFlag (F.SLC_STR_LIVE_TREJ i) true
  else s.imagePlain a v

/-- A write of TRL_BRUP_CTRL, which a firmware restart holds (R326, R412). -/
def State.brupWrite (s : State) (path : Path) (p : Fin 80) (v : Word) : State :=
  if bitOn v 1 then s.engine (.trlBrupCtrlRediscover path p v) fun s => s.brupCtrl p v
  else if bitOn v 0 then s.engine (.trlBrupCtrlRetrain path p v) fun s => s.brupCtrl p v
  else s

/-- A write of GLB_STAT: with IOW_REJ the events of R11 may come again. -/
def State.glbStat (s : State) (v : Word) : State :=
  let s := s.plainWrite A.GLB_STAT v
  if bitOn v 0 then { s with recs := { s.recs with suppress := s.recs.suppress.filter fun p => p.1 != 11 } } else s

/-- A host write into the graze queue: the word is no longer poisoned (R206). -/
def State.grzWord (s : State) (a i w : Nat) (v : Word) : State :=
  let s := s.plainWrite a v
  { s with grz := { s.grz with poisoned := s.grz.poisoned.filter (· != i * 8 + w) } }

/-- What a write does to a register that the path may write now. -/
def State.writeNow (s : State) (p : Path) (a : Nat) (r : RegRow) (ix : List Nat) (v : Word) : State :=
  let n := ix.headD 0
  let on := fun (b : Bool) (act : State → State) => if b then act s else s
  match r.tag with
  | .glbStat => s.glbStat v
  | .modeReq => s.modeReq p (fldGet v 0 3)
  | .heartbeat => on (p == .bar0) State.heartbeat
  | .alarmCtrl => s.alarmCtrl v
  | .startCtrl => s.startCtrl p v s.start.hw
  | .timeInc => if r.half = .hi then s.commitInc v else { s with time := { s.time with incLo := v } }
  | .timeAdj => if r.half = .hi then s.commitAdj v else { s with time := { s.time with adjLo := v } }
  | .ptmCtrl => s.ptmCtrl v
  | .cmpCtrl => s.cmpCtrl n v
  | .cmpTgtHi => s.cmpTgtHi n v
  | .trlCfg => s.trlCfg (portIx ix) a v
  | .trlTest => s.testWrite (portIx ix) v
  | .eyeCtrl => s.eyeCtrl (portIx ix) v
  | .brupCtrl => s.brupWrite p (Fin.ofNat 80 (portIx ix)) v
  | .lstCtrl => s.flushCtrl n v
  | .lstWm => s.lstWmStat n v
  | .sliceSvc => s.sliceSvc n v
  | .strCfg0 => s.strCfg0 n v
  | .strLive => s.liveWrite n v
  | .roiPos => s.roiPos n v
  | .plcCtrl => s.plcCtrl v
  | .plcLog => s.plcLogCfg v
  | .grzCfg => s.grzCfg a v
  | .grzCtrl => s.grzCtrl v
  | .grzPi => s.grzPi v
  | .grzReq => s.setPath p { s.path p with grzReq := tblSet (fun _ => 0#32) (s.path p).grzReq n v }
  | .grzSubmit => s.grzSubmit p v
  | .grzQ => s.grzWord a n (ix.getD 1 0) v
  | .chCfg => s.chWrite n fun s => s.chCfg n v
  | .chCtrl => s.chWrite n fun s => s.chCtrl n v
  | .chRing => s.chWrite n fun s => s.chRing n a v
  | .chPi => s.chWrite n fun s => s.chPi n v
  | .cqCfg => s.cqCfg n v
  | .cqBase => s.cqBase n a v
  | .cqCi => s.cqCi n v
  | .cqWm => s.cqWmStat n v
  | .poolPi => s.poolPi n v
  | .poolWm => s.poolWmStat n v
  | .pmCtrl => s.pmCtrl v
  | .attCommit => s.attCommit v
  | .irqMap => (s.plainWrite a v).syncInta
  | .irqPend => s.irqPendW1c n v
  | .lcCtrl => s.lcCtrl p v
  | .rollCtrl => on (bitOn v 0) State.rollCommit
  | .otpProg => on (bitOn v 0) State.otpGo
  | .chalCtrl => on (bitOn v 0) State.newChallenge
  | .tokBuf => on (p != .bar0) fun s => s.setReg a v
  | .tokCtrl => on (bitOn v 0) fun s => s.tokenGo p
  | .dbgCtrl => on (bitOn v 0) State.relock
  | .cfgSel => s.cfgSel v
  | .flCmd => s.flashCmd (fldGet v 0 3)
  | .lwCmd => s.lwCmd n v
  | .tunCmd => s.tunCmd n v
  | .pcCtrl => s.pcCtrl n v
  | .recCursor => s.recCursor p v
  | .recCtrl => s.recCtrl p v
  | .calCfg => s.calCfg n v
  | _ => if r.image then s.imagePlain a v else s.plainWrite a v

/-- Whether a write of a register is one to an image-owned register (R11, R53). -/
def State.imageOwned (s : State) (r : RegRow) (ix : List Nat) : Bool :=
  match r.tag with
  | .cmpCtrl | .cmpTgtHi | .cmpUnit => s.cmpReserved (ix.headD 0)
  | _ => r.image

/-! ### The Legacy window (R429, R430) -/

/-- Where the Legacy window lies. -/
def legBase : Nat := 0x3800000

/-- Whether an address lies in the Legacy window. -/
def inLeg (a : Nat) : Bool := legBase ≤ a

/-- The native address of an alias of the window, by its offset. -/
def legAlias (o : Nat) : Option Nat :=
  if o = 8 then some A.GLB_HEARTBEAT
  else if o = 0x800 then some A.PWR_RAIL_STAT
  else if 0x100 ≤ o ∧ o < 0x500 then
    let p := (o - 0x100) / 0x40
    match (o - 0x100) % 0x40 with
    | 0 => some (A.TRL_CFG p)
    | 4 => some (A.TRL_STAT p)
    | 8 => some (A.TRL_CRC_ERR p)
    | 0xC => some (A.TRL_BRUP_CTRL p)
    | 0x20 => some (A.PWR_PC_CFG p)
    | 0x24 => some (A.PWR_PC_CTRL p)
    | 0x28 => some (A.PWR_PC_STAT p)
    | 0x2C => some (A.PWR_PC_MEAS p)
    | _ => none
  else none

/-- H210_EXT_STAT of a port: the sum of its streams' UNAUTH counts. -/
def State.extStat (s : State) (p : Nat) : Word :=
  let mine := s.isids.filter fun i => s.fld (F.ING_ENT0_NA i) / 8 == p
  let sum := mine.foldl (fun n i => n + s.fld (F.SEC_STR_UNAUTH_COUNT i)) 0
  let excess := decide (0x7FFFFFFF ≤ sum) || mine.any fun i => s.flag (F.SEC_STR_UNAUTH_OVF i)
  BitVec.ofNat 32 (min 0x7FFFFFFF sum + if excess then 2 ^ 31 else 0)

/-- The registers of the window that are no aliases. -/
def State.legWord (s : State) (o : Nat) : Option Word :=
  if o = 0 then some 0x02100003#32
  else if o = 4 then some (BitVec.ofNat 32 (s.mode + if s.flag F.GLB_HERD_STAT_QUORUM_MET then 256 else 0))
  else if 0x100 ≤ o ∧ o < 0x500 ∧ (o - 0x100) % 0x40 = 0x10 then
    let p := (o - 0x100) / 0x40
    some (BitVec.ofNat 32 ((List.range 8).foldl (fun n q =>
      n + (if s.flag (F.NODE_ENT_PRESENT (nodeAddr p q)) then 2 ^ q else 0) +
        if s.flag (F.NODE_ENT_UID_CHG (nodeAddr p q)) then 2 ^ (8 + q) else 0) 0))
  else if 0xF00 ≤ o ∧ o < 0xF40 ∧ o % 4 = 0 then some (s.extStat ((o - 0xF00) / 4))
  else none

/-! ### Access by address -/

/-- What an address names now: its native address. Outside Legacy the window is reserved. -/
def State.native (s : State) (a : Nat) : Nat :=
  if inLeg a && s.mode == 6 then (legAlias (a - legBase)).getD a else a

/-- A read on a path of the register at an address; every other address reads 0 (R8). -/
def State.readAddr (s : State) (p : Path) (addr : Nat) : State :=
  let a := s.native addr
  s.guardedRead p a fun s =>
    if inTbl a 4 then s.answer p (BitVec.ofNat 32 (ofLe ((List.range 4).map fun k => s.tblByte (a - tblBase + k))))
    else match rowAt a with
      | some (r, ix) => s.readReg p a r ix
      | none =>
        if inLeg a && s.mode == 6 then s.answer p ((s.legWord (a - legBase)).getD 0#32) else s.answer p 0#32

/-- A write on a path of the whole register at an address. -/
def State.writeAddr (s : State) (p : Path) (addr : Nat) (v : Word) : State :=
  let a := s.native addr
  if inTbl a 4 then s.guarded p a false fun s => s.tblWrite (a - tblBase) (leBytes 4 v.toNat) false
  else match rowAt a with
    | some (r, ix) => s.guarded p a (s.imageOwned r ix) fun s => s.writeNow p a r ix v
    | none => s.guarded p a false fun s =>
      if inLeg a && s.mode == 6 && (s.legWord (a - legBase)).isSome then s else s.noRegister p a

/-- A write whose byte enables may not cover the register (R9): then it is discarded, and counted where the address is
not reserved. -/
def State.writeBytes (s : State) (p : Path) (addr : Nat) (be : Nat) (v : Word) : State :=
  let a := s.native addr
  if be = 15 then s.writeAddr p addr v
  else s.guarded p a false fun s =>
    if (rowAt a).isSome || inTbl a 4 || (inLeg a && s.mode == 6 && (s.legWord (a - legBase)).isSome) then s.partialWrite
    else s.noRegister p a

/-- The register an address falls in. -/
def wordAddr (a : BitVec 26) : Nat := a.toNat / 4 * 4

/-! ### A request of several registers (R9, R257) -/

/-- Whether a BAR0 request for n registers from an address on keeps within one aligned 64-byte block (R257). -/
def inBlock (p : Path) (a n : Nat) : Bool := p != .bar0 || decide (a % 64 + 4 * n ≤ 64)

/-- Whether the registers of a request are accessed: the path reaches the map, and the request keeps to R257. -/
def State.takes (s : State) (p : Path) (a n : Nat) : Bool := s.reachable p && inBlock p a n

/-- A request whose registers are not accessed: UR where the endpoint answers. -/
def State.notTaken (s : State) (p : Path) (posted : Bool) : State :=
  if s.reachable p then (s.drawnN 4).barUr posted s.tlpHdr else s.unreachable p posted

/-- A write of several registers on a path, in ascending order, each under its byte enables (R257); a poisoned one through
BAR0 is discarded (R285), and one that its endpoint buffer lost (R284). -/
def State.writeRegs (s : State) (p : Path) (a : Nat) (l : List (BitVec 4 × Word)) (poisoned : Bool) (buf : BufErr) : State :=
  let t := if p = .bar0 then s.exitL1.bufErr buf else s
  if p = .bar0 ∧ buf = .uncorrectable then t
  else if p = .bar0 ∧ poisoned then (t.drawnN 4).poisonIn t.tlpHdr
  else l.zipIdx.foldl (fun t c => t.writeBytes p (a + 4 * c.2) c.1.1.toNat c.1.2) t

/-- A register read as its request gets it: the bytes asked for alone (R9), poisoned where its endpoint buffer met an
uncorrectable error (R286). -/
def Out.part (be : BitVec 4) (ue : Bool) : Out → Out
  | .readData p v => .readPart p be (v &&& beMask be.toNat) ue
  | o => o

/-- The suppression bits after a read of no byte at all, which clears none (R408): those of `s`, and those the read set. -/
def RecSt.stillHeld (s t : RecSt) (be : BitVec 4) : RecSt :=
  if be = 0#4 then { t with suppress := t.suppress.filter (fun c => !s.suppress.contains c) ++ s.suppress } else t

/-- A read of some bytes of a register: it has the whole register's side effects (R9), but a read of no byte leaves its
suppression bits (R408). -/
def State.readBytes (s : State) (p : Path) (a : Nat) (be : BitVec 4) (ue : Bool) : State :=
  let t := s.readAddr p a
  if be = 15#4 && !ue then t
  else { t with
    recs := s.recs.stillHeld t.recs be
    sent := s.sent ++ (t.sent.drop s.sent.length).map (Out.part be ue) }

/-- A read of several registers on a path, in ascending order (R257, R286). -/
def State.readRegs (s : State) (p : Path) (a : Nat) (l : List (BitVec 4)) (buf : BufErr) : State :=
  let t := if p = .bar0 then s.exitL1.bufErr buf else s
  l.zipIdx.foldl (fun t c => t.readBytes p (a + 4 * c.2) c.1 (p == .bar0 && buf == .uncorrectable)) t

/-- A read command: the registers from an address on, `be` the bytes of each (R7, R9, R257). -/
def State.readCmd (s : State) (p : Path) (a : Nat) (l : List (BitVec 4)) (buf : BufErr) : State :=
  if s.takes p a l.length then s.readRegs p a l buf else s.notTaken p false

/-! ### JTAG (R346, R347) -/

/-- Whether REGACC reaches an address: while REGACC is locked it reaches the challenge and token registers alone. -/
def State.regaccOpen (s : State) (a : Nat) : Bool :=
  s.scopeOpen 1 || (decide (A.SEC_CHAL 0 ≤ a) && decide (a ≤ A.SEC_TOK_CTRL))

/-- REGACC: a register access on the JTAG path. -/
def State.regacc (s : State) (a : Nat) (w : Option Word) : State :=
  if !s.core then s
  else
    let s := s.jtag .regacc true
    if !s.regaccOpen a then (if w.isSome then s else s.answer .jtag 0#32)
    else match w with
      | some v => s.writeAddr .jtag a v
      | none => s.readAddr .jtag a

/-! ### Commands -/

/-- REGISTER_WRITE (R10): the register at `addr` under byte enables `be`, and `more` registers after it. -/
def execRegisterWrite (path : Path) (addr : BitVec 26) (be : BitVec 4) (v : Word) (more : List (BitVec 4 × Word))
    (poisoned : Bool) (buf : BufErr) (s : State) : Result :=
  .next (if s.takes path (wordAddr addr) (more.length + 1) then
    s.writeRegs path (wordAddr addr) ((be, v) :: more) poisoned buf else s.notTaken path true)

/-- LOW_WORD_READ (R7): bytes `be` of the register at `addr`, and of `more` registers after it. -/
def execLowWordRead (path : Path) (addr : BitVec 26) (be : BitVec 4) (more : List (BitVec 4)) (buf : BufErr) (s : State) :
    Result := .next (s.readCmd path (wordAddr addr) (be :: more) buf)

/-- COUNTER_READ (R408), as LOW_WORD_READ. -/
def execCounterRead (path : Path) (addr : BitVec 26) (be : BitVec 4) (more : List (BitVec 4)) (buf : BufErr) (s : State) :
    Result := .next (s.readCmd path (wordAddr addr) (be :: more) buf)

/-- REGACC (R347): a write of `w`, or a read. -/
def execRegacc (addr : BitVec 26) (w : Option Word) (s : State) : Result := .next (s.regacc (wordAddr addr) w)

end Sys2Proof.Machine
end

