-- ==== Sys2Proof/Machine/Mgmt.lean ====
section
/-! DEFINITION. The management port (R352–R363): frames, cut-offs, timeouts, MG_RST_N and the wake from Standby. -/

namespace Sys2Proof.Machine

/-! ### The port -/

/-- The address byte of the port, with W (R352). -/
def State.mgtAddrW (s : State) : Nat := (0x58 + s.start.addrPins) * 2

/-- The port takes frames now: it is not held in reset, does not stretch, and its core is powered (R352, R360, R362). -/
def State.mgtListens (s : State) : Bool := !s.bus.rst && !s.bus.stretch && s.reachable .mgmt

/-- MGT_TGT_STAT.LAST. -/
def State.mgtLast (s : State) (n : Nat) : State := s.setFld F.MGT_TGT_STAT_LAST n

/-- A frame ends by a NACK, a PEC error, a cut-off, a timeout, a short read; committed or read in full. -/
def State.mgtNack (s : State) : State := (s.count31 A.MGT_NACK_CNT 1).mgtLast 3
def State.mgtPecErr (s : State) : State := ((s.count31 A.MGT_PEC_ERR 1).count31 A.MGT_NACK_CNT 1).mgtLast 4
def State.mgtAbort (s : State) : State := (s.count31 A.MGT_ABORT_CNT 1).mgtLast 5
def State.mgtTimeout (s : State) : State := (s.count31 A.MGT_TO_CNT 1).mgtLast 6
def State.mgtShort (s : State) : State := (s.count31 A.MGT_SHORT_RD 1).mgtLast 7
def State.mgtGood (s : State) (last : Nat) : State := (s.count48 A.MGT_FRAMES_LO 1).mgtLast last

/-! ### The bytes of a frame (R353, R354, R357) -/

/-- The OP of a valid command byte: 1 WRITE, 2 READ. -/
def mgtOp (cmd : Nat) : Option Nat :=
  if cmd / 8 = 0b10110 ∧ (cmd % 4 = 1 ∨ cmd % 4 = 2) then some (cmd % 4) else none

/-- PEC of a command byte. -/
def mgtPec (cmd : Nat) : Bool := cmd / 4 % 2 == 1

/-- The port acknowledges CMD. -/
def State.mgtCmdOk (s : State) (cmd : Nat) : Bool :=
  (mgtOp cmd).isSome && (mgtPec cmd || !s.flag F.MGT_TGT_CFG_PEC_REQ)

/-- The port acknowledges LEN after ADDR. -/
def mgtLenOk (addr len : Nat) : Bool :=
  len % 4 == 0 && decide (4 ≤ len) && decide (len ≤ 128) && addr % 4 == 0

/-- What the header of a frame comes to: not the port's address; refused at a byte; not whole; or its OP, PEC, ADDR and
LEN. -/
inductive MgtHead where
  | foreign
  | nack
  | short
  | ok (op : Nat) (pec : Bool) (addr len : Nat)
  deriving DecidableEq, Repr

/-- Byte k of a frame. -/
def byteAt (l : List Byte) (k : Nat) : Nat := (l.getD k 0).toNat

/-- Read the header of a frame. A frame that opens with address + R has none. -/
def State.mgtHead (s : State) (l : List Byte) : MgtHead :=
  if l.length = 0 ∨ byteAt l 0 / 2 * 2 ≠ s.mgtAddrW then .foreign
  else if byteAt l 0 ≠ s.mgtAddrW ∨ l.length < 2 then .short
  else
    let cmd := byteAt l 1
    if !s.mgtCmdOk cmd then .nack
    else if l.length < 7 then .short
    else
      let addr := ofLe ((l.drop 2).take 4)
      let len := byteAt l 6
      if mgtLenOk addr len then .ok (cmd % 4) (mgtPec cmd) addr len else .nack

/-- The acknowledge slots of a frame (R354): how many bytes of the controller the port acknowledges, and whether it refuses the
next one. -/
def State.mgtSlots (s : State) (l : List Byte) : Nat × Bool :=
  match s.mgtHead l with
  | .foreign => (0, false)
  | .nack => (if s.mgtCmdOk (byteAt l 1) then 6 else 1, true)
  | .short => (if byteAt l 0 = s.mgtAddrW then l.length else 1, false)
  | .ok op pec _ len =>
    let whole := if op = 2 then 7 else 7 + len + if pec then 1 else 0
    if op ≠ 2 && pec && decide (whole ≤ l.length) && byteAt l (7 + len) != crc8 (l.take (7 + len)) then (7 + len, true)
    else (min whole l.length, decide (whole < l.length))

/-! ### Write frames (R355) -/

/-- Apply the registers of a frame in ascending address order. -/
def State.mgtCommit (s : State) (addr : Nat) (data : List Byte) : State :=
  (List.range (data.length / 4)).foldl
    (fun s k => s.writeAddr .mgmt (addr + 4 * k) (BitVec.ofNat 32 (ofLe ((data.drop (4 * k)).take 4)))) s

/-- The controller's bytes of a frame, each with its acknowledge slot complete, up to its STOP or the START that ends it:
a write commits at its final byte, and a byte after that is refused; a frame that is not whole is cut off. -/
def State.mgtFrame (s : State) (l : List Byte) : State :=
  let slots := s.mgtSlots l
  let s := if slots = (0, false) then s else s.emit (.mgtAcks slots.1 slots.2)
  match s.mgtHead l with
  | .foreign => s
  | .nack => s.mgtNack
  | .short => s.mgtAbort
  | .ok op pec addr len =>
    let body := l.drop 7
    let whole := len + (if pec then 1 else 0)
    if op = 2 then (if body.isEmpty then s.mgtAbort else s.mgtNack)
    else if body.length < whole then s.mgtAbort
    else if pec && byteAt body len != crc8 (l.take (7 + len)) then s.mgtPecErr
    else
      let s := (s.mgtCommit addr (body.take len)).mgtGood 1
      if whole < body.length then s.mgtNack else s

/-! ### Read frames (R356) -/

/-- The value a read has put on the management path. -/
def lastRead (l : List Out) : Word :=
  match l.getLast? with
  | some (.readData _ v) => v
  | _ => 0#32

/-- The read step: the registers in ascending address order with their side effects, and the bytes held for sending. -/
def State.mgtReads (s : State) (addr n : Nat) : State × List Byte :=
  (List.range n).foldl (fun (x : State × List Byte) k =>
    let t := x.1.readAddr .mgmt (addr + 4 * k)
    (t, x.2 ++ leBytes 4 (lastRead t.sent).toNat)) (s, [])

/-- A read frame: the header, the byte after the repeated START, and how many of the hub's bytes the controller takes. The read
step follows the acknowledge slot of address + R. It ends by a NACK of the controller, or by a START or STOP, `cut`: one
before the last byte is neither a short read nor counted, since the read step has been made (R356, R358). -/
def State.mgtRead (s : State) (l : List Byte) (second : Byte) (taken : Nat) (cut : Bool) : State :=
  match s.mgtHead l with
  | .ok op pec addr len =>
    if l.length ≠ 7 ∨ op ≠ 2 ∨ second.toNat ≠ s.mgtAddrW + 1 then s.mgtFrame l
    else
      let r := (s.emit (.mgtAcks 8 false)).mgtReads addr (len / 4)
      let tail := if pec then leBytes 1 (crc8 (l ++ [second] ++ r.2)) else []
      let s := r.1.emit (.mgt ((r.2 ++ tail).take taken))
      if len ≤ taken then s.mgtGood 2 else if cut then s.mgtLast 5 else s.mgtShort
  | _ => s.mgtFrame l

/-! ### Timeouts, MG_RST_N, the wake -/

/-- A stretch of 20 ms or SCL low for 25 ms in a frame (R359). -/
def State.mgtTimeoutNow (s : State) : State :=
  if s.bus.rst then s
  else if s.bus.stretch || s.reachable .mgmt then
    let s : State := { s with bus := { s.bus with stretch := false, served := s.bus.served || s.bus.stretch } }
    s.mgtTimeout
  else s

/-- MG_RST_N falls (R360): a frame in progress, or a wake stretch, ends as a cut-off; the port holds nothing. -/
def State.mgtReset (s : State) (inFrame : Bool) : State :=
  if s.bus.rst then s
  else
    let t : State := { s with bus := { s.bus with rst := true, stretch := false, served := s.bus.served || s.bus.stretch } }
    if s.bus.stretch || (inFrame && s.reachable .mgmt) then t.mgtAbort else t

/-- MG_RST_N rises: MG_ADDR is sampled while the always-on island is powered (R352). -/
def State.mgtRelease (s : State) (pins : Nat) : State :=
  if !s.bus.rst then s
  else
    let s : State := { s with bus := { s.bus with rst := false } }
    if s.start.phase == .off then s
    else { s with start := { s.start with addrPins := pins } }

/-- A matching address byte in Standby wakes the hub (R362); the port then stretches SCL. While the hub wakes it does the
same, unless the stretch has been released. -/
def State.mgtWake (s : State) : State :=
  if s.bus.rst then s
  else
    let t := s.wake false
    if t.start.phase == .rails && t.start.warm && !t.bus.served then { t with bus := { t.bus with stretch := true } } else t

/-- The wake stretch ends at t1 + 3 ms (R362): the frame goes on, or, where the register engine does not run yet, ends as a
timeout. -/
def State.mgtStretchEnd (s : State) (ready : Bool) : State :=
  if !s.bus.stretch then s
  else
    let s : State := { s with bus := { s.bus with stretch := false, served := true } }
    if ready then s else s.mgtTimeout

/-! ### Commands -/

/-- MGT_WRITE_FRAME (R355): the controller's bytes from address + W, PEC included. -/
def execMgtWriteFrame (bytes : List Byte) (s : State) : Result := .next (if s.mgtListens then s.mgtFrame bytes else s)

/-- MGT_READ_FRAME (R356): the header, the byte after the repeated START, the data bytes taken. -/
def execMgtReadFrame (header : List Byte) (second : Byte) (taken : Nat) (s : State) : Result :=
  .next (if s.mgtListens then s.mgtRead header second taken false else s)

/-- MGT_FRAME_CUTOFF (R358): the bytes acknowledged before an unexpected START or STOP; for a read frame that had its repeated
START, the byte after it and the hub's bytes that were complete. -/
def execMgtFrameCutoff (bytes : List Byte) (second : Option Byte) (taken : Nat) (s : State) : Result :=
  .next (if s.mgtListens then
    match second with
    | some b => s.mgtRead bytes b taken true
    | none => s.mgtFrame bytes
  else s)

/-- MGT_TIMEOUT (R359). -/
def execMgtTimeout (s : State) : Result := .next s.mgtTimeoutNow

/-- MG_RST_N_ASSERT (R360): `inFrame` says that a frame addressed to the port is in progress. -/
def execMgRstNAssert (inFrame : Bool) (s : State) : Result := .next (s.mgtReset inFrame)

/-- MG_RST_N_DEASSERT (R352): MG_ADDR as sampled. -/
def execMgRstNDeassert (pins : Fin 8) (s : State) : Result := .next (s.mgtRelease pins)

/-- MGT_WAKE_ADDRESS_MATCH (R362). -/
def execMgtWakeAddressMatch (s : State) : Result := .next s.mgtWake

/-- MGT_WAKE_STRETCH_END (R362): `ready` says that the register engine runs. -/
def execMgtWakeStretchEnd (ready : Bool) (s : State) : Result := .next (s.mgtStretchEnd ready)

end Sys2Proof.Machine
end

