-- ==== Sys2Proof/Machine/Dispatch.lean ====
section
/-! DEFINITION. The dispatch: one arm per command of the operation table, one direct call of its meaning. -/

namespace Sys2Proof.Machine

/-- The effect of a command on everything but the queue of commands. -/
def exec (i : Instr) (s : State) : Host.Outcome State Fault Refusal :=
  match i with
  | .vddAonPowerUp addrPins => Sys2Proof.Machine.execVddAonPowerUp addrPins s
  | .startWatchdog => Sys2Proof.Machine.execStartWatchdog s
  | .startRetry => Sys2Proof.Machine.execStartRetry s
  | .failCountClear => Sys2Proof.Machine.execFailCountClear s
  | .vddAonBrownOut => Sys2Proof.Machine.execVddAonBrownOut s
  | .startWarm path key found => Sys2Proof.Machine.execStartWarm path key found s
  | .startCold path key warm => Sys2Proof.Machine.execStartCold path key warm s
  | .fwRestart path key found => Sys2Proof.Machine.execFwRestart path key found s
  | .fwWatchdogExpiry found => Sys2Proof.Machine.execFwWatchdogExpiry found s
  | .fwProcessorFault found => Sys2Proof.Machine.execFwProcessorFault found s
  | .fwRestartDone => Sys2Proof.Machine.execFwRestartDone s
  | .fwRestartEscalate found => Sys2Proof.Machine.execFwRestartEscalate found s
  | .quorumLimit => Sys2Proof.Machine.execQuorumLimit s
  | .pocGroupOn g => Sys2Proof.Machine.execPocGroupOn g s
  | .discoveryStart p => Sys2Proof.Machine.execDiscoveryStart p s
  | .tickBoundary limpN => Sys2Proof.Machine.execTickBoundary limpN s
  | .herdDeadline herd => Sys2Proof.Machine.execHerdDeadline herd s
  | .placementPublish => Sys2Proof.Machine.execPlacementPublish s
  | .timeIncHiWrite path v => Sys2Proof.Machine.execTimeIncHiWrite path v s
  | .timeAdjHiWrite path v => Sys2Proof.Machine.execTimeAdjHiWrite path v s
  | .timeAdjApply => Sys2Proof.Machine.execTimeAdjApply s
  | .deviceSecond => Sys2Proof.Machine.execDeviceSecond s
  | .aonRcSecond => Sys2Proof.Machine.execAonRcSecond s
  | .alarmArm path v => Sys2Proof.Machine.execAlarmArm path v s
  | .alarmDisarm path v => Sys2Proof.Machine.execAlarmDisarm path v s
  | .timeCmpTgtHiWrite path n v => Sys2Proof.Machine.execTimeCmpTgtHiWrite path n v s
  | .cmpArm path n v => Sys2Proof.Machine.execCmpArm path n v s
  | .cmpModeOff path n v => Sys2Proof.Machine.execCmpModeOff path n v s
  | .cmpMatch n => Sys2Proof.Machine.execCmpMatch n s
  | .cmpPulseEnd n => Sys2Proof.Machine.execCmpPulseEnd n s
  | .captEdge n falling sub held => Sys2Proof.Machine.execCaptEdge n falling sub held s
  | .timeCaptFifoLoRead path n => Sys2Proof.Machine.execTimeCaptFifoLoRead path n s
  | .ppsInEdge sub => Sys2Proof.Machine.execPpsInEdge sub s
  | .lowWordRead path addr be more buf => Sys2Proof.Machine.execLowWordRead path addr be more buf s
  | .ptmGo path v => Sys2Proof.Machine.execPtmGo path v s
  | .ptmPeriod => Sys2Proof.Machine.execPtmPeriod s
  | .ptmResponse rtt turn master => Sys2Proof.Machine.execPtmResponse rtt turn master s
  | .ptmTimeout => Sys2Proof.Machine.execPtmTimeout s
  | .timeRoundDue na => Sys2Proof.Machine.execTimeRoundDue na s
  | .timeReply na seq turnaround age => Sys2Proof.Machine.execTimeReply na seq turnaround age s
  | .timeReplyTimeout na => Sys2Proof.Machine.execTimeReplyTimeout na s
  | .blockTransmit p => Sys2Proof.Machine.execBlockTransmit p s
  | .blockReceive p bits => Sys2Proof.Machine.execBlockReceive p bits s
  | .huntTimeout p => Sys2Proof.Machine.execHuntTimeout p s
  | .dieTempSample quadrant tempC held => Sys2Proof.Machine.execDieTempSample quadrant tempC held s
  | .eyeScanGo path p v => Sys2Proof.Machine.execEyeScanGo path p v s
  | .eyePointDone p mism => Sys2Proof.Machine.execEyePointDone p mism s
  | .loopNearEndSerial path p v => Sys2Proof.Machine.execLoopNearEndSerial path p v s
  | .loopNearEndParallel path p v => Sys2Proof.Machine.execLoopNearEndParallel path p v s
  | .loopFarEnd path p v => Sys2Proof.Machine.execLoopFarEnd path p v s
  | .loopEnd path p v => Sys2Proof.Machine.execLoopEnd path p v s
  | .caps p c => Sys2Proof.Machine.execCaps p c s
  | .ack p pos a => Sys2Proof.Machine.execAck p pos a s
  | .answerLate p k => Sys2Proof.Machine.execAnswerLate p k s
  | .hopStepSwitch p => Sys2Proof.Machine.execHopStepSwitch p s
  | .trainPattern p counter => Sys2Proof.Machine.execTrainPattern p counter s
  | .trainPeriodEnd p => Sys2Proof.Machine.execTrainPeriodEnd p s
  | .trainResult p hop step pass => Sys2Proof.Machine.execTrainResult p hop step pass s
  | .pronkSwitchTimeout p => Sys2Proof.Machine.execPronkSwitchTimeout p s
  | .glitchWindowExpire p hop => Sys2Proof.Machine.execGlitchWindowExpire p hop s
  | .upHoldExpire p hop => Sys2Proof.Machine.execUpHoldExpire p hop s
  | .discPollTimer p pos => Sys2Proof.Machine.execDiscPollTimer p pos s
  | .reverseStopEnd p => Sys2Proof.Machine.execReverseStopEnd p s
  | .rediscoveryTimer p => Sys2Proof.Machine.execRediscoveryTimer p s
  | .errDownLost p pos => Sys2Proof.Machine.execErrDownLost p pos s
  | .errOverflow p pos detail => Sys2Proof.Machine.execErrOverflow p pos detail s
  | .errSensor p pos vc detail => Sys2Proof.Machine.execErrSensor p pos vc detail s
  | .errBusStuck p pos => Sys2Proof.Machine.execErrBusStuck p pos s
  | .errTrigLate p pos vc => Sys2Proof.Machine.execErrTrigLate p pos vc s
  | .errSession p pos detail => Sys2Proof.Machine.execErrSession p pos detail s
  | .errTemp p pos detail => Sys2Proof.Machine.execErrTemp p pos detail s
  | .errUnknown p pos code detail => Sys2Proof.Machine.execErrUnknown p pos code detail s
  | .discQuery p => Sys2Proof.Machine.execDiscQuery p s
  | .discAssign p na isids segLen stepCap => Sys2Proof.Machine.execDiscAssign p na isids segLen stepCap s
  | .discExtend p pos => Sys2Proof.Machine.execDiscExtend p pos s
  | .discCut p pos => Sys2Proof.Machine.execDiscCut p pos s
  | .discReset p => Sys2Proof.Machine.execDiscReset p s
  | .discPoll p pos => Sys2Proof.Machine.execDiscPoll p pos s
  | .trigReceive p pos => Sys2Proof.Machine.execTrigReceive p pos s
  | .timeReq p pos seq => Sys2Proof.Machine.execTimeReq p pos seq s
  | .timeResult p pos delay => Sys2Proof.Machine.execTimeResult p pos delay s
  | .rateSwitch p hops step atSync => Sys2Proof.Machine.execRateSwitch p hops step atSync s
  | .rateCommit p => Sys2Proof.Machine.execRateCommit p s
  | .rateRevert p => Sys2Proof.Machine.execRateRevert p s
  | .trainLoopReq p pos => Sys2Proof.Machine.execTrainLoopReq p pos s
  | .trainLoopEnd p pos => Sys2Proof.Machine.execTrainLoopEnd p pos s
  | .sessionStart => Sys2Proof.Machine.execSessionStart s
  | .keyHello p pos frags => Sys2Proof.Machine.execKeyHello p pos frags s
  | .keyCert p pos frags => Sys2Proof.Machine.execKeyCert p pos frags s
  | .keyFinish p pos frags => Sys2Proof.Machine.execKeyFinish p pos frags s
  | .keyDone p pos frags => Sys2Proof.Machine.execKeyDone p pos frags s
  | .keyEnd p pos frags => Sys2Proof.Machine.execKeyEnd p pos frags s
  | .sessionRetry n => Sys2Proof.Machine.execSessionRetry n s
  | .rekeyDue n => Sys2Proof.Machine.execRekeyDue n s
  | .oldKeyExpire n => Sys2Proof.Machine.execOldKeyExpire n s
  | .sof p pos b => Sys2Proof.Machine.execSof p pos b s
  | .eof p pos b => Sys2Proof.Machine.execEof p pos b s
  | .containerReceive p data backlog age => Sys2Proof.Machine.execContainerReceive p data backlog age s
  | .lstQCtrlFlush path isid v => Sys2Proof.Machine.execLstQCtrlFlush path isid v s
  | .lstQWmStatNoticeClear path isid v => Sys2Proof.Machine.execLstQWmStatNoticeClear path isid v s
  | .scrubPass found => Sys2Proof.Machine.execScrubPass found s
  | .sliceLineRead isid fixed lost => Sys2Proof.Machine.execSliceLineRead isid fixed lost s
  | .auditCompare mismatch => Sys2Proof.Machine.execAuditCompare mismatch s
  | .suspectTimeout => Sys2Proof.Machine.execSuspectTimeout s
  | .slcStrLiveCommit path isid v => Sys2Proof.Machine.execSlcStrLiveCommit path isid v s
  | .roiPosWrite path roi v => Sys2Proof.Machine.execRoiPosWrite path roi v s
  | .tableWrite path addr data => Sys2Proof.Machine.execTableWrite path addr data s
  | .sliceBist path sl v => Sys2Proof.Machine.execSliceBist path sl v s
  | .sliceBistDone sl pass => Sys2Proof.Machine.execSliceBistDone sl pass s
  | .sliceReturn path sl v => Sys2Proof.Machine.execSliceReturn path sl v s
  | .plcCtrlSubmit path v => Sys2Proof.Machine.execPlcCtrlSubmit path v s
  | .plcLogCfgEnable path v => Sys2Proof.Machine.execPlcLogCfgEnable path v s
  | .grzPiWrite path v => Sys2Proof.Machine.execGrzPiWrite path v s
  | .grzSubmit path v => Sys2Proof.Machine.execGrzSubmit path v s
  | .grzRingChange path v => Sys2Proof.Machine.execGrzRingChange path v s
  | .abortAll path v => Sys2Proof.Machine.execAbortAll path v s
  | .grazeTake => Sys2Proof.Machine.execGrazeTake s
  | .grazeLineRead fixed lost => Sys2Proof.Machine.execGrazeLineRead fixed lost s
  | .lineCommit ch => Sys2Proof.Machine.execLineCommit ch s
  | .dmaChPiWrite path c v => Sys2Proof.Machine.execDmaChPiWrite path c v s
  | .dmaPoolPiWrite path p v => Sys2Proof.Machine.execDmaPoolPiWrite path p v s
  | .dmaChCfgWrite path c v => Sys2Proof.Machine.execDmaChCfgWrite path c v s
  | .h2i c => Sys2Proof.Machine.execH2i c s
  | .i2h c ue => Sys2Proof.Machine.execI2h c ue s
  | .fillH c => Sys2Proof.Machine.execFillH c s
  | .fillI c => Sys2Proof.Machine.execFillI c s
  | .compare c ue => Sys2Proof.Machine.execCompare c ue s
  | .link c => Sys2Proof.Machine.execLink c s
  | .nop c => Sys2Proof.Machine.execNop c s
  | .descriptorDone c => Sys2Proof.Machine.execDescriptorDone c s
  | .pause path c v => Sys2Proof.Machine.execPause path c v s
  | .dmaPaused c => Sys2Proof.Machine.execDmaPaused c s
  | .resume path c v => Sys2Proof.Machine.execResume path c v s
  | .abort path c v => Sys2Proof.Machine.execAbort path c v s
  | .req path c v => Sys2Proof.Machine.execReq path c v s
  | .cqCfgEnable path q v => Sys2Proof.Machine.execCqCfgEnable path q v s
  | .cqCiWrite path q v => Sys2Proof.Machine.execCqCiWrite path q v s
  | .cqWmStatNoticeClear path q v => Sys2Proof.Machine.execCqWmStatNoticeClear path q v s
  | .dmaPoolWmStatNoticeClear path p v => Sys2Proof.Machine.execDmaPoolWmStatNoticeClear path p v s
  | .hepIrqPendClear path w v => Sys2Proof.Machine.execHepIrqPendClear path w v s
  | .completionReceive tag status data poisoned => Sys2Proof.Machine.execCompletionReceive tag status data poisoned s
  | .completionTimeout tag => Sys2Proof.Machine.execCompletionTimeout tag s
  | .unsupportedRequest posted vdm1 hdr => Sys2Proof.Machine.execUnsupportedRequest posted vdm1 hdr s
  | .bar2Request r => Sys2Proof.Machine.execBar2Request r s
  | .bar4Request r old => Sys2Proof.Machine.execBar4Request r old s
  | .hepAttCommit path v => Sys2Proof.Machine.execHepAttCommit path v s
  | .attOldGenerationRelease => Sys2Proof.Machine.execAttOldGenerationRelease s
  | .busMasterEnableClear => Sys2Proof.Machine.execBusMasterEnableClear s
  | .busMasterEnableSet => Sys2Proof.Machine.execBusMasterEnableSet s
  | .functionLevelReset => Sys2Proof.Machine.execFunctionLevelReset s
  | .flrComplete => Sys2Proof.Machine.execFlrComplete s
  | .tagQuarantineEnd tag => Sys2Proof.Machine.execTagQuarantineEnd tag s
  | .perstNAssert => Sys2Proof.Machine.execPerstNAssert s
  | .perstNDeassert => Sys2Proof.Machine.execPerstNDeassert s
  | .hotReset => Sys2Proof.Machine.execHotReset s
  | .dlDown errs => Sys2Proof.Machine.execDlDown errs s
  | .dlUp width rate flit => Sys2Proof.Machine.execDlUp width rate flit s
  | .hostLinkRetrain width rate flit errs => Sys2Proof.Machine.execHostLinkRetrain width rate flit errs s
  | .l0pWidthChange width => Sys2Proof.Machine.execL0pWidthChange width s
  | .aspmL1Entry => Sys2Proof.Machine.execAspmL1Entry s
  | .powerStateD3hot => Sys2Proof.Machine.execPowerStateD3hot s
  | .powerStateD0 => Sys2Proof.Machine.execPowerStateD0 s
  | .hepPmCtrlWake path v => Sys2Proof.Machine.execHepPmCtrlWake path v s
  | .glbHeartbeatWrite path => Sys2Proof.Machine.execGlbHeartbeatWrite path s
  | .linkDownLimit => Sys2Proof.Machine.execLinkDownLimit s
  | .heartbeatLimit => Sys2Proof.Machine.execHeartbeatLimit s
  | .glbModeReqWrite path v => Sys2Proof.Machine.execGlbModeReqWrite path v s
  | .limpNAssert => Sys2Proof.Machine.execLimpNAssert s
  | .wakeInAssert => Sys2Proof.Machine.execWakeInAssert s
  | .cfgSelWrite path v => Sys2Proof.Machine.execCfgSelWrite path v s
  | .erase path => Sys2Proof.Machine.execErase path s
  | .program path => Sys2Proof.Machine.execProgram path s
  | .read path => Sys2Proof.Machine.execRead path s
  | .verify path => Sys2Proof.Machine.execVerify path s
  | .flashCommandDone late => Sys2Proof.Machine.execFlashCommandDone late s
  | .genDus path key => Sys2Proof.Machine.execGenDus path key s
  | .provision path key => Sys2Proof.Machine.execProvision path key s
  | .field path key => Sys2Proof.Machine.execField path key s
  | .secOtpProg path => Sys2Proof.Machine.execSecOtpProg path s
  | .secRollCtrlCommit path => Sys2Proof.Machine.execSecRollCtrlCommit path s
  | .secChalCtrlNew path => Sys2Proof.Machine.execSecChalCtrlNew path s
  | .challengeExpire => Sys2Proof.Machine.execChallengeExpire s
  | .debugUnlock path => Sys2Proof.Machine.execDebugUnlock path s
  | .logClear path byToken v => Sys2Proof.Machine.execLogClear path byToken v s
  | .logClearEraseDone => Sys2Proof.Machine.execLogClearEraseDone s
  | .returnPart path => Sys2Proof.Machine.execReturn path s
  | .revoke path => Sys2Proof.Machine.execRevoke path s
  | .secDbgCtrlRelock path => Sys2Proof.Machine.execSecDbgCtrlRelock path s
  | .bypass => Sys2Proof.Machine.execBypass s
  | .idcode => Sys2Proof.Machine.execIdcode s
  | .samplePreload => Sys2Proof.Machine.execSamplePreload s
  | .extest => Sys2Proof.Machine.execExtest s
  | .intest => Sys2Proof.Machine.execIntest s
  | .clamp => Sys2Proof.Machine.execClamp s
  | .highz => Sys2Proof.Machine.execHighz s
  | .regacc addr w => Sys2Proof.Machine.execRegacc addr w s
  | .trace => Sys2Proof.Machine.execTrace s
  | .mgtWriteFrame bytes => Sys2Proof.Machine.execMgtWriteFrame bytes s
  | .mgtReadFrame header second taken => Sys2Proof.Machine.execMgtReadFrame header second taken s
  | .mgtFrameCutoff bytes second taken => Sys2Proof.Machine.execMgtFrameCutoff bytes second taken s
  | .mgtTimeout => Sys2Proof.Machine.execMgtTimeout s
  | .mgRstNAssert inFrame => Sys2Proof.Machine.execMgRstNAssert inFrame s
  | .mgtWakeAddressMatch => Sys2Proof.Machine.execMgtWakeAddressMatch s
  | .mgtWakeStretchEnd ready => Sys2Proof.Machine.execMgtWakeStretchEnd ready s
  | .lwWrite path w v => Sys2Proof.Machine.execLwWrite path w v s
  | .lwRead path w v => Sys2Proof.Machine.execLwRead path w v s
  | .lwWriteRead path w v => Sys2Proof.Machine.execLwWriteRead path w v s
  | .lwTransactionDone w result acked data clr => Sys2Proof.Machine.execLwTransactionDone w result acked data clr s
  | .lwArbitrationRetry w => Sys2Proof.Machine.execLwArbitrationRetry w s
  | .lwStretchTimeout w acked sdaLow => Sys2Proof.Machine.execLwStretchTimeout w acked sdaLow s
  | .lwStuck w => Sys2Proof.Machine.execLwStuck w s
  | .tunWrite path k v => Sys2Proof.Machine.execTunWrite path k v s
  | .tunRead path k v => Sys2Proof.Machine.execTunRead path k v s
  | .tunWriteRead path k v => Sys2Proof.Machine.execTunWriteRead path k v s
  | .ctrlReply p pos txn status count data => Sys2Proof.Machine.execCtrlReply p pos txn status count data s
  | .tunnelTimeout k => Sys2Proof.Machine.execTunnelTimeout k s
  | .railEnableNext found => Sys2Proof.Machine.execRailEnableNext found s
  | .psPgTimeout => Sys2Proof.Machine.execPsPgTimeout s
  | .psPgFall r => Sys2Proof.Machine.execPsPgFall r s
  | .railSample mv => Sys2Proof.Machine.execRailSample mv s
  | .railFaultRestart => Sys2Proof.Machine.execRailFaultRestart s
  | .pocSample vin ch => Sys2Proof.Machine.execPocSample vin ch s
  | .shortComparator n => Sys2Proof.Machine.execShortComparator n s
  | .softstartBegin => Sys2Proof.Machine.execSoftstartBegin s
  | .softstartEnd n v => Sys2Proof.Machine.execSoftstartEnd n v s
  | .retryWaitEnd n => Sys2Proof.Machine.execRetryWaitEnd n s
  | .retriesClear n => Sys2Proof.Machine.execRetriesClear n s
  | .vinOvRelease => Sys2Proof.Machine.execVinOvRelease s
  | .forceOff path n off => Sys2Proof.Machine.execForceOff path n off s
  | .clr path n v => Sys2Proof.Machine.execClr path n v s
  | .trlBrupCtrlRetrain path p v => Sys2Proof.Machine.execTrlBrupCtrlRetrain path p v s
  | .trlBrupCtrlRediscover path p v => Sys2Proof.Machine.execTrlBrupCtrlRediscover path p v s
  | .operatingSecond => Sys2Proof.Machine.execOperatingSecond s
  | .ledgerSnapshot => Sys2Proof.Machine.execLedgerSnapshot s
  | .ageMeasure => Sys2Proof.Machine.execAgeMeasure s
  | .ledCalCfgCommit path slot v => Sys2Proof.Machine.execLedCalCfgCommit path slot v s
  | .recCursorWrite path v => Sys2Proof.Machine.execRecCursorWrite path v s
  | .recWindowLoaded path => Sys2Proof.Machine.execRecWindowLoaded path s
  | .recWindow7Read path => Sys2Proof.Machine.execRecWindow7Read path s
  | .registerWrite path addr be v more poisoned buf => Sys2Proof.Machine.execRegisterWrite path addr be v more poisoned buf s
  | .ppsOutPulseEnd => Sys2Proof.Machine.execPpsOutPulseEnd s
  | .ref10mInEdge => Sys2Proof.Machine.execRef10mInEdge s
  | .configurationWrite ofs v be => Sys2Proof.Machine.execConfigurationWrite ofs v be s
  | .counterRead path addr be more buf => Sys2Proof.Machine.execCounterRead path addr be more buf s
  | .securityOperationDone => Sys2Proof.Machine.execSecurityOperationDone s
  | .mgRstNDeassert pins => Sys2Proof.Machine.execMgRstNDeassert pins s

end Sys2Proof.Machine
end

