-- ==== Sys2Proof/Machine/Step.lean ====
section
/-! DEFINITION. One step of the hub: the command at the front of its queue, or, on an empty queue, one cycle of its time
base. -/

namespace Sys2Proof.Machine

/-- Put a command at the front of the queue. -/
def State.withCommand (s : State) (i : Instr) : State := { s with pending := i :: s.pending }

/-- What the hub does by itself in one cycle of its time base (log entry 1): device time advances, and a pacing request that
a compare unit makes moves its channels. -/
def State.idle (s : State) : State := if s.core then s.timeBase.paceMoves else s

/-- One step. -/
def step (s : State) : Host.Outcome State Fault Refusal :=
  match s.pending with
  | [] => .next s.idle
  | i :: rest => exec i { s with pending := rest }

/-- The command that a word spells, at the front of the queue; the state unchanged where it spells none. -/
def State.withFetchWord (s : State) (nbits w : Nat) : State :=
  match decodeTableWord nbits w with
  | some i => s.withCommand i
  | none => s

end Sys2Proof.Machine
end

