-- ==== Sys2Proof/Safety.lean ====
section
/-! DEFINITION. What a safe run of the hub keeps: the canonical form of its stores, the record of what it has sent, the
queue of commands, the fuses. -/

namespace Sys2Proof.Machine

/-- A byte store reads 0 where nothing is listed. -/
def zeroB : Nat → Byte := fun _ => 0#8

/-- An image's register words and table memory are in canonical form. -/
def Image.canon (im : Image) : Prop := tblWf regReset im.base = true ∧ tblWf zeroB im.tbl = true

/-- Every addressed store of the hub is in canonical form: the registers, the flash, the table memory, the OTP, the image in
force. -/
structure State.Canon (s : State) : Prop where
  regs : tblWf regReset s.regs = true
  flash : tblWf erased s.flash = true
  tbl : tblWf zeroB s.data.tbl = true
  otp : tblWf zeroB s.sec.otp = true
  image : ∀ im, s.image = some im → im.canon

/-- Every OTP bit that is set in `s` is set in `t` (R330). -/
def State.FusesIn (s t : State) : Prop := ∀ a, tblGet zeroB s.sec.otp a &&& tblGet zeroB t.sec.otp a = tblGet zeroB s.sec.otp a

/-- What every transition from `s` to `t` keeps: the canonical form; what has been sent stays sent; the commands that wait
wait on; a free value is never drawn twice; a fuse once set stays set. -/
structure State.Keeps (s t : State) : Prop where
  canon : s.Canon → t.Canon
  sent : s.sent <+: t.sent
  pending : t.pending = s.pending
  free : s.freeCtr ≤ t.freeCtr
  otp : s.FusesIn t

/-- A whole-register write on a path reaches the register at an address: the path is served, the address is served, and an
image-owned register is written in Service alone (R8, R11, R325, R363). -/
abbrev State.Admits (s : State) (p : Path) (a : Nat) (image : Bool) : Prop :=
  s.reachable p = true ∧ s.serves a = true ∧ (image = true → s.mode = 3)

/-- A read on a path reaches the register at an address. -/
abbrev State.AdmitsRead (s : State) (p : Path) (a : Nat) : Prop := s.reachable p = true ∧ s.serves a = true

/-- The hub runs, and its firmware is not restarting (R314, R326). -/
abbrev State.Runs (s : State) : Prop := s.start.phase = .run ∧ s.start.fwBusy = false

/-- The hub is up, port `p` is the sensor end of its link (R120), and the reverse lane has not been without lock for more than
10 ms (R98). -/
abbrev State.SensorUp (s : State) (p : Nat) : Prop := s.start.phase = .run ∧ s.portOn p = true ∧ s.sensorEnd p = true ∧
  ∀ t, (s.sensor p).lostAt = some t → s.time.elapsed ≤ t + 160000000

/-- The hub is up and port `p` is the hub end of its link. -/
abbrev State.HubUp (s : State) (p : Nat) : Prop := s.start.phase = .run ∧ s.portOn p = true ∧ s.sensorEnd p = false

end Sys2Proof.Machine
end

