-- ==== Sys2Proof/Certificates/Slice0/Obligations.lean ====
section
/-! DEFINITION. The statements for the provers. Each command has a statement that says where it completes, with the next
state the rules give it; where that state is spelled out as an equation, everything the equation does not change is the
command's frame. -/

open Sys2Proof Sys2Proof.Machine

/-- A step takes the command at the front of the queue and runs it with the queue's rest. -/
def Obligations.StepRunsFront : Prop :=
  ∀ (s : State) (c : Instr) (rest : List Instr), s.pending = c :: rest → step s = exec c { s with pending := rest }

/-- On an empty queue one cycle of the time base passes (R46; the idle step is log entry 1's): with no step of device
time pending, device time grows by TIME_INC's whole part, or by one more where the fraction carries; a hub without a
core stays as it is. -/
def Obligations.IdleStep : Prop :=
  (∀ s : State, s.pending = [] → s.core = false → step s = .next s) ∧
  (∀ s : State, s.pending = [] → s.core = true → s.time.adj = none → s.time.incNext = none → s.dma.chan = [] →
    ∃ t, step s = .next t ∧ t.time.tu = (s.time.tu + (s.time.frac + s.time.inc) / 2 ^ 32) % tuMod ∧
      t.time.frac = (s.time.frac + s.time.inc) % 2 ^ 32 ∧ t.regs = s.regs ∧ t.data = s.data ∧ t.sent = s.sent ∧
      t.pending = [])

/-- The state after reset is in canonical form: nothing is listed, nothing waits, nothing has been sent, and every
register reads its reset word. Where the spec leaves a point open, the clauses follow the model's choices of log entry
4. -/
def Obligations.ResetState : Prop :=
  State.reset.Canon ∧ State.reset.pending = [] ∧ State.reset.sent = [] ∧ State.reset.start.phase = .off ∧
    (∀ a, State.reset.reg a = regReset a) ∧ (∀ a, tblGet erased State.reset.flash a = 0xFF#8) ∧
    State.reset.aon.herd = 0

/-- What every step keeps, from every state: each addressed store stays in canonical form; what has been sent stays
sent; a free value is not drawn twice; a fuse once burnt stays burnt (R330); the queue loses its front and nothing else.
Where the spec leaves a point open, the clauses follow the model's choices of log entry 5. -/
def Obligations.StepKeeps : Prop :=
  ∀ s t : State, step s = .next t →
    (s.Canon → t.Canon) ∧ s.sent <+: t.sent ∧ s.freeCtr ≤ t.freeCtr ∧ s.FusesIn t ∧ t.pending = s.pending.tail

/-- No command ends the hub's run: each one answers a next state, from every state. -/
def Obligations.EveryCommandAnswers : Prop := ∀ (i : Instr) (s : State), ∃ t, exec i s = .next t

/-- Starts (R312, R313, R316, R323, R324, R436). Completes vddAonPowerUp, startWatchdog, startRetry, failCountClear,
vddAonBrownOut, startWarm and startCold. VDD_AON's power-up and each new attempt after a failed start begin a cold start
(KIND 0) with its first rail; the watchdog fails the start that runs, with cause 4, and counts the failure of the bank tried
up to 3; 10 s after step 11 the count of the bank that started clears, and nothing else changes; VDD_AON's loss leaves the
hub off with no rail up; a keyed WARM write ends the running work, resets the core and runs the steps of a commanded warm
start (KIND 2); a keyed COLD write, with WARM or without, clears both counts and begins a cold start; a wrong key is an
event and nothing else. Where the spec leaves a point open, the clauses follow the model's choices of log entries 3, 58,
133, 134 and 135. -/
def Obligations.StartsBegin : Prop :=
  -- vddAonPowerUp: the hub is off (R312, R436)
  (∀ (s : State) (pins : Fin 8), s.start.phase = .off →
    ∃ t, exec (.vddAonPowerUp pins) s = .next t ∧ t.start.phase = .rails ∧ t.start.railsUp = 0 ∧ t.start.warm = false ∧
      t.start.watch = true ∧ t.start.addrPins = pins ∧ t.fld F.GLB_START_STAT_KIND = 0 ∧ t.aon.herd = 0 ∧ t.herds = [] ∧
      t.image = none ∧ t.pending = s.pending) ∧
  -- startWatchdog: a start runs whose rails are not all up, or its next attempt waits (R323)
  (∀ s : State, s.start.watch = true → s.start.phase = .rails ∨ s.start.phase = .wait → s.start.railsUp < 6 →
    ∃ t, exec .startWatchdog s = .next t ∧ t.fld F.GLB_START_FAIL_LAST_CAUSE = 4 ∧ t.fld F.GLB_START_FAIL_LAST_STEP = 1 ∧
      t.fld (failsFld (s.tryBank.getD 0)) = min 3 (s.fld (failsFld (s.tryBank.getD 0)) + 1) ∧
      t.start.phase = .wait ∧ t.start.railsUp = 0 ∧ t.start.watch = false ∧ t.pending = s.pending) ∧
  -- startRetry: a start has failed and the next attempt waits (R324)
  (∀ s : State, s.start.phase = .wait → s.start.waitFor = 0 →
    ∃ t, exec .startRetry s = .next t ∧ t.start.phase = .rails ∧ t.start.railsUp = 0 ∧ t.start.warm = false ∧
      t.start.watch = true ∧ t.fld F.GLB_START_STAT_KIND = 0 ∧ t.image = none ∧ t.herds = [] ∧ t.pending = s.pending) ∧
  -- failCountClear: a bank's start ended step 11 without failing 10 s ago (R324)
  (∀ (s : State) (bank : Nat) (due : List Nat), s.start.phase ≠ .off → s.start.clearDue = bank :: due →
    exec .failCountClear s = .next (({ s with start := { s.start with clearDue := due } } : State).setFld (failsFld bank) 0)) ∧
  -- vddAonBrownOut: always (R436)
  (∀ s : State, ∃ t, exec .vddAonBrownOut s = .next t ∧ t.start.phase = .off ∧ t.start.railsUp = 0 ∧ t.start.warm = false ∧
    t.start.watch = false ∧ t.start.fwBusy = false ∧ t.pending = s.pending) ∧
  -- startWarm: the write reaches the register and the core runs (R312, R313, R316)
  (∀ (s o : State) (p : Path) (found : Found), s.Admits p A.GLB_START_CTRL false → s.start.phase = .run →
    o = (s.reached p).endWork →
    exec (.startWarm p 0x5354#16 found) s = .next
      (let t := (o.coreReset 2).setFld F.GLB_START_STAT_KIND 2
       (({ t with sec := { t.sec with jtag := t.jtagLock.sec.jtag } } : State).finds found).runStart o 2)) ∧
  -- startCold: the write reaches the register, in Refuge over the management port (R312, R313, R325)
  (∀ (s : State) (p : Path) (warm : Bool), s.Admits p A.GLB_START_CTRL false →
    s.start.phase = .run ∨ s.start.phase = .refuge ∧ p = .mgmt →
    ∃ t, exec (.startCold p 0x5354#16 warm) s = .next t ∧ t.start.phase = .rails ∧ t.start.railsUp = 0 ∧
      t.start.warm = false ∧ t.fld F.GLB_START_STAT_KIND = 0 ∧ t.fld F.GLB_START_FAIL_FAILS_A = 0 ∧
      t.fld F.GLB_START_FAIL_FAILS_B = 0 ∧ t.image = none ∧ t.herds = [] ∧ t.pending = s.pending) ∧
  -- a wrong key (R313)
  (∀ (s : State) (p : Path) (k : BitVec 16) (warm : Bool) (found : Found), s.Admits p A.GLB_START_CTRL false → k ≠ 0x5354#16 →
    exec (.startCold p k warm) s = .next ((s.reached p).log 313 noSrc []) ∧
    exec (.startWarm p k found) s = .next ((s.reached p).log 313 noSrc []) ∧
    exec (.fwRestart p k found) s = .next ((s.reached p).log 313 noSrc []))

/-- The firmware restart (R326, R327). Completes fwRestart, fwWatchdogExpiry, fwProcessorFault, fwRestartDone and
fwRestartEscalate. Each cause, with fewer than three restarts in the last 10 s, starts the processor again: LAST_CAUSE
names the cause, RESTARTS counts it up to its maximum, RESTARTING reads 1 and the running data path, the links, the herds
and the time base stay as they are. Its end clears RESTARTING and lets what was held proceed in order: the held commands,
the delay rounds that are due, the tunnel, the held events. The escalation of a running hub is a commanded warm start; one
within 10 s of the end of step 11 is a failed start with cause 4 at step 11, counted up to 3 for the bank in force. Where
the spec leaves a point open, the clauses follow the model's choices of log entries 24 and 136. -/
def Obligations.FirmwareRestarts : Prop :=
  -- fwRestart: the keyed write reaches the register, and no restart is in progress (R313, R326)
  (∀ (s : State) (p : Path) (found : Found), s.Admits p A.GLB_START_CTRL false → s.core = true → s.start.fwBusy = false →
    (s.start.fwTimes.filter fun t => decide (s.time.elapsed < t + 10 * tuPerSec)).length < 3 →
    ∃ t, exec (.fwRestart p 0x5354#16 found) s = .next t ∧ t.start.fwBusy = true ∧ t.fld F.GLB_FW_STAT_LAST_CAUSE = 3 ∧
      t.flag F.GLB_FW_STAT_RESTARTING = true ∧
      t.fld F.GLB_FW_STAT_RESTARTS = min (2 ^ F.GLB_FW_STAT_RESTARTS.w - 1) (s.fld F.GLB_FW_STAT_RESTARTS + 1) ∧
      t.data = s.data ∧ t.herds = s.herds ∧ t.link = s.link ∧ t.time = s.time ∧ t.pending = s.pending) ∧
  -- fwWatchdogExpiry, fwProcessorFault: the core is powered and no restart is in progress (R326)
  (∀ (s : State) (found : Found), s.core = true → s.start.fwBusy = false →
    (s.start.fwTimes.filter fun t => decide (s.time.elapsed < t + 10 * tuPerSec)).length < 3 →
    (∃ t, exec (.fwWatchdogExpiry found) s = .next t ∧ t.start.fwBusy = true ∧ t.fld F.GLB_FW_STAT_LAST_CAUSE = 1 ∧
      t.flag F.GLB_FW_STAT_RESTARTING = true ∧
      t.fld F.GLB_FW_STAT_RESTARTS = min (2 ^ F.GLB_FW_STAT_RESTARTS.w - 1) (s.fld F.GLB_FW_STAT_RESTARTS + 1) ∧
      t.data = s.data ∧ t.herds = s.herds ∧ t.link = s.link ∧ t.time = s.time ∧ t.pending = s.pending) ∧
    (∃ t, exec (.fwProcessorFault found) s = .next t ∧ t.start.fwBusy = true ∧ t.fld F.GLB_FW_STAT_LAST_CAUSE = 2 ∧
      t.flag F.GLB_FW_STAT_RESTARTING = true ∧
      t.fld F.GLB_FW_STAT_RESTARTS = min (2 ^ F.GLB_FW_STAT_RESTARTS.w - 1) (s.fld F.GLB_FW_STAT_RESTARTS + 1) ∧
      t.data = s.data ∧ t.herds = s.herds ∧ t.link = s.link ∧ t.time = s.time ∧ t.pending = s.pending)) ∧
  -- fwRestartDone: a restart is in progress (R326)
  (∀ (s u : State), s.start.fwBusy = true →
    u = s.start.fwHeld.foldl State.replayPower (({ s with start := { s.start with fwBusy := false, fwHeld := [] } } : State).setFlag
      F.GLB_FW_STAT_RESTARTING false) →
    exec .fwRestartDone s = .next ((List.range 64).foldl State.runDue u).tunPump.writeHeld) ∧
  -- fwRestartEscalate: a restart is in progress in a running hub (R327)
  (∀ (s u : State) (found : Found), s.start.phase = .run → s.start.fwBusy = true →
    u = { s.setFlag F.GLB_FW_STAT_RESTARTING false with start := { s.start with fwBusy := false } } →
    (s.start.clearDue = [] → exec (.fwRestartEscalate found) s = .next (u.startWarm found)) ∧
    (s.start.clearDue ≠ [] → ∀ im, s.image = some im →
      ∃ t, exec (.fwRestartEscalate found) s = .next t ∧ t.fld F.GLB_START_FAIL_LAST_CAUSE = 4 ∧
        t.fld F.GLB_START_FAIL_LAST_STEP = 11 ∧ t.fld (failsFld im.bank) = min 3 (s.fld (failsFld im.bank) + 1) ∧
        t.pending = s.pending))

/-- Boundaries and herds (R13, R14, R22, R194, R320, R322). Completes tickBoundary, herdDeadline, placementPublish,
pocGroupOn, discoveryStart and quorumLimit. A boundary that is acted on advances the herd number by one, and the always-on
island keeps everything else; the count moves the grid point to that boundary; an open herd closes at its deadline; a run's
result is published: the run ends and, where the placement changes, PLC_GEN counts; the channels of a PoC group that are due
first enter the power queue in ascending order; a port's discovery begins with DISC QUERY, no node and state 1; the
quorum's absence at its limit is noted and logged with the number of absent members. Where the spec leaves a point open, the
clauses follow the model's choices of log entries 13, 74 and 150. -/
def Obligations.BoundariesAndHerds : Prop :=
  -- tickBoundary: the hub runs (R13, R14)
  (∀ (s : State) (l : Bool), s.start.phase = .run →
    ∃ t, exec (.tickBoundary l) s = .next t ∧ t.aon = { s.aon with herd := s.aon.herd + 1 } ∧ t.pending = s.pending) ∧
  (∀ s : State, s.countBoundary.aon.herd = s.aon.herd + 1 ∧ s.countBoundary.time.gridFrom = s.nextBoundary ∧
    s.countBoundary.regs = s.regs ∧ s.countBoundary.sent = s.sent ∧ s.countBoundary.herds = s.herds) ∧
  -- herdDeadline: the herd is open (R22)
  (∀ (s : State) (n : Nat) (h : Herd), s.start.phase = .run → s.herd n = some h → h.closed = false →
    ∃ t, exec (.herdDeadline n) s = .next t ∧ t = (s.advance h.deadline).closeHerd n 1 ∧
      (t.herd n).map (·.closed) = some true ∧ t.data = s.data ∧ t.link = s.link ∧ t.aon = s.aon) ∧
  -- placementPublish: a run has ended its search, and no firmware restart is in progress (R194, R326)
  (∀ (s : State) (r : RunSt), s.Runs → s.plc.run = some r →
    ∃ t, exec .placementPublish s = .next t ∧ t.plc.run = none ∧ t.flag F.PLC_STAT_RUN = false ∧
      (r.change = true → t.reg A.PLC_GEN = BitVec.ofNat 32 (((s.reg A.PLC_GEN).toNat + 1) % 2 ^ 32)) ∧
      t.link = s.link ∧ t.aon = s.aon ∧ t.pending = s.pending) ∧
  -- pocGroupOn: `due` is the instant at which the group's next channels are due (R320, R381)
  (∀ (s : State) (g : Fin 16) (due : Nat), s.Runs →
    (∃ c ∈ s.pwr.due, s.pocGroup c.2 = some g.val ∧ c.1 = due) → (∀ c ∈ s.pwr.due, s.pocGroup c.2 = some g.val → due ≤ c.1) →
    exec (.pocGroupOn g) s = .next (((s.pwr.due.filter fun c => c.1 = due).foldl (fun l c => setIns c.2 l) []).foldl State.pcEnqueue
      { s with pwr := { s.pwr with due := s.pwr.due.filter fun c => c.1 != due } })) ∧
  (∀ (s : State) (n : Nat), s.pcAllowed n = true → s.pc n = pcOff ∨ s.pc n = pcRetry →
    s.pcEnqueue n = ({ s with pwr := { s.pwr with queue := s.pwr.queue ++ [n] } } : State).setPc n pcQueued) ∧
  -- discoveryStart: the port's channel has had its time and the port is a hub end that is on (R98, R320)
  (∀ (s : State) (p : Fin 64), s.Runs → p.val ∈ s.pwr.boot → s.portOn p = true → s.sensorEnd p = false →
    ∃ t, exec (.discoveryStart p) s = .next t ∧ t.pwr.boot = s.pwr.boot.filter (· != p.val) ∧
      t.fld (F.TRL_BRUP_STAT_STATE p) = 1 ∧ t.fld (F.TRL_BRUP_STAT_NODES p) = 0 ∧ t.awaits p .query = true ∧
      t.data = s.data ∧ t.herds = s.herds) ∧
  -- quorumLimit: a limit is set, it has not been noted, the quorum is not met and members are absent (R322)
  (∀ s : State, s.start.phase = .run → s.fld F.GLB_QUORUM_CFG_QUORUM_MS ≠ 0 →
    s.flag F.GLB_START_STAT_QUORUM_LATE = false → s.modes.quorum = false →
    (s.quorumSet.filter fun o => !s.memberPresent o) ≠ [] →
    exec .quorumLimit s = .next ((s.setFlag F.GLB_START_STAT_QUORUM_LATE true).log 322 noSrc
      (det 2 (s.quorumSet.filter fun o => !s.memberPresent o).length)))

/-- Device time (R43, R44, R46, R48). Completes timeIncHiWrite, timeAdjHiWrite, timeAdjApply, deviceSecond, aonRcSecond,
alarmArm and alarmDisarm. A high-word write of TIME_INC whose value is legal waits for the next cycle, any other sets INC_REJ
and is logged; one of TIME_ADJ waits and reads BUSY, and while one waits another sets ADJ_REJ and is logged; the adjustment
moves device time by its signed value, clears BUSY and sets SYNCED; a whole second of device time loads the always-on
counter, publishes and restarts the 10 MHz count, and starts the PPS_OUT pulse where its width is not 0; with the core off
an RC second advances the counter by one, and changes nothing else where no alarm is due; ARM takes the alarm time and arms,
DISARM disarms, and each clears FIRED where its write says so. `r` is the state in which the access has arrived. Where the
spec leaves a point open, the clauses follow the model's choices of log entry 13. -/
def Obligations.DeviceTime : Prop :=
  -- timeIncHiWrite: the write reaches the register (R46)
  (∀ (s r : State) (p : Path) (v : Word), s.Admits p A.TIME_INC_HI false → r = s.reached p →
    (incOk (fldGet v 0 8 * 2 ^ 32 + s.time.incLo.toNat) = true →
      exec (.timeIncHiWrite p v) s = .next { r with
        time := { s.time with incNext := some (fldGet v 0 8 * 2 ^ 32 + s.time.incLo.toNat) } }) ∧
    (incOk (fldGet v 0 8 * 2 ^ 32 + s.time.incLo.toNat) = false →
      exec (.timeIncHiWrite p v) s = .next ((r.setFlag F.TIME_STAT_INC_REJ true).log 46 noSrc []))) ∧
  -- timeAdjHiWrite: the write reaches the register (R48)
  (∀ (s r : State) (p : Path) (v : Word), s.Admits p A.TIME_ADJ_HI false → r = s.reached p →
    (s.time.adj = none → exec (.timeAdjHiWrite p v) s = .next (({ r with
      time := { s.time with adj := some (signed 64 (s.time.adjLo.toNat + 2 ^ 32 * v.toNat), 2) } } : State).setFlag
        F.TIME_STAT_ADJ_BUSY true)) ∧
    (s.time.adj ≠ none → exec (.timeAdjHiWrite p v) s = .next ((r.setFlag F.TIME_STAT_ADJ_REJ true).log 48 noSrc []))) ∧
  -- timeAdjApply: the hub runs and an adjustment waits (R48)
  (∀ (s : State) (a : Int × Nat), s.start.phase = .run → s.time.adj = some a →
    ∃ t, exec .timeAdjApply s = .next t ∧ t.time.tu = (((s.time.tu : Int) + a.1) % (tuMod : Int)).toNat ∧ t.time.adj = none ∧
      t.flag F.TIME_STAT_ADJ_BUSY = false ∧ t.flag F.TIME_STAT_SYNCED = true ∧ t.aon = s.aon ∧ t.herds = s.herds) ∧
  -- deviceSecond: the hub runs (R44, R56)
  (∀ s : State, s.start.phase = .run →
    ∃ t, exec .deviceSecond s = .next t ∧ t.aon.sec = (s.now / tuPerSec + 1) % 2 ^ 48 ∧
      t.reg A.TIME_REF10M_CNT = BitVec.ofNat 32 s.time.ref10m ∧ t.time.ref10m = 0 ∧
      (s.fld F.TIME_PPS_CFG_OUT_MS ≠ 0 → t.time.ppsOut =
        some ((s.now / tuPerSec + 1) * tuPerSec + min 500 (s.fld F.TIME_PPS_CFG_OUT_MS) * 16000000)) ∧
      t.data = s.data ∧ t.herds = s.herds ∧ t.link = s.link) ∧
  -- aonRcSecond: the core is off (R44)
  (∀ (s u : State), s.start.phase = .standby ∨ s.start.phase = .wait →
    u = { s with aon := { s.aon with sec := (s.aon.sec + 1) % 2 ^ 48 } } →
    ∃ t, exec .aonRcSecond s = .next t ∧ t.aon.sec = (s.aon.sec + 1) % 2 ^ 48 ∧ (u.alarmDue = false → t = u)) ∧
  -- alarmArm, alarmDisarm: the write reaches the register (R44)
  (∀ (s r : State) (p : Path) (v : Word), s.Admits p A.GLB_AON_ALARM_CTRL false → r = s.reached p →
    (bitOn v 3 = false → exec (.alarmArm p v) s = .next { r with
      aon := { s.aon with armed := true, alarm := r.pair A.GLB_AON_ALARM_LO 16, fired := s.aon.fired && !bitOn v 2 } }) ∧
    (bitOn v 0 = false → exec (.alarmDisarm p v) s = .next { r with
      aon := { s.aon with armed := false, fired := s.aon.fired && !bitOn v 2 } }))

/-- Compare units (R49–R52). Completes timeCmpTgtHiWrite, cmpArm, cmpModeOff, cmpMatch and cmpPulseEnd. The high word of the
target is stored, and in modes 1 and 2 arms the unit; ARM arms it; arming takes the target that lies ahead, refuses one that
is past or whose period is under 1,600 TU with PAST and an event, and in mode 3 takes the first tick target; MODE 0
disarms; a match moves device time to the target, fires, and in mode 1 disarms, in mode 2 goes on by the period, in mode 3
by the ticks; a pulse's end drives the pin to its idle level. `r` is the state in which the access has arrived, `u` that
with the register written and the pin following it. -/
def Obligations.CompareUnits : Prop :=
  -- timeCmpTgtHiWrite: the write reaches the register; a reserved unit is image-owned (R49, R50)
  (∀ (s u : State) (p : Path) (n : Fin 64) (v : Word), s.Admits p (A.TIME_CMP_TGT_HI n) (s.cmpReserved n) →
    u = (s.reached p).plainWrite (A.TIME_CMP_TGT_HI n) v →
    (u.fld (F.TIME_CMP_CTRL_MODE n) = 1 ∨ u.fld (F.TIME_CMP_CTRL_MODE n) = 2 →
      exec (.timeCmpTgtHiWrite p n v) s = .next (u.cmpArm n)) ∧
    (u.fld (F.TIME_CMP_CTRL_MODE n) = 0 ∨ u.fld (F.TIME_CMP_CTRL_MODE n) = 3 →
      exec (.timeCmpTgtHiWrite p n v) s = .next u)) ∧
  -- cmpArm, cmpModeOff: the write reaches the register (R49, R50)
  (∀ (s r u : State) (p : Path) (n : Fin 64) (v : Word), s.Admits p (A.TIME_CMP_CTRL n) (s.cmpReserved n) → r = s.reached p →
    (u = (r.plainWrite (A.TIME_CMP_CTRL n) (v ||| 0x10000#32)).pinFollow n (r.pinIdle n) → u.fld (F.TIME_CMP_CTRL_MODE n) ≠ 0 →
      exec (.cmpArm p n v) s = .next (u.cmpArm n)) ∧
    (u = (r.plainWrite (A.TIME_CMP_CTRL n) (v &&& 0xFFFFFFFC#32)).pinFollow n (r.pinIdle n) →
      exec (.cmpModeOff p n v) s = .next (u.setCmp n none))) ∧
  (∀ (s : State) (n : Nat), (s.setCmp n none).cmpTarget n = none ∧ (s.setCmp n none).flag (F.TIME_CMP_STAT_ARMED n) = false) ∧
  -- what arming does
  (∀ (s : State) (n : Nat) (d : Int), d = sdiff (s.pair (A.TIME_CMP_TGT_LO n) 16) (st48 s.now) →
    s.fld (F.TIME_CMP_CTRL_MODE n) = 1 ∨ s.fld (F.TIME_CMP_CTRL_MODE n) = 2 →
    (0 < d → (s.fld (F.TIME_CMP_CTRL_MODE n) = 2 → 1600 ≤ s.cmpPeriod n) →
      s.cmpArm n = s.setCmp n (some ⟨s.now + d.toNat, 0⟩)) ∧
    (d ≤ 0 ∨ s.fld (F.TIME_CMP_CTRL_MODE n) = 2 ∧ s.cmpPeriod n < 1600 →
      s.cmpArm n = ((s.setCmp n none).setFlag (F.TIME_CMP_STAT_PAST n) true).log 50 n [])) ∧
  (∀ (s : State) (n : Nat), s.fld (F.TIME_CMP_CTRL_MODE n) = 3 → s.cmpArm n = s.setCmp n (s.cmpTickFirst n s.now)) ∧
  -- cmpMatch: the hub runs and the unit is armed (R51)
  (∀ (s u : State) (n : Fin 64) (c : CmpTarget), s.start.phase = .run → s.cmpTarget n = some c →
    u = (s.advance c.target).cmpFire n c.target →
    exec (.cmpMatch n) s = .next ((u.cmpNext n c.target c.target).paceMoves) ∧ u.flag (F.TIME_CMP_STAT_FIRED n) = true) ∧
  (∀ (s : State) (n t : Nat),
    (s.fld (F.TIME_CMP_CTRL_MODE n) = 1 → s.cmpNext n t t = s.setCmp n none) ∧
    (s.fld (F.TIME_CMP_CTRL_MODE n) = 2 → 0 < s.cmpPeriod n → s.cmpNext n t t = s.setCmp n (some ⟨t + s.cmpPeriod n, 0⟩)) ∧
    (s.fld (F.TIME_CMP_CTRL_MODE n) = 3 → s.cmpNext n t t = s.setCmp n (s.cmpTickFirst n t))) ∧
  -- cmpPulseEnd: the hub runs and a pulse is active (R52)
  (∀ (s : State) (n : Fin 64) (t : Nat), s.start.phase = .run → tblOpt s.time.pulseEnd n = some t →
    exec (.cmpPulseEnd n) s = .next (({ s.advance t with
      time := { (s.advance t).time with pulseEnd := tblPut s.time.pulseEnd n none } } : State).drivePin n (s.pinIdle n) t))

/-- Captures and reads (R7, R9, R55, R56). Completes captEdge, timeCaptFifoLoRead, ppsInEdge, lowWordRead and counterRead. An
edge of a selected kind whose level is held as long as the filter asks is stored with its time in a FIFO that has room, and
counted lost in a full one; the FIFO's low word answers the oldest entry, takes it out and latches its high word, and an
empty FIFO answers 0; a PPS edge is captured; a read of a register's low word answers it and latches the high word for its
path; a read of a register of one word answers it; a read of fewer bytes answers those bytes alone. `u` is the state in which
the access has arrived, with the register's suppressed events released. Where the spec leaves a point open, the clauses
follow the model's choices of log entries 94 and 186. -/
def Obligations.CapturesAndLatches : Prop :=
  -- captEdge: the hub runs, the edge is selected, the level is held long enough and no short level came before (R55)
  (∀ (s : State) (n : Fin 32) (falling : Bool) (sub : Fin 16) (held : Nat), s.start.phase = .run → n.val ∉ s.time.captShort →
    (s.fld (F.TIME_CAPT_CFG_FILT n) = 0 → 32 ≤ held) → 64 * s.fld (F.TIME_CAPT_CFG_FILT n) ≤ held →
    s.fld (F.TIME_CAPT_CFG_EDGE n) = (if falling then 2 else 1) ∨ s.fld (F.TIME_CAPT_CFG_EDGE n) = 3 →
    ((s.captFifo n).length < 8 → ∃ t, exec (.captEdge n falling sub held) s = .next t ∧
      t.captFifo n = s.captFifo n ++ [⟨st48 (s.now + sub), falling⟩] ∧ t.data = s.data ∧ t.herds = s.herds) ∧
    (8 ≤ (s.captFifo n).length → exec (.captEdge n falling sub held) s = .next (s.count31 (A.TIME_CAPT_LOST n) 1))) ∧
  -- timeCaptFifoLoRead: the read reaches the register (R7, R55)
  (∀ (s u : State) (p : Path) (n : Fin 32), s.AdmitsRead p (A.TIME_CAPT_FIFO_LO n) → u = s.reached p →
    (∀ (e : CaptEnt) (q : List CaptEnt), s.captFifo n = e :: q →
      exec (.timeCaptFifoLoRead p n) s = .next (((u.setCapt n q).latchHi p (A.TIME_CAPT_FIFO_HI n)
        (captHi e q.length)).answer p (BitVec.ofNat 32 e.ts))) ∧
    (s.captFifo n = [] →
      exec (.timeCaptFifoLoRead p n) s = .next ((u.latchHi p (A.TIME_CAPT_FIFO_HI n) 0#32).answer p 0#32))) ∧
  -- ppsInEdge: the hub runs (R56)
  (∀ (s : State) (sub : Fin 16), s.start.phase = .run →
    exec (.ppsInEdge sub) s = .next (({ s with time := { s.time with ppsIn := some (s.now + sub) } } : State).setPair
      A.TIME_PPS_CAP_LO 16 (st48 (s.now + sub)))) ∧
  -- lowWordRead: the read reaches the low word of a register of two words (R7)
  (∀ (s u : State) (p : Path) (a : BitVec 26) (r : RegRow) (ix : List Nat), s.mode ≠ 6 → s.AdmitsRead p (wordAddr a) →
    inTbl (wordAddr a) 4 = false → rowAt (wordAddr a) = some (r, ix) → r.half = .lo →
    r.tag ∉ [RegTag.captFifo, .recWindow, .timeNow, .ptmSet, .lstStat] → u = (s.reached p).unsuppress (wordAddr a) →
    ∃ t, exec (.lowWordRead p a 15 [] .none) s = .next t ∧
      t.sent = u.sent ++ [.readData p (u.readNow p (wordAddr a) r ix)] ∧
      t.latched p (wordAddr a + 4) = u.readAt p (wordAddr a + 4) ∧ t.regs = u.regs ∧ t.data = s.data ∧ t.time = s.time) ∧
  -- counterRead: the read reaches a register of one word (R7, R9)
  (∀ (s u : State) (p : Path) (a : BitVec 26) (be : BitVec 4) (r : RegRow) (ix : List Nat), s.mode ≠ 6 →
    s.AdmitsRead p (wordAddr a) → inTbl (wordAddr a) 4 = false → rowAt (wordAddr a) = some (r, ix) → r.half = .none →
    r.tag ∉ [RegTag.captFifo, .recWindow, .timeNow, .ptmSet, .lstStat] → u = (s.reached p).unsuppress (wordAddr a) →
    ∃ t, exec (.counterRead p a be [] .none) s = .next t ∧
      t.sent = u.sent ++ [if be = 15#4 then .readData p (u.readNow p (wordAddr a) r ix)
        else .readPart p be (u.readNow p (wordAddr a) r ix &&& beMask be.toNat) false] ∧
      t.regs = u.regs ∧ t.data = s.data ∧ t.time = s.time)

/-- PTM and delay rounds (R57–R60). Completes ptmGo, ptmPeriod, ptmResponse, ptmTimeout, timeRoundDue, timeReply and
timeReplyTimeout. GO and the period start a measurement, with PTM enabled and none in progress, by the first of its two
requests; the first response brings the round trip and the second request; the second brings the master time, and t1, the
master time and the delay of the first round trip are published with SEQ; a timeout is an event; a due round of a present
node sends its first request; a reply to the attempt that waits is one more round trip, the eighth publishes the delay; a
lost reply is asked again up to attempt 32, and the round then fails. `u` is the state in which the register is written.
Where the spec leaves a point open, the clauses follow the model's choices of log entries 3 and 192. -/
def Obligations.PtmAndRounds : Prop :=
  -- ptmGo: the write reaches the register, PTM is enabled and no measurement is in progress (R57)
  (∀ (s u : State) (p : Path) (v : Word), s.Admits p A.TIME_PTM_CTRL false →
    u = (s.reached p).plainWrite A.TIME_PTM_CTRL (v ||| 0x10000#32) → s.ep.ptmEn = true → s.fld F.TIME_PTM_STAT_STATE ≠ 1 →
    exec (.ptmGo p v) s = .next (({ (u.setFld F.TIME_PTM_STAT_STATE 1).setFlag F.TIME_PTM_STAT_DISABLED false with
      time := { s.time with ptmT1 := some (st48 s.now), ptmRtt := none } } : State).emit .ptmRequest)) ∧
  -- ptmPeriod: the hub runs, a period is set, PTM is enabled and no measurement is in progress (R57)
  (∀ s : State, s.start.phase = .run → s.fld F.TIME_PTM_CTRL_PERIOD_MS ≠ 0 → s.ep.ptmEn = true →
    s.fld F.TIME_PTM_STAT_STATE ≠ 1 →
    exec .ptmPeriod s = .next (({ (s.setFld F.TIME_PTM_STAT_STATE 1).setFlag F.TIME_PTM_STAT_DISABLED false with
      time := { s.time with ptmT1 := some (st48 s.now), ptmRtt := none } } : State).emit .ptmRequest)) ∧
  -- ptmResponse: a measurement is in progress (R57)
  (∀ (s : State) (rtt turn : Nat) (m : BitVec 64) (t1 : Nat), s.start.phase = .run → s.time.ptmT1 = some t1 →
    s.fld F.TIME_PTM_STAT_STATE = 1 →
    (s.time.ptmRtt = none → exec (.ptmResponse rtt turn m) s =
      .next (({ s with time := { s.time with ptmRtt := some rtt } } : State).emit .ptmRequest)) ∧
    (∀ first, s.time.ptmRtt = some first → ∃ t, exec (.ptmResponse rtt turn m) s = .next t ∧
      t.reg A.TIME_PTM_DELAY = BitVec.ofInt 32 (divRound ((first : Int) - 16 * turn) 2) ∧
      t.reg A.TIME_PTM_T1_LO = BitVec.ofNat 32 t1 ∧ t.reg A.TIME_PTM_MASTER_LO = BitVec.ofNat 32 m.toNat ∧
      t.fld F.TIME_PTM_STAT_STATE = 2 ∧ t.fld F.TIME_PTM_STAT_SEQ = (s.fld F.TIME_PTM_STAT_SEQ + 1) % 2 ^ F.TIME_PTM_STAT_SEQ.w ∧
      t.time = { s.time with ptmT1 := none, ptmRtt := none } ∧ t.data = s.data)) ∧
  -- ptmTimeout: a measurement is in progress (R57)
  (∀ s : State, s.start.phase = .run → s.fld F.TIME_PTM_STAT_STATE = 1 →
    exec .ptmTimeout s = .next ((({ (s.setFld F.TIME_PTM_STAT_STATE 3).setFlag F.TIME_PTM_STAT_DISABLED false with
      time := { s.time with ptmT1 := none, ptmRtt := none } } : State).log 57 noSrc []).raiseIrq 289)) ∧
  -- timeRoundDue: the hub runs, the node is present and no round of it is in progress (R58)
  (∀ (s : State) (na : Fin 512), s.Runs → s.flag (F.NODE_ENT_PRESENT na) = true → s.round na = none →
    exec (.timeRoundDue na) s = .next ((({ s with time := { s.time with due := s.time.due.filter (· != na.val) } } : State).setRound
      na (some ⟨1, [], none⟩)).timeReq na 1)) ∧
  -- timeReply: the attempt with this SEQ waits (R58, R59)
  (∀ (s : State) (na : Fin 512) (seq : Byte) (ta : BitVec 32) (age : Nat) (r : DelayRound) (t1 : Nat), s.Runs →
    s.round na = some r → r.t1 = some t1 → r.attempts = seq.toNat → r.attempts < 32 →
    (r.trips.length < 7 → ∃ t, exec (.timeReply na seq ta age) s = .next t ∧
      t.round na = some ⟨r.attempts + 1, r.trips ++ [((s.now : Int) - age) - t1 - ta.toInt], none⟩ ∧ t.regs = s.regs ∧
      t.sent = s.sent) ∧
    (r.trips.length = 7 → ∃ t, exec (.timeReply na seq ta age) s = .next t ∧ t.flag (F.TIME_NODE_DLY_VALID na) = true ∧
      t.fld (F.TIME_NODE_DLY_DLY na) = s.roundDelay na (r.trips ++ [((s.now : Int) - age) - t1 - ta.toInt]) ∧
      t.data = s.data)) ∧
  -- timeReplyTimeout: a round waits for a reply (R59, R60)
  (∀ (s : State) (na : Fin 512) (r : DelayRound), s.Runs → s.round na = some r → r.trips.length < 8 →
    (r.attempts < 32 → exec (.timeReplyTimeout na) s = .next ((s.setRound na
      (some { r with attempts := r.attempts + 1, t1 := none })).timeReq na (r.attempts + 1))) ∧
    (32 ≤ r.attempts → exec (.timeReplyTimeout na) s = .next (s.failRound na)))

/-- Blocks and bands (R70, R71, R76, R78, R79, R85, R98, R449). Completes blockTransmit, blockReceive, huntTimeout and
dieTempSample. A slot's block is sent; the first of an interval is SYNC, which takes the next INTERVAL and is put on the
line; received bits are taken in order, the bit after 24 equal ones is removed and counted, or counted as a violation where
it is equal too; a hunt that finds no lock sets HUNT_TO and is logged, and takes a hop that stands at step 0 down, unassigns
a camera port in the sensor-end role, and on a lane leaves the rest to the 10 ms without lock; a die temperature sets the
bands of its quadrant with their hysteresis and notes 128 °C; one held above 135 °C takes the rails down, and after a rail
fault in the same millisecond makes the wait 10 s. Where the spec leaves a point open, the clauses follow the model's choices
of log entries 18, 160, 166 and 207. -/
def Obligations.BlocksAndBands : Prop :=
  -- blockTransmit: the hub runs, the port is on and its transmitter is not stopped (R70)
  (∀ (s : State) (p : Fin 80), s.start.phase = .run → s.portOn p = true → (s.port p).stopped = false →
    exec (.blockTransmit p) s = .next (s.transmit p) ∧
    ((s.tx p).blk = 0 → (s.port p).loop = none → ((s.transmit p).tx p).blk = 1 ∧
      ((s.transmit p).tx p).interval = ((s.tx p).interval + 1) % 65536 ∧
      ∃ bits, (s.transmit p).sent.getLast? = some (.line p bits))) ∧
  -- blockReceive: the hub runs, the port is on and does not receive its own stream (R70, R89)
  (∀ (s : State) (p : Fin 80) (bits : List Bool), s.start.phase = .run → s.portOn p = true → s.nearLoop p = 0 →
    exec (.blockReceive p bits) s = .next (bits.foldl (fun s b => s.rxBit p b) s)) ∧
  (∀ (s : State) (p : Nat) (b : Bool), (s.rx p).run = 24 →
    (b ≠ (s.rx p).last → s.rxBit p b = (s.setRx p { s.rx p with run := 1, last := b }).count48 (A.TRL_STUFF_CNT_LO p) 1) ∧
    (b = (s.rx p).last → s.rxBit p b =
      (s.setRx p { s.rx p with run := 1, last := b, viol := true }).count31 (A.TRL_STUFF_VIOL p) 1)) ∧
  -- huntTimeout: the port is on and has no lock (R79, R98, R103)
  (∀ (s u : State) (p : Fin 80), s.Runs → s.portOn p = true → s.flag (F.TRL_STAT_LOCK p) = false →
    u = (s.setFlag (F.TRL_STAT_HUNT_TO p) true).log 79 p [] →
    (s.sensorEnd p = false → s.hopUp p 0 = false ∨ s.fld (F.TRL_STAT_STEP p) ≠ 0 → exec (.huntTimeout p) s = .next u) ∧
    (s.sensorEnd p = false → s.hopUp p 0 = true → s.fld (F.TRL_STAT_STEP p) = 0 → exec (.huntTimeout p) s = .next
      ((u.setPort p { u.port p with waits := (u.port p).waits.filter fun w => w.what != .commit && w.what != .revert }).hopDown
        p 0 6)) ∧
    (s.sensorEnd p = true → exec (.huntTimeout p) s = .next (if isLane p then u.lockAge p else u.unassign p))) ∧
  -- dieTempSample: the core is powered (R85, R449)
  (∀ (s : State) (q : Fin 4) (t : Int) (held : Bool), s.core = true → held = false ∨ t ≤ 135 →
    ∃ u, exec (.dieTempSample q t held) s = .next u ∧ u.link.dieTemp = tblPut s.link.dieTemp q (some t) ∧
      u.link.dieHot = (if 128 ≤ t then setIns q s.link.dieHot else s.link.dieHot.filter (· != q.val)) ∧
      u.start = s.start ∧ u.pending = s.pending) ∧
  (∀ (s : State) (q : Fin 4) (t : Int), s.core = true → 135 < t →
    ∃ u, exec (.dieTempSample q t true) s = .next u ∧ u.start.phase = .wait ∧ u.start.railsUp = 0 ∧ u.start.waitFor = 2 ∧
      u.pending = s.pending) ∧
  (∀ (s : State) (q : Fin 4) (t : Int), s.start.phase = .wait → s.start.waitFor = 1 → 135 < t →
    ∃ u, exec (.dieTempSample q t true) s = .next u ∧ u.start = { s.start with waitFor := 2 } ∧ u.regs = s.regs) ∧
  (∀ c : Int, (nextBand 0 c = 0 ↔ c < 20) ∧ (nextBand 2 c = 2 ↔ 75 ≤ c) ∧ (nextBand 1 c = 1 ↔ 15 ≤ c ∧ c < 80))

/-- Eye scans and test loops (R88, R89, R90, R119). Completes eyeScanGo, eyePointDone, loopNearEndSerial, loopNearEndParallel,
loopFarEnd and loopEnd. GO, where no scan is busy, clears the 128 rows and starts the scan of a locked receiver, or reads
ABORTED for one without lock; a point's count is stored with its valid and saturation bits, and the 128th ends the scan; a
near-end loop that is not refused takes the port's nodes and traffic away and runs at its step with STATE 1; a far-end loop
that is not refused sends TRAIN LOOP_REQ; a refused loop reads STATE 2 and is an event; LOOP 0 ends what runs. `r` is the
state in which the access has arrived. Where the spec leaves a point open, the clauses follow the model's choices of log
entries 25, 77 and 78. -/
def Obligations.EyesAndLoops : Prop :=
  -- eyeScanGo: the write reaches the image-owned register, in Service, and no scan is busy (R88)
  (∀ (s : State) (p : Path) (n : Fin 80) (v : Word), s.Admits p (A.TRL_EYE_CTRL n) true → s.fld (F.TRL_EYE_STAT_STATE n) ≠ 1 →
    ∃ t, exec (.eyeScanGo p n v) s = .next t ∧ t.fld (F.TRL_EYE_STAT_PH_NEXT n) = 0 ∧
      t.fld (F.TRL_EYE_STAT_STATE n) = (if s.flag (F.TRL_STAT_LOCK n) = true then 1 else 3) ∧
      (∀ i, i < 128 → t.reg (A.TRL_EYE_ROW n i) = 0#32) ∧ t.link = s.link ∧ t.data = s.data ∧ t.time = s.time) ∧
  -- eyePointDone: a scan is busy (R88)
  (∀ (s : State) (n : Fin 80) (m : Nat), s.start.phase = .run → s.fld (F.TRL_EYE_STAT_STATE n) = 1 →
    ∃ t, exec (.eyePointDone n m) s = .next t ∧
      t.fld (F.TRL_EYE_STAT_STATE n) = (if s.fld (F.TRL_EYE_STAT_PH_NEXT n) = 127 then 2 else 1) ∧
      t.fld (F.TRL_EYE_STAT_PH_NEXT n) = (s.fld (F.TRL_EYE_STAT_PH_NEXT n) + 1) % 2 ^ (F.TRL_EYE_STAT_PH_NEXT n).w ∧
      t.reg (A.TRL_EYE_ROW n (s.fld (F.TRL_EYE_STAT_PH_NEXT n))) =
        BitVec.ofNat 32 (min m 65535 + 2 ^ 16 + (if m > 65535 then 2 ^ 17 else 0)) ∧ t.link = s.link ∧ t.sent = s.sent) ∧
  -- the loops: the write reaches the image-owned register, in Service, and is not refused (R90)
  (∀ (s r u : State) (p : Path) (n : Fin 80) (v w : Word), s.Admits p (A.TRL_TEST n) true → r = s.reached p →
    u = r.plainWrite (A.TRL_TEST n) w →
    (u.loopRefused n = false →
      (w = v &&& ~~~ 3#32 ||| 1#32 → exec (.loopNearEndSerial p n v) s = .next (u.loopNear n)) ∧
      (w = v &&& ~~~ 3#32 ||| 2#32 → exec (.loopNearEndParallel p n v) s = .next (u.loopNear n)) ∧
      (w = v ||| 3#32 → exec (.loopFarEnd p n v) s = .next (u.loopFar n))) ∧
    (u.loopRefused n = true → w = v ||| 3#32 →
      exec (.loopFarEnd p n v) s = .next ((u.setFld (F.TRL_TEST_STAT_STATE n) 2).log 90 n [])) ∧
    (w = v &&& ~~~ 3#32 → exec (.loopEnd p n v) s = .next ((r.loopOff n).plainWrite (A.TRL_TEST n) w))) ∧
  (∀ (s : State) (p : Nat), (s.loopNear p).fld (F.TRL_TEST_STAT_STATE p) = 1 ∧ (s.loopNear p).flag (F.TRL_STAT_LOOP p) = true ∧
    ((s.loopNear p).tx p).queue = []) ∧
  (∀ (s : State) (p : Fin 64), ((s.loopFar p).tx p).queue = (s.tx p).queue ++
    [(true, ctlBlock 0x09 (s.fld (F.TRL_TEST_LOOP_POS p)) (leBytes 1 2))]) ∧
  (∀ (s : State) (p : Nat) (l : LoopSt), (s.port p).loop = some l → s.loopOff p = s.loopStop p l)

/-- Bring-up answers (R94, R98, R99, R101, R102, R119). Completes caps, ack and answerLate. The CAPS a port waits for are
recorded and the node's assignment is sent, on a trunk lane with a fresh address; CAPS of another revision fail with cause 7
and are an event; an ACK of ASSIGN places the node, one of EXTEND goes on to the next, one of CUT ends the wait, one of POLL
clears the count of unanswered polls, one of LOOP_REQ starts or refuses the loop, one of COMMIT runs it, one of REVERT ends
the training; a late answer is asked again, at most three times, and then fails. Where the spec leaves a point open, the
clauses follow the model's choices of log entries 22, 163 and 191. -/
def Obligations.BringUpAnswers : Prop :=
  -- caps: the port waits for them (R98, R99)
  (∀ (s u : State) (p : Fin 80) (c : Caps) (na cap : Nat), s.Runs → s.awaits p .query = true → u = s.answered p .query →
    na = nodeAddr p (u.port p).pos → cap = min (u.portCap p) c.maxStep.toNat →
    (isLane p = false → c.rev = 0x21#8 → exec (.caps p c) s = .next
      (let t := (u.recordCaps p (u.port p).pos c).noEntries na c.vcMask.toNat
       t.ask p .assign 0x07 addrAll (t.assignBody p (u.port p).pos na c cap))) ∧
    (isLane p = true → c.rev = 0x21#8 → exec (.caps p c) s = .next
      (let t := (u.ask p .assign 0x07 addrAll (u.assignBody p (u.port p).pos (u.free 9) c cap)).drawn
       t.setPort p { t.port p with
         peer := if (u.port p).pos = 0 then some (c.uid.toNat, u.free 9) else (t.port p).peer
         nas := tblPut (t.port p).nas (u.port p).pos (some (u.free 9, u.segLen p c)) })) ∧
    (c.rev ≠ 0x21#8 → exec (.caps p c) s = .next
      (((u.brupFail p (u.port p).pos 7).log 99 (if isLane p then p.val else na) []).chainDone p))) ∧
  -- ack: the port waits for it (R94, R98, R101, R102, R107, R119)
  (∀ (s : State) (p : Fin 80) (pos : Fin 8) (a : AckBlock), s.Runs →
    (a.type = 0x07 → a.sub = 1 → s.awaits p .assign = true →
      exec (.ack p pos a) s = .next (if a.status = 0 then (s.answered p .assign).assigned p
        else (s.answered p .assign).chainDone p)) ∧
    (a.type = 0x07 → a.sub = 2 → s.awaits p .extend = true →
      exec (.ack p pos a) s = .next ((s.answered p .extend).extended p (a.status = 0))) ∧
    (a.type = 0x07 → a.sub = 3 → s.awaits p .cut = true → exec (.ack p pos a) s = .next (s.answered p .cut)) ∧
    (a.type = 0x07 → a.sub = 5 → exec (.ack p pos a) s = .next
      (s.setPort p { s.port p with polls := tblPut (s.port p).polls pos none })) ∧
    (∀ l, a.type = 0x09 → a.sub = 2 → (s.port p).loop = some l → l.asked = true → l.pos = pos.val →
      exec (.ack p pos a) s = .next (s.loopAnswer p l (a.status = 0))) ∧
    (a.type = 0x0A → a.sub = 1 → s.awaits p .commit = true → exec (.ack p pos a) s = .next ((s.answered p .commit).loopRun p)) ∧
    (a.type = 0x0A → a.sub = 2 → s.awaits p .revert = true →
      exec (.ack p pos a) s = .next ((s.answered p .revert).reverted p 1))) ∧
  (∀ (s : State) (p : Fin 64), ((s.assigned p).flag (F.NODE_ENT_PRESENT (nodeAddr p (s.port p).pos)) = true)) ∧
  -- answerLate: the port waits for an answer (R94)
  (∀ (s : State) (p : Fin 80) (k : Nat) (w : Waiting), s.Runs → (s.port p).waits[k]? = some w → w.resends < 3 →
    ∃ t, exec (.answerLate p k) s = .next t ∧
      (t.tx p).queue = (s.tx p).queue ++ w.blocks.map (fun b => (true, b)) ∧
      (t.port p).waits = (s.port p).waits.map (fun v => if v = w then { w with resends := w.resends + 1 } else v) ∧
      t.regs = s.regs ∧ t.sent = s.sent) ∧
  (∀ (s : State) (p : Fin 80) (k : Nat) (w : Waiting), s.Runs → (s.port p).waits[k]? = some w → w.resends = 3 →
    (∀ n, w.what ≠ .keyHello n ∧ w.what ≠ .keyFinish n) → exec (.answerLate p k) s = .next (s.askFailed p w.what))

/-- Pronking (R101, R102, R103). Completes hopStepSwitch, trainPattern, trainPeriodEnd, trainResult, pronkSwitchTimeout and
glitchWindowExpire. At the switch the hub end trains at the new step with nothing seen yet, and the sensor end that a RATE
SWITCH is set for trains; a pattern's counter is kept, and one out of order spoils the period; the period's end is the hub's
own result of hop 0, passed where nothing was spoilt, lock and scrambler held and no error was counted; a result of the
asked step is taken once for each hop that pronks, the first that fails sends RATE REVERT, and the last that passes RATE
COMMIT; a switch not answered in time is a failed pronk on a lane, counted once, and puts the sensor end back; a glitch that
lasts is cause 3 and is retrained. Where the spec leaves a point open, the clauses follow the model's choices of log entry
3. -/
def Obligations.Pronking : Prop :=
  -- hopStepSwitch: a pronk of the hub end, or a switch of the sensor end, waits for its SYNC (R101)
  (∀ (s : State) (p : Fin 80) (k : Pronk), s.start.phase = .run → s.sensorEnd p = false → (s.port p).pronk = some k →
    k.switched = false →
    ∃ t, exec (.hopStepSwitch p) s = .next t ∧
      (t.port p).pronk = some { k with switched := true, lastCtr := none, bad := false, errs0 := none } ∧ t.sent = s.sent) ∧
  (∀ (s : State) (p : Fin 80) (x : Nat × Nat), s.start.phase = .run → s.sensorEnd p = true → (s.sensor p).sched = some x →
    ∃ t, exec (.hopStepSwitch p) s = .next t ∧ (t.sensor p).training = true ∧ (t.sensor p).sched = none ∧ t.sent = s.sent) ∧
  -- trainPattern: a pronk has switched and the scrambler is in step (R101)
  (∀ (s : State) (p : Fin 80) (ctr : BitVec 32) (k : Pronk), s.start.phase = .run → (s.port p).pronk = some k →
    k.switched = true → s.flag (F.TRL_STAT_SCR_SYNC p) = true →
    exec (.trainPattern p ctr) s = .next (s.setPort p { s.port p with pronk := some { k with
      lastCtr := some ctr.toNat
      bad := k.bad || match k.lastCtr with | some c => decide (ctr.toNat ≠ (c + 1) % 2 ^ 32) | none => false } })) ∧
  -- trainPeriodEnd, trainResult: a pronk runs (R101)
  (∀ (s : State) (p : Fin 80) (k : Pronk), s.Runs → (s.port p).pronk = some k →
    exec (.trainPeriodEnd p) s = .next (s.hopResult p 0
      (!k.bad && s.flag (F.TRL_STAT_LOCK p) && s.flag (F.TRL_STAT_SCR_SYNC p) && some (s.trainErrs p) == k.errs0)) ∧
    ∀ (hop : Fin 8) (pass : Bool), exec (.trainResult p hop k.goal pass) s = .next (s.hopResult p hop pass)) ∧
  (∀ (s : State) (p hop : Nat) (pass : Bool) (k : Pronk), (s.port p).pronk = some k → bitsOf k.hops hop 1 = 1 → hop ∉ k.seen →
    k.switched = true → k.failed = [] →
    s.hopResult p hop pass = (s.setPort p { s.port p with pronk := some { k with
      seen := setIns hop k.seen, failed := if pass then [] else [hop] } }).pronkSettle p) ∧
  (∀ (s : State) (p : Nat) (k : Pronk), (s.port p).pronk = some k →
    (k.failed ≠ [] → (s.pronkSettle p).awaits p .revert = true) ∧
    (k.failed = [] → hopMask k.seen = k.hops → (s.pronkSettle p).awaits p .commit = true)) ∧
  -- pronkSwitchTimeout: the switch of a lane, or the training of the sensor end, was not answered (R102)
  (∀ (s u : State) (p : Fin 80) (k : Pronk), s.Runs → s.sensorEnd p = false → isLane p = true → (s.port p).pronk = some k →
    k.switched = true → u = s.setPort p { s.port p with waits := [], pronk := some { k with failed := [0] } } →
    exec (.pronkSwitchTimeout p) s = .next ((if k.failed = [] then u.count31 (A.TRL_PRONK_FAIL p) 1 else u).reverted p 2)) ∧
  (∀ (s : State) (p : Fin 80), s.Runs → s.sensorEnd p = true → (s.sensor p).training = true →
    exec (.pronkSwitchTimeout p) s = .next (s.sensorBack p)) ∧
  -- glitchWindowExpire: the hop is up, has not come back, and no pronk runs (R103)
  (∀ (s : State) (p : Fin 80) (hop : Fin 8), s.Runs → s.hopUp p hop = true → (s.port p).pronk = none →
    hop.val ≠ 0 ∨ s.flag (F.TRL_STAT_LOCK p) = false ∨ s.flag (F.TRL_STAT_SCR_SYNC p) = false →
    exec (.glitchWindowExpire p hop) s = .next ((s.brupFail p hop 3).retrain p
      ((s.brupFail p hop 3).hopStep p hop) (2 ^ hop.val)))

/-- Timers of a chain (R94, R98, R103, R107, R108). Completes upHoldExpire, discPollTimer, reverseStopEnd and
rediscoveryTimer. The hold of a hop that fell ends, and bring-up goes on where no pronk runs; a poll is counted and sent,
and the fourth without an answer fails the poll; a stopped reverse transmitter starts again with SYNC and an empty queue;
discovery is tried again where it stopped, and a lane that does not discover starts its bring-up. Where the spec leaves a
point open, the clauses follow the model's choices of log entries 24 and 163. -/
def Obligations.ChainTimers : Prop :=
  -- upHoldExpire: the hop fell and a hold is set (R103)
  (∀ (s u : State) (p : Fin 80) (hop : Fin 8), s.Runs → hop.val ∈ (s.port p).fallen →
    s.fld (F.TRL_BRUP_CFG_UP_HOLD_S p) ≠ 0 →
    u = s.setPort p { s.port p with fallen := (s.port p).fallen.filter (· != hop.val) } →
    ((s.port p).pronk = none → exec (.upHoldExpire p hop) s = .next (u.bringUpNext p)) ∧
    ((s.port p).pronk ≠ none → exec (.upHoldExpire p hop) s = .next u)) ∧
  -- discPollTimer: the node is present, on a lane counted (R107)
  (∀ (s : State) (p : Fin 80) (pos : Fin 8), s.Runs →
    (isLane p = false → s.flag (F.NODE_ENT_PRESENT (nodeAddr p pos)) = true) →
    (isLane p = true → pos.val < s.fld (F.TRL_BRUP_STAT_NODES p)) →
    (tblGet zeroN (s.port p).polls pos < 3 → exec (.discPollTimer p pos) s = .next ((s.setPort p { s.port p with
      polls := tblPut (s.port p).polls pos (some (tblGet zeroN (s.port p).polls pos + 1)) }).sendCtl p 0x07 pos (leBytes 1 5))) ∧
    (3 ≤ tblGet zeroN (s.port p).polls pos → exec (.discPollTimer p pos) s = .next (s.pollFailed p pos))) ∧
  (∀ (s : State) (p pos : Nat), pos ≠ 0 →
    s.pollFailed p pos = ((s.brupFail p pos 4).ask p .cut 0x07 (pos - 1) (leBytes 1 3)).dropNodes p pos) ∧
  (∀ (s u : State) (p : Nat), u = s.brupFail p 0 4 →
    s.pollFailed p 0 = ((u.setPort p { u.port p with stopped := true }).dropNodes p 0).setBrup p 1) ∧
  -- reverseStopEnd: the hub runs and the transmitter is stopped (R108)
  (∀ (s : State) (p : Fin 80), s.start.phase = .run → (s.port p).stopped = true →
    exec (.reverseStopEnd p) s = .next ((s.setPort p { s.port p with stopped := false }).setTx p
      { s.tx p with blk := 0, queue := [], slot := s.now })) ∧
  -- rediscoveryTimer: discovery is to be tried again, and nothing of it waits for an answer (R98)
  (∀ (s : State) (p : Fin 80), s.Runs → (s.port p).redisc = true → (s.port p).stopped = false →
    s.awaits p .query = false → s.awaits p .extend = false →
    (s.discovers p = false → exec (.rediscoveryTimer p) s = .next (s.laneStart p)) ∧
    (s.discovers p = true → (s.port p).pos = 0 → exec (.rediscoveryTimer p) s = .next ((s.setBrup p 1).query p)) ∧
    (s.discovers p = true → (s.port p).pos ≠ 0 →
      exec (.rediscoveryTimer p) s = .next (s.ask p .extend 0x07 ((s.port p).pos - 1) (leBytes 1 2))))

/-- What nodes report (R97, R106, R118, R338, R369). Completes errDownLost, errTrigLate, errBusStuck, errOverflow, errTemp,
errUnknown, errSensor and errSession. A lost downstream link is cause 5 of the next hop and takes the nodes behind it away,
at the bring-up engine or, while firmware restarts, in the registers alone; a late trigger is counted; a stuck bus ends the
node's tunnel commands with result 5; an overflow adds its DETAIL to the node's count and is logged; a temperature and every
unknown code are logged; a failed sensor is logged and its stream muted, its frame ended; a session error takes the keys
away, and fails the session with reason 9. Where the spec leaves a point open, the clauses follow the model's choices of log
entries 3 and 164. -/
def Obligations.NodeReports : Prop :=
  -- errDownLost: the node is present and a hop lies behind it (R106, R118)
  (∀ (s : State) (p : Fin 64) (pos : Fin 8), s.start.phase = .run →
    s.flag (F.NODE_ENT_PRESENT (nodeAddr p pos)) = true → pos.val < 7 →
    exec (.errDownLost p pos) s = .next (if s.start.fwBusy then (s.brupFail p (pos + 1) 5).loseFrom p (pos + 1)
      else (s.brupFail p (pos + 1) 5).dropNodes p (pos + 1))) ∧
  -- errTrigLate, errBusStuck: the hub runs (R118, R369)
  (∀ (s : State) (p : Fin 64) (pos : Fin 8) (vc : Fin 4), s.start.phase = .run →
    exec (.errTrigLate p pos vc) s = .next { s with time := { s.time with
      missed := tblSet zeroN s.time.missed (nodeAddr p pos) (tblGet zeroN s.time.missed (nodeAddr p pos) + 1) } } ∧
    exec (.errBusStuck p pos) s = .next (s.tunEnd (nodeAddr p pos) 5)) ∧
  (∀ (s : State) (na result k : Nat), k < 64 → s.fld (F.TUN_STAT_STATE k) = 1 ∨ s.fld (F.TUN_STAT_STATE k) = 2 →
    s.tunNa k = na → (s.tunEnd na result).fld (F.TUN_STAT_STATE k) = 3) ∧
  -- errOverflow, errTemp, errUnknown: the hub runs (R97, R118)
  (∀ (s : State) (p : Fin 64) (pos : Fin 8) (d : BitVec 32), s.start.phase = .run →
    exec (.errOverflow (Fin.castLE (by decide) p) pos d) s = .next
      ((s.count31 (A.NODE_OVFL (nodeAddr p pos)) d.toNat).log 118 (nodeAddr p pos) []) ∧
    exec (.errTemp p pos d) s = .next (s.log 118 (nodeAddr p pos) (det 4 d.toNat)) ∧
    (∀ c : Byte, exec (.errUnknown p pos c d) s = .next (s.log 118 (nodeAddr p pos) []))) ∧
  (∀ (s : State) (p : Fin 80) (pos : Fin 8) (d : BitVec 32), s.start.phase = .run → isLane p = true →
    exec (.errOverflow p pos d) s = .next (s.log 118 p [])) ∧
  -- errSensor: the hub runs; `i` is the stream of that virtual channel, where there is one (R118, R124)
  (∀ (s u : State) (p : Fin 80) (pos : Fin 8) (vc : Fin 4) (d : BitVec 32), s.start.phase = .run →
    u = s.log 118 (s.nodeSrc p pos) (det 4 d.toNat) →
    (∀ i, (u.naAt p pos).bind (fun na => u.entryOf na vc) = some i → exec (.errSensor p pos vc d) s = .next (u.sensorErr i)) ∧
    ((u.naAt p pos).bind (fun na => u.entryOf na vc) = none → exec (.errSensor p pos vc d) s = .next u)) ∧
  (∀ (s u : State) (i : Nat), u = s.setStr i { s.str i with mute := true } →
    s.sensorErr i = ((u.dropAsm i).endFrame i true).settleFrames i) ∧
  -- errSession: the node has a session (R338)
  (∀ (s : State) (p : Fin 80) (pos : Fin 8) (d : BitVec 32) (x : SessSt), s.start.phase = .run →
    tblOpt s.link.sess (keyNode p pos) = some x →
    ∃ t, exec (.errSession p pos d) s = .next t ∧ (t.sess (keyNode p pos)).key = [] ∧
      t.fld (F.SEC_NODE_STAT_STATE (keyNode p pos)) = 3 ∧ t.fld (F.SEC_NODE_STAT_REASON (keyNode p pos)) = 9 ∧
      t.data = s.data ∧ t.sent = s.sent)

/-- The hub as a sensor (R63, R93, R98, R107, R120). Completes discQuery, discAssign, discExtend, discCut, discPoll,
discReset and trigReceive. Where the port is the sensor end, and the reverse lane has not been without lock for 10 ms: a
query is answered with the capabilities of the next of eight virtual nodes, an assignment adds it and is acknowledged, an
extension, a cut, a poll and a trigger for a virtual node the port has are acknowledged, the extension refused behind the
eighth, the cut with the nodes behind it gone, the trigger counted; a reset forgets every assignment. Where the spec leaves
a point open, the clauses follow the model's choices of log entries 20, 26 and 163. -/
def Obligations.SensorDiscovery : Prop :=
  -- discQuery, discAssign: a virtual node is still to be assigned (R98, R120)
  (∀ (s : State) (p : Fin 80), s.SensorUp p → (s.sensor (sensorPort p)).nodes.length < 8 →
    exec (.discQuery p) s = .next ((s.sendCtl p 0x08 0x10
      (s.capsBody p (s.sensor (sensorPort p)).nodes.length)).drawnN 4) ∧
    (∀ (na : Nat) (isids : List (Option Nat)) (seg cap : Nat),
      exec (.discAssign p na isids seg cap) s = .next ((s.setSensor (sensorPort p) { s.sensor (sensorPort p) with
        nodes := (s.sensor (sensorPort p)).nodes ++ [⟨na, isids, seg, cap, 0⟩] }).sendAck p
          (s.sensor (sensorPort p)).nodes.length 7 1 0 0))) ∧
  -- discExtend, discCut, discPoll, trigReceive: the virtual node is assigned (R63, R93, R98, R107)
  (∀ (s : State) (p : Fin 80) (pos : Fin 8), s.SensorUp p → pos.val < (s.sensor (sensorPort p)).nodes.length →
    exec (.discExtend p pos) s = .next (s.sendAck p pos 7 2 0 (if pos.val < 7 then 0 else 1)) ∧
    exec (.discCut p pos) s = .next ((s.setSensor (sensorPort p) { s.sensor (sensorPort p) with
      nodes := (s.sensor (sensorPort p)).nodes.take (pos.val + 1) }).sendAck p pos 7 3 0 0) ∧
    exec (.discPoll p pos) s = .next (s.sendAck p pos 7 5 0 0) ∧
    exec (.trigReceive p pos) s = .next ((s.setSensor (sensorPort p) { s.sensor (sensorPort p) with
      trigs := (s.sensor (sensorPort p)).trigs + 1 }).sendAck p pos 5 0 0 0)) ∧
  -- discReset (R98)
  (∀ (s : State) (p : Fin 80), s.SensorUp p → exec (.discReset p) s = .next (s.unassign p)) ∧
  (∀ (s : State) (p : Nat), (s.unassign p).sensor p = sensorReset p ∧
    (s.discovers p = true → (s.unassign p).sensor (sensorPort p) = sensorReset (sensorPort p)) ∧
    (s.unassign p).sent = s.sent)

/-- The hub as a sensor, continued (R60, R62, R87, R101, R102, R119). Completes timeReq, timeResult, rateSwitch, rateCommit,
rateRevert, trainLoopReq and trainLoopEnd. A time request for a virtual node is answered with its SEQ, a delay is stored for
it; a rate switch of this port's hops to a step that they reach is set for its SYNC; a commit ends the training and, where a
loop was asked for, arms it for the next SYNC; a revert ends it at the step before; a loop request is acknowledged for the
node that loops, and that node's loop end forgets the assignment. Where the spec leaves a point open, the clauses follow the
model's choices of log entry 21. -/
def Obligations.SensorRates : Prop :=
  -- timeReq, trainLoopReq: the virtual node is assigned (R60, R119)
  (∀ (s : State) (p : Fin 80) (pos : Fin 8), s.SensorUp p → pos.val < (s.sensor (sensorPort p)).nodes.length →
    (∀ seq : Byte, exec (.timeReq p pos seq) s = .next ((s.sendCtl p 0x06 pos
      (leBytes 1 1 ++ [seq] ++ s.freeBytes 4)).drawnN 4)) ∧
    exec (.trainLoopReq p pos) s = .next ((s.setSensor p { s.sensor p with
      looping := true, loopPos := pos }).sendAck p pos 9 2 0 0)) ∧
  -- timeResult: the virtual node is assigned (R62)
  (∀ (s : State) (p : Fin 80) (pos : Fin 8) (d : BitVec 24) (n : VNode), s.SensorUp p →
    (s.sensor (sensorPort p)).nodes[pos.val]? = some n →
    exec (.timeResult p pos d) s = .next (s.setSensor (sensorPort p) { s.sensor (sensorPort p) with
      nodes := (s.sensor (sensorPort p)).nodes.set pos.val { n with delay := d.toNat } })) ∧
  -- rateSwitch: a hop of this port is named, and it can run at the step (R87, R101)
  (∀ (s : State) (p : Fin 80) (hops : Byte) (step : Nat) (a : BitVec 16), s.SensorUp p →
    s.switchOk p hops.toNat step = true →
    exec (.rateSwitch p hops step a) s = .next (s.setSensor p { s.sensor p with
      sched := some (a.toNat, step), hops := hops.toNat, back := s.fld (F.TRL_STAT_STEP p) })) ∧
  -- rateCommit: the port trains (R102, R119)
  (∀ (s : State) (p : Fin 80), s.SensorUp p → (s.sensor p).training = true →
    exec (.rateCommit p) s = .next (((s.setSensor p { s.sensor p with
      training := false, loopArm := (s.sensor p).looping, back := s.fld (F.TRL_STAT_STEP p) }).setTx p
        { s.tx p with train := none }).sendAck p 0 10 1 0 0)) ∧
  -- rateRevert (R102)
  (∀ (s : State) (p : Fin 80), s.SensorUp p →
    exec (.rateRevert p) s = .next ((s.sensorBack p).sendAck p 0 10 2 0 0)) ∧
  -- trainLoopEnd: that node loops (R119)
  (∀ (s : State) (p : Fin 80) (pos : Fin 8), s.SensorUp p → (s.sensor p).looping = true → (s.sensor p).loopPos = pos.val →
    exec (.trainLoopEnd p pos) s = .next (s.unassign p))

/-- Key exchange (R338–R341). Completes sessionStart, keyHello, keyCert, keyFinish, keyDone, keyEnd, sessionRetry, rekeyDue
and oldKeyExpire. With fewer than four engines busy the next node's session opens with the next session number and a hello
of 32 fresh bytes; a hello is answered, as node, with a certificate of 32 fresh bytes for that session; a certificate that
passes its checks puts the session's secrets aside and sends FINISH (or, where its ephemeral point gives no shared secret, ends
the session with reason 6), one that fails ends it with the check's reason, and
fragments that make no message end it with reason 1; FINISH whose confirmation is right puts the node's new key in force
behind the old; DONE whose confirmation is right does so at the hub, which reads ESTABLISHED, and a wrong one ends the
session with reason 7; END forgets the node's session; a failed session is tried again; a session that is due is rekeyed with
reason 10; an old key expires. Where the spec leaves a point open, the clauses follow the model's choices of log entries 27,
37, 155 and 194. -/
def Obligations.KeyExchange : Prop :=
  -- sessionStart: an engine is free and a node waits (R338, R340)
  (∀ (s u : State) (n : Nat) (re : Bool), s.Runs → s.link.sess.countP (fun c => c.2.engine) < 4 →
    s.nextKeyNode = some (n, re, u) → n < 516 →
    ∃ t, exec .sessionStart s = .next t ∧ (t.sess n).engine = true ∧ (t.sess n).rekey = re ∧
      (t.sess n).sid = (tblGet zeroN s.link.sids n + 1) % 256 ∧
      (t.sess n).hello = leBytes 1 1 ++ leBytes 1 ((tblGet zeroN s.link.sids n + 1) % 256) ++ s.freeBytes 32 ∧
      (re = false → t.fld (F.SEC_NODE_STAT_STATE n) = 1) ∧ (re = true → t.flag (F.SEC_NODE_STAT_REKEYING n) = true) ∧
      t.awaits (s.keyPort n) (.keyHello n) = true ∧ t.freeCtr = s.freeCtr + 32 ∧ t.sent = s.sent ∧ t.data = s.data) ∧
  -- keyHello: the port is the sensor end and the message is whole (R338, R341)
  (∀ (s : State) (p : Fin 80) (pos : Fin 8) (fs : List KeyFrag) (m : List Byte), s.SensorUp p → keyMessage fs = some m →
    m.length = 34 → m.getD 0 0 = 1#8 → s.lc ≠ 3 →
    ∃ t e, exec (.keyHello p pos fs) s = .next t ∧ tblOpt (t.sensor (sensorPort p)).sess pos = some e ∧
      e.sid = (m.getD 1 0).toNat ∧ e.hello = m ∧ e.nonce = s.freeBytes 32 ∧ t.freeCtr = s.freeCtr + 34 ∧ t.sent = s.sent) ∧
  -- keyFinish: the node has the session and the confirmation is right (R338, R340)
  (∀ (s : State) (p : Fin 80) (pos : Fin 8) (fs : List KeyFrag) (m k th : List Byte) (e : NodeSess) (z : List Byte),
    s.SensorUp p → keyMessage fs = some m → tblOpt (s.sensor (sensorPort p)).sess pos = some e → keyFor e.sid m = true →
    m.length = 83 → p256.shared e.eph ((m.drop 2).take 65) = some z →
    k = sessionKeys (e.hello.drop 2) e.nonce z (s.virtualUid pos)
      ((((s.sensor (sensorPort p)).nodes[pos.val]?).map (·.na)).getD 0) e.sid →
    th = sha256 (e.hello ++ e.cert ++ (m.drop 2).take 65) → m.drop 67 = confirm "hub" (k.drop 32) th →
    exec (.keyFinish p pos fs) s = .next ((s.setSensor (sensorPort p) { s.sensor (sensorPort p) with
      sess := tblPut (s.sensor (sensorPort p)).sess pos (some { e with key := k.take 32, old := e.key, moved := [] }) }).sendKey
        p pos 4 (leBytes 1 1 ++ leBytes 1 e.sid ++ confirm "node" (k.drop 32) th))) ∧
  -- keyCert: the hub waits for it (R338, R339)
  (∀ (s u : State) (p : Fin 80) (pos : Fin 8) (fs : List KeyFrag) (n : Nat), s.Runs → n = keyNode p pos →
    s.awaits (s.keyPort n) (.keyHello n) = true → u = s.answered (s.keyPort n) (.keyHello n) →
    (keyMessage fs = none → keyOther (s.sess n).sid fs = false → exec (.keyCert p pos fs) s = .next (s.sessionFail n 1)) ∧
    (∀ m r, keyMessage fs = some m → keyFor (s.sess n).sid m = true → u.certCheck n (s.sess n).hello m = .error r →
      exec (.keyCert p pos fs) s = .next (u.sessionFail n r)) ∧
    (∀ m root b uid, keyMessage fs = some m → keyFor (s.sess n).sid m = true →
      u.certCheck n (s.sess n).hello m = .ok (root, b, uid) →
      ∃ t, exec (.keyCert p pos fs) s = .next t ∧
        match p256.shared (s.free 256 % (p256.n - 1) + 1) b.eph with
        | none => t = u.drawn.sessionFail n 6
        | some z => (t.sess n).engine = false ∧
          (t.sess n).kNext = (sessionKeys ((s.sess n).hello.drop 2) b.nonce z uid (u.drawn.nodeNa n) (s.sess n).sid).take 32 ∧
          t.awaits (s.keyPort n) (.keyFinish n) = true ∧ t.freeCtr = s.freeCtr + 1 ∧ t.sent = s.sent)) ∧
  -- keyDone: the hub waits for it (R338, R340)
  (∀ (s : State) (p : Fin 80) (pos : Fin 8) (fs : List KeyFrag) (m : List Byte) (n : Nat), s.Runs → n = keyNode p pos →
    keyMessage fs = some m → s.awaits (s.keyPort n) (.keyFinish n) = true → keyFor (s.sess n).sid m = true →
    (m.drop 2 = confirm "node" (s.sess n).kConf (s.sess n).th →
      ∃ t, exec (.keyDone p pos fs) s = .next t ∧ (t.sess n).key = (s.sess n).kNext ∧ (t.sess n).old = (s.sess n).key ∧
        t.fld (F.SEC_NODE_STAT_STATE n) = 2 ∧ t.flag (F.SEC_NODE_STAT_REKEYING n) = false ∧ t.data = s.data) ∧
    (m.drop 2 ≠ confirm "node" (s.sess n).kConf (s.sess n).th →
      exec (.keyDone p pos fs) s = .next ((s.answered (s.keyPort n) (.keyFinish n)).sessionFail n 7))) ∧
  (∀ (s : State) (n r : Nat), r < 16 → (s.sessionFail n r).fld (F.SEC_NODE_STAT_REASON n) = r) ∧
  -- keyEnd: the node has the session (R338)
  (∀ (s : State) (p : Fin 80) (pos : Fin 8) (fs : List KeyFrag) (m : List Byte) (e : NodeSess), s.SensorUp p →
    keyMessage fs = some m → tblOpt (s.sensor (sensorPort p)).sess pos = some e → keyFor e.sid m = true →
    exec (.keyEnd p pos fs) s = .next (s.setSensor (sensorPort p) { s.sensor (sensorPort p) with
      sess := tblPut (s.sensor (sensorPort p)).sess pos none })) ∧
  -- sessionRetry: the session failed and none runs (R338)
  (∀ (s : State) (n : Fin 516), s.Runs → (s.sess n).engine = false → (s.sess n).hello = [] →
    s.fld (F.SEC_NODE_STAT_REASON n) ≠ 0 →
    ((s.sess n).key ≠ [] → exec (.sessionRetry n) s = .next { s with link := { s.link with
      rekeyQueue := setIns n.val s.link.rekeyQueue } }) ∧
    ((s.sess n).key = [] → s.fld (F.SEC_NODE_STAT_STATE n) = 3 → exec (.sessionRetry n) s = .next (s.wantSession n))) ∧
  -- rekeyDue: a session is established (R340)
  (∀ (s : State) (n : Fin 516), s.start.phase = .run → s.fld (F.SEC_NODE_STAT_STATE n) = 2 →
    exec (.rekeyDue n) s = .next (({ s with link := { s.link with
      rekeyQueue := setIns n.val s.link.rekeyQueue } } : State).setFld (F.SEC_NODE_STAT_REASON n) 10)) ∧
  -- oldKeyExpire: the hub runs (R340)
  (∀ (s : State) (n : Fin 516), s.start.phase = .run →
    exec (.oldKeyExpire n) s = .next (s.setSess n { s.sess n with old := [] }))

/-- Frames and containers (R112, R125, R131). Completes sof, eof and containerReceive. An SOF of a member of an open herd
whose size is its stream's and whose ring has pages or can have them opens its frame; one for an unknown herd, one of another
size and, on a camera port, one of a node without a valid delay is rejected and counted as a format error; one that is no
frame of its herd is an overrun, rejected, counted and logged once; an EOF of the open frame ends it, one of a rejected frame
changes nothing and any other is a format error; an SOF or EOF of no entry is counted in TRL_HCRC_ERR; a container with a
good header is taken, a bad header is counted once and skipped. Where the spec leaves a point open, the clauses follow the
model's choices of log entries 39, 41, 42 and 193. -/
def Obligations.FramesArrive : Prop :=
  -- sof: the stream has an entry and its queue's copies agree (R125)
  (∀ (s : State) (p : Fin 80) (pos : Fin 8) (b : SofBlock) (na i n : Nat), s.HubUp p → s.naAt p pos = some na →
    s.entryOf na b.vc = some i → s.fld (F.ING_ENT0_NA i) = na → (s.str i).q.ok = true →
    (isLane p = true ∨ s.flag (F.TIME_NODE_DLY_VALID na) = true) → b.width.toNat = s.fld (F.ING_ENT1_WIDTH i) →
    b.lines.toNat = s.strLines i → s.matchHerd b.herd.toNat = some n →
    (s.memberOf i n = true → (s.str i).q.ring ≠ [] ∨ s.ringFree i = true → (s.str i).countOf n < (s.streamRatio i).frames →
      exec (.sof p pos b) s = .next (s.acceptSof (sessIx p na) i n b)) ∧
    (s.memberOf i n = false ∨ (s.streamRatio i).frames ≤ (s.str i).countOf n →
      exec (.sof p pos b) s = .next ((s.rejectSof i b.frame.toNat).overrun i))) ∧
  (∀ (s : State) (p : Fin 80) (pos : Fin 8) (b : SofBlock) (na i : Nat), s.HubUp p → s.naAt p pos = some na →
    s.entryOf na b.vc = some i → s.fld (F.ING_ENT0_NA i) = na → (s.str i).q.ok = true →
    (isLane p = false ∧ s.flag (F.TIME_NODE_DLY_VALID na) = false) ∨ b.width.toNat ≠ s.fld (F.ING_ENT1_WIDTH i) ∨
      b.lines.toNat ≠ s.strLines i ∨ s.matchHerd b.herd.toNat = none →
    exec (.sof p pos b) s = .next ((s.rejectSof i b.frame.toNat).count31 (A.ING_FMT_ERR i) 1)) ∧
  -- eof: the stream has an entry (R131)
  (∀ (s : State) (p : Fin 80) (pos : Fin 8) (b : EofBlock) (na i : Nat), s.HubUp p → s.naAt p pos = some na →
    s.entryOf na b.vc = some i →
    ((s.str i).rejected = some b.frame.toNat → exec (.eof p pos b) s = .next s) ∧
    ((s.str i).rejected ≠ some b.frame.toNat → ∀ f, (s.str i).openFrame = some f → f.frame = b.frame.toNat →
      exec (.eof p pos b) s = .next (((s.dropAsm i).endFrame i
        (b.trunc || b.sensorErr || decide (b.linesSent.toNat < s.strLines i))).settleFrames i)) ∧
    ((s.str i).rejected ≠ some b.frame.toNat → (∀ f, (s.str i).openFrame = some f → f.frame ≠ b.frame.toNat) →
      exec (.eof p pos b) s = .next (s.count31 (A.ING_FMT_ERR i) 1))) ∧
  -- sof, eof: no entry (R112)
  (∀ (s : State) (p : Fin 80) (pos : Fin 8) (b : SofBlock) (c : EofBlock), s.HubUp p →
    ((s.naAt p pos).bind (fun na => s.entryOf na b.vc) = none →
      exec (.sof p pos b) s = .next (s.count31 (A.TRL_HCRC_ERR p) 1)) ∧
    ((s.naAt p pos).bind (fun na => s.entryOf na c.vc) = none →
      exec (.eof p pos c) s = .next (s.count31 (A.TRL_HCRC_ERR p) 1))) ∧
  -- containerReceive: the port is the hub end (R112)
  (∀ (s : State) (p : Fin 80) (data : List Byte) (backlog : Bool) (age : Nat), s.HubUp p →
    exec (.containerReceive p data backlog age) s = .next (State.takeData p backlog age (data.length + 1) data s)) ∧
  (∀ (s : State) (p : Nat) (data : List Byte) (backlog : Bool) (age : Nat), headerOk (data.take 16) = true →
    (s.port p).hunt = false → data.length = 32 * segBlocks (ofLe ((data.drop 12).take 2)) ((data.getD 0 0).toNat.testBit 2) →
    State.takeData p backlog age (data.length + 1) data s = s.container p data data.length backlog age) ∧
  (∀ (s : State) (p : Nat) (data : List Byte) (backlog : Bool) (age : Nat), headerOk (data.take 16) = false →
    data ≠ [] → data.length ≤ 32 → (s.port p).hunt = false →
    State.takeData p backlog age (data.length + 1) data s =
      (s.setPort p { s.port p with hunt := true }).count31 (A.TRL_HCRC_ERR p) 1)

/-- The line store (R139, R142, R143, R144). Completes lstQCtrlFlush, lstQWmStatNoticeClear, scrubPass and sliceLineRead.
FLUSH is pending until the next SOF; clearing a notice restarts its crossing count and its peak; a scrub pass counts what it
corrected and marks the pages of a row that lost a word and repairs the row; a line read answers the stream's oldest unread
line: an uncorrectable line is passed over. Where the spec leaves a point open, the clauses follow the model's choices of log
entries 153 and 157. -/
def Obligations.LineStore : Prop :=
  -- lstQCtrlFlush, lstQWmStatNoticeClear: the write is admitted (R139, R143)
  (∀ (s : State) (p : Path) (i : Fin 1024) (v : Word), s.Admits p (A.LST_Q_CTRL i) false →
    exec (.lstQCtrlFlush p i v) s = .next ((s.reached p).setFlag (F.LST_Q_STAT_FLUSH_PEND i) true)) ∧
  (∀ (s : State) (p : Path) (i : Fin 1024) (v : Word), s.Admits p (A.LST_Q_WM_STAT i) false →
    ∃ t, exec (.lstQWmStatNoticeClear p i v) s = .next t ∧ t.flag (F.LST_Q_WM_STAT_NOTICE i) = false ∧
      t.fld (F.LST_Q_WM_STAT_CROSS i) = 0 ∧
      t.fld (F.LST_Q_WM_STAT_PEAK i) = (s.str i).q.occ % 2 ^ (F.LST_Q_WM_STAT_PEAK i).w ∧
      t.data = s.data ∧ t.herds = s.herds ∧ t.sent = (s.reached p).sent ∧
      (∀ a, a ≠ A.LST_Q_WM_STAT i → t.reg a = (s.reached p).reg a)) ∧
  -- scrubPass: the hub runs (R142)
  (∀ (s : State) (found : List RowErr), s.start.phase = .run →
    exec (.scrubPass found) s = .next (found.foldl State.scrubRow s)) ∧
  (∀ (s : State) (e : RowErr), e.lost ≠ [] → s.scrubRow e =
    ((s.count31 A.LST_CE_CNT e.fixed).markBad e.bank e.row (e.lost.map (·.val))).repairRow e.bank e.row) ∧
  (∀ (s : State) (e : RowErr), e.lost = [] → e.fixed < max 1 (s.fld F.LST_SCRUB_CFG_ROW_CE_LIM) →
    s.scrubRow e = s.count31 A.LST_CE_CNT e.fixed) ∧
  -- sliceLineRead: the stream's queue is whole (R144)
  (∀ (s : State) (i : Fin 1024) (fixed : Nat) (lost : Bool), s.start.phase = .run →
    (s.str (s.pickStream i)).q.ok = true →
    exec (.sliceLineRead i fixed lost) s = .next (s.readLine (s.pickStream i) fixed lost)) ∧
  (∀ (s : State) (i : Nat) (l : QLine), (s.str i).q.unread = some l → l.ue = true →
    s.readLine i 0 false = (s.uncorrectable i l.pos).settleFrames i)

/-- Slices and tables (R152, R166, R174, R200, R413, R414). Completes auditCompare, suspectTimeout, slcStrLiveCommit,
roiPosWrite, tableWrite, sliceBist, sliceBistDone and sliceReturn. An audit whose line is drawn is counted with its target and
ends, and raises the target where it disagrees; a suspicion that nothing bears out is dropped and its slice serves again; a
LIVE commit waits for the next SOF; a position that fits is stored, one that does not is refused; a whole-word table write to
a block that is not shut stores exactly its bytes, and a shut block keeps its own; BIST runs on a spare or retired slice and
is refused elsewhere; its pass and its failure are shown, and a spare that fails retires; a slice that passed returns at the
next boundary. Where the spec leaves a point open, the clauses follow the model's choices of log entries 54, 132, 144 and
162. -/
def Obligations.SlicesAndTables : Prop :=
  -- auditCompare: the herd's audit has its line and the mode is not Service (R199, R200)
  (∀ (s u : State) (a : AuditSt) (isid line : Nat), s.start.phase = .run → s.plc.audit = some a → a.line = some (isid, line) →
    s.mode ≠ 3 → u = (s.count48 A.PLC_AUDIT_CNT_LO 1).setFld F.PLC_AUDIT_STAT_TARGET a.target →
    exec (.auditCompare false) s = .next { u with plc := { u.plc with audit := none } } ∧
    ((({ u with plc := { u.plc with audit := none } } : State).auditMismatch a.auditor a.target isid line).mode ≠ 3 →
      exec (.auditCompare true) s = .next
        (({ u with plc := { u.plc with audit := none } } : State).auditMismatch a.auditor a.target isid line))) ∧
  -- suspectTimeout: the suspicion stands alone (R200)
  (∀ (s : State) (t b : Nat), s.start.phase = .run → s.plc.suspect = some (t, b, 0, false) →
    s.plc.confirmed.contains t = false → s.plc.leaving.contains t = false →
    exec .suspectTimeout s = .next (((((({ s with plc := { s.plc with suspect := none } } : State).setFld
      (F.SLC_STAT_STATE t) 2).setFld F.PLC_AUDIT_STAT_SUSPECT 0x3F).setFld
        F.PLC_AUDIT_STAT_RAISED_BY 0x3F).roleRegs).log 200 t [])) ∧
  -- slcStrLiveCommit, roiPosWrite: the write is admitted (R166, R174)
  (∀ (s : State) (p : Path) (i : Fin 1024) (v : Word), s.Admits p (A.SLC_STR_LIVE i) false →
    exec (.slcStrLiveCommit p i v) s = .next (((s.reached p).plainWrite (A.SLC_STR_LIVE i) (v ||| 2#32)).setFlag
      (F.SLC_STR_LIVE_PEND i) true)) ∧
  (∀ (s : State) (p : Path) (r : Fin 4096) (v : Word), s.Admits p (A.ROI_POS r) false →
    ((s.reached p).roiFits r (fldGet v 0 15) (fldGet v 16 15) = true →
      exec (.roiPosWrite p r v) s = .next ((s.reached p).plainWrite (A.ROI_POS r) v)) ∧
    ((s.reached p).roiFits r (fldGet v 0 15) (fldGet v 16 15) = false →
      exec (.roiPosWrite p r v) s = .next ((s.reached p).setFlag (F.ROI_STAT_POS_REJ r) true))) ∧
  -- tableWrite: whole words within one block (R152, R257)
  (∀ (s : State) (p : Path) (addr b : Nat) (data : List Byte), s.Admits p tblBase false → inTbl addr data.length = true →
    addr % 4 = 0 → data.length % 4 = 0 → data ≠ [] → addr % 64 + data.length ≤ 64 → b = (addr - tblBase) / 64 →
    ((s.reached p).blockShut ((s.reached p).tblPart (addr - tblBase) data false b) b = false →
      ∃ t, exec (.tableWrite p addr data) s = .next t ∧
        (∀ a, tblGet zeroB t.data.tbl a = if addr - tblBase ≤ a ∧ a < addr - tblBase + data.length
          then data.getD (a - (addr - tblBase)) 0 else tblGet zeroB s.data.tbl a) ∧
        t.regs = (s.reached p).regs ∧ t.data.str = s.data.str ∧ t.sent = (s.reached p).sent) ∧
    ((s.reached p).blockShut ((s.reached p).tblPart (addr - tblBase) data false b) b = true →
      exec (.tableWrite p addr data) s = .next ((s.reached p).blockRefused b) ∧
        ((s.reached p).blockRefused b).data.tbl = s.data.tbl)) ∧
  -- sliceBist: the write is admitted and asks for no return (R413)
  (∀ (s : State) (p : Path) (sl : Fin 34) (v : Word), s.Admits p (A.SLC_SVC_CTRL sl) true → bitOn v 1 = false →
    (s.fld (F.SLC_STAT_STATE sl) = 1 ∨ s.fld (F.SLC_STAT_STATE sl) = 4 → (∀ a, s.plc.audit = some a → a.auditor ≠ sl) →
      exec (.sliceBist p sl v) s = .next ((s.reached p).setFld (F.SLC_SVC_STAT_STATE sl) 1)) ∧
    (s.fld (F.SLC_STAT_STATE sl) ≠ 1 → s.fld (F.SLC_STAT_STATE sl) ≠ 4 →
      exec (.sliceBist p sl v) s = .next ((s.reached p).setFlag (F.SLC_SVC_STAT_REJ sl) true))) ∧
  -- sliceBistDone: BIST runs (R413)
  (∀ (s : State) (sl : Fin 34), s.start.phase = .run → s.fld (F.SLC_SVC_STAT_STATE sl) = 1 →
    exec (.sliceBistDone sl true) s = .next (s.setFld (F.SLC_SVC_STAT_STATE sl) 2) ∧
    (s.fld (F.SLC_STAT_STATE sl) = 1 → exec (.sliceBistDone sl false) s =
      .next ((((s.retireSlice sl).roleRegs).plcTrigger 4).setFld (F.SLC_SVC_STAT_STATE sl) 3)) ∧
    (s.fld (F.SLC_STAT_STATE sl) ≠ 1 → exec (.sliceBistDone sl false) s = .next (s.setFld (F.SLC_SVC_STAT_STATE sl) 3))) ∧
  -- sliceReturn: the write is admitted and asks for no BIST (R414)
  (∀ (s : State) (p : Path) (sl : Fin 34) (v : Word), s.Admits p (A.SLC_SVC_CTRL sl) true → bitOn v 0 = false →
    (s.fld (F.SLC_STAT_STATE sl) = 4 → s.fld (F.SLC_SVC_STAT_STATE sl) = 2 → s.flag (F.SLC_SVC_STAT_LOCK sl) = false →
      exec (.sliceReturn p sl v) s = .next { s.reached p with plc := { s.plc with returns := setIns sl.val s.plc.returns } }) ∧
    (s.fld (F.SLC_STAT_STATE sl) ≠ 4 ∨ s.fld (F.SLC_SVC_STAT_STATE sl) ≠ 2 ∨ s.flag (F.SLC_SVC_STAT_LOCK sl) = true →
      exec (.sliceReturn p sl v) s = .next ((s.reached p).setFlag (F.SLC_SVC_STAT_REJ sl) true)))

/-- Placement and graze (R183, R197, R206, R207, R211, R214). Completes plcCtrlSubmit, plcLogCfgEnable, grzPiWrite,
grzSubmit, grzRingChange, abortAll, grazeTake and grazeLineRead. SUBMIT requests a run; enabling the placement log starts it
at entry 0; with the ring in the host's hands a PI write that adds entries queues them and one that takes entries back or
holds more than 256 is refused and counted, and with the hub's ring every PI write is; a submission joins the ring, and is
refused where the ring is the host's or full; RING changes only while nothing waits; ABORT_ALL ends what is served and what
waits; an entry that is not valid ends with status 3, one that fits is served by its slice; a line that is affordable is
read. Where the spec leaves a point open, the clauses follow the model's choices of log entries 96, 106, 153 and 173. -/
def Obligations.PlacementAndGraze : Prop :=
  -- plcCtrlSubmit, plcLogCfgEnable: the write is admitted (R183, R197)
  (∀ (s : State) (p : Path) (v : Word), s.Admits p A.PLC_CTRL false →
    exec (.plcCtrlSubmit p v) s = .next { s.reached p with plc := { s.plc with
      submit := true, trig := s.plc.trig ||| 2 ^ 7 } }) ∧
  (∀ (s u : State) (p : Path) (v : Word), s.Admits p A.PLC_LOG_CFG false →
    u = (s.reached p).plainWrite A.PLC_LOG_CFG (v ||| 1#32) → u.flag F.PLC_LOG_CFG_EN = true →
    exec (.plcLogCfgEnable p v) s = .next (if s.flag F.PLC_LOG_CFG_EN = true then u else u.setFld F.PLC_LOG_IDX_IDX 0)) ∧
  -- grzPiWrite: the write is admitted (R207)
  (∀ (s r : State) (p : Path) (v : Word) (d : Nat), s.Admits p A.GRZ_PI false → r = s.reached p →
    d = (fldGet v 0 9 + 512 - s.grzCiNum) % 512 →
    (s.flag F.GRZ_CTRL_RING = true → d ≤ 256 → s.grzPending ≤ d →
      exec (.grzPiWrite p v) s = .next (r.grzSetPi (fldGet v 0 9))) ∧
    (s.flag F.GRZ_CTRL_RING = true → d ≤ 256 → d < s.grzPending →
      exec (.grzPiWrite p v) s = .next ((r.count31 A.GRZ_REJ_CNT 1).setFlag F.GRZ_STAT_PI_REJ true)) ∧
    (s.flag F.GRZ_CTRL_RING = true → 256 < d →
      exec (.grzPiWrite p v) s = .next (((r.count31 A.GRZ_REJ_CNT 1).setFlag F.GRZ_STAT_PI_REJ true).log 406 noSrc (det 1 5))) ∧
    (s.flag F.GRZ_CTRL_RING = false →
      exec (.grzPiWrite p v) s = .next ((r.count31 A.GRZ_REJ_CNT 1).setFlag F.GRZ_STAT_PI_REJ true))) ∧
  -- grzSubmit: the write is admitted (R206)
  (∀ (s : State) (p : Path) (v : Word), s.Admits p A.GRZ_SUBMIT false →
    (s.flag F.GRZ_CTRL_RING = false → s.grzPending < 256 →
      ∃ t, exec (.grzSubmit p v) s = .next t ∧
        (∀ w, w < 8 → t.reg (A.GRZ_Q (s.fld F.GRZ_PI_IDX) w) = tblGet (fun _ => 0#32) (s.path p).grzReq w) ∧
        t.fld F.GRZ_PI_IDX = (s.grzPiNum + 1) % 256 ∧ t.sent = (s.reached p).sent ∧ t.data = s.data) ∧
    (s.flag F.GRZ_CTRL_RING = true →
      exec (.grzSubmit p v) s = .next (((s.reached p).count31 A.GRZ_REJ_CNT 1).setFlag F.GRZ_STAT_SUBMIT_REJ true)) ∧
    (s.flag F.GRZ_CTRL_RING = false → 256 ≤ s.grzPending →
      exec (.grzSubmit p v) s = .next
        ((((s.reached p).count31 A.GRZ_REJ_CNT 1).setFlag F.GRZ_STAT_SUBMIT_REJ true).log 406 noSrc (det 1 5)))) ∧
  -- grzRingChange: the write is admitted and does not abort (R207)
  (∀ (s : State) (p : Path) (v : Word), s.Admits p A.GRZ_CTRL false → bitOn v 1 = false →
    (s.grzPending = 0 → s.grz.serve = none →
      exec (.grzRingChange p v) s = .next ((s.reached p).setFlag F.GRZ_CTRL_RING (!s.flag F.GRZ_CTRL_RING))) ∧
    (s.grzPending ≠ 0 ∨ s.grz.serve ≠ none →
      exec (.grzRingChange p v) s = .next ((s.reached p).setFlag F.GRZ_STAT_SUBMIT_REJ true))) ∧
  -- abortAll: the write is admitted and leaves RING (R214)
  (∀ (s : State) (p : Path) (v : Word), s.Admits p A.GRZ_CTRL false → bitOn v 0 = s.flag F.GRZ_CTRL_RING →
    exec (.abortAll p v) s = .next (State.grzEndPending 6 256 ((s.reached p).grzEnd 6))) ∧
  -- grazeTake: requests are served and an entry waits (R206, R208, R211)
  (∀ (s u : State) (i : Nat) (q : GrzReq), s.start.phase = .run → s.grzServes = true → s.grz.serve = none → s.grzPending ≠ 0 →
    i = s.fld F.GRZ_CI_IDX → q = s.grzEntry i → u = s.grzPop →
    (u.grzValid q (s.grzPoisoned i) = false → exec .grazeTake s = .next (u.grzFinish q 3 i 0 0 false)) ∧
    (u.grzValid q (s.grzPoisoned i) = true → u.grzTooLong q = false → u.grzTooDear q = false →
      ∀ f sl, u.grzMatch q = .inl f → u.grzSlice q = some sl → q.outH ≠ 0 →
      ∃ t v, exec .grazeTake s = .next t ∧ t.grz.serve = some v ∧ v.req = q ∧ v.fid = f.id ∧ v.idx = i ∧ v.slice = sl ∧
        v.done = 0 ∧ t.flag F.GRZ_STAT_BUSY = true ∧ t.sent = s.sent ∧ t.data = s.data)) ∧
  -- grazeLineRead: the request's budgets cover the line (R211)
  (∀ (s g : State) (v : GrzServe) (fixed : Nat) (lost : Bool), s.start.phase = .run →
    g = (State.grzWrite 16384 s.grzMove).grzBarred → g.grz.serve = some v →
    v.next ≤ GrzReq.needs v.req (g.grzGeo v.req) v.done →
    (g.grzCharge v.req).1 ≤ g.grz.cyc → (g.grzCharge v.req).2.1 ≤ g.grz.lst → (g.grzCharge v.req).2.2 ≤ g.grz.host →
    exec (.grazeLineRead fixed lost) s = .next (State.grzWrite 16384 ((g.count31 A.LST_CE_CNT fixed).grzRead v lost)))

/-- Channel rings (R220, R221, R224, R226, R236, R240). Completes dmaChPiWrite, dmaChCfgWrite, h2i, i2h, fillH, fillI,
compare, link, nop and descriptorDone. A producer index that leaves more than the ring's entries pending, or takes entries
back, is refused and any other advances the ring; a disabled channel takes any index; enabling a channel empties its state,
disabling one that goes is refused; a descriptor that fails its check ends at once with that cause and one that passes begins
when its channel goes, and moves its bytes; a LINK counts, and ends at once, and the seventeenth halts the channel; what has
ended is retired and the next entry is fetched. Where the spec leaves a point open, the clauses follow the model's choices of
log entries 31, 97, 99, 176 and 201. -/
def Obligations.ChannelRings : Prop :=
  -- dmaChPiWrite: the write is admitted and the channel is software's (R220, R224)
  (∀ (s r : State) (p : Path) (c : Fin 256) (v : Word) (d : Nat), s.Admits p (A.DMA_CH_PI c) false → r = s.reached p →
    r.hostBarred c = false → d = idxDist (r.chLog2 c) (fldGet v 0 17) (r.fld (F.DMA_CH_CI_IDX c)) →
    (r.flag (F.DMA_CH_CFG_EN c) = false → exec (.dmaChPiWrite p c v) s = .next (r.setFld (F.DMA_CH_PI_IDX c) (fldGet v 0 17))) ∧
    (r.flag (F.DMA_CH_CFG_EN c) = true → 2 ^ r.chLog2 c < d ∨ d < r.chPending c →
      exec (.dmaChPiWrite p c v) s = .next (r.setFlag (F.DMA_CH_STAT_PI_REJ c) true)) ∧
    (r.flag (F.DMA_CH_CFG_EN c) = true → d ≤ 2 ^ r.chLog2 c → r.chPending c ≤ d →
      exec (.dmaChPiWrite p c v) s = .next (((r.setFld (F.DMA_CH_PI_IDX c) (fldGet v 0 17)).setChan c
        { (r.setFld (F.DMA_CH_PI_IDX c) (fldGet v 0 17)).chan c with ownWait := false }).chFetch c))) ∧
  -- dmaChCfgWrite: the write is admitted and the channel is software's (R221)
  (∀ (s r : State) (p : Path) (c : Fin 256) (v : Word), s.Admits p (A.DMA_CH_CFG c) false → r = s.reached p →
    r.hostBarred c = false →
    (r.flag (F.DMA_CH_CFG_EN c) = false → bitOn v 0 = true →
      exec (.dmaChCfgWrite p c v) s = .next (((((r.plainWrite (A.DMA_CH_CFG c) v).setChState c chIdle).setFld
        (F.DMA_CH_STAT_LINKS c) 0).setChan c (chanReset c)).chFetch c)) ∧
    (r.flag (F.DMA_CH_CFG_EN c) = true → bitOn v 0 = false → r.chState c = chIdle ∨ r.chState c = chStopped ∨
        r.chState c = chHalted →
      exec (.dmaChCfgWrite p c v) s = .next ((((r.plainWrite (A.DMA_CH_CFG c) v).setChState c chOff).setFld
        (F.DMA_CH_STAT_HALT_CAUSE c) 0).setChan c (chanReset c))) ∧
    (r.flag (F.DMA_CH_CFG_EN c) = true → bitOn v 0 = false → r.chState c = chRun →
      exec (.dmaChCfgWrite p c v) s = .next (r.setFlag (F.DMA_CH_STAT_CTRL_REJ c) true))) ∧
  -- h2i, i2h, fillH, fillI, compare, nop: the descriptor at the head is of that kind and passes its check (R236)
  (∀ (s u : State) (c : Fin 256) (d : Desc), s.start.phase = .run → (s.chan c).head = some d → s.chGoes c = true →
    s.chCause d = 0 → u = s.setFld (F.DMA_CH_STAT_LINKS c) 0 →
    (d.op = 1 → exec (.h2i c) s = .next ((u.chBegin c d none none).chMove c)) ∧
    (d.op = 2 → ∀ ue, exec (.i2h c ue) s = .next ((u.chBegin c d ue none).chMove c)) ∧
    (d.op = 3 → exec (.fillH c) s = .next ((u.chBegin c d none none).chMove c)) ∧
    (d.op = 4 → exec (.fillI c) s = .next ((u.chBegin c d none none).chMove c)) ∧
    (d.op = 5 → ∀ ue, exec (.compare c ue) s = .next ((u.chBegin c d ue none).chMove c)) ∧
    (d.op = 7 → exec (.nop c) s = .next (s.chBegin c d none (some (0, 0))))) ∧
  -- link: the descriptor at the head links and passes its check (R240)
  (∀ (s : State) (c : Fin 256) (d : Desc), s.start.phase = .run → (s.chan c).head = some d → s.chGoes c = true →
    s.chCause d = 0 → d.op = 6 →
    (s.fld (F.DMA_CH_STAT_LINKS c) < 16 → ∃ t, exec (.link c) s = .next t ∧ (t.chan c).linked = some d.addr ∧
      (t.chan c).head = none ∧ t.fld (F.DMA_CH_STAT_LINKS c) = s.fld (F.DMA_CH_STAT_LINKS c) + 1 ∧ t.sent = s.sent) ∧
    (16 ≤ s.fld (F.DMA_CH_STAT_LINKS c) → exec (.link c) s = .next (s.chHalt c 1))) ∧
  -- every kind: the descriptor fails its check (R226)
  (∀ (s : State) (c : Fin 256) (d : Desc), s.start.phase = .run → (s.chan c).head = some d → s.chGoes c = true →
    s.chCause d ≠ 0 →
    (d.op = 1 → exec (.h2i c) s = .next (s.chBegin c d none (some (6, s.chCause d)))) ∧
    (d.op = 2 → ∀ ue, exec (.i2h c ue) s = .next (s.chBegin c d none (some (6, s.chCause d)))) ∧
    (d.op = 3 → exec (.fillH c) s = .next (s.chBegin c d none (some (6, s.chCause d)))) ∧
    (d.op = 4 → exec (.fillI c) s = .next (s.chBegin c d none (some (6, s.chCause d)))) ∧
    (d.op = 5 → ∀ ue, exec (.compare c ue) s = .next (s.chBegin c d none (some (6, s.chCause d)))) ∧
    (d.op = 6 → exec (.link c) s = .next (s.chBegin c d none (some (6, s.chCause d))))) ∧
  -- descriptorDone: the descriptor in progress has ended (R220)
  (∀ (s : State) (c : Fin 256) (r : DescRun) (e : Nat × Nat), s.start.phase = .run → (s.chan c).cur = some r →
    r.ended = some e → s.chGoes c = true →
    exec (.descriptorDone c) s = .next ((s.chRetire c r e).chFetch c))

/-- Channel control (R244, R245, R247). Completes pause, dmaPaused, resume, abort and req. PAUSE pauses a channel that goes,
which is paused once nothing it asked for is out; RESUME restarts it; ABORT ends what is in progress and stops it; REQ is one
request of a paced channel, and nothing to another; a request beyond 255 sets REQ_OVF. Where the spec leaves a point open,
the clauses follow the model's choices of log entries 100 and 101. -/
def Obligations.ChannelControl : Prop :=
  -- pause, resume, abort, req: the write is admitted, the channel is software's and no other bit is set (R244, R247)
  (∀ (s r : State) (p : Path) (c : Fin 256) (v : Word), s.Admits p (A.DMA_CH_CTRL c) false → r = s.reached p →
    r.hostBarred c = false → v &&& 0xF#32 = 0#32 →
    (r.chGoes c = true → exec (.pause p c v) s = .next (r.setChState c chPausing)) ∧
    (r.chGoes c = false → exec (.pause p c v) s = .next r) ∧
    (r.chState c = chPaused → exec (.resume p c v) s = .next ((r.setChState c chRun).chGo c)) ∧
    exec (.abort p c v) s = .next (r.chAbort c) ∧
    (r.flag (F.DMA_CH_CFG_PACE c) = true → exec (.req p c v) s = .next ((r.paceRequest c).chMove c)) ∧
    (r.flag (F.DMA_CH_CFG_PACE c) = false → exec (.req p c v) s = .next r)) ∧
  (∀ (s u : State) (c : Nat), s.chState c = chRun → (s.chan c).cur = none →
    u = (s.chDiscard c).setFld (F.DMA_CH_STAT_LAST_ABORT c) 2 →
    s.chAbort c = ((u.setChan c { u.chan c with head := none }).setChState c chStopped).chRecord c 2 0) ∧
  -- dmaPaused: the channel pauses and nothing is out (R245)
  (∀ (s : State) (c : Fin 256), s.start.phase = .run → s.chState c = chPausing → s.chReads c = 0 → s.chFetches c = 0 →
    exec (.dmaPaused c) s = .next (((s.chDone c).setChState c chPaused).chRecord c 1 0)) ∧
  (∀ (s : State) (c : Nat), s.fld (F.DMA_CH_STAT_REQ_PEND c) < 255 →
    s.paceRequest c = s.setFld (F.DMA_CH_STAT_REQ_PEND c) (s.fld (F.DMA_CH_STAT_REQ_PEND c) + 1)) ∧
  (∀ (s : State) (c : Nat), 255 ≤ s.fld (F.DMA_CH_STAT_REQ_PEND c) →
    s.paceRequest c = s.setFlag (F.DMA_CH_STAT_REQ_OVF c) true)

/-- Pools, completion queues, interrupts (R224, R228, R248, R250–R252, R283). Completes dmaPoolPiWrite, cqCfgEnable,
cqCiWrite, cqWmStatNoticeClear, dmaPoolWmStatNoticeClear and hepIrqPendClear. A pool index that makes too many entries
pending, or takes entries back, is refused and any other taken; enabling a queue empties it and an enabled one keeps its
size; a consumer index is taken, one behind HEAD as HEAD, and one beyond PI refused; notices are cleared with their counts; a
pending bit is cleared by writing one. Where the spec leaves a point open, the clauses follow the model's choices of log
entries 29 and 176. -/
def Obligations.PoolsQueuesInterrupts : Prop :=
  -- dmaPoolPiWrite: the write is admitted; `d` is what the new index leaves pending, `o` what the old one does (R224, R228)
  (∀ (s r u : State) (p : Path) (n : Fin 64) (v : Word) (d o : Nat), s.Admits p (A.DMA_POOL_PI n) false → r = s.reached p →
    d = idxDist (r.poolLog2 n) (fldGet v 0 17) (r.fld (F.DMA_POOL_CI_IDX n)) →
    o = idxDist (r.poolLog2 n) (r.fld (F.DMA_POOL_PI_IDX n)) (r.fld (F.DMA_POOL_CI_IDX n)) →
    u = (r.setFld (F.DMA_POOL_PI_IDX n) (fldGet v 0 17)).poolAvail n →
    (2 ^ r.poolLog2 n < d ∨ d < o →
      exec (.dmaPoolPiWrite p n v) s = .next (r.setFlag (F.DMA_POOL_STAT_PI_REJ n) true)) ∧
    (d ≤ 2 ^ r.poolLog2 n → o ≤ d →
      exec (.dmaPoolPiWrite p n v) s = .next (((u.setPool n { u.pool n with ownWait := false }).poolGo n).retryBufs n))) ∧
  -- cqCfgEnable: the write is admitted (R248)
  (∀ (s r u : State) (p : Path) (q : Fin 64) (v : Word), s.Admits p (A.CQ_CFG q) false → r = s.reached p →
    u = r.plainWrite (A.CQ_CFG q) (v ||| 1#32) → u.flag (F.CQ_CFG_EN q) = true →
    (r.flag (F.CQ_CFG_EN q) = false →
      exec (.cqCfgEnable p q v) s = .next ((((((u.setFld (F.CQ_PI_IDX q) 0).setFld (F.CQ_CI_IDX q) 0).setFld
        (F.CQ_HEAD_IDX q) 0).setFld (F.CQ_STAT_SEQ q) 0).setCqLag q 0).cqFill q 0)) ∧
    (r.flag (F.CQ_CFG_EN q) = true →
      exec (.cqCfgEnable p q v) s = .next (u.setFld (F.CQ_CFG_ENT_LOG2 q) (r.fld (F.CQ_CFG_ENT_LOG2 q))))) ∧
  -- cqCiWrite: the write is admitted; `d` is the distance from the index to PI, `h` HEAD's (R250, R251)
  (∀ (s r : State) (p : Path) (q : Fin 64) (v : Word) (d h : Nat), s.Admits p (A.CQ_CI q) false → r = s.reached p →
    d = idxDist (r.cqLog2 q) (r.fld (F.CQ_PI_IDX q)) (fldGet v 0 17) →
    h = idxDist (r.cqLog2 q) (r.fld (F.CQ_PI_IDX q)) (r.fld (F.CQ_HEAD_IDX q)) →
    (2 ^ r.cqLog2 q < d → tblGet zeroN s.dma.cqLag q < d →
      exec (.cqCiWrite p q v) s = .next (r.setFlag (F.CQ_STAT_CI_REJ q) true)) ∧
    (d ≤ 2 ^ r.cqLog2 q ∨ d ≤ tblGet zeroN s.dma.cqLag q → r.flag (F.CQ_CFG_IRQ_EN q) = false →
      ∃ t, exec (.cqCiWrite p q v) s = .next t ∧
        t.fld (F.CQ_CI_IDX q) = (if h < d then r.fld (F.CQ_HEAD_IDX q) else fldGet v 0 17) ∧
        t.flag (F.CQ_STAT_IRQ_PEND q) = false ∧ t.data = s.data ∧ t.herds = s.herds)) ∧
  -- cqWmStatNoticeClear, dmaPoolWmStatNoticeClear: the write is admitted (R228, R252)
  (∀ (s r : State) (p : Path) (q : Fin 64) (v : Word), r = s.reached p →
    (s.Admits p (A.CQ_WM_STAT q) false →
      exec (.cqWmStatNoticeClear p q v) s = .next (r.clearMark (F.CQ_WM_STAT_NOTICE q) (F.CQ_WM_STAT_CROSS q)
        (F.CQ_WM_STAT_PEAK q) (r.fld (F.CQ_FILL_LEVEL q)))) ∧
    (s.Admits p (A.DMA_POOL_WM_STAT q) false →
      exec (.dmaPoolWmStatNoticeClear p q v) s = .next (r.clearMark (F.DMA_POOL_WM_STAT_NOTICE q) (F.DMA_POOL_WM_STAT_CROSS q)
        (F.DMA_POOL_WM_STAT_TROUGH q) (r.fld (F.DMA_POOL_STAT_AVAIL q))))) ∧
  -- hepIrqPendClear: the write is admitted (R283)
  (∀ (s : State) (p : Path) (w : Fin 42) (v : Word), s.Admits p (A.HEP_IRQ_PEND w) false →
    ∃ t, exec (.hepIrqPendClear p w v) s = .next t ∧ (∀ a, a ≠ A.HEP_LINK_STAT → t.reg a = s.reg a) ∧
      (∀ k, k ∈ t.hep.irqPend ↔ k ∈ s.hep.irqPend ∧ ¬(k / 32 = w.val ∧ bitOn v (k % 32) = true)))

/-- The host's side of the link (R254, R258, R259, R266, R267, R285, R286). Completes completionReceive, completionTimeout,
unsupportedRequest, bar2Request, bar4Request and lineCommit. A completion answers the tag it names, one for a quarantined tag
is counted late, one for no tag unexpected; a tag that times out fails its read; an unsupported request is counted, and a
vendor message of type 1 changes nothing; a vector's dword is read and written through BAR 2; BAR 4 reads and writes through
the map; closed, both answer as an unsupported request; a write lost to a buffer error and a poisoned BAR 2 write change no
vector; the oldest line of a channel is committed. Where the spec leaves a point open, the clauses follow the model's choices
of log entries 109, 151, 158 and 200. -/
def Obligations.HostTraffic : Prop :=
  -- completionReceive: the hub runs (R266, R267)
  (∀ (s : State) (tag : Nat) (st : CplStatus) (data : List Byte) (ep : Bool), s.start.phase = .run →
    (∀ t, s.hep.tags.find? (fun t => t.tag == tag) = some t →
      exec (.completionReceive tag st data ep) s = .next (s.tagAnswer t st data ep).kick) ∧
    (s.hep.tags.find? (fun t => t.tag == tag) = none →
      exec (.completionReceive tag st data ep) s = .next (if s.hep.quar.contains tag then s.count31 A.HEP_LATE_CPL 1
        else (s.count31 A.HEP_UNEXP_CPL 1).aerTlp 16 true))) ∧
  -- completionTimeout: the tag is out (R266)
  (∀ (s : State) (tag : Nat) (t : TagSt), s.start.phase = .run → s.hep.tags.find? (fun t => t.tag == tag) = some t →
    (t.discard = false →
      exec (.completionTimeout tag) s = .next ((((s.freeTag tag).aer 14 true []).readFailed t.use 2 8).kick)) ∧
    (t.discard = true → exec (.completionTimeout tag) s = .next ((s.freeTag tag).kick))) ∧
  -- unsupportedRequest: the endpoint answers (R254)
  (∀ (s : State) (posted : Bool) (hdr : List Word), s.barAnswers = true →
    exec (.unsupportedRequest posted false hdr) s = .next (s.barUr posted hdr) ∧
    exec (.unsupportedRequest posted true hdr) s = .next s) ∧
  -- bar2Request: the endpoint answers; `u` is the state once the request's buffer error, if any, is reported (R258, R285, R286)
  (∀ (s u : State) (r : BarRequest), s.barAnswers = true → u = s.exitL1.bufErr r.buf →
    (u.barOpen = true → r.write = true → r.buf = .uncorrectable → exec (.bar2Request r) s = .next u) ∧
    (u.barOpen = false →
      exec (.bar2Request r) s = .next (u.barUr r.write r.hdr)) ∧
    (r.write = false → u.barOpen = true → r.len = 4 → r.ofs % 4 = 0 →
      exec (.bar2Request r) s = .next (u.emit (.completion (some (leBytes 4 (u.bar2Word (r.ofs / 4)).toNat)) (tlpLost r)))) ∧
    (r.write = true → r.buf ≠ .uncorrectable → u.barOpen = true → r.data.length = 4 → r.ofs % 4 = 0 →
      (r.poisoned = true → exec (.bar2Request r) s = .next (u.poisonIn r.hdr)) ∧
      (r.poisoned = false → ∀ (w : Nat) (v : Word), r.ofs = 4 * w → r.data = leBytes 4 v.toNat →
        exec (.bar2Request r) s = .next (u.bar2Write w v).flushIrq))) ∧
  -- bar4Request: the endpoint answers (R259, R285, R286)
  (∀ (s u : State) (r : BarRequest) (old : Bool), s.barAnswers = true → u = s.exitL1.bufErr r.buf →
    (u.barOpen = true → r.write = true → r.buf = .uncorrectable → exec (.bar4Request r old) s = .next u) ∧
    (u.barOpen = false →
      exec (.bar4Request r old) s = .next (u.barUr r.write r.hdr)) ∧
    (r.write = false → u.barOpen = true → ∀ a, u.attLookup old false r.ofs r.len = some a →
      exec (.bar4Request r old) s = .next (u.emit (.completion (some (u.barBytes a r.len).1)
        ((u.barBytes a r.len).2 || tlpLost r)))) ∧
    (r.write = false → u.barOpen = true → u.attLookup old false r.ofs r.len = none →
      exec (.bar4Request r old) s = .next (((u.count31 A.HEP_ATT_MISS 1).aer 20 false r.hdr).emit (.completion none false))) ∧
    (r.write = true → r.buf ≠ .uncorrectable → u.barOpen = true → ∀ a, u.attLookup old true r.ofs r.data.length = some a →
      exec (.bar4Request r old) s = .next (if r.poisoned then (u.aer 12 true r.hdr).intWrite a r.data true
        else u.intWrite a r.data false))) ∧
  -- lineCommit: the channel has a line (R229)
  (∀ (s : State) (c : Fin 256) (l : OutLine), s.start.phase = .run → s.nextLine c = some l →
    exec (.lineCommit c) s = .next ((({ s with data := { s.data with outq := s.data.outq.erase l } } : State).commitLine
      l).settleHerds))

/-- The address map (R261, R262). Completes hepAttCommit and attOldGenerationRelease. A commit with no bad entry makes the
shadow the active map and counts a generation, or waits while the old generation is in use; one with a bad entry is refused
and names it, one while another waits is refused; the old generation's release applies what waits. Where the spec leaves a
point open, the clauses follow the model's choices of log entry 110. -/
def Obligations.AddressMap : Prop :=
  -- hepAttCommit: the write is admitted (R261, R262)
  (∀ (s r : State) (p : Path) (v : Word), s.Admits p A.HEP_ATT_COMMIT false → r = s.reached p →
    r.flag F.HEP_ATT_STAT_BUSY = false →
    ((List.range 64).find? r.attBad = none → r.hep.attOld = none →
      ∃ t, exec (.hepAttCommit p v) s = .next t ∧
        (∀ e, e < 64 → t.reg (A.HEP_ATT_ACT_CTL e) = r.reg (A.HEP_ATT_SH_CTL e) ∧
          t.reg (A.HEP_ATT_ACT_BASE e) = r.reg (A.HEP_ATT_SH_BASE e)) ∧
        t.fld F.HEP_ATT_STAT_GEN = (r.fld F.HEP_ATT_STAT_GEN + 1) % 2 ^ F.HEP_ATT_STAT_GEN.w ∧
        t.hep.attOld = some r.attActive ∧ t.data = r.data ∧ t.sent = r.sent) ∧
    (∀ m, (List.range 64).find? r.attBad = none → r.hep.attOld = some m →
      exec (.hepAttCommit p v) s = .next (({ r with hep := { r.hep with attWait := true } } : State).setFlag
        F.HEP_ATT_STAT_BUSY true)) ∧
    (∀ e, (List.range 64).find? r.attBad = some e →
      exec (.hepAttCommit p v) s = .next ((r.setFlag F.HEP_ATT_STAT_COMMIT_REJ true).setFld F.HEP_ATT_STAT_BAD_ENT e))) ∧
  (∀ (s r : State) (p : Path) (v : Word), s.Admits p A.HEP_ATT_COMMIT false → r = s.reached p →
    r.flag F.HEP_ATT_STAT_BUSY = true →
    exec (.hepAttCommit p v) s = .next (r.setFlag F.HEP_ATT_STAT_COMMIT_REJ true)) ∧
  -- attOldGenerationRelease: the hub runs (R262)
  (∀ s u : State, s.start.phase = .run → u = { s with hep := { s.hep with attOld := none, attWait := false } } →
    (s.hep.attWait = false → exec .attOldGenerationRelease s = .next u) ∧
    (s.hep.attWait = true → exec .attOldGenerationRelease s = .next ((u.setFlag F.HEP_ATT_STAT_BUSY false).attApply)))

/-- Bus mastering and resets (R269, R270, R271, R273, R274, R287). Completes busMasterEnableClear, busMasterEnableSet,
functionLevelReset, flrComplete, tagQuarantineEnd, perstNAssert, perstNDeassert, hotReset and dlDown. Bus Master Enable is
cleared and set; the function-level reset quarantines the tags that are out and is busy until it completes; a quarantined
tag is free again at its release; PERST_N, hot reset and link down: the endpoint's configuration goes to its reset values,
its tags and its interrupts are gone; PERST_N while the core does not run is only held. Where the spec leaves a point open,
the clauses follow the model's choices of log entries 48, 103, 112, 113 and 200. -/
def Obligations.EndpointResets : Prop :=
  -- busMasterEnableClear, busMasterEnableSet, functionLevelReset: the endpoint takes a configuration write (R269, R270, R273)
  (∀ s : State, s.start.phase = .run → s.hep.perst = false → s.hep.flrBusy = false →
    (∃ t, exec .busMasterEnableClear s = .next t ∧ t.ep.bme = false ∧ t.canMaster = false ∧ t.pending = s.pending) ∧
    (∃ t, exec .busMasterEnableSet s = .next t ∧ t.ep.bme = true ∧ t.pending = s.pending) ∧
    (∃ t, exec .functionLevelReset s = .next t ∧ t.hep.flrBusy = true ∧ t.ep = epReset ∧ t.hep.tags = [] ∧
      t.hep.quar = s.hep.quar ++ s.hep.tags.map (·.tag) ∧ t.hep.irqPend = [] ∧ t.hep.inta = false)) ∧
  -- flrComplete: a function-level reset is in progress (R274)
  (∀ s : State, s.start.phase = .run → s.hep.flrBusy = true →
    exec .flrComplete s = .next { s with
      hep := { s.hep with flrBusy := false }
      modes := { s.modes with lastBeat := s.time.elapsed } }) ∧
  -- tagQuarantineEnd: the tag is quarantined (R274)
  (∀ (s : State) (tag : Nat), tag ∈ s.hep.quar →
    exec (.tagQuarantineEnd tag) s = .next ({ s with hep := { s.hep with
      quar := s.hep.quar.filter (· != tag), freed := s.hep.freed ++ [tag] } } : State).kick) ∧
  -- perstNAssert, perstNDeassert: the core runs; the hub is not in Standby (R271)
  (∀ s : State, s.start.phase = .run →
    ∃ t, exec .perstNAssert s = .next t ∧ t.hep.perst = true ∧ t.flag F.HEP_LINK_STAT_DL_UP = false ∧ t.ep = epReset ∧
      t.hep.tags = [] ∧ t.hep.irqPend = []) ∧
  (∀ s : State, s.start.phase ≠ .run →
    exec .perstNAssert s = .next { s with hep := { s.hep with perst := true } }) ∧
  (∀ s : State, s.start.phase ≠ .standby →
    exec .perstNDeassert s = .next { s with hep := { s.hep with perst := false } }) ∧
  -- hotReset, dlDown: the hub runs (R271, R287)
  (∀ s : State, s.start.phase = .run →
    (∃ t, exec .hotReset s = .next t ∧ t.fld F.HEP_LINK_STAT_LSTATE = 3 ∧ t.ep = epReset ∧ t.hep.tags = [] ∧
      t.hep.irqPend = []) ∧
    (∀ errs : List LinkErr, ∃ t, exec (.dlDown errs) s = .next t ∧ t.flag F.HEP_LINK_STAT_DL_UP = false ∧
      t.fld F.HEP_LINK_STAT_LSTATE = 3 ∧ t.ep = epReset ∧ t.hep.tags = [] ∧ t.hep.irqPend = []))

/-- The host link (R20, R275–R280, R288). Completes dlUp, hostLinkRetrain, l0pWidthChange, aspmL1Entry, powerStateD3hot,
powerStateD0 and hepPmCtrlWake. Its width and rate as it comes up and as it is retrained, the errors that retrained it being
reported first; an L0p width within the link's; the entry to L1 where nothing is out and no herd buffer is open, and no
entry while a tag is out; the power states; a wake. Where the spec leaves a point open, the clauses follow the model's
choices of log entries 59, 76 and 200. -/
def Obligations.HostLinkStates : Prop :=
  -- dlUp: PERST_N is high (R275, R288)
  (∀ (s : State) (w : Fin 5) (r : Fin 6) (flit : Bool), s.start.phase = .run → s.hep.perst = false →
    ∃ t, exec (.dlUp w r flit) s = .next t ∧ t.flag F.HEP_LINK_STAT_DL_UP = true ∧ t.fld F.HEP_LINK_STAT_LSTATE = 0 ∧
      t.fld F.HEP_LINK_STAT_WIDTH = w ∧ t.fld F.HEP_LINK_STAT_RATE = r ∧ t.fld F.HEP_LINK_STAT_L0P_W = w ∧
      t.hep.downSince = none ∧ t.data = s.data ∧ t.herds = s.herds) ∧
  -- hostLinkRetrain: the link is up (R275)
  (∀ (s : State) (w : Fin 5) (r : Fin 6) (flit : Bool) (errs : List LinkErr), s.start.phase = .run →
    s.flag F.HEP_LINK_STAT_DL_UP = true →
    ∃ t, exec (.hostLinkRetrain w r flit errs) s = .next t ∧ t.fld F.HEP_LINK_STAT_LSTATE = 0 ∧
      t.fld F.HEP_LINK_STAT_WIDTH = w ∧ t.fld F.HEP_LINK_STAT_RATE = r ∧ t.fld F.HEP_LINK_STAT_L0P_W = w ∧
      t.data = s.data ∧ t.herds = s.herds) ∧
  -- l0pWidthChange: the link is up in Flit mode and no wider is asked for (R276)
  (∀ (s : State) (w : Fin 5), s.start.phase = .run → s.flag F.HEP_LINK_STAT_DL_UP = true →
    s.flag F.HEP_LINK_STAT_FLIT = true → w.val ≤ s.fld F.HEP_LINK_STAT_WIDTH →
    ∃ t, exec (.l0pWidthChange w) s = .next t ∧ t.fld F.HEP_LINK_STAT_L0P_W = w ∧
      t.fld F.HEP_LINK_STAT_LSTATE = (if w.val = s.fld F.HEP_LINK_STAT_WIDTH then 0 else 1) ∧
      t.fld F.HEP_LINK_STAT_WIDTH = s.fld F.HEP_LINK_STAT_WIDTH ∧ t.sent = s.sent) ∧
  -- aspmL1Entry: the hub runs (R279)
  (∀ s : State, s.start.phase = .run →
    (s.ep.aspmL1 = true → s.fld F.HEP_LINK_CFG_L1_IDLE_US ≠ 0 →
      s.fld F.HEP_LINK_STAT_LSTATE = 0 ∨ s.fld F.HEP_LINK_STAT_LSTATE = 1 → s.hep.tags = [] →
      (∀ h ∈ s.herds, h.closed = true ∨ h.bufs = []) →
      exec .aspmL1Entry s = .next (s.setFld F.HEP_LINK_STAT_LSTATE 2)) ∧
    (s.ep.aspmL1 = false ∨ s.hep.tags ≠ [] → exec .aspmL1Entry s = .next s)) ∧
  -- powerStateD3hot, powerStateD0: the endpoint takes a configuration write (R277, R278)
  (∀ s : State, s.start.phase = .run → s.hep.perst = false → s.hep.flrBusy = false →
    (∃ t, exec .powerStateD3hot s = .next t ∧ t.ep.d3 = true ∧ t.canMaster = false ∧ t.pending = s.pending) ∧
    (∃ t, exec .powerStateD0 s = .next t ∧ t.ep.d3 = false ∧ t.pending = s.pending)) ∧
  -- hepPmCtrlWake: the write is admitted (R278)
  (∀ (s : State) (p : Path) (v : Word), s.Admits p A.HEP_PM_CTRL false →
    exec (.hepPmCtrlWake p v) s = .next (s.reached p).wakeHost) ∧
  (∀ s : State, s.wakeHost.ep.pmeSts = true)

/-- Mode requests (R31, R38, R309). Completes glbHeartbeatWrite, linkDownLimit, heartbeatLimit, glbModeReqWrite, limpNAssert,
wakeInAssert and cfgSelWrite. A heartbeat on BAR 0 restarts its limit and one on another path does not; a limit that passes
asks for Limp and one that is 0, or a mode without the limits, ends nothing; each path's request takes its place; LIMP_N asks
for Limp unless the hub is in it, or on its way; WAKE_IN starts the hub from Standby; a verified bank may be selected. Where
the spec leaves a point open, the clauses follow the model's choices of log entries 13, 68, 122 and 138. -/
def Obligations.ModeRequests : Prop :=
  -- glbHeartbeatWrite: the write is admitted (R38)
  (∀ s : State, s.Admits .bar0 A.GLB_HEARTBEAT false →
    ∃ t, exec (.glbHeartbeatWrite .bar0) s = .next t ∧ t.modes.lastBeat = s.time.elapsed ∧
      t.regs = (s.reached .bar0).regs ∧ t.sent = (s.reached .bar0).sent) ∧
  (∀ s : State, s.Admits .mgmt A.GLB_HEARTBEAT false → exec (.glbHeartbeatWrite .mgmt) s = .next s) ∧
  -- linkDownLimit, heartbeatLimit: the hub runs (R38)
  (∀ s : State, s.start.phase = .run →
    (∀ t, s.hep.downSince = some t → s.fld F.GLB_LIMP_CFG_LINK_MS ≠ 0 → s.mode ≠ 0 → s.mode ≠ 2 → s.mode ≠ 3 →
      exec .linkDownLimit s = .next ((s.advance (s.now +
        (t + s.fld F.GLB_LIMP_CFG_LINK_MS * 16000000 + 1 - s.time.elapsed))).hostLost 0)) ∧
    (s.fld F.GLB_LIMP_CFG_HB_MS ≠ 0 → s.mode ≠ 0 → s.mode ≠ 2 → s.mode ≠ 3 →
      exec .heartbeatLimit s = .next ((s.advance (s.now +
        (s.modes.lastBeat + s.fld F.GLB_LIMP_CFG_HB_MS * 16000000 + 1 - s.time.elapsed))).hostLost 1)) ∧
    (s.fld F.GLB_LIMP_CFG_HB_MS = 0 ∨ s.mode = 0 ∨ s.mode = 2 ∨ s.mode = 3 → exec .heartbeatLimit s = .next s)) ∧
  -- glbModeReqWrite: the write is admitted (R31)
  (∀ (s r : State) (p : Path) (v : Word), s.Admits p A.GLB_MODE_REQ false → r = s.reached p →
    exec (.glbModeReqWrite p v) s = .next ((r.setPath p { r.path p with modeReq := fldGet v 0 3 }).request
      (match p with | .bar0 => 4 | .mgmt => 2 | .jtag => 3) (if p = .bar0 then 0 else 1) (fldGet v 0 3))) ∧
  -- limpNAssert: the hub runs (R31)
  (∀ s u : State, s.start.phase = .run → u = { s with modes := { s.modes with limpN := true } } →
    exec .limpNAssert s = .next (if u.planMode = 7 then u else u.request 1 2 7)) ∧
  -- wakeInAssert: the hub is in Standby; it is not (R31)
  (∀ s : State, s.start.phase = .standby →
    ∃ t, exec .wakeInAssert s = .next t ∧ t.start.phase = .rails ∧ t.start.railsUp = 0 ∧ t.start.toLimp = false ∧
      t.pending = s.pending) ∧
  (∀ s : State, s.start.phase ≠ .standby → exec .wakeInAssert s = .next s) ∧
  -- cfgSelWrite: the write is admitted (R309)
  (∀ (s r : State) (p : Path) (v : Word), s.Admits p A.CFG_SEL false → r = s.reached p →
    (r.verified (fldGet v 0 1) = true →
      ∃ t, exec (.cfgSelWrite p v) s = .next t ∧ t.led.primaryB = (fldGet v 0 1 == 1) ∧
        t.fld F.GLB_START_FAIL_FAILS_A = 0 ∧ t.fld F.GLB_START_FAIL_FAILS_B = 0 ∧ t.sent = r.sent ∧ t.data = r.data) ∧
    (r.verified (fldGet v 0 1) = false →
      exec (.cfgSelWrite p v) s = .next (r.setFlag F.CFG_SEL_SEL_REJ true)))

/-- Flash commands (R310, R311). Completes erase, program, read, verify and flashCommandDone. An aligned ERASE, PROGRAM,
READ or VERIFY of a place that is not shut begins; a misaligned or shut one ends at once with result 3 and nothing under way;
one given while another runs is refused; at its end an erased sector reads FFH, a page programmed has its bits cleared, a page
read stands in the buffer, and a command the flash does not end in time has result 2. Where the spec leaves a point open, the
clauses follow the model's choices of log entries 120 and 121. -/
def Obligations.FlashCommands : Prop :=
  -- erase, program, read, verify: the write is admitted and no command runs (R310)
  (∀ (s r : State) (p : Path) (a : Nat), s.Admits p A.CFG_FL_CMD false → r = s.reached p → r.flag F.CFG_FL_STAT_BUSY = false →
    a = r.fld F.CFG_FL_ADDR_ADDR →
    (a % 4096 = 0 → r.flashShut a = false → ∃ t, exec (.erase p) s = .next t ∧ t.flag F.CFG_FL_STAT_BUSY = true ∧
      t.fld F.CFG_FL_STAT_LAST_CMD = 1 ∧ t.fld F.CFG_FL_STAT_RESULT = 0 ∧ (t.flCmd.map (·.1)) = some a ∧ t.flash = r.flash) ∧
    (a % 256 = 0 → r.flashShut a = false → ∃ t, exec (.program p) s = .next t ∧ t.flag F.CFG_FL_STAT_BUSY = true ∧
      t.fld F.CFG_FL_STAT_LAST_CMD = 2 ∧ t.fld F.CFG_FL_STAT_RESULT = 0 ∧
      t.flCmd = some (a, (List.range 64).flatMap fun i => leBytes 4 (r.reg (A.CFG_FL_BUF i)).toNat) ∧ t.flash = r.flash) ∧
    (a % 256 = 0 → ∃ t, exec (.read p) s = .next t ∧ t.flag F.CFG_FL_STAT_BUSY = true ∧
      t.fld F.CFG_FL_STAT_LAST_CMD = 3 ∧ t.flash = r.flash ∧ t.sent = r.sent) ∧
    (∃ t, exec (.verify p) s = .next t ∧ t.flag F.CFG_FL_STAT_BUSY = true ∧ t.fld F.CFG_FL_STAT_LAST_CMD = 4 ∧
      t.flash = r.flash ∧ t.sent = r.sent) ∧
    (a % 256 ≠ 0 → ∃ t, exec (.read p) s = .next t ∧ t.fld F.CFG_FL_STAT_RESULT = 3 ∧ t.flCmd = r.flCmd) ∧
    (a % 256 ≠ 0 ∨ r.flashShut a = true → ∃ t, exec (.program p) s = .next t ∧ t.fld F.CFG_FL_STAT_RESULT = 3 ∧
      t.flCmd = r.flCmd ∧ t.flash = r.flash) ∧
    (a % 4096 ≠ 0 ∨ r.flashShut a = true → ∃ t, exec (.erase p) s = .next t ∧ t.fld F.CFG_FL_STAT_RESULT = 3 ∧
      t.flCmd = r.flCmd ∧ t.flash = r.flash)) ∧
  -- erase, program, read, verify: a command runs (R310)
  (∀ (s r : State) (p : Path), s.Admits p A.CFG_FL_CMD false → r = s.reached p → r.flag F.CFG_FL_STAT_BUSY = true →
    ∀ i ∈ [Instr.erase p, .program p, .read p, .verify p], exec i s = .next (r.setFlag F.CFG_FL_STAT_CMD_REJ true)) ∧
  -- flashCommandDone: a command runs (R310, R311)
  (∀ (s : State) (a : Nat) (page : List Byte), s.core = true → s.start.fwBusy = false → s.flCmd = some (a, page) →
    (s.fld F.CFG_FL_STAT_LAST_CMD = 1 → ∃ t, exec (.flashCommandDone false) s = .next t ∧ t.flCmd = none ∧
      t.flag F.CFG_FL_STAT_BUSY = false ∧ t.fld F.CFG_FL_STAT_RESULT = 1 ∧ t.flash = (s.eraseSector a).flash) ∧
    (s.fld F.CFG_FL_STAT_LAST_CMD = 2 → ∃ t, exec (.flashCommandDone false) s = .next t ∧ t.flCmd = none ∧
      t.fld F.CFG_FL_STAT_RESULT = 1 ∧ t.flash = (s.program a page).flash) ∧
    (s.fld F.CFG_FL_STAT_LAST_CMD = 3 → ∃ t, exec (.flashCommandDone false) s = .next t ∧ t.flCmd = none ∧
      t.fld F.CFG_FL_STAT_RESULT = 1 ∧ t.flash = s.flash ∧
      ∀ i, i < 64 → t.reg (A.CFG_FL_BUF i) = BitVec.ofNat 32 (leAt (s.flashRead a 256) (4 * i) 4)) ∧
    (∃ t, exec (.flashCommandDone true) s = .next t ∧ t.flCmd = none ∧ t.fld F.CFG_FL_STAT_RESULT = 2 ∧
      t.flag F.CFG_FL_STAT_BUSY = false))

/-- Life cycle and fuses (R329, R331, R332, R333). Completes genDus, provision, field, secOtpProg, secRollCtrlCommit and
securityOperationDone. GEN_DUS burns 32 fresh bytes once; PROVISION and FIELD move the life cycle one step; out of turn each
ends as refused, and a wrong key or the host's path is refused at once; a fuse word and the rollback count are burnt as
operations, the count for an image that a cold start composed and whose failure count is clear; an operation given while
another runs is refused; at its end the result is published; no fuse is ever cleared. Where the spec leaves a point open, the
clauses follow the model's choices of log entries 34 and 128. -/
def Obligations.LifeCycle : Prop :=
  -- genDus, provision, field: the keyed write is admitted on the management bus or JTAG and no operation runs (R329, R331)
  (∀ (s : State) (p : Path), s.Admits p A.SEC_LC_CTRL false → p ≠ .bar0 → s.flag F.SEC_OP_STAT_BUSY = false →
    (s.dusOk = false → exec (.genDus p 0x4C43#16) s = .next (((s.fuse 0x20 (s.freeBytes 32)).drawnN 32).beginOp 1 resOk [])) ∧
    (s.dusOk = true → exec (.genDus p 0x4C43#16) s = .next (s.beginOp 1 resRefused [])) ∧
    (s.lc = 0 → s.dusOk = true → s.uidOk = true → s.keysLeft 4 = true →
      exec (.provision p 0x4C43#16) s = .next ((s.setLc 0).beginOp 1 resOk [])) ∧
    (s.lc ≠ 0 → exec (.provision p 0x4C43#16) s = .next (s.beginOp 1 resRefused [])) ∧
    (s.lc = 1 → s.keysLeft 4 = true →
      exec (.field p 0x4C43#16) s = .next (((s.setLc 1).jtagLock).beginOp 1 resOk [])) ∧
    (s.lc ≠ 1 → exec (.field p 0x4C43#16) s = .next (s.beginOp 1 resRefused []))) ∧
  -- genDus, provision, field: BAR 0, or a wrong key (R331)
  (∀ (s r : State) (p : Path) (k : BitVec 16), s.Admits p A.SEC_LC_CTRL false → r = s.reached p → p = .bar0 ∨ k ≠ 0x4C43#16 →
    ∀ i ∈ [Instr.genDus p k, .provision p k, .field p k], exec i s = .next (r.setFld F.SEC_OP_STAT_RESULT resRefused)) ∧
  -- secOtpProg: the write is admitted (R332)
  (∀ (s r : State) (p : Path) (o : Nat), s.Admits p A.SEC_OTP_PROG false → r = s.reached p →
    o = r.fld F.SEC_OTP_ADDR_WORD * 4 →
    (r.flag F.SEC_OP_STAT_BUSY = false → exec (.secOtpProg p) s = .next ((r.otpProg o (r.reg A.SEC_OTP_DATA)).1.beginOp 2
      (if (r.otpProg o (r.reg A.SEC_OTP_DATA)).2 = true then resOk else resRefused) [])) ∧
    (r.flag F.SEC_OP_STAT_BUSY = true → exec (.secOtpProg p) s = .next (r.setFlag F.SEC_OP_STAT_REJ true))) ∧
  -- secRollCtrlCommit: the write is admitted and no operation runs (R333)
  (∀ (s r : State) (p : Path) (im : Image), s.Admits p A.SEC_ROLL_CTRL false → r = s.reached p →
    r.flag F.SEC_OP_STAT_BUSY = false → r.image = some im →
    (r.sec.coldImage = true → r.start.clearDue = [] →
      exec (.secRollCtrlCommit p) s = .next ((r.fuse 0x140 (leBytes 32 (2 ^ min im.secVer 256 - 1))).beginOp 4 resOk [])) ∧
    (r.sec.coldImage = false ∨ r.start.clearDue ≠ [] →
      exec (.secRollCtrlCommit p) s = .next (r.beginOp 4 resRefused []))) ∧
  (∀ (s : State) (l : List Byte) (o : Nat), s.FusesIn (s.fuse o l)) ∧
  -- securityOperationDone: an operation runs (R329)
  (∀ (s : State) (op r : Nat), s.core = true → s.sec.op = some (op, r, []) → op ≠ 3 →
    ∃ t, exec .securityOperationDone s = .next t ∧ t.flag F.SEC_OP_STAT_BUSY = false ∧
      t.fld F.SEC_OP_STAT_RESULT = r % 16 ∧ t.sec.op = none)

/-- Challenges, tokens and the log (R329, R332, R335, R347, R394). Completes secChalCtrlNew, challengeExpire, debugUnlock,
logClear, returnPart, revoke, logClearEraseDone and secDbgCtrlRelock. A new challenge is 32 fresh bytes, and expires; each
token row takes the token in the buffer when it names the row: one that passes its checks acts, one that fails only ends with
its result, and on BAR 0 none is looked at; the log is cleared by the keyed write and stands empty but for its own record at
the end; RELOCK closes the scopes and is logged. Where the spec leaves a point open, the clauses follow the model's choices
of log entry 127. -/
def Obligations.TokensAndLog : Prop :=
  -- secChalCtrlNew: the write is admitted (R335)
  (∀ (s r : State) (p : Path), s.Admits p A.SEC_CHAL_CTRL false → r = s.reached p →
    ∃ t, exec (.secChalCtrlNew p) s = .next t ∧ t.flag F.SEC_CHAL_CTRL_CURRENT = true ∧
      t.sec.chalAt = some s.time.elapsed ∧ t.freeCtr = s.freeCtr + 32 ∧
      (∀ i, i < 8 → t.reg (A.SEC_CHAL i) = BitVec.ofNat 32 (leAt (s.freeBytes 32) (4 * i) 4)) ∧ t.sent = r.sent) ∧
  -- challengeExpire: a challenge stands (R335)
  (∀ (s : State) (n : Nat), s.core = true → s.sec.chalAt = some n →
    exec .challengeExpire s = .next (({ s with sec := { s.sec with chalAt := none } } : State).setFlag
      F.SEC_CHAL_CTRL_CURRENT false)) ∧
  -- debugUnlock, logClear, returnPart, revoke: the write is admitted on the management bus or JTAG and no operation runs (R335)
  (∀ (s : State) (p : Path) (i : Instr) (v : Word), s.Admits p A.SEC_TOK_CTRL false → p ≠ .bar0 →
    s.flag F.SEC_OP_STAT_BUSY = false →
    (leAt s.token 4 1, i) ∈ [(1, Instr.debugUnlock p), (2, .logClear p true v), (3, .returnPart p), (4, .revoke p)] →
    (s.tokenCheck p s.token = 1 → exec i s = .next ((s.dropChallenge.tokenAct s.token).beginOp 3 1 s.token)) ∧
    (∀ r, s.tokenCheck p s.token = r → r = 2 ∨ r = 3 → exec i s = .next (s.beginOp 3 r s.token)) ∧
    (∀ r, s.tokenCheck p s.token = r → 4 ≤ r → exec i s = .next (s.dropChallenge.beginOp 3 r s.token))) ∧
  -- debugUnlock, logClear, returnPart, revoke: BAR 0 (R335)
  (∀ (s : State) (v : Word), s.Admits .bar0 A.SEC_TOK_CTRL false →
    ∀ i ∈ [Instr.debugUnlock .bar0, .logClear .bar0 true v, .returnPart .bar0, .revoke .bar0],
      exec i s = .next (s.reached .bar0)) ∧
  -- logClear by its keyed write: admitted, with the life cycle RETURNED (R394)
  (∀ (s : State) (v : Word), s.Admits .mgmt A.REC_CTRL false → s.lc = 3 → fldGet v 16 16 = 0x434C → s.recs.clear = none →
    exec (.logClear .mgmt false v) s = .next (s.beginClear 1 0xFF)) ∧
  -- logClearEraseDone: a clearing runs (R394)
  (∀ (s : State) (c : ClearSt), s.core = true → s.start.fwBusy = false → s.recs.clear = some c →
    exec .logClearEraseDone s = .next s.endClear ∧ s.endClear.recs.clear = none) ∧
  -- secDbgCtrlRelock: the write is admitted (R347)
  (∀ (s r : State) (p : Path), s.Admits p A.SEC_DBG_CTRL false → r = s.reached p →
    exec (.secDbgCtrlRelock p) s = .next ((((r.setFld F.SEC_STAT_DBG_SCOPE 0).setFlag F.SEC_STAT_DBG_OPEN false).jtagLock).log
      347 noSrc []))

/-- JTAG (R346, R347). Completes bypass, idcode, samplePreload, extest, intest, clamp, highz, trace and regacc. The instruction
register takes each instruction; in the field the boundary instructions and TRACE stand as BYPASS unless their scope is open;
IDCODE reads its 32 bits; REGACC reads and writes a register that is open to it, and one that is not open reads 0 and takes no
write. Where the spec leaves a point open, the clauses follow the model's choices of log entries 95 and 129. -/
def Obligations.JtagInstructions : Prop :=
  -- bypass, samplePreload, idcode: the core has power (R346)
  (∀ s : State, s.core = true →
    exec .bypass s = .next { s with sec := { s.sec with jtag := .bypass } } ∧
    exec .samplePreload s = .next { s with sec := { s.sec with jtag := .sample } } ∧
    (∃ t, exec .idcode s = .next t ∧ t.sec.jtag = .idcode ∧ t.regs = s.regs ∧ t.freeCtr = s.freeCtr + 1 ∧
      t.sent = s.sent ++ [.readData .jtag (BitVec.ofNat 32 (s.free 32))])) ∧
  -- extest, intest, clamp, highz, trace: outside the field, or with the scope open (R347)
  (∀ s : State, s.core = true →
    (s.lc ≠ 2 ∨ (s.fld F.SEC_STAT_DBG_SCOPE).testBit 0 = true →
      exec .extest s = .next { s with sec := { s.sec with jtag := .extest } } ∧
      exec .intest s = .next { s with sec := { s.sec with jtag := .intest } } ∧
      exec .clamp s = .next { s with sec := { s.sec with jtag := .clamp } } ∧
      exec .highz s = .next { s with sec := { s.sec with jtag := .highz } }) ∧
    (s.lc ≠ 2 ∨ (s.fld F.SEC_STAT_DBG_SCOPE).testBit 2 = true →
      exec .trace s = .next { s with sec := { s.sec with jtag := .trace } })) ∧
  -- extest, intest, clamp, highz, trace: in the field with the scope closed (R347)
  (∀ s : State, s.core = true → s.lc = 2 →
    ((s.fld F.SEC_STAT_DBG_SCOPE).testBit 0 = false → ∀ i ∈ [Instr.extest, .intest, .clamp, .highz],
      exec i s = .next { s with sec := { s.sec with jtag := .bypass } }) ∧
    ((s.fld F.SEC_STAT_DBG_SCOPE).testBit 2 = false →
      exec .trace s = .next { s with sec := { s.sec with jtag := .bypass } })) ∧
  -- regacc: the core has power (R346, R347)
  (∀ (s j : State) (a : BitVec 26) (v : Word), s.core = true → j = s.jtag .regacc true →
    (j.regaccOpen (wordAddr a) = true →
      exec (.regacc a (some v)) s = .next (j.writeAddr .jtag (wordAddr a) v) ∧
      exec (.regacc a none) s = .next (j.readAddr .jtag (wordAddr a))) ∧
    (j.regaccOpen (wordAddr a) = false →
      exec (.regacc a (some v)) s = .next j ∧ exec (.regacc a none) s = .next (j.answer .jtag 0#32)))

/-- The management bus (R352, R354–R362). Completes mgtWriteFrame, mgtReadFrame, mgtFrameCutoff, mgtTimeout, mgRstNAssert,
mgRstNDeassert, mgtWakeAddressMatch and mgtWakeStretchEnd. The hub acknowledges every byte of a whole write frame, commits it
and counts it; a frame for another address is left alone; a wrong PEC is not acknowledged, and is counted with nothing
written; a read frame answers its bytes; a write frame or a read frame cut off, a timeout and a reset in a frame are counted
as the rules say; the address pins are taken at the end of the reset; an address match in Standby wakes the hub and stretches
the clock, until it is ready or the wait ends. Where the spec leaves a point open, the clauses follow the model's choices of
log entries 86, 88, 89, 90 and 91. -/
def Obligations.ManagementFrames : Prop :=
  -- mgtWriteFrame: the hub listens (R354, R355)
  (∀ (s : State) (l : List Byte), s.mgtListens = true →
    (s.mgtHead l = .foreign → exec (.mgtWriteFrame l) s = .next s) ∧
    (∀ op pec a n, s.mgtHead l = .ok op pec a n → op ≠ 2 →
      ((l.drop 7).length = n + (if pec then 1 else 0) → (pec = true → byteAt (l.drop 7) n = crc8 (l.take (7 + n))) →
        exec (.mgtWriteFrame l) s = .next (((s.emit (.mgtAcks l.length false)).mgtCommit a ((l.drop 7).take n)).mgtGood 1)) ∧
      (pec = true → (l.drop 7).length = n + 1 → byteAt (l.drop 7) n ≠ crc8 (l.take (7 + n)) →
        exec (.mgtWriteFrame l) s = .next ((((s.emit (.mgtAcks (7 + n) true)).count31 A.MGT_PEC_ERR 1).count31
          A.MGT_NACK_CNT 1).mgtLast 4)))) ∧
  -- mgtFrameCutoff: the hub listens; before the commit, or in the read's data (R358)
  (∀ (s : State) (l : List Byte) (op a n : Nat) (pec : Bool), s.mgtListens = true → s.mgtHead l = .ok op pec a n →
    (op ≠ 2 → (l.drop 7).length < n → ∀ k,
      exec (.mgtFrameCutoff l none k) s = .next (((s.emit (.mgtAcks l.length false)).count31 A.MGT_ABORT_CNT 1).mgtLast 5)) ∧
    (op = 2 → l.length = 7 → ∀ (second : Byte) k, second.toNat = s.mgtAddrW + 1 → k < n →
      ∃ t, exec (.mgtFrameCutoff l (some second) k) s = .next t ∧ t.fld F.MGT_TGT_STAT_LAST = 5 ∧
        t.reg A.MGT_SHORT_RD = ((s.emit (.mgtAcks 8 false)).mgtReads a (n / 4)).1.reg A.MGT_SHORT_RD)) ∧
  -- mgtReadFrame: the hub listens (R356)
  (∀ (s u : State) (l r d : List Byte) (second : Byte) (a n k : Nat) (pec : Bool), s.mgtListens = true →
    s.mgtHead l = .ok 2 pec a n → l.length = 7 → second.toNat = s.mgtAddrW + 1 →
    (u, r) = (s.emit (.mgtAcks 8 false)).mgtReads a (n / 4) →
    d = r ++ (if pec then leBytes 1 (crc8 (l ++ [second] ++ r)) else []) →
    (n ≤ k → exec (.mgtReadFrame l second k) s = .next ((u.emit (.mgt (d.take k))).mgtGood 2)) ∧
    (k < n → exec (.mgtReadFrame l second k) s = .next (((u.emit (.mgt (d.take k))).count31 A.MGT_SHORT_RD 1).mgtLast 7))) ∧
  -- mgtTimeout, mgRstNAssert: the bus is not in reset (R359, R360)
  (∀ s : State, s.bus.rst = false → s.bus.stretch = false → s.reachable .mgmt = true →
    exec .mgtTimeout s = .next s.mgtTimeout ∧
    exec (.mgRstNAssert false) s = .next { s with bus := { s.bus with rst := true } } ∧
    exec (.mgRstNAssert true) s = .next (({ s with bus := { s.bus with rst := true } } : State).count31
      A.MGT_ABORT_CNT 1 |>.mgtLast 5)) ∧
  -- mgRstNDeassert: the bus is in reset (R352, R360)
  (∀ (s : State) (pins : Fin 8), s.bus.rst = true →
    (s.start.phase ≠ .off → exec (.mgRstNDeassert pins) s = .next { s with
      bus := { s.bus with rst := false }
      start := { s.start with addrPins := pins } }) ∧
    (s.start.phase = .off → exec (.mgRstNDeassert pins) s = .next { s with bus := { s.bus with rst := false } })) ∧
  -- mgtWakeAddressMatch: the hub is in Standby (R361)
  (∀ s : State, s.bus.rst = false → s.start.phase = .standby →
    ∃ t, exec .mgtWakeAddressMatch s = .next t ∧ t.start.phase = .rails ∧ t.start.railsUp = 0 ∧ t.pending = s.pending) ∧
  -- mgtWakeStretchEnd: the clock is stretched (R361, R362)
  (∀ s : State, s.bus.stretch = true →
    exec (.mgtWakeStretchEnd true) s = .next { s with bus := { s.bus with stretch := false, served := true } } ∧
    exec (.mgtWakeStretchEnd false) s = .next { s with bus := { s.bus with stretch := false, served := true } }.mgtTimeout)

/-- The lead-wire ports (R364–R367). Completes lwWrite, lwRead, lwWriteRead, lwTransactionDone, lwArbitrationRetry,
lwStretchTimeout and lwStuck. GO starts a transaction of a free, enabled port and is refused on any other; the result is
published, and the bytes read after a transaction without error; lost arbitration is tried again up to its limit; a stretch
past its limit ends the transaction, and a line that stays low after it is a stuck bus; a recovery that frees the bus puts
the waiting transaction on it. Where the spec leaves a point open, the clauses follow the model's choices of log entries 82,
83 and 174. -/
def Obligations.LeadWirePorts : Prop :=
  -- lwWrite, lwRead, lwWriteRead: the write is admitted (R364)
  (∀ (s r : State) (p : Path) (w : Fin 16) (v : Word), s.Admits p (A.LW_CMD w) false → r = s.reached p →
    ∀ i ∈ [Instr.lwWrite p w v, .lwRead p w v, .lwWriteRead p w v],
      (r.fld (F.LW_STAT_STATE w) ≠ 1 → r.flag (F.LW_CFG_EN w) = true →
        ∃ t, exec i s = .next t ∧ t.fld (F.LW_STAT_STATE w) = 1 ∧ t.fld (F.LW_STAT_RETRIES w) = 0 ∧
          t.fld (F.LW_STAT_RESULT w) = 0 ∧ t.data = r.data) ∧
      (r.fld (F.LW_STAT_STATE w) = 1 ∨ r.flag (F.LW_CFG_EN w) = false →
        exec i s = .next (r.setFlag (F.LW_STAT_GO_REJ w) true))) ∧
  -- lwTransactionDone: the port's transaction runs (R364, R366)
  (∀ (s u : State) (w : Fin 16) (r : Fin 4) (n : Fin 64) (d : List Byte), s.core = true → s.fld (F.LW_STAT_STATE w) = 1 →
    u = s.lwFreed w →
    (r.val ≠ 0 → exec (.lwTransactionDone w r n d false) s =
      .next (u.lwEnd w (if r.val = 3 then 6 else r) (u.lwAcked w (if r.val = 3 then 6 else r) n))) ∧
    (r.val = 0 → u.lwOp w ≠ 0 → exec (.lwTransactionDone w r n d false) s =
      .next ((u.setBuf (A.LW_RBUF w) (padTo (u.lwRlen w) d)).lwEnd w 0
        ((u.setBuf (A.LW_RBUF w) (padTo (u.lwRlen w) d)).lwAcked w 0 n))) ∧
    (r.val = 0 → u.lwOp w = 0 → exec (.lwTransactionDone w r n d false) s = .next (u.lwEnd w 0 (u.lwAcked w 0 n)))) ∧
  (∀ (s : State) (w : Nat), (w ∉ s.bus.stuck → s.lwFreed w = s) ∧
    (w ∈ s.bus.stuck → s.lwFreed w =
      ({ s with bus := { s.bus with stuck := s.bus.stuck.filter (· != w) } } : State).lwSend w)) ∧
  -- lwArbitrationRetry: the port's transaction runs on a shared bus (R365)
  (∀ (s t : State) (w : Fin 16), s.core = true → s.fld (F.LW_STAT_STATE w) = 1 → s.flag (F.LW_CFG_MULTI w) = true →
    t = (s.lwFreed w).count31 (A.LW_ARB_LOST w) 1 →
    (t.fld (F.LW_CFG_RETRY_LIM w) ≤ t.fld (F.LW_STAT_RETRIES w) →
      exec (.lwArbitrationRetry w) s = .next (t.lwEnd w 3 0)) ∧
    (t.fld (F.LW_STAT_RETRIES w) < t.fld (F.LW_CFG_RETRY_LIM w) →
      exec (.lwArbitrationRetry w) s = .next ((t.setFld (F.LW_STAT_RETRIES w) (t.fld (F.LW_STAT_RETRIES w) + 1)).lwSend w))) ∧
  -- lwStretchTimeout: the port's transaction runs (R366)
  (∀ (s t : State) (w : Fin 16) (n : Fin 64), s.core = true → s.fld (F.LW_STAT_STATE w) = 1 →
    t = (s.lwFreed w).count31 (A.LW_TIMEOUT w) 1 →
    exec (.lwStretchTimeout w n false) s = .next (t.lwEnd w 4 (min (t.lwWlen w) n)) ∧
    exec (.lwStretchTimeout w n true) s = .next ((t.lwEnd w 4 (min (t.lwWlen w) n)).setFlag (F.LW_STAT_BUS_CLR w) true)) ∧
  -- lwStuck: the transaction ended by a stretch (R367)
  (∀ (s : State) (w : Fin 16), s.core = true → s.fld (F.LW_STAT_STATE w) = 2 → s.fld (F.LW_STAT_RESULT w) = 4 →
    ∃ t, exec (.lwStuck w) s = .next t ∧ t.fld (F.LW_STAT_STATE w) = 2 ∧ t.fld (F.LW_STAT_RESULT w) = 5 ∧
      w.val ∈ t.bus.stuck ∧ t.sent = s.sent)

/-- The tunnel (R368, R369). Completes tunWrite, tunRead, tunWriteRead, ctrlReply and tunnelTimeout. GO on a slot in use is
refused, with event 406 when every slot is; a bad length ends at once with BAD_CMD, a node that is not present with NO_NODE,
and a good command waits its turn; the reply that carries its number ends it with its result and the bytes read; any other
reply is counted as stray; no reply in time ends it. Where the spec leaves a point open, the clauses follow the model's
choices of log entries 84, 173 and 206. -/
def Obligations.TunnelSlots : Prop :=
  -- tunWrite, tunRead, tunWriteRead: the write is admitted and the slot is in use (R368)
  (∀ (s r : State) (p : Path) (k : Fin 64) (v : Word), s.Admits p (A.TUN_CMD k) false → r = s.reached p →
    r.fld (F.TUN_STAT_STATE k) = 1 ∨ r.fld (F.TUN_STAT_STATE k) = 2 →
    ∀ i ∈ [Instr.tunWrite p k v, .tunRead p k v, .tunWriteRead p k v],
      ((∃ j, j < 64 ∧ r.fld (F.TUN_STAT_STATE j) ≠ 1 ∧ r.fld (F.TUN_STAT_STATE j) ≠ 2) →
        exec i s = .next (r.setFlag F.MGT_TUN_STAT_GO_REJ true)) ∧
      ((∀ j, j < 64 → r.fld (F.TUN_STAT_STATE j) = 1 ∨ r.fld (F.TUN_STAT_STATE j) = 2) →
        exec i s = .next ((r.setFlag F.MGT_TUN_STAT_GO_REJ true).log 406 noSrc (det 1 6)))) ∧
  -- tunWrite, tunRead, tunWriteRead: the write is admitted and the slot is free (R368, R369)
  (∀ (s r t : State) (p : Path) (k : Fin 64) (v : Word) (op : Nat) (i : Instr), s.Admits p (A.TUN_CMD k) false →
    r = s.reached p → r.fld (F.TUN_STAT_STATE k) = 0 ∨ r.fld (F.TUN_STAT_STATE k) = 3 →
    (op, i) ∈ [(0, Instr.tunWrite p k v), (1, .tunRead p k v), (2, .tunWriteRead p k v)] →
    t = { r.plainWrite (A.TUN_CMD k) (goOp v 9 op) with
      bus := { r.bus with tunCmd := tblSet (fun _ => 0#32) r.bus.tunCmd k (goOp v 9 op) } } →
    (16 < fldGet v 18 5 ∨ 16 < fldGet v 23 5 → exec i s = .next (t.tunDone k 8 0)) ∧
    (fldGet v 18 5 ≤ 16 → fldGet v 23 5 ≤ 16 → t.flag (F.NODE_ENT_PRESENT (t.tunNa k)) = false →
      exec i s = .next (t.tunDone k 7 0)) ∧
    (fldGet v 18 5 ≤ 16 → fldGet v 23 5 ≤ 16 → t.flag (F.NODE_ENT_PRESENT (t.tunNa k)) = true →
      exec i s = .next ({ (((t.setFld (F.TUN_STAT_STATE k) 1).setFld (F.TUN_STAT_RESULT k) 0).setFld
        (F.TUN_STAT_ACKED k) 0) with
          bus := { t.bus with order := t.bus.order.filter (· != k.val) ++ [k.val] } } : State).tunPump)) ∧
  -- ctrlReply: the hub runs (R369)
  (∀ (s u : State) (p : Fin 64) (pos : Fin 8) (txn : Byte) (st : Fin 6) (n : Fin 32) (d : List Byte) (k : Nat), s.Runs →
    k = txn.toNat % 64 → u = s.tunDone k (st.val + 1) n →
    (s.fld (F.TUN_STAT_STATE k) = 2 → s.tunNa k = nodeAddr p pos → s.fld (F.TUN_STAT_TXN k) = txn.toNat →
      (st.val = 0 → exec (.ctrlReply p pos txn st n d) s = .next (u.setBuf (A.TUN_RDATA k) (padTo 16 d)).tunPump) ∧
      (st.val = 2 → exec (.ctrlReply p pos txn st n d) s = .next (u.setBuf (A.TUN_RDATA k) (padTo (min 16 n) d)).tunPump) ∧
      (st.val ≠ 0 → st.val ≠ 2 → exec (.ctrlReply p pos txn st n d) s = .next u.tunPump)) ∧
    (s.fld (F.TUN_STAT_STATE k) ≠ 2 ∨ s.tunNa k ≠ nodeAddr p pos ∨ s.fld (F.TUN_STAT_TXN k) ≠ txn.toNat →
      exec (.ctrlReply p pos txn st n d) s = .next (s.count31 A.MGT_TUN_STRAY 1))) ∧
  -- tunnelTimeout: the slot's command is out (R369)
  (∀ (s : State) (k : Fin 64), s.start.phase = .run → s.fld (F.TUN_STAT_STATE k) = 2 →
    exec (.tunnelTimeout k) s = .next ((s.tunDone k 5 0).tunPump))

/-- Rails (R312, R314, R370, R372). Completes railEnableNext, psPgTimeout, psPgFall, railSample and railFaultRestart. The next
rail is enabled in turn, and the sixth begins the start's steps with what its tests find; a rail that is not good in time or
falls takes every rail down with its rail and kind recorded, and the restart begins at its end, cold; a sample stands in its
register and restarts the runs of readings out of tolerance. Where the spec leaves a point open, the clauses follow the
model's choices of log entries 58 and 66. -/
def Obligations.Rails : Prop :=
  -- railEnableNext: the rails come up (R312, R370)
  (∀ (s : State) (n : Nat) (found : Found), s.start.phase = .rails → s.start.railsUp = n →
    (n < 5 → ∃ t, exec (.railEnableNext found) s = .next t ∧ t.start.phase = .rails ∧ t.start.railsUp = n + 1 ∧
      t.fld F.PWR_RAIL_STAT_PG = 2 ^ (n + 1) - 1 ∧ t.sent = s.sent ++ [.pin "PS_EN" (n + 1) true (st48 s.now)] ∧
      t.pending = s.pending) ∧
    (n = 5 → ∀ u : State, u = { s.setFld F.PWR_RAIL_STAT_PG 63 with start := { s.start with railsUp := 6, hw := found }
                                                                    badSlots := found.badOpens.map (·.val)
                                                                    badTails := found.badCloses.map (·.val) } →
      exec (.railEnableNext found) s = .next (u.runStart u (if s.start.warm then 1 else 0)))) ∧
  -- psPgTimeout, psPgFall: a rail comes up; the rail is enabled (R372)
  (∀ s : State, s.start.phase = .rails →
    exec .psPgTimeout s = .next (s.railFault s.start.railsUp 3)) ∧
  (∀ (s : State) (r : Fin 6), s.railEnabled r = true → exec (.psPgFall r) s = .next (s.railFault r 2)) ∧
  (∀ (s : State) (r k : Nat), (s.railFault r k).start.phase = .wait ∧ (s.railFault r k).start.railsUp = 0 ∧
    1 ≤ (s.railFault r k).start.waitFor) ∧
  -- railFaultRestart: a rail failed (R372)
  (∀ s : State, s.start.phase = .wait → s.start.waitFor ≠ 0 →
    ∃ t, exec .railFaultRestart s = .next t ∧ t.start.phase = .rails ∧ t.start.railsUp = 0 ∧ t.start.warm = false ∧
      t.fld F.GLB_START_STAT_KIND = 0 ∧ t.pending = s.pending) ∧
  -- railSample: always (R372)
  (∀ (s : State) (mv : List (BitVec 12)),
    exec (.railSample mv) s = .next (((List.range 6).zip mv).foldl (fun s c => s.railSample c.1 c.2.toNat) s)) ∧
  (∀ (s : State) (r mv : Nat), r < 6 → s.railOn r = true → railOutside r mv 5 = false → railOutside r mv 10 = false →
    tblGet zeroN (s.railSample r mv).pwr.warnRun r = 0 ∧ tblGet zeroN (s.railSample r mv).pwr.faultRun r = 0 ∧
    (s.railSample r mv).fld (F.PWR_RAIL_MV_MV r) = mv % 2 ^ (F.PWR_RAIL_MV_MV r).w ∧ (s.railSample r mv).sent = s.sent)

/-- Power over the line (R373–R380, R410). Completes pocSample, shortComparator, softstartBegin, softstartEnd, retryWaitEnd,
retriesClear, vinOvRelease, forceOff and clr. At a sample the faults since the last are recorded, the input is checked, then
each channel, and the CLRs of the interval are past; the comparator's short turns the channel off at once; a soft start begins
for the first channel of the queue where its inrush fits and waits where it does not, and ends on, or off as a fault; a retry
wait ends in the queue; retries clear on a channel that is on; the over-voltage's release puts back what it held; FORCE_OFF
turns a channel off, but not a latched one's latch; CLR clears the retries, and queues a latched channel. Where the spec
leaves a point open, the clauses follow the model's choices of log entries 130, 131 and 205. -/
def Obligations.LinePower : Prop :=
  -- pocSample: the core has power (R376, R379)
  (∀ (s u : State) (vin : BitVec 10) (ch : List (BitVec 10 × BitVec 10)), s.core = true →
    u = ((List.range 64).zip ch).foldl (fun s c => s.pcSample c.1 c.2.1.toNat c.2.2.toNat) (s.pcSettle.vinCheck vin.toNat) →
    exec (.pocSample vin ch) s = .next { u with pwr := { u.pwr with clrs := [] } }) ∧
  -- shortComparator: the channel is driven (R376)
  (∀ (s u : State) (n : Fin 64), s.start.phase = .run → s.pc n = pcSoft ∨ s.pc n = pcOn → u = s.pcDown n pcRetry →
    exec (.shortComparator n) s = .next { u with pwr := { u.pwr with faults := tblPut u.pwr.faults n (some (1, true)) } }) ∧
  -- softstartBegin: a channel is queued (R380, R410)
  (∀ (s : State) (n : Nat) (q : List Nat), s.Runs → s.pwr.queue = n :: q →
    (s.flag F.PWR_GLB_VIN_OV = false → s.pcBudget + s.pcLimit n ≤ (s.image.map fun im => im.poc.inrush).getD 0 →
      exec .softstartBegin s = .next ((({ s with
        led := { s.led with poc := ledAdd s.led.poc n }
        pwr := { s.pwr with boot := setIns n s.pwr.boot } } : State).setPc n pcSoft).emit
          (.pin "PC_GATE" n true (st48 s.now)) |>.ledNote 0xFFFFFFFF (tblGet zeroN s.led.poc n))) ∧
    (s.flag F.PWR_GLB_VIN_OV = true ∨ (s.image.map fun im => im.poc.inrush).getD 0 < s.pcBudget + s.pcLimit n →
      exec .softstartBegin s = .next s)) ∧
  -- softstartEnd: the channel soft-starts (R375, R376)
  (∀ (s u d : State) (n : Fin 64) (v : BitVec 10), s.start.phase = .run → s.pc n = pcSoft →
    u = s.setFld (F.PWR_PC_MEAS_V n) v.toNat → d = u.pcDown n pcRetry →
    (9 * u.fld F.PWR_GLB_VIN ≤ 10 * v.toNat → exec (.softstartEnd n v) s = .next (u.setPc n pcOn)) ∧
    (10 * v.toNat < 9 * u.fld F.PWR_GLB_VIN → exec (.softstartEnd n v) s =
      .next { d with pwr := { d.pwr with faults := tblPut d.pwr.faults n (some (1, true)) } })) ∧
  -- retryWaitEnd: the channel waits for no release and no unrecorded fault (R377)
  (∀ (s : State) (n : Fin 64), s.Runs → s.pc n = pcRetry → s.fld (F.PWR_PC_STAT_FAULT n) ≠ 4 → s.pcTripped n = false →
    exec (.retryWaitEnd n) s = .next ((s.setPc n pcOff).pcEnqueue n)) ∧
  -- retriesClear: the firmware runs (R377)
  (∀ (s : State) (n : Fin 64), s.Runs →
    exec (.retriesClear n) s = .next (if s.pc n = pcOn then s.setFld (F.PWR_PC_STAT_RETRIES n) 0 else s)) ∧
  -- vinOvRelease: the input is over voltage (R377)
  (∀ s : State, s.Runs → s.flag F.PWR_GLB_VIN_OV = true →
    exec .vinOvRelease s = .next ((List.range 64).foldl (fun s n =>
      if s.pc n = pcRetry ∧ s.fld (F.PWR_PC_STAT_FAULT n) = 4 ∧ s.pcTripped n = false then (s.setPc n pcOff).pcEnqueue n else s)
      (s.setFlag F.PWR_GLB_VIN_OV false))) ∧
  -- forceOff: the write is admitted; `d` is the state with the channel's unrecorded fault dropped (R374, R379)
  (∀ (s u d : State) (p : Path) (n : Fin 64), s.Admits p (A.PWR_PC_CTRL n) false →
    u = (s.reached p).plainWrite (A.PWR_PC_CTRL n) 1#32 → u.flag (F.PWR_PC_CTRL_FORCE_OFF n) = true →
    d = { u with pwr := { u.pwr with faults := tblPut u.pwr.faults n none } } →
    exec (.forceOff p n true) s = .next (if d.pc n = pcLatched then d else d.pcDown n pcOff)) ∧
  (∀ (s u : State) (p : Path) (n : Fin 64), s.Admits p (A.PWR_PC_CTRL n) false →
    u = (s.reached p).plainWrite (A.PWR_PC_CTRL n) 0#32 → u.flag (F.PWR_PC_CTRL_FORCE_OFF n) = false →
    (u.pc n ≠ pcOff → exec (.forceOff p n false) s = .next u) ∧
    (u.pc n = pcOff → (∀ c ∈ u.pwr.due, c.2 ≠ n.val) → exec (.forceOff p n false) s = .next (u.pcEnqueue n))) ∧
  -- clr: the write is admitted and does not force the channel off (R377, R379)
  (∀ (s u t : State) (p : Path) (n : Fin 64) (v : Word), s.Admits p (A.PWR_PC_CTRL n) false →
    u = (s.reached p).plainWrite (A.PWR_PC_CTRL n) (v ||| 2#32) → u.flag (F.PWR_PC_CTRL_FORCE_OFF n) = false →
    t = ({ u with pwr := { u.pwr with clrs := setIns n.val u.pwr.clrs } } : State).setFld (F.PWR_PC_STAT_RETRIES n) 0 →
    (u.pc n = pcLatched → exec (.clr p n v) s = .next ((t.setPc n pcOff).pcEnqueue n)) ∧
    (u.pc n ≠ pcLatched → u.pc n ≠ pcOff → exec (.clr p n v) s = .next t))

/-- Bring-up commands and the ledger (R397, R398, R401, R402, R412). Completes trlBrupCtrlRetrain, trlBrupCtrlRediscover,
operatingSecond, ledgerSnapshot, ageMeasure and ledCalCfgCommit. RETRAIN and REDISCOVER act on a port that is on and idle, are
noted on a busy one and do nothing on one that is off; an operating second counts itself; a due snapshot takes the next
sector with the next generation, and one not due changes nothing; the monitors are measured; a calendar entry is committed.
Where the spec leaves a point open, the clauses follow the model's choices of log entries 23, 79, 123 and 124. -/
def Obligations.BringUpAndLedger : Prop :=
  -- trlBrupCtrlRetrain, trlBrupCtrlRediscover: the write is admitted and the firmware runs (R412)
  (∀ (s r : State) (p : Path) (n : Fin 80) (v : Word), s.Admits p (A.TRL_BRUP_CTRL n) false → r = s.reached p → r.Runs →
    (r.brupBusy n = false → r.portOn n = true →
      (bitOn v 1 = false → exec (.trlBrupCtrlRetrain p n v) s = .next (r.retrainAll n)) ∧
      exec (.trlBrupCtrlRediscover p n v) s = .next (r.discover n)) ∧
    (∀ i ∈ [Instr.trlBrupCtrlRetrain p n v, .trlBrupCtrlRediscover p n v],
      (r.brupBusy n = true → exec i s = .next (r.log 412 n [])) ∧
      (r.brupBusy n = false → r.portOn n = false → exec i s = .next r))) ∧
  -- operatingSecond: the hub is not off (R397, R401)
  (∀ s : State, s.start.phase ≠ .off → exec .operatingSecond s = .next s.opSecond) ∧
  (∀ s : State, s.opSecond.led.opsec = ledBump 0xFFFFFFFF s.led.opsec) ∧
  -- ledgerSnapshot: the core has power and the firmware runs (R397, R398)
  (∀ s : State, s.core = true → s.start.fwBusy = false →
    (s.snapDue = true → ∃ t, exec .ledgerSnapshot s = .next t ∧ t.led.pend = false ∧ t.led.gen = (s.led.gen + 1) % 2 ^ 32 ∧
      t.led.sector = (s.led.gen + 1) % 2 ^ 32 % 64 ∧ t.led.lastOpsec = s.led.opsec ∧ t.data = s.data ∧ t.herds = s.herds) ∧
    (s.snapDue = false → exec .ledgerSnapshot s = .next s)) ∧
  -- ageMeasure: the core has power (R401)
  (∀ s : State, s.core = true → exec .ageMeasure s = .next ((List.range 8).foldl State.ageOne s)) ∧
  -- ledCalCfgCommit: the write is admitted (R402)
  (∀ (s r : State) (p : Path) (i : Fin 32) (v : Word), s.Admits p (A.LED_CAL_CFG i) false → r = s.reached p →
    ∃ t, exec (.ledCalCfgCommit p i v) s = .next t ∧ t.led.pend = true ∧ (tblGet (fun _ => calNone) t.led.cal i).fired = false ∧
      t.data = r.data ∧ t.sent = r.sent)

/-- Records and plain accesses (R9, R10, R56, R257, R274, R285, R286, R392, R408). Completes recCursorWrite,
recWindowLoaded, recWindow7Read, registerWrite, counterRead, lowWordRead, ppsOutPulseEnd, ref10mInEdge and
configurationWrite. The cursor takes its slot, whose words are ready once they are loaded; a read of the last window word
answers it, and moves on where the cursor says so; a register write reaches its registers in ascending order, a partial one
is refused and counted, a poisoned one and one lost in its buffer change no register, one across a 64-byte block is an
unsupported request; a read answers the whole register, or the bytes asked for, with the whole register's effects but for
suppression bits where no byte is asked for; a pulse ends, an edge counts; a configuration write changes its word, and is
answered by retry status during a function-level reset. Where the spec leaves a point open, the clauses follow the model's
choices of log entries 94, 126 and 200. -/
def Obligations.RecordsAndAccesses : Prop :=
  -- recCursorWrite: the write is admitted (R392)
  (∀ (s : State) (p : Path) (v : Word), s.Admits p A.REC_CURSOR false →
    ∃ t, exec (.recCursorWrite p v) s = .next t ∧ (t.path p).cursor = fldGet v 0 15 ∧ (t.path p).autoInc = bitOn v 16 ∧
      (t.path p).ready = false ∧ (t.path p).loading = true ∧ t.regs = (s.reached p).regs ∧ t.sent = (s.reached p).sent) ∧
  -- recWindowLoaded: the core has power (R392)
  (∀ (s : State) (p : Path), s.core = true →
    ((s.path p).loading = true →
      ∃ t, exec (.recWindowLoaded p) s = .next t ∧ (t.path p).ready = true ∧ (t.path p).loading = false ∧
        (t.path p).cursor = (s.path p).cursor ∧ t.regs = s.regs ∧ t.flash = s.flash ∧ t.sent = s.sent) ∧
    ((s.path p).loading = false → exec (.recWindowLoaded p) s = .next s)) ∧
  -- recWindow7Read: the read is admitted (R392)
  (∀ (s u : State) (p : Path), s.AdmitsRead p (A.REC_WINDOW 7) →
    u = (s.reached p).answer p ((s.windowWords p)[7]?.getD 0xFFFFFFFF#32) →
    exec (.recWindow7Read p) s = .next (if (s.path p).autoInc then u.loadSlot p (((s.path p).cursor + 1) % 2 ^ 15) else u)) ∧
  -- registerWrite: the path reaches the map (R10, R257)
  (∀ (s : State) (p : Path) (a : BitVec 26) (be : BitVec 4) (v : Word) (more : List (BitVec 4 × Word)),
    s.takes p (wordAddr a) (more.length + 1) = true →
    exec (.registerWrite p a be v more false .none) s = .next ((((be, v) :: more).zipIdx).foldl
      (fun t c => t.writeBytes p (wordAddr a + 4 * c.2) c.1.1.toNat c.1.2) (s.reached p))) ∧
  (∀ (s : State) (p : Path) (a : BitVec 26) (v : Word), s.reachable p = true →
    exec (.registerWrite p a 15#4 v [] false .none) s = .next ((s.reached p).writeAddr p (wordAddr a) v)) ∧
  (∀ (s r : State) (p : Path) (a : BitVec 26) (be : BitVec 4) (v : Word), r = s.reached p →
    s.Admits p (s.native (wordAddr a)) false → be ≠ 15#4 → (rowAt (s.native (wordAddr a))).isSome = true →
    exec (.registerWrite p a be v [] false .none) s = .next ((r.setFlag F.GLB_STAT_BE_REJ true).count31 A.GLB_BE_REJ 1)) ∧
  -- registerWrite: BAR 0, across a block, poisoned, lost (R257, R284, R285)
  (∀ (s : State) (a : BitVec 26) (be : BitVec 4) (v : Word) (more : List (BitVec 4 × Word)) (ep : Bool) (buf : BufErr),
    s.reachable .bar0 = true →
    (64 < wordAddr a % 64 + 4 * (more.length + 1) →
      exec (.registerWrite .bar0 a be v more ep buf) s = .next ((s.drawnN 4).barUr true s.tlpHdr)) ∧
    (wordAddr a % 64 + 4 * (more.length + 1) ≤ 64 →
      exec (.registerWrite .bar0 a be v more ep .uncorrectable) s = .next (s.exitL1.bufErr .uncorrectable) ∧
      exec (.registerWrite .bar0 a be v more true .none) s = .next ((s.exitL1.drawnN 4).poisonIn s.tlpHdr))) ∧
  -- counterRead, lowWordRead: the path reaches the map (R9)
  (∀ (s t : State) (p : Path) (a : BitVec 26) (be : BitVec 4), s.reachable p = true →
    t = (s.reached p).readAddr p (wordAddr a) →
    (be = 15#4 → exec (.counterRead p a be [] .none) s = .next t ∧ exec (.lowWordRead p a be [] .none) s = .next t) ∧
    (be ≠ 15#4 → ∀ i ∈ [Instr.counterRead p a be [] .none, .lowWordRead p a be [] .none], exec i s = .next { t with
      recs := (s.reached p).recs.stillHeld t.recs be
      sent := (s.reached p).sent ++ (t.sent.drop (s.reached p).sent.length).map (Out.part be false) })) ∧
  -- ppsOutPulseEnd, ref10mInEdge: the hub runs (R56, R408)
  (∀ (s : State) (t : Nat), s.start.phase = .run → s.time.ppsOut = some t →
    exec .ppsOutPulseEnd s = .next (({ s.advance t with time := { (s.advance t).time with ppsOut := none } } : State).emit
      (.pin "PPS_OUT" 0 false (st48 t)))) ∧
  (∀ s : State, s.start.phase = .run →
    exec .ref10mInEdge s = .next { s with time := { s.time with ref10m := s.time.ref10m + 1 } }) ∧
  -- configurationWrite: the endpoint takes it, or answers it with retry status (R274)
  (∀ (s : State) (v : Word), s.start.phase = .run → s.hep.perst = false →
    (s.hep.flrBusy = false →
      exec (.configurationWrite 0x5C v 15) s = .next { s.exitL1 with ep := { s.ep with msiData := v &&& 0xFFFF#32 } }) ∧
    (s.hep.flrBusy = true → ∀ o be, exec (.configurationWrite o v be) s = .next (s.exitL1.emit .retryStatus)))

/-- Writing by access types (R8, R10): of the fields of one register, which do not overlap, an RW field takes its bits
of the written word, an RO, WO or W1S field keeps what it held, and every bit outside the fields keeps what it held. -/
def Obligations.AccessTypes : Prop :=
  ∀ (fs : List FieldRow) (old v : Word), (fs.Pairwise fun f g => f.lo + f.w ≤ g.lo ∨ g.lo + g.w ≤ f.lo) →
    (∀ f ∈ fs, f.lo + f.w ≤ 32) →
    (∀ f ∈ fs, (f.acc = .rw → fldGet (writeFields fs old v) f.lo f.w = fldGet v f.lo f.w) ∧
      (f.acc = .ro ∨ f.acc = .wo ∨ f.acc = .w1s → fldGet (writeFields fs old v) f.lo f.w = fldGet old f.lo f.w)) ∧
    (∀ k, (∀ f ∈ fs, k < f.lo ∨ f.lo + f.w ≤ k) → (writeFields fs old v).getLsbD k = old.getLsbD k)

/-- Plain writes (R6): a register write changes that register and nothing else, and no other register. -/
def Obligations.PlainWriteFrame : Prop :=
  ∀ (s : State) (a : Nat) (v : Word), ∃ r, s.plainWrite a v = { s with regs := r } ∧
    ∀ b, b ≠ a → tblGet regReset r b = s.reg b

/-- Error counters (R404). A counter goes up to 7FFF_FFFFH and stays there; reaching it sets OVF and is logged; a counter at
its maximum changes nothing. No other register changes but the state of the host link, which an interrupt brings out of L1
(R279). Where the spec leaves a point open, the clauses follow the model's choices of log entry 8. -/
def Obligations.CountersSaturate : Prop :=
  ∀ (s : State) (a n : Nat), a ≠ A.HEP_LINK_STAT →
    fldGet ((s.count31 a n).reg a) 0 31 = min (fldGet (s.reg a) 0 31 + n) 0x7FFFFFFF ∧
    (bitOn ((s.count31 a n).reg a) 31 = true ↔ bitOn (s.reg a) 31 = true ∨
      (fldGet (s.reg a) 0 31 < 0x7FFFFFFF ∧ 0x7FFFFFFF ≤ fldGet (s.reg a) 0 31 + n)) ∧
    (∀ b, b ≠ a → b ≠ A.HEP_LINK_STAT → (s.count31 a n).reg b = s.reg b) ∧
    (fldGet (s.reg a) 0 31 + n < 0x7FFFFFFF → (s.count31 a n).regs = (s.setReg a (fldPut (s.reg a) 0 31
      (fldGet (s.reg a) 0 31 + n))).regs ∨ n = 0) ∧
    (fldGet (s.reg a) 0 31 = 0x7FFFFFFF → s.count31 a n = s)

/-- Ledger counters (R403): a ledger counter goes up by one to its maximum and stays there; the event is logged once, at
the count that reaches the maximum. -/
def Obligations.LedgerCounters : Prop :=
  (∀ max n : Nat, n ≤ max → ledBump max n = min max (n + 1)) ∧
  (∀ (s : State) (max n : Nat), n + 1 = max → s.ledNote max n = s.log 403 noSrc []) ∧
  (∀ (s : State) (max n : Nat), n + 1 ≠ max → s.ledNote max n = s)

/-- PEC (R357): the empty string has check 0; each byte continues the division by x⁸ + x² + x + 1, most significant bit
first, with nothing reflected and nothing added at the end. -/
def Obligations.PecDivision : Prop :=
  crc8 [] = 0 ∧
  ∀ (l : List Byte) (b : Byte), crc8 (l ++ [b]) < 256 ∧
    ∃ q, q < 256 ∧ (List.range 8).foldl (fun r i => if q.testBit i then r ^^^ 0x107 * 2 ^ i else r)
      ((crc8 l ^^^ b.toNat) * 256) = crc8 (l ++ [b])

/-- A string followed by its PEC has check 0, and by no other byte (R357). -/
def Obligations.PecResidue : Prop :=
  ∀ (l : List Byte) (b : Byte), crc8 (l ++ [b]) = 0 ↔ b.toNat = crc8 l

/-- Node addresses (R3): NA = c × 8 + p, and each NA names one camera port and one position. -/
def Obligations.NodeAddresses : Prop :=
  (∀ c p : Nat, nodeAddr c p = c * 8 + p) ∧
  (∀ c p c' p' : Nat, p < 8 → p' < 8 → nodeAddr c p = nodeAddr c' p' → c = c' ∧ p = p')

/-- Canonical stores are equal when they read the same: an addressed store of the model is its contents and nothing else. -/
def Obligations.StoresAreContents : Prop :=
  (∀ t u : Tbl Word, tblWf regReset t = true → tblWf regReset u = true →
    (∀ a, tblGet regReset t a = tblGet regReset u a) → t = u) ∧
  (∀ t u : Tbl Byte, tblWf erased t = true → tblWf erased u = true →
    (∀ a, tblGet erased t a = tblGet erased u a) → t = u) ∧
  (∀ t u : Tbl Byte, tblWf zeroB t = true → tblWf zeroB u = true →
    (∀ a, tblGet zeroB t a = tblGet zeroB u a) → t = u)

/-- Flash (R310, R385): a program clears bits and sets none, of its bytes alone; an erase makes its sector FFH, and no other byte. -/
def Obligations.FlashBits : Prop :=
  (∀ (s : State) (a x : Nat) (l : List Byte), tblGet erased (s.program a l).flash x =
    if a ≤ x ∧ x < a + l.length then tblGet erased s.flash x &&& l.getD (x - a) 0 else tblGet erased s.flash x) ∧
  (∀ (s : State) (a n x : Nat), tblGet erased (s.eraseRange a n).flash x =
    if a ≤ x ∧ x < a + n then 0xFF#8 else tblGet erased s.flash x)

/-- One meaning, two ways (R6, R10). An unpoisoned whole-word write of one register on any path does what the command named
for that register does. Where the spec leaves a point open, the clauses follow the model's choices of log entry 200. -/
def Obligations.WritesAgree : Prop :=
  ∀ (s : State) (p : Path) (v : Word),
    exec (.registerWrite p (BitVec.ofNat 26 A.GLB_MODE_REQ) 15 v [] false .none) s = exec (.glbModeReqWrite p v) s ∧
    exec (.registerWrite p (BitVec.ofNat 26 A.TIME_INC_HI) 15 v [] false .none) s = exec (.timeIncHiWrite p v) s ∧
    exec (.registerWrite p (BitVec.ofNat 26 A.TIME_ADJ_HI) 15 v [] false .none) s = exec (.timeAdjHiWrite p v) s ∧
    exec (.registerWrite p (BitVec.ofNat 26 A.PLC_CTRL) 15 (v ||| 1#32) [] false .none) s = exec (.plcCtrlSubmit p v) s ∧
    exec (.registerWrite p (BitVec.ofNat 26 A.GRZ_PI) 15 v [] false .none) s = exec (.grzPiWrite p v) s ∧
    exec (.registerWrite p (BitVec.ofNat 26 A.GRZ_SUBMIT) 15 (v ||| 1#32) [] false .none) s = exec (.grzSubmit p v) s ∧
    exec (.registerWrite p (BitVec.ofNat 26 A.GRZ_CTRL) 15 (v ||| 2#32) [] false .none) s = exec (.abortAll p v) s ∧
    exec (.registerWrite p (BitVec.ofNat 26 A.HEP_ATT_COMMIT) 15 (v ||| 1#32) [] false .none) s = exec (.hepAttCommit p v) s ∧
    exec (.registerWrite p (BitVec.ofNat 26 A.HEP_PM_CTRL) 15 (v ||| 1#32) [] false .none) s = exec (.hepPmCtrlWake p v) s ∧
    exec (.registerWrite p (BitVec.ofNat 26 A.CFG_SEL) 15 v [] false .none) s = exec (.cfgSelWrite p v) s ∧
    exec (.registerWrite p (BitVec.ofNat 26 A.REC_CURSOR) 15 v [] false .none) s = exec (.recCursorWrite p v) s

/-- Reserved and image-owned addresses (R8, R11). Outside Service a write to an image-owned register sets IOW_REJ and changes
no other register but the state of the host link, which an interrupt brings out of L1 (R279); a write to an address that holds
no register sets RSV_WR, in Service IOW_REJ as well; a read of such an address answers 0. Where the spec leaves a point open,
the clauses follow the model's choices of log entries 152 and 198. -/
def Obligations.RefusedAccesses : Prop :=
  (∀ (s u : State) (p : Path) (a : BitVec 26) (v : Word) (r : RegRow) (ix : List Nat), s.mode ≠ 3 → s.mode ≠ 6 →
    inTbl (wordAddr a) 4 = false → s.reachable p = true → s.serves (wordAddr a) = true → rowAt (wordAddr a) = some (r, ix) →
    s.imageOwned r ix = true → u = (s.reached p).imageReject (wordAddr a) →
    exec (.registerWrite p a 15 v [] false .none) s = .next u ∧ u.flag F.GLB_STAT_IOW_REJ = true ∧
    (∀ b, b ≠ A.GLB_STAT → b ≠ A.HEP_LINK_STAT → u.reg b = s.reg b)) ∧
  (∀ (s : State) (p : Path) (a : BitVec 26) (v : Word), s.mode ≠ 6 → s.Admits p (wordAddr a) false →
    inTbl (wordAddr a) 4 = false → rowAt (wordAddr a) = none →
    ∃ t, exec (.registerWrite p a 15 v [] false .none) s = .next t ∧ t.flag F.GLB_STAT_RSV_WR = true ∧
      (s.mode = 3 → t.flag F.GLB_STAT_IOW_REJ = true) ∧ (∀ b, b ≠ A.GLB_STAT → b ≠ A.HEP_LINK_STAT → t.reg b = s.reg b)) ∧
  (∀ (s : State) (p : Path) (a : BitVec 26), s.mode ≠ 6 → s.AdmitsRead p (wordAddr a) → inTbl (wordAddr a) 4 = false →
    rowAt (wordAddr a) = none → exec (.counterRead p a 15 [] .none) s = .next ((s.reached p).answer p 0#32))

/-- Paths (R427). A read on one path, of one register or of several, leaves what every other path holds. Where the spec leaves
a point open, the clauses follow the model's choices of log entry 94. -/
def Obligations.PathsApart : Prop :=
  ∀ (s t : State) (p q : Path) (a : BitVec 26) (be : BitVec 4) (more : List (BitVec 4)) (buf : BufErr), q ≠ p →
    exec (.lowWordRead p a be more buf) s = .next t ∨ exec (.counterRead p a be more buf) s = .next t → t.path q = s.path q

/-- BAR spaces closed (R268). With Memory Space Enable 0 each request to BAR0, BAR2 or BAR4 ends with UR and is counted, the
heartbeat among them; configuration requests go on as ever; the hub keeps running. The header of
a BAR0 request is a free value. Where the spec leaves a point open, the clauses follow the model's choices of log entry 200. -/
def Obligations.BarsClosed : Prop :=
  (∀ (s : State) (a : BitVec 26) (v : Word) (be : BitVec 4) (ws : List (BitVec 4 × Word)) (rs : List (BitVec 4)) (ep : Bool)
    (buf : BufErr) (r : BarRequest) (old : Bool), s.start.phase = .run → s.ep.mse = false → s.hep.perst = false →
    exec (.registerWrite .bar0 a be v ws ep buf) s = .next ((s.drawnN 4).barUr true s.tlpHdr) ∧
    exec (.counterRead .bar0 a be rs buf) s = .next ((s.drawnN 4).barUr false s.tlpHdr) ∧
    exec (.lowWordRead .bar0 a be rs buf) s = .next ((s.drawnN 4).barUr false s.tlpHdr) ∧
    exec (.glbHeartbeatWrite .bar0) s = .next ((s.drawnN 4).barUr true s.tlpHdr) ∧
    exec (.bar2Request r) s = .next ((s.exitL1.bufErr r.buf).barUr r.write r.hdr) ∧
    exec (.bar4Request r old) s = .next ((s.exitL1.bufErr r.buf).barUr r.write r.hdr) ∧
    (∀ (b : Nat) (image : Bool) (act : State → State), s.guarded .bar0 b image act = (s.drawnN 4).barUr true s.tlpHdr ∧
      s.guardedRead .bar0 b act = (s.drawnN 4).barUr false s.tlpHdr)) ∧
  (∀ (s : State) (hdr : List Word), fldGet (s.reg A.HEP_BAR_UR) 0 31 < 0x7FFFFFFE →
    fldGet ((s.barUr true hdr).reg A.HEP_BAR_UR) 0 31 = fldGet (s.reg A.HEP_BAR_UR) 0 31 + 1 ∧
    fldGet ((s.barUr false hdr).reg A.HEP_BAR_UR) 0 31 = fldGet (s.reg A.HEP_BAR_UR) 0 31 + 1 ∧
    (s.barUr false hdr).sent ≠ s.sent ∧ (s.barUr true hdr).start = s.start ∧ (s.barUr false hdr).start = s.start) ∧
  (∀ (s : State) (o : Fin 4096) (v : Word), s.start.phase = .run → s.hep.perst = false → s.hep.flrBusy = false →
    exec (.configurationWrite o v 15) s = .next (s.exitL1.cfgSet (o.val / 4 * 4) v v))

/-- Boundaries in order (R13): the next boundary lies strictly after the last, and no grid point lies between. -/
def Obligations.GridOrder : Prop :=
  ∀ e R t : Nat, 0 < R → t < gridAfter e R t ∧ ∀ m, gridPoint e R m ≤ t ∨ gridAfter e R t ≤ gridPoint e R m

/-- Signed difference (R45): it lies from −2⁴⁷ to 2⁴⁷ − 1 and differs from the plain difference by a multiple of 2⁴⁸. -/
def Obligations.SignedDifference : Prop :=
  ∀ a b : Nat, -(2 ^ 47) ≤ sdiff a b ∧ sdiff a b < 2 ^ 47 ∧ (sdiff a b - ((a : Int) - b)) % 2 ^ 48 = 0
end

