-- ==== Sys2Proof/Laws/State.lean ====
section
/-! SUPPORT. What each primitive update does to each field of the hub's state. -/

namespace Sys2Proof.Machine

/-! ### setReg -/

@[simp] theorem State.setReg_regs (s : State) (a : Nat) (v : Word) : (s.setReg a v).regs = tblSet regReset s.regs a v := rfl
@[simp] theorem State.setReg_aon (s : State) (a : Nat) (v : Word) : (s.setReg a v).aon = s.aon := rfl
@[simp] theorem State.setReg_start (s : State) (a : Nat) (v : Word) : (s.setReg a v).start = s.start := rfl
@[simp] theorem State.setReg_time (s : State) (a : Nat) (v : Word) : (s.setReg a v).time = s.time := rfl
@[simp] theorem State.setReg_recs (s : State) (a : Nat) (v : Word) : (s.setReg a v).recs = s.recs := rfl
@[simp] theorem State.setReg_led (s : State) (a : Nat) (v : Word) : (s.setReg a v).led = s.led := rfl
@[simp] theorem State.setReg_link (s : State) (a : Nat) (v : Word) : (s.setReg a v).link = s.link := rfl
@[simp] theorem State.setReg_ep (s : State) (a : Nat) (v : Word) : (s.setReg a v).ep = s.ep := rfl
@[simp] theorem State.setReg_hep (s : State) (a : Nat) (v : Word) : (s.setReg a v).hep = s.hep := rfl
@[simp] theorem State.setReg_data (s : State) (a : Nat) (v : Word) : (s.setReg a v).data = s.data := rfl
@[simp] theorem State.setReg_herds (s : State) (a : Nat) (v : Word) : (s.setReg a v).herds = s.herds := rfl
@[simp] theorem State.setReg_modes (s : State) (a : Nat) (v : Word) : (s.setReg a v).modes = s.modes := rfl
@[simp] theorem State.setReg_plc (s : State) (a : Nat) (v : Word) : (s.setReg a v).plc = s.plc := rfl
@[simp] theorem State.setReg_grz (s : State) (a : Nat) (v : Word) : (s.setReg a v).grz = s.grz := rfl
@[simp] theorem State.setReg_dma (s : State) (a : Nat) (v : Word) : (s.setReg a v).dma = s.dma := rfl
@[simp] theorem State.setReg_image (s : State) (a : Nat) (v : Word) : (s.setReg a v).image = s.image := rfl
@[simp] theorem State.setReg_sec (s : State) (a : Nat) (v : Word) : (s.setReg a v).sec = s.sec := rfl
@[simp] theorem State.setReg_pwr (s : State) (a : Nat) (v : Word) : (s.setReg a v).pwr = s.pwr := rfl
@[simp] theorem State.setReg_bus (s : State) (a : Nat) (v : Word) : (s.setReg a v).bus = s.bus := rfl
@[simp] theorem State.setReg_pBar0 (s : State) (a : Nat) (v : Word) : (s.setReg a v).pBar0 = s.pBar0 := rfl
@[simp] theorem State.setReg_pMgmt (s : State) (a : Nat) (v : Word) : (s.setReg a v).pMgmt = s.pMgmt := rfl
@[simp] theorem State.setReg_pJtag (s : State) (a : Nat) (v : Word) : (s.setReg a v).pJtag = s.pJtag := rfl
@[simp] theorem State.setReg_flash (s : State) (a : Nat) (v : Word) : (s.setReg a v).flash = s.flash := rfl
@[simp] theorem State.setReg_badSlots (s : State) (a : Nat) (v : Word) : (s.setReg a v).badSlots = s.badSlots := rfl
@[simp] theorem State.setReg_flCmd (s : State) (a : Nat) (v : Word) : (s.setReg a v).flCmd = s.flCmd := rfl
@[simp] theorem State.setReg_freeCtr (s : State) (a : Nat) (v : Word) : (s.setReg a v).freeCtr = s.freeCtr := rfl
@[simp] theorem State.setReg_sent (s : State) (a : Nat) (v : Word) : (s.setReg a v).sent = s.sent := rfl
@[simp] theorem State.setReg_pending (s : State) (a : Nat) (v : Word) : (s.setReg a v).pending = s.pending := rfl

/-! ### setFld -/

@[simp] theorem State.setFld_aon (s : State) (f : Fld) (v : Nat) : (s.setFld f v).aon = s.aon := rfl
@[simp] theorem State.setFld_start (s : State) (f : Fld) (v : Nat) : (s.setFld f v).start = s.start := rfl
@[simp] theorem State.setFld_time (s : State) (f : Fld) (v : Nat) : (s.setFld f v).time = s.time := rfl
@[simp] theorem State.setFld_recs (s : State) (f : Fld) (v : Nat) : (s.setFld f v).recs = s.recs := rfl
@[simp] theorem State.setFld_led (s : State) (f : Fld) (v : Nat) : (s.setFld f v).led = s.led := rfl
@[simp] theorem State.setFld_link (s : State) (f : Fld) (v : Nat) : (s.setFld f v).link = s.link := rfl
@[simp] theorem State.setFld_ep (s : State) (f : Fld) (v : Nat) : (s.setFld f v).ep = s.ep := rfl
@[simp] theorem State.setFld_hep (s : State) (f : Fld) (v : Nat) : (s.setFld f v).hep = s.hep := rfl
@[simp] theorem State.setFld_data (s : State) (f : Fld) (v : Nat) : (s.setFld f v).data = s.data := rfl
@[simp] theorem State.setFld_herds (s : State) (f : Fld) (v : Nat) : (s.setFld f v).herds = s.herds := rfl
@[simp] theorem State.setFld_modes (s : State) (f : Fld) (v : Nat) : (s.setFld f v).modes = s.modes := rfl
@[simp] theorem State.setFld_plc (s : State) (f : Fld) (v : Nat) : (s.setFld f v).plc = s.plc := rfl
@[simp] theorem State.setFld_grz (s : State) (f : Fld) (v : Nat) : (s.setFld f v).grz = s.grz := rfl
@[simp] theorem State.setFld_dma (s : State) (f : Fld) (v : Nat) : (s.setFld f v).dma = s.dma := rfl
@[simp] theorem State.setFld_image (s : State) (f : Fld) (v : Nat) : (s.setFld f v).image = s.image := rfl
@[simp] theorem State.setFld_sec (s : State) (f : Fld) (v : Nat) : (s.setFld f v).sec = s.sec := rfl
@[simp] theorem State.setFld_pwr (s : State) (f : Fld) (v : Nat) : (s.setFld f v).pwr = s.pwr := rfl
@[simp] theorem State.setFld_bus (s : State) (f : Fld) (v : Nat) : (s.setFld f v).bus = s.bus := rfl
@[simp] theorem State.setFld_pBar0 (s : State) (f : Fld) (v : Nat) : (s.setFld f v).pBar0 = s.pBar0 := rfl
@[simp] theorem State.setFld_pMgmt (s : State) (f : Fld) (v : Nat) : (s.setFld f v).pMgmt = s.pMgmt := rfl
@[simp] theorem State.setFld_pJtag (s : State) (f : Fld) (v : Nat) : (s.setFld f v).pJtag = s.pJtag := rfl
@[simp] theorem State.setFld_flash (s : State) (f : Fld) (v : Nat) : (s.setFld f v).flash = s.flash := rfl
@[simp] theorem State.setFld_badSlots (s : State) (f : Fld) (v : Nat) : (s.setFld f v).badSlots = s.badSlots := rfl
@[simp] theorem State.setFld_flCmd (s : State) (f : Fld) (v : Nat) : (s.setFld f v).flCmd = s.flCmd := rfl
@[simp] theorem State.setFld_freeCtr (s : State) (f : Fld) (v : Nat) : (s.setFld f v).freeCtr = s.freeCtr := rfl
@[simp] theorem State.setFld_sent (s : State) (f : Fld) (v : Nat) : (s.setFld f v).sent = s.sent := rfl
@[simp] theorem State.setFld_pending (s : State) (f : Fld) (v : Nat) : (s.setFld f v).pending = s.pending := rfl

/-! ### setFlag -/

@[simp] theorem State.setFlag_aon (s : State) (f : Fld) (b : Bool) : (s.setFlag f b).aon = s.aon := rfl
@[simp] theorem State.setFlag_start (s : State) (f : Fld) (b : Bool) : (s.setFlag f b).start = s.start := rfl
@[simp] theorem State.setFlag_time (s : State) (f : Fld) (b : Bool) : (s.setFlag f b).time = s.time := rfl
@[simp] theorem State.setFlag_recs (s : State) (f : Fld) (b : Bool) : (s.setFlag f b).recs = s.recs := rfl
@[simp] theorem State.setFlag_led (s : State) (f : Fld) (b : Bool) : (s.setFlag f b).led = s.led := rfl
@[simp] theorem State.setFlag_link (s : State) (f : Fld) (b : Bool) : (s.setFlag f b).link = s.link := rfl
@[simp] theorem State.setFlag_ep (s : State) (f : Fld) (b : Bool) : (s.setFlag f b).ep = s.ep := rfl
@[simp] theorem State.setFlag_hep (s : State) (f : Fld) (b : Bool) : (s.setFlag f b).hep = s.hep := rfl
@[simp] theorem State.setFlag_data (s : State) (f : Fld) (b : Bool) : (s.setFlag f b).data = s.data := rfl
@[simp] theorem State.setFlag_herds (s : State) (f : Fld) (b : Bool) : (s.setFlag f b).herds = s.herds := rfl
@[simp] theorem State.setFlag_modes (s : State) (f : Fld) (b : Bool) : (s.setFlag f b).modes = s.modes := rfl
@[simp] theorem State.setFlag_plc (s : State) (f : Fld) (b : Bool) : (s.setFlag f b).plc = s.plc := rfl
@[simp] theorem State.setFlag_grz (s : State) (f : Fld) (b : Bool) : (s.setFlag f b).grz = s.grz := rfl
@[simp] theorem State.setFlag_dma (s : State) (f : Fld) (b : Bool) : (s.setFlag f b).dma = s.dma := rfl
@[simp] theorem State.setFlag_image (s : State) (f : Fld) (b : Bool) : (s.setFlag f b).image = s.image := rfl
@[simp] theorem State.setFlag_sec (s : State) (f : Fld) (b : Bool) : (s.setFlag f b).sec = s.sec := rfl
@[simp] theorem State.setFlag_pwr (s : State) (f : Fld) (b : Bool) : (s.setFlag f b).pwr = s.pwr := rfl
@[simp] theorem State.setFlag_bus (s : State) (f : Fld) (b : Bool) : (s.setFlag f b).bus = s.bus := rfl
@[simp] theorem State.setFlag_pBar0 (s : State) (f : Fld) (b : Bool) : (s.setFlag f b).pBar0 = s.pBar0 := rfl
@[simp] theorem State.setFlag_pMgmt (s : State) (f : Fld) (b : Bool) : (s.setFlag f b).pMgmt = s.pMgmt := rfl
@[simp] theorem State.setFlag_pJtag (s : State) (f : Fld) (b : Bool) : (s.setFlag f b).pJtag = s.pJtag := rfl
@[simp] theorem State.setFlag_flash (s : State) (f : Fld) (b : Bool) : (s.setFlag f b).flash = s.flash := rfl
@[simp] theorem State.setFlag_badSlots (s : State) (f : Fld) (b : Bool) : (s.setFlag f b).badSlots = s.badSlots := rfl
@[simp] theorem State.setFlag_flCmd (s : State) (f : Fld) (b : Bool) : (s.setFlag f b).flCmd = s.flCmd := rfl
@[simp] theorem State.setFlag_freeCtr (s : State) (f : Fld) (b : Bool) : (s.setFlag f b).freeCtr = s.freeCtr := rfl
@[simp] theorem State.setFlag_sent (s : State) (f : Fld) (b : Bool) : (s.setFlag f b).sent = s.sent := rfl
@[simp] theorem State.setFlag_pending (s : State) (f : Fld) (b : Bool) : (s.setFlag f b).pending = s.pending := rfl

/-! ### setPair -/

@[simp] theorem State.setPair_aon (s : State) (lo w v : Nat) : (s.setPair lo w v).aon = s.aon := rfl
@[simp] theorem State.setPair_start (s : State) (lo w v : Nat) : (s.setPair lo w v).start = s.start := rfl
@[simp] theorem State.setPair_time (s : State) (lo w v : Nat) : (s.setPair lo w v).time = s.time := rfl
@[simp] theorem State.setPair_recs (s : State) (lo w v : Nat) : (s.setPair lo w v).recs = s.recs := rfl
@[simp] theorem State.setPair_led (s : State) (lo w v : Nat) : (s.setPair lo w v).led = s.led := rfl
@[simp] theorem State.setPair_link (s : State) (lo w v : Nat) : (s.setPair lo w v).link = s.link := rfl
@[simp] theorem State.setPair_ep (s : State) (lo w v : Nat) : (s.setPair lo w v).ep = s.ep := rfl
@[simp] theorem State.setPair_hep (s : State) (lo w v : Nat) : (s.setPair lo w v).hep = s.hep := rfl
@[simp] theorem State.setPair_data (s : State) (lo w v : Nat) : (s.setPair lo w v).data = s.data := rfl
@[simp] theorem State.setPair_herds (s : State) (lo w v : Nat) : (s.setPair lo w v).herds = s.herds := rfl
@[simp] theorem State.setPair_modes (s : State) (lo w v : Nat) : (s.setPair lo w v).modes = s.modes := rfl
@[simp] theorem State.setPair_plc (s : State) (lo w v : Nat) : (s.setPair lo w v).plc = s.plc := rfl
@[simp] theorem State.setPair_grz (s : State) (lo w v : Nat) : (s.setPair lo w v).grz = s.grz := rfl
@[simp] theorem State.setPair_dma (s : State) (lo w v : Nat) : (s.setPair lo w v).dma = s.dma := rfl
@[simp] theorem State.setPair_image (s : State) (lo w v : Nat) : (s.setPair lo w v).image = s.image := rfl
@[simp] theorem State.setPair_sec (s : State) (lo w v : Nat) : (s.setPair lo w v).sec = s.sec := rfl
@[simp] theorem State.setPair_pwr (s : State) (lo w v : Nat) : (s.setPair lo w v).pwr = s.pwr := rfl
@[simp] theorem State.setPair_bus (s : State) (lo w v : Nat) : (s.setPair lo w v).bus = s.bus := rfl
@[simp] theorem State.setPair_pBar0 (s : State) (lo w v : Nat) : (s.setPair lo w v).pBar0 = s.pBar0 := rfl
@[simp] theorem State.setPair_pMgmt (s : State) (lo w v : Nat) : (s.setPair lo w v).pMgmt = s.pMgmt := rfl
@[simp] theorem State.setPair_pJtag (s : State) (lo w v : Nat) : (s.setPair lo w v).pJtag = s.pJtag := rfl
@[simp] theorem State.setPair_flash (s : State) (lo w v : Nat) : (s.setPair lo w v).flash = s.flash := rfl
@[simp] theorem State.setPair_badSlots (s : State) (lo w v : Nat) : (s.setPair lo w v).badSlots = s.badSlots := rfl
@[simp] theorem State.setPair_flCmd (s : State) (lo w v : Nat) : (s.setPair lo w v).flCmd = s.flCmd := rfl
@[simp] theorem State.setPair_freeCtr (s : State) (lo w v : Nat) : (s.setPair lo w v).freeCtr = s.freeCtr := rfl
@[simp] theorem State.setPair_sent (s : State) (lo w v : Nat) : (s.setPair lo w v).sent = s.sent := rfl
@[simp] theorem State.setPair_pending (s : State) (lo w v : Nat) : (s.setPair lo w v).pending = s.pending := rfl

/-! ### emit -/

@[simp] theorem State.emit_regs (s : State) (o : Out) : (s.emit o).regs = s.regs := rfl
@[simp] theorem State.emit_aon (s : State) (o : Out) : (s.emit o).aon = s.aon := rfl
@[simp] theorem State.emit_start (s : State) (o : Out) : (s.emit o).start = s.start := rfl
@[simp] theorem State.emit_time (s : State) (o : Out) : (s.emit o).time = s.time := rfl
@[simp] theorem State.emit_recs (s : State) (o : Out) : (s.emit o).recs = s.recs := rfl
@[simp] theorem State.emit_led (s : State) (o : Out) : (s.emit o).led = s.led := rfl
@[simp] theorem State.emit_link (s : State) (o : Out) : (s.emit o).link = s.link := rfl
@[simp] theorem State.emit_ep (s : State) (o : Out) : (s.emit o).ep = s.ep := rfl
@[simp] theorem State.emit_hep (s : State) (o : Out) : (s.emit o).hep = s.hep := rfl
@[simp] theorem State.emit_data (s : State) (o : Out) : (s.emit o).data = s.data := rfl
@[simp] theorem State.emit_herds (s : State) (o : Out) : (s.emit o).herds = s.herds := rfl
@[simp] theorem State.emit_modes (s : State) (o : Out) : (s.emit o).modes = s.modes := rfl
@[simp] theorem State.emit_plc (s : State) (o : Out) : (s.emit o).plc = s.plc := rfl
@[simp] theorem State.emit_grz (s : State) (o : Out) : (s.emit o).grz = s.grz := rfl
@[simp] theorem State.emit_dma (s : State) (o : Out) : (s.emit o).dma = s.dma := rfl
@[simp] theorem State.emit_image (s : State) (o : Out) : (s.emit o).image = s.image := rfl
@[simp] theorem State.emit_sec (s : State) (o : Out) : (s.emit o).sec = s.sec := rfl
@[simp] theorem State.emit_pwr (s : State) (o : Out) : (s.emit o).pwr = s.pwr := rfl
@[simp] theorem State.emit_bus (s : State) (o : Out) : (s.emit o).bus = s.bus := rfl
@[simp] theorem State.emit_pBar0 (s : State) (o : Out) : (s.emit o).pBar0 = s.pBar0 := rfl
@[simp] theorem State.emit_pMgmt (s : State) (o : Out) : (s.emit o).pMgmt = s.pMgmt := rfl
@[simp] theorem State.emit_pJtag (s : State) (o : Out) : (s.emit o).pJtag = s.pJtag := rfl
@[simp] theorem State.emit_flash (s : State) (o : Out) : (s.emit o).flash = s.flash := rfl
@[simp] theorem State.emit_badSlots (s : State) (o : Out) : (s.emit o).badSlots = s.badSlots := rfl
@[simp] theorem State.emit_flCmd (s : State) (o : Out) : (s.emit o).flCmd = s.flCmd := rfl
@[simp] theorem State.emit_freeCtr (s : State) (o : Out) : (s.emit o).freeCtr = s.freeCtr := rfl
@[simp] theorem State.emit_sent (s : State) (o : Out) : (s.emit o).sent = s.sent ++ [o] := rfl
@[simp] theorem State.emit_pending (s : State) (o : Out) : (s.emit o).pending = s.pending := rfl

/-! ### emits -/

@[simp] theorem State.emits_regs (s : State) (l : List Out) : (s.emits l).regs = s.regs := rfl
@[simp] theorem State.emits_aon (s : State) (l : List Out) : (s.emits l).aon = s.aon := rfl
@[simp] theorem State.emits_start (s : State) (l : List Out) : (s.emits l).start = s.start := rfl
@[simp] theorem State.emits_time (s : State) (l : List Out) : (s.emits l).time = s.time := rfl
@[simp] theorem State.emits_recs (s : State) (l : List Out) : (s.emits l).recs = s.recs := rfl
@[simp] theorem State.emits_led (s : State) (l : List Out) : (s.emits l).led = s.led := rfl
@[simp] theorem State.emits_link (s : State) (l : List Out) : (s.emits l).link = s.link := rfl
@[simp] theorem State.emits_ep (s : State) (l : List Out) : (s.emits l).ep = s.ep := rfl
@[simp] theorem State.emits_hep (s : State) (l : List Out) : (s.emits l).hep = s.hep := rfl
@[simp] theorem State.emits_data (s : State) (l : List Out) : (s.emits l).data = s.data := rfl
@[simp] theorem State.emits_herds (s : State) (l : List Out) : (s.emits l).herds = s.herds := rfl
@[simp] theorem State.emits_modes (s : State) (l : List Out) : (s.emits l).modes = s.modes := rfl
@[simp] theorem State.emits_plc (s : State) (l : List Out) : (s.emits l).plc = s.plc := rfl
@[simp] theorem State.emits_grz (s : State) (l : List Out) : (s.emits l).grz = s.grz := rfl
@[simp] theorem State.emits_dma (s : State) (l : List Out) : (s.emits l).dma = s.dma := rfl
@[simp] theorem State.emits_image (s : State) (l : List Out) : (s.emits l).image = s.image := rfl
@[simp] theorem State.emits_sec (s : State) (l : List Out) : (s.emits l).sec = s.sec := rfl
@[simp] theorem State.emits_pwr (s : State) (l : List Out) : (s.emits l).pwr = s.pwr := rfl
@[simp] theorem State.emits_bus (s : State) (l : List Out) : (s.emits l).bus = s.bus := rfl
@[simp] theorem State.emits_pBar0 (s : State) (l : List Out) : (s.emits l).pBar0 = s.pBar0 := rfl
@[simp] theorem State.emits_pMgmt (s : State) (l : List Out) : (s.emits l).pMgmt = s.pMgmt := rfl
@[simp] theorem State.emits_pJtag (s : State) (l : List Out) : (s.emits l).pJtag = s.pJtag := rfl
@[simp] theorem State.emits_flash (s : State) (l : List Out) : (s.emits l).flash = s.flash := rfl
@[simp] theorem State.emits_badSlots (s : State) (l : List Out) : (s.emits l).badSlots = s.badSlots := rfl
@[simp] theorem State.emits_flCmd (s : State) (l : List Out) : (s.emits l).flCmd = s.flCmd := rfl
@[simp] theorem State.emits_freeCtr (s : State) (l : List Out) : (s.emits l).freeCtr = s.freeCtr := rfl
@[simp] theorem State.emits_sent (s : State) (l : List Out) : (s.emits l).sent = s.sent ++ l := rfl
@[simp] theorem State.emits_pending (s : State) (l : List Out) : (s.emits l).pending = s.pending := rfl

/-! ### drawn -/

@[simp] theorem State.drawn_regs (s : State) : (s.drawn).regs = s.regs := rfl
@[simp] theorem State.drawn_aon (s : State) : (s.drawn).aon = s.aon := rfl
@[simp] theorem State.drawn_start (s : State) : (s.drawn).start = s.start := rfl
@[simp] theorem State.drawn_time (s : State) : (s.drawn).time = s.time := rfl
@[simp] theorem State.drawn_recs (s : State) : (s.drawn).recs = s.recs := rfl
@[simp] theorem State.drawn_led (s : State) : (s.drawn).led = s.led := rfl
@[simp] theorem State.drawn_link (s : State) : (s.drawn).link = s.link := rfl
@[simp] theorem State.drawn_ep (s : State) : (s.drawn).ep = s.ep := rfl
@[simp] theorem State.drawn_hep (s : State) : (s.drawn).hep = s.hep := rfl
@[simp] theorem State.drawn_data (s : State) : (s.drawn).data = s.data := rfl
@[simp] theorem State.drawn_herds (s : State) : (s.drawn).herds = s.herds := rfl
@[simp] theorem State.drawn_modes (s : State) : (s.drawn).modes = s.modes := rfl
@[simp] theorem State.drawn_plc (s : State) : (s.drawn).plc = s.plc := rfl
@[simp] theorem State.drawn_grz (s : State) : (s.drawn).grz = s.grz := rfl
@[simp] theorem State.drawn_dma (s : State) : (s.drawn).dma = s.dma := rfl
@[simp] theorem State.drawn_image (s : State) : (s.drawn).image = s.image := rfl
@[simp] theorem State.drawn_sec (s : State) : (s.drawn).sec = s.sec := rfl
@[simp] theorem State.drawn_pwr (s : State) : (s.drawn).pwr = s.pwr := rfl
@[simp] theorem State.drawn_bus (s : State) : (s.drawn).bus = s.bus := rfl
@[simp] theorem State.drawn_pBar0 (s : State) : (s.drawn).pBar0 = s.pBar0 := rfl
@[simp] theorem State.drawn_pMgmt (s : State) : (s.drawn).pMgmt = s.pMgmt := rfl
@[simp] theorem State.drawn_pJtag (s : State) : (s.drawn).pJtag = s.pJtag := rfl
@[simp] theorem State.drawn_flash (s : State) : (s.drawn).flash = s.flash := rfl
@[simp] theorem State.drawn_badSlots (s : State) : (s.drawn).badSlots = s.badSlots := rfl
@[simp] theorem State.drawn_flCmd (s : State) : (s.drawn).flCmd = s.flCmd := rfl
@[simp] theorem State.drawn_freeCtr (s : State) : (s.drawn).freeCtr = s.freeCtr + 1 := rfl
@[simp] theorem State.drawn_sent (s : State) : (s.drawn).sent = s.sent := rfl
@[simp] theorem State.drawn_pending (s : State) : (s.drawn).pending = s.pending := rfl

/-! ### drawnN -/

@[simp] theorem State.drawnN_regs (s : State) (n : Nat) : (s.drawnN n).regs = s.regs := rfl
@[simp] theorem State.drawnN_aon (s : State) (n : Nat) : (s.drawnN n).aon = s.aon := rfl
@[simp] theorem State.drawnN_start (s : State) (n : Nat) : (s.drawnN n).start = s.start := rfl
@[simp] theorem State.drawnN_time (s : State) (n : Nat) : (s.drawnN n).time = s.time := rfl
@[simp] theorem State.drawnN_recs (s : State) (n : Nat) : (s.drawnN n).recs = s.recs := rfl
@[simp] theorem State.drawnN_led (s : State) (n : Nat) : (s.drawnN n).led = s.led := rfl
@[simp] theorem State.drawnN_link (s : State) (n : Nat) : (s.drawnN n).link = s.link := rfl
@[simp] theorem State.drawnN_ep (s : State) (n : Nat) : (s.drawnN n).ep = s.ep := rfl
@[simp] theorem State.drawnN_hep (s : State) (n : Nat) : (s.drawnN n).hep = s.hep := rfl
@[simp] theorem State.drawnN_data (s : State) (n : Nat) : (s.drawnN n).data = s.data := rfl
@[simp] theorem State.drawnN_herds (s : State) (n : Nat) : (s.drawnN n).herds = s.herds := rfl
@[simp] theorem State.drawnN_modes (s : State) (n : Nat) : (s.drawnN n).modes = s.modes := rfl
@[simp] theorem State.drawnN_plc (s : State) (n : Nat) : (s.drawnN n).plc = s.plc := rfl
@[simp] theorem State.drawnN_grz (s : State) (n : Nat) : (s.drawnN n).grz = s.grz := rfl
@[simp] theorem State.drawnN_dma (s : State) (n : Nat) : (s.drawnN n).dma = s.dma := rfl
@[simp] theorem State.drawnN_image (s : State) (n : Nat) : (s.drawnN n).image = s.image := rfl
@[simp] theorem State.drawnN_sec (s : State) (n : Nat) : (s.drawnN n).sec = s.sec := rfl
@[simp] theorem State.drawnN_pwr (s : State) (n : Nat) : (s.drawnN n).pwr = s.pwr := rfl
@[simp] theorem State.drawnN_bus (s : State) (n : Nat) : (s.drawnN n).bus = s.bus := rfl
@[simp] theorem State.drawnN_pBar0 (s : State) (n : Nat) : (s.drawnN n).pBar0 = s.pBar0 := rfl
@[simp] theorem State.drawnN_pMgmt (s : State) (n : Nat) : (s.drawnN n).pMgmt = s.pMgmt := rfl
@[simp] theorem State.drawnN_pJtag (s : State) (n : Nat) : (s.drawnN n).pJtag = s.pJtag := rfl
@[simp] theorem State.drawnN_flash (s : State) (n : Nat) : (s.drawnN n).flash = s.flash := rfl
@[simp] theorem State.drawnN_badSlots (s : State) (n : Nat) : (s.drawnN n).badSlots = s.badSlots := rfl
@[simp] theorem State.drawnN_flCmd (s : State) (n : Nat) : (s.drawnN n).flCmd = s.flCmd := rfl
@[simp] theorem State.drawnN_freeCtr (s : State) (n : Nat) : (s.drawnN n).freeCtr = s.freeCtr + n := rfl
@[simp] theorem State.drawnN_sent (s : State) (n : Nat) : (s.drawnN n).sent = s.sent := rfl
@[simp] theorem State.drawnN_pending (s : State) (n : Nat) : (s.drawnN n).pending = s.pending := rfl

/-! ### program -/

@[simp] theorem State.program_regs (s : State) (a : Nat) (l : List Byte) : (s.program a l).regs = s.regs := rfl
@[simp] theorem State.program_aon (s : State) (a : Nat) (l : List Byte) : (s.program a l).aon = s.aon := rfl
@[simp] theorem State.program_start (s : State) (a : Nat) (l : List Byte) : (s.program a l).start = s.start := rfl
@[simp] theorem State.program_time (s : State) (a : Nat) (l : List Byte) : (s.program a l).time = s.time := rfl
@[simp] theorem State.program_recs (s : State) (a : Nat) (l : List Byte) : (s.program a l).recs = s.recs := rfl
@[simp] theorem State.program_led (s : State) (a : Nat) (l : List Byte) : (s.program a l).led = s.led := rfl
@[simp] theorem State.program_link (s : State) (a : Nat) (l : List Byte) : (s.program a l).link = s.link := rfl
@[simp] theorem State.program_ep (s : State) (a : Nat) (l : List Byte) : (s.program a l).ep = s.ep := rfl
@[simp] theorem State.program_hep (s : State) (a : Nat) (l : List Byte) : (s.program a l).hep = s.hep := rfl
@[simp] theorem State.program_data (s : State) (a : Nat) (l : List Byte) : (s.program a l).data = s.data := rfl
@[simp] theorem State.program_herds (s : State) (a : Nat) (l : List Byte) : (s.program a l).herds = s.herds := rfl
@[simp] theorem State.program_modes (s : State) (a : Nat) (l : List Byte) : (s.program a l).modes = s.modes := rfl
@[simp] theorem State.program_plc (s : State) (a : Nat) (l : List Byte) : (s.program a l).plc = s.plc := rfl
@[simp] theorem State.program_grz (s : State) (a : Nat) (l : List Byte) : (s.program a l).grz = s.grz := rfl
@[simp] theorem State.program_dma (s : State) (a : Nat) (l : List Byte) : (s.program a l).dma = s.dma := rfl
@[simp] theorem State.program_image (s : State) (a : Nat) (l : List Byte) : (s.program a l).image = s.image := rfl
@[simp] theorem State.program_sec (s : State) (a : Nat) (l : List Byte) : (s.program a l).sec = s.sec := rfl
@[simp] theorem State.program_pwr (s : State) (a : Nat) (l : List Byte) : (s.program a l).pwr = s.pwr := rfl
@[simp] theorem State.program_bus (s : State) (a : Nat) (l : List Byte) : (s.program a l).bus = s.bus := rfl
@[simp] theorem State.program_pBar0 (s : State) (a : Nat) (l : List Byte) : (s.program a l).pBar0 = s.pBar0 := rfl
@[simp] theorem State.program_pMgmt (s : State) (a : Nat) (l : List Byte) : (s.program a l).pMgmt = s.pMgmt := rfl
@[simp] theorem State.program_pJtag (s : State) (a : Nat) (l : List Byte) : (s.program a l).pJtag = s.pJtag := rfl
@[simp] theorem State.program_flash (s : State) (a : Nat) (l : List Byte) : (s.program a l).flash = flashProg s.flash a l := rfl
@[simp] theorem State.program_badSlots (s : State) (a : Nat) (l : List Byte) : (s.program a l).badSlots = s.badSlots := rfl
@[simp] theorem State.program_flCmd (s : State) (a : Nat) (l : List Byte) : (s.program a l).flCmd = s.flCmd := rfl
@[simp] theorem State.program_freeCtr (s : State) (a : Nat) (l : List Byte) : (s.program a l).freeCtr = s.freeCtr := rfl
@[simp] theorem State.program_sent (s : State) (a : Nat) (l : List Byte) : (s.program a l).sent = s.sent := rfl
@[simp] theorem State.program_pending (s : State) (a : Nat) (l : List Byte) : (s.program a l).pending = s.pending := rfl

/-! ### eraseRange -/

@[simp] theorem State.eraseRange_regs (s : State) (a n : Nat) : (s.eraseRange a n).regs = s.regs := rfl
@[simp] theorem State.eraseRange_aon (s : State) (a n : Nat) : (s.eraseRange a n).aon = s.aon := rfl
@[simp] theorem State.eraseRange_start (s : State) (a n : Nat) : (s.eraseRange a n).start = s.start := rfl
@[simp] theorem State.eraseRange_time (s : State) (a n : Nat) : (s.eraseRange a n).time = s.time := rfl
@[simp] theorem State.eraseRange_recs (s : State) (a n : Nat) : (s.eraseRange a n).recs = s.recs := rfl
@[simp] theorem State.eraseRange_led (s : State) (a n : Nat) : (s.eraseRange a n).led = s.led := rfl
@[simp] theorem State.eraseRange_link (s : State) (a n : Nat) : (s.eraseRange a n).link = s.link := rfl
@[simp] theorem State.eraseRange_ep (s : State) (a n : Nat) : (s.eraseRange a n).ep = s.ep := rfl
@[simp] theorem State.eraseRange_hep (s : State) (a n : Nat) : (s.eraseRange a n).hep = s.hep := rfl
@[simp] theorem State.eraseRange_data (s : State) (a n : Nat) : (s.eraseRange a n).data = s.data := rfl
@[simp] theorem State.eraseRange_herds (s : State) (a n : Nat) : (s.eraseRange a n).herds = s.herds := rfl
@[simp] theorem State.eraseRange_modes (s : State) (a n : Nat) : (s.eraseRange a n).modes = s.modes := rfl
@[simp] theorem State.eraseRange_plc (s : State) (a n : Nat) : (s.eraseRange a n).plc = s.plc := rfl
@[simp] theorem State.eraseRange_grz (s : State) (a n : Nat) : (s.eraseRange a n).grz = s.grz := rfl
@[simp] theorem State.eraseRange_dma (s : State) (a n : Nat) : (s.eraseRange a n).dma = s.dma := rfl
@[simp] theorem State.eraseRange_image (s : State) (a n : Nat) : (s.eraseRange a n).image = s.image := rfl
@[simp] theorem State.eraseRange_sec (s : State) (a n : Nat) : (s.eraseRange a n).sec = s.sec := rfl
@[simp] theorem State.eraseRange_pwr (s : State) (a n : Nat) : (s.eraseRange a n).pwr = s.pwr := rfl
@[simp] theorem State.eraseRange_bus (s : State) (a n : Nat) : (s.eraseRange a n).bus = s.bus := rfl
@[simp] theorem State.eraseRange_pBar0 (s : State) (a n : Nat) : (s.eraseRange a n).pBar0 = s.pBar0 := rfl
@[simp] theorem State.eraseRange_pMgmt (s : State) (a n : Nat) : (s.eraseRange a n).pMgmt = s.pMgmt := rfl
@[simp] theorem State.eraseRange_pJtag (s : State) (a n : Nat) : (s.eraseRange a n).pJtag = s.pJtag := rfl
@[simp] theorem State.eraseRange_badSlots (s : State) (a n : Nat) : (s.eraseRange a n).badSlots = s.badSlots := rfl
@[simp] theorem State.eraseRange_flCmd (s : State) (a n : Nat) : (s.eraseRange a n).flCmd = s.flCmd := rfl
@[simp] theorem State.eraseRange_freeCtr (s : State) (a n : Nat) : (s.eraseRange a n).freeCtr = s.freeCtr := rfl
@[simp] theorem State.eraseRange_sent (s : State) (a n : Nat) : (s.eraseRange a n).sent = s.sent := rfl
@[simp] theorem State.eraseRange_pending (s : State) (a n : Nat) : (s.eraseRange a n).pending = s.pending := rfl

/-! ### setPath -/

@[simp] theorem State.setPath_regs (s : State) (p : Path) (x : PathSt) : (s.setPath p x).regs = s.regs := by cases p <;> rfl
@[simp] theorem State.setPath_aon (s : State) (p : Path) (x : PathSt) : (s.setPath p x).aon = s.aon := by cases p <;> rfl
@[simp] theorem State.setPath_start (s : State) (p : Path) (x : PathSt) : (s.setPath p x).start = s.start := by cases p <;> rfl
@[simp] theorem State.setPath_time (s : State) (p : Path) (x : PathSt) : (s.setPath p x).time = s.time := by cases p <;> rfl
@[simp] theorem State.setPath_recs (s : State) (p : Path) (x : PathSt) : (s.setPath p x).recs = s.recs := by cases p <;> rfl
@[simp] theorem State.setPath_led (s : State) (p : Path) (x : PathSt) : (s.setPath p x).led = s.led := by cases p <;> rfl
@[simp] theorem State.setPath_link (s : State) (p : Path) (x : PathSt) : (s.setPath p x).link = s.link := by cases p <;> rfl
@[simp] theorem State.setPath_ep (s : State) (p : Path) (x : PathSt) : (s.setPath p x).ep = s.ep := by cases p <;> rfl
@[simp] theorem State.setPath_hep (s : State) (p : Path) (x : PathSt) : (s.setPath p x).hep = s.hep := by cases p <;> rfl
@[simp] theorem State.setPath_data (s : State) (p : Path) (x : PathSt) : (s.setPath p x).data = s.data := by cases p <;> rfl
@[simp] theorem State.setPath_herds (s : State) (p : Path) (x : PathSt) : (s.setPath p x).herds = s.herds := by cases p <;> rfl
@[simp] theorem State.setPath_modes (s : State) (p : Path) (x : PathSt) : (s.setPath p x).modes = s.modes := by cases p <;> rfl
@[simp] theorem State.setPath_plc (s : State) (p : Path) (x : PathSt) : (s.setPath p x).plc = s.plc := by cases p <;> rfl
@[simp] theorem State.setPath_grz (s : State) (p : Path) (x : PathSt) : (s.setPath p x).grz = s.grz := by cases p <;> rfl
@[simp] theorem State.setPath_dma (s : State) (p : Path) (x : PathSt) : (s.setPath p x).dma = s.dma := by cases p <;> rfl
@[simp] theorem State.setPath_image (s : State) (p : Path) (x : PathSt) : (s.setPath p x).image = s.image := by cases p <;> rfl
@[simp] theorem State.setPath_sec (s : State) (p : Path) (x : PathSt) : (s.setPath p x).sec = s.sec := by cases p <;> rfl
@[simp] theorem State.setPath_pwr (s : State) (p : Path) (x : PathSt) : (s.setPath p x).pwr = s.pwr := by cases p <;> rfl
@[simp] theorem State.setPath_bus (s : State) (p : Path) (x : PathSt) : (s.setPath p x).bus = s.bus := by cases p <;> rfl
@[simp] theorem State.setPath_flash (s : State) (p : Path) (x : PathSt) : (s.setPath p x).flash = s.flash := by cases p <;> rfl
@[simp] theorem State.setPath_badSlots (s : State) (p : Path) (x : PathSt) : (s.setPath p x).badSlots = s.badSlots := by cases p <;> rfl
@[simp] theorem State.setPath_flCmd (s : State) (p : Path) (x : PathSt) : (s.setPath p x).flCmd = s.flCmd := by cases p <;> rfl
@[simp] theorem State.setPath_freeCtr (s : State) (p : Path) (x : PathSt) : (s.setPath p x).freeCtr = s.freeCtr := by cases p <;> rfl
@[simp] theorem State.setPath_sent (s : State) (p : Path) (x : PathSt) : (s.setPath p x).sent = s.sent := by cases p <;> rfl
@[simp] theorem State.setPath_pending (s : State) (p : Path) (x : PathSt) : (s.setPath p x).pending = s.pending := by cases p <;> rfl
@[simp] theorem State.setPath_path (s : State) (p : Path) (x : PathSt) : (s.setPath p x).path p = x := by cases p <;> rfl

/-! ### advance -/

@[simp] theorem State.advance_regs (s : State) (n : Nat) : (s.advance n).regs = s.regs := rfl
@[simp] theorem State.advance_aon (s : State) (n : Nat) : (s.advance n).aon = s.aon := rfl
@[simp] theorem State.advance_start (s : State) (n : Nat) : (s.advance n).start = s.start := rfl
@[simp] theorem State.advance_recs (s : State) (n : Nat) : (s.advance n).recs = s.recs := rfl
@[simp] theorem State.advance_led (s : State) (n : Nat) : (s.advance n).led = s.led := rfl
@[simp] theorem State.advance_link (s : State) (n : Nat) : (s.advance n).link = s.link := rfl
@[simp] theorem State.advance_ep (s : State) (n : Nat) : (s.advance n).ep = s.ep := rfl
@[simp] theorem State.advance_hep (s : State) (n : Nat) : (s.advance n).hep = s.hep := rfl
@[simp] theorem State.advance_data (s : State) (n : Nat) : (s.advance n).data = s.data := rfl
@[simp] theorem State.advance_herds (s : State) (n : Nat) : (s.advance n).herds = s.herds := rfl
@[simp] theorem State.advance_modes (s : State) (n : Nat) : (s.advance n).modes = s.modes := rfl
@[simp] theorem State.advance_plc (s : State) (n : Nat) : (s.advance n).plc = s.plc := rfl
@[simp] theorem State.advance_grz (s : State) (n : Nat) : (s.advance n).grz = s.grz := rfl
@[simp] theorem State.advance_dma (s : State) (n : Nat) : (s.advance n).dma = s.dma := rfl
@[simp] theorem State.advance_image (s : State) (n : Nat) : (s.advance n).image = s.image := rfl
@[simp] theorem State.advance_sec (s : State) (n : Nat) : (s.advance n).sec = s.sec := rfl
@[simp] theorem State.advance_pwr (s : State) (n : Nat) : (s.advance n).pwr = s.pwr := rfl
@[simp] theorem State.advance_bus (s : State) (n : Nat) : (s.advance n).bus = s.bus := rfl
@[simp] theorem State.advance_pBar0 (s : State) (n : Nat) : (s.advance n).pBar0 = s.pBar0 := rfl
@[simp] theorem State.advance_pMgmt (s : State) (n : Nat) : (s.advance n).pMgmt = s.pMgmt := rfl
@[simp] theorem State.advance_pJtag (s : State) (n : Nat) : (s.advance n).pJtag = s.pJtag := rfl
@[simp] theorem State.advance_flash (s : State) (n : Nat) : (s.advance n).flash = s.flash := rfl
@[simp] theorem State.advance_badSlots (s : State) (n : Nat) : (s.advance n).badSlots = s.badSlots := rfl
@[simp] theorem State.advance_flCmd (s : State) (n : Nat) : (s.advance n).flCmd = s.flCmd := rfl
@[simp] theorem State.advance_freeCtr (s : State) (n : Nat) : (s.advance n).freeCtr = s.freeCtr := rfl
@[simp] theorem State.advance_sent (s : State) (n : Nat) : (s.advance n).sent = s.sent := rfl
@[simp] theorem State.advance_pending (s : State) (n : Nat) : (s.advance n).pending = s.pending := rfl

/-! ### latchHi and answer -/

@[simp] theorem State.latchHi_regs (s : State) (p : Path) (a : Nat) (v : Word) : (s.latchHi p a v).regs = s.regs := State.setPath_regs ..
@[simp] theorem State.answer_regs (s : State) (p : Path) (v : Word) : (s.answer p v).regs = s.regs := rfl
@[simp] theorem State.latchHi_aon (s : State) (p : Path) (a : Nat) (v : Word) : (s.latchHi p a v).aon = s.aon := State.setPath_aon ..
@[simp] theorem State.answer_aon (s : State) (p : Path) (v : Word) : (s.answer p v).aon = s.aon := rfl
@[simp] theorem State.latchHi_start (s : State) (p : Path) (a : Nat) (v : Word) : (s.latchHi p a v).start = s.start := State.setPath_start ..
@[simp] theorem State.answer_start (s : State) (p : Path) (v : Word) : (s.answer p v).start = s.start := rfl
@[simp] theorem State.latchHi_time (s : State) (p : Path) (a : Nat) (v : Word) : (s.latchHi p a v).time = s.time := State.setPath_time ..
@[simp] theorem State.answer_time (s : State) (p : Path) (v : Word) : (s.answer p v).time = s.time := rfl
@[simp] theorem State.latchHi_recs (s : State) (p : Path) (a : Nat) (v : Word) : (s.latchHi p a v).recs = s.recs := State.setPath_recs ..
@[simp] theorem State.answer_recs (s : State) (p : Path) (v : Word) : (s.answer p v).recs = s.recs := rfl
@[simp] theorem State.latchHi_led (s : State) (p : Path) (a : Nat) (v : Word) : (s.latchHi p a v).led = s.led := State.setPath_led ..
@[simp] theorem State.answer_led (s : State) (p : Path) (v : Word) : (s.answer p v).led = s.led := rfl
@[simp] theorem State.latchHi_link (s : State) (p : Path) (a : Nat) (v : Word) : (s.latchHi p a v).link = s.link := State.setPath_link ..
@[simp] theorem State.answer_link (s : State) (p : Path) (v : Word) : (s.answer p v).link = s.link := rfl
@[simp] theorem State.latchHi_ep (s : State) (p : Path) (a : Nat) (v : Word) : (s.latchHi p a v).ep = s.ep := State.setPath_ep ..
@[simp] theorem State.answer_ep (s : State) (p : Path) (v : Word) : (s.answer p v).ep = s.ep := rfl
@[simp] theorem State.latchHi_hep (s : State) (p : Path) (a : Nat) (v : Word) : (s.latchHi p a v).hep = s.hep := State.setPath_hep ..
@[simp] theorem State.answer_hep (s : State) (p : Path) (v : Word) : (s.answer p v).hep = s.hep := rfl
@[simp] theorem State.latchHi_data (s : State) (p : Path) (a : Nat) (v : Word) : (s.latchHi p a v).data = s.data := State.setPath_data ..
@[simp] theorem State.answer_data (s : State) (p : Path) (v : Word) : (s.answer p v).data = s.data := rfl
@[simp] theorem State.latchHi_herds (s : State) (p : Path) (a : Nat) (v : Word) : (s.latchHi p a v).herds = s.herds := State.setPath_herds ..
@[simp] theorem State.answer_herds (s : State) (p : Path) (v : Word) : (s.answer p v).herds = s.herds := rfl
@[simp] theorem State.latchHi_modes (s : State) (p : Path) (a : Nat) (v : Word) : (s.latchHi p a v).modes = s.modes := State.setPath_modes ..
@[simp] theorem State.answer_modes (s : State) (p : Path) (v : Word) : (s.answer p v).modes = s.modes := rfl
@[simp] theorem State.latchHi_plc (s : State) (p : Path) (a : Nat) (v : Word) : (s.latchHi p a v).plc = s.plc := State.setPath_plc ..
@[simp] theorem State.answer_plc (s : State) (p : Path) (v : Word) : (s.answer p v).plc = s.plc := rfl
@[simp] theorem State.latchHi_grz (s : State) (p : Path) (a : Nat) (v : Word) : (s.latchHi p a v).grz = s.grz := State.setPath_grz ..
@[simp] theorem State.answer_grz (s : State) (p : Path) (v : Word) : (s.answer p v).grz = s.grz := rfl
@[simp] theorem State.latchHi_dma (s : State) (p : Path) (a : Nat) (v : Word) : (s.latchHi p a v).dma = s.dma := State.setPath_dma ..
@[simp] theorem State.answer_dma (s : State) (p : Path) (v : Word) : (s.answer p v).dma = s.dma := rfl
@[simp] theorem State.latchHi_image (s : State) (p : Path) (a : Nat) (v : Word) : (s.latchHi p a v).image = s.image := State.setPath_image ..
@[simp] theorem State.answer_image (s : State) (p : Path) (v : Word) : (s.answer p v).image = s.image := rfl
@[simp] theorem State.latchHi_sec (s : State) (p : Path) (a : Nat) (v : Word) : (s.latchHi p a v).sec = s.sec := State.setPath_sec ..
@[simp] theorem State.answer_sec (s : State) (p : Path) (v : Word) : (s.answer p v).sec = s.sec := rfl
@[simp] theorem State.latchHi_pwr (s : State) (p : Path) (a : Nat) (v : Word) : (s.latchHi p a v).pwr = s.pwr := State.setPath_pwr ..
@[simp] theorem State.answer_pwr (s : State) (p : Path) (v : Word) : (s.answer p v).pwr = s.pwr := rfl
@[simp] theorem State.latchHi_bus (s : State) (p : Path) (a : Nat) (v : Word) : (s.latchHi p a v).bus = s.bus := State.setPath_bus ..
@[simp] theorem State.answer_bus (s : State) (p : Path) (v : Word) : (s.answer p v).bus = s.bus := rfl
@[simp] theorem State.answer_pBar0 (s : State) (p : Path) (v : Word) : (s.answer p v).pBar0 = s.pBar0 := rfl
@[simp] theorem State.answer_pMgmt (s : State) (p : Path) (v : Word) : (s.answer p v).pMgmt = s.pMgmt := rfl
@[simp] theorem State.answer_pJtag (s : State) (p : Path) (v : Word) : (s.answer p v).pJtag = s.pJtag := rfl
@[simp] theorem State.latchHi_flash (s : State) (p : Path) (a : Nat) (v : Word) : (s.latchHi p a v).flash = s.flash := State.setPath_flash ..
@[simp] theorem State.answer_flash (s : State) (p : Path) (v : Word) : (s.answer p v).flash = s.flash := rfl
@[simp] theorem State.latchHi_badSlots (s : State) (p : Path) (a : Nat) (v : Word) : (s.latchHi p a v).badSlots = s.badSlots := State.setPath_badSlots ..
@[simp] theorem State.answer_badSlots (s : State) (p : Path) (v : Word) : (s.answer p v).badSlots = s.badSlots := rfl
@[simp] theorem State.latchHi_flCmd (s : State) (p : Path) (a : Nat) (v : Word) : (s.latchHi p a v).flCmd = s.flCmd := State.setPath_flCmd ..
@[simp] theorem State.answer_flCmd (s : State) (p : Path) (v : Word) : (s.answer p v).flCmd = s.flCmd := rfl
@[simp] theorem State.latchHi_freeCtr (s : State) (p : Path) (a : Nat) (v : Word) : (s.latchHi p a v).freeCtr = s.freeCtr := State.setPath_freeCtr ..
@[simp] theorem State.answer_freeCtr (s : State) (p : Path) (v : Word) : (s.answer p v).freeCtr = s.freeCtr := rfl
@[simp] theorem State.latchHi_sent (s : State) (p : Path) (a : Nat) (v : Word) : (s.latchHi p a v).sent = s.sent := State.setPath_sent ..
@[simp] theorem State.answer_sent (s : State) (p : Path) (v : Word) : (s.answer p v).sent = s.sent ++ [.readData p v] := rfl
@[simp] theorem State.latchHi_pending (s : State) (p : Path) (a : Nat) (v : Word) : (s.latchHi p a v).pending = s.pending := State.setPath_pending ..
@[simp] theorem State.answer_pending (s : State) (p : Path) (v : Word) : (s.answer p v).pending = s.pending := rfl

end Sys2Proof.Machine
end

