-- ==== Sys2Proof/Laws/Tables.lean ====
section
/-! SUPPORT. The laws of sparse arrays: a read after a write, and the canonical form. -/

namespace Sys2Proof.Machine

variable {α : Type}

/-! ### Reads -/

theorem tblGet_del (d : Nat → α) (t : Tbl α) (a b : Nat) : tblGet d (tblDel a t) b = if a = b then d b else tblGet d t b := by
  induction t with
  | nil => simp [tblDel, tblGet]
  | cons h t ih =>
    obtain ⟨k, w⟩ := h
    by_cases hk : k = a <;> by_cases hb : k = b <;> by_cases hab : a = b <;> simp_all [tblDel, tblGet]

theorem tblDel_keys (a : Nat) (t : Tbl α) : ∀ c ∈ tblDel a t, c.1 ≠ a ∧ c ∈ t := by
  induction t with
  | nil => simp [tblDel]
  | cons h t ih =>
    obtain ⟨k, w⟩ := h
    intro c hc
    by_cases hk : k = a
    · rw [tblDel, if_pos hk] at hc
      exact ⟨(ih c hc).1, List.mem_cons_of_mem _ (ih c hc).2⟩
    · rw [tblDel, if_neg hk] at hc
      rcases List.mem_cons.1 hc with rfl | hc
      · exact ⟨hk, List.mem_cons_self ..⟩
      · exact ⟨(ih c hc).1, List.mem_cons_of_mem _ (ih c hc).2⟩

theorem tblGet_ins (d : Nat → α) (t : Tbl α) (a b : Nat) (v : α) (h : ∀ c ∈ t, c.1 ≠ a) :
    tblGet d (tblIns a v t) b = if a = b then v else tblGet d t b := by
  induction t with
  | nil => simp [tblIns, tblGet]
  | cons c t ih =>
    obtain ⟨k, w⟩ := c
    have hk : k ≠ a := h (k, w) (List.mem_cons_self ..)
    have ih := ih fun c hc => h c (List.mem_cons_of_mem _ hc)
    by_cases hlt : a < k
    · simp [tblIns, hlt, tblGet]
    · rw [tblIns, if_neg hlt, tblGet, ih, tblGet]
      by_cases hab : a = b
      · subst hab; simp [hk]
      · simp [hab]

/-- What is written at a key is read there, and nowhere else. -/
theorem tblGet_set [DecidableEq α] (d : Nat → α) (t : Tbl α) (a b : Nat) (v : α) :
    tblGet d (tblSet d t a v) b = if a = b then v else tblGet d t b := by
  unfold tblSet
  split
  · rw [tblGet_del]; split
    · subst_vars; rfl
    · rfl
  · rw [tblGet_ins _ _ _ _ _ fun c hc => (tblDel_keys a t c hc).1, tblGet_del]
    by_cases hab : a = b <;> simp [hab]

@[simp] theorem tblGet_set_same [DecidableEq α] (d : Nat → α) (t : Tbl α) (a : Nat) (v : α) :
    tblGet d (tblSet d t a v) a = v := by rw [tblGet_set, if_pos rfl]

theorem tblGet_set_other [DecidableEq α] (d : Nat → α) (t : Tbl α) {a b : Nat} (v : α) (h : a ≠ b) :
    tblGet d (tblSet d t a v) b = tblGet d t b := by rw [tblGet_set, if_neg h]

/-! ### The canonical form -/

theorem tblWfFrom_mono [DecidableEq α] (d : Nat → α) (t : Tbl α) {lo lo' : Nat} (h : lo ≤ lo')
    (w : tblWfFrom d lo' t = true) : tblWfFrom d lo t = true := by
  cases t with
  | nil => rfl
  | cons c t =>
    obtain ⟨k, v⟩ := c
    simp only [tblWfFrom, Bool.and_eq_true, decide_eq_true_eq] at w ⊢
    exact ⟨by omega, w.2⟩

theorem tblWfFrom_filter [DecidableEq α] (d : Nat → α) (p : Nat × α → Bool) (t : Tbl α) (lo : Nat)
    (w : tblWfFrom d lo t = true) : tblWfFrom d lo (t.filter p) = true := by
  induction t generalizing lo with
  | nil => rfl
  | cons c t ih =>
    obtain ⟨k, v⟩ := c
    simp only [tblWfFrom, Bool.and_eq_true, decide_eq_true_eq] at w
    have := ih (k + 1) w.2.2
    rw [List.filter_cons]
    split
    · simp only [tblWfFrom, Bool.and_eq_true, decide_eq_true_eq]; exact ⟨w.1, w.2.1, this⟩
    · exact tblWfFrom_mono d _ (by omega) this

theorem tblDel_eq_filter (a : Nat) (t : Tbl α) : tblDel a t = t.filter fun c => c.1 != a := by
  induction t with
  | nil => rfl
  | cons c t ih =>
    obtain ⟨k, v⟩ := c
    by_cases hk : k = a <;> simp [tblDel, hk, ih]

theorem tblWfFrom_ins [DecidableEq α] (d : Nat → α) (t : Tbl α) (a : Nat) (v : α) (hv : v ≠ d a)
    (h : ∀ c ∈ t, c.1 ≠ a) (lo : Nat) (hlo : lo ≤ a) (w : tblWfFrom d lo t = true) :
    tblWfFrom d lo (tblIns a v t) = true := by
  induction t generalizing lo with
  | nil => simp [tblIns, tblWfFrom, hlo, hv]
  | cons c t ih =>
    obtain ⟨k, u⟩ := c
    have hk : k ≠ a := h (k, u) (List.mem_cons_self ..)
    simp only [tblWfFrom, Bool.and_eq_true, decide_eq_true_eq] at w
    by_cases hlt : a < k
    · rw [tblIns, if_pos hlt]
      simp only [tblWfFrom, Bool.and_eq_true, decide_eq_true_eq]
      exact ⟨hlo, hv, by omega, w.2⟩
    · rw [tblIns, if_neg hlt]
      simp only [tblWfFrom, Bool.and_eq_true, decide_eq_true_eq]
      exact ⟨w.1, w.2.1, ih (fun c hc => h c (List.mem_cons_of_mem _ hc)) (k + 1) (by omega) w.2.2⟩

/-- A write keeps the canonical form. -/
theorem tblWf_set [DecidableEq α] (d : Nat → α) (t : Tbl α) (a : Nat) (v : α) (w : tblWf d t = true) :
    tblWf d (tblSet d t a v) = true := by
  have wd : tblWfFrom d 0 (tblDel a t) = true := by rw [tblDel_eq_filter]; exact tblWfFrom_filter d _ t 0 w
  unfold tblSet
  split
  · exact wd
  · exact tblWfFrom_ins d _ a v (by assumption) (fun c hc => (tblDel_keys a t c hc).1) 0 (Nat.zero_le _) wd

/-- So does dropping entries. -/
theorem tblWf_filter [DecidableEq α] (d : Nat → α) (t : Tbl α) (p : Nat × α → Bool) (w : tblWf d t = true) :
    tblWf d (t.filter p) = true := tblWfFrom_filter d p t 0 w

/-- A fold of writes keeps the canonical form. -/
theorem tblWf_foldl [DecidableEq α] {β : Type} (d : Nat → α) (f : Tbl α → β → Tbl α)
    (hf : ∀ t x, tblWf d t = true → tblWf d (f t x) = true) (l : List β) (t : Tbl α) (w : tblWf d t = true) :
    tblWf d (l.foldl f t) = true := by
  induction l generalizing t with
  | nil => exact w
  | cons x l ih => exact ih _ (hf t x w)

end Sys2Proof.Machine
end

