-- ==== Sys2Proof/Laws/Ops.lean ====
section
/-! SUPPORT. The laws of the shared operations: a register or field read after a write. -/

namespace Sys2Proof.Machine

/-! ### Registers -/

/-- A register write changes that register alone. -/
theorem State.reg_setReg (s : State) (a b : Nat) (v : Word) : (s.setReg a v).reg b = if a = b then v else s.reg b :=
  tblGet_set regReset s.regs a b v

@[simp] theorem State.reg_setReg_same (s : State) (a : Nat) (v : Word) : (s.setReg a v).reg a = v := by
  rw [State.reg_setReg, if_pos rfl]

theorem State.reg_setReg_other (s : State) {a b : Nat} (v : Word) (h : a ≠ b) : (s.setReg a v).reg b = s.reg b := by
  rw [State.reg_setReg, if_neg h]

/-! ### Fields -/

theorem fldMask_bit (lo w i : Nat) : (fldMask lo w).getLsbD i = (decide (i < 32) && decide (lo ≤ i) && decide (i < lo + w)) := by
  simp only [fldMask, BitVec.getLsbD_shiftLeft, BitVec.getLsbD_setWidth, BitVec.getLsbD_allOnes]
  by_cases h : i < 32
  · by_cases h1 : i < lo
    · have : ¬ lo ≤ i := by omega
      simp [h, h1, this]
    · have h1' : lo ≤ i := by omega
      have h3 : i - lo < 32 := by omega
      by_cases h2 : i < lo + w
      · have h4 : i - lo < w := by omega
        simp [h, h1, h1', h2, h3, h4]
      · have h4 : ¬ i - lo < w := by omega
        simp [h, h1, h2, h4]
  · simp [h]

theorem fldPut_bit (r : Word) (lo w v i : Nat) : (fldPut r lo w v).getLsbD i =
    if i < 32 ∧ lo ≤ i ∧ i < lo + w then v.testBit (i - lo) else r.getLsbD i := by
  unfold fldPut
  rw [BitVec.getLsbD_or, BitVec.getLsbD_and, BitVec.getLsbD_not, fldMask_bit, BitVec.getLsbD_shiftLeft,
    BitVec.getLsbD_setWidth, BitVec.getLsbD_ofNat]
  by_cases h : i < 32
  · by_cases h1 : i < lo
    · have : ¬ lo ≤ i := by omega
      simp [h, h1, this]
    · have h1' : lo ≤ i := by omega
      have h3 : i - lo < 32 := by omega
      by_cases h2 : i < lo + w
      · have h4 : i - lo < w := by omega
        simp [h, h1, h1', h2, h3, h4]
      · have h4 : ¬ i - lo < w := by omega
        simp [h, h1, h1', h2, h4]
  · simp [h, BitVec.getLsbD_of_ge r i (by omega)]

theorem fldGet_put_same (r : Word) (lo w v : Nat) (h : lo + w ≤ 32) : fldGet (fldPut r lo w v) lo w = v % 2 ^ w := by
  apply Nat.eq_of_testBit_eq
  intro i
  unfold fldGet
  rw [BitVec.testBit_toNat, BitVec.getLsbD_extractLsb', fldPut_bit, Nat.testBit_mod_two_pow]
  by_cases hi : i < w
  · have : lo + i < 32 ∧ lo ≤ lo + i ∧ lo + i < lo + w := by omega
    simp [hi, this]
  · simp [hi]

theorem fldGet_put_other (r : Word) (lo w v lo' w' : Nat) (h : lo + w ≤ lo' ∨ lo' + w' ≤ lo) :
    fldGet (fldPut r lo w v) lo' w' = fldGet r lo' w' := by
  unfold fldGet
  congr 1
  apply BitVec.eq_of_getLsbD_eq
  intro i hi
  rw [BitVec.getLsbD_extractLsb', BitVec.getLsbD_extractLsb', fldPut_bit]
  have : ¬ (lo' + i < 32 ∧ lo ≤ lo' + i ∧ lo' + i < lo + w) := by omega
  simp [this]

/-- A field reads as it was written, to its width. -/
theorem State.fld_setFld_same (s : State) (f : Fld) (v : Nat) (h : f.lo + f.w ≤ 32) : (s.setFld f v).fld f = v % 2 ^ f.w := by
  unfold State.fld State.setFld
  rw [State.reg_setReg_same, fldGet_put_same _ _ _ _ h]

/-- Another field of the same register, or of another one, reads as before. -/
theorem State.fld_setFld_other (s : State) (f g : Fld) (v : Nat)
    (h : f.addr ≠ g.addr ∨ f.lo + f.w ≤ g.lo ∨ g.lo + g.w ≤ f.lo) : (s.setFld f v).fld g = s.fld g := by
  unfold State.fld State.setFld
  by_cases ha : f.addr = g.addr
  · rw [ha, State.reg_setReg_same]
    rcases h with h | h
    · exact absurd ha h
    · exact fldGet_put_other _ _ _ _ _ _ h
  · rw [State.reg_setReg_other _ _ ha]

/-- A register that a field write does not name reads as before. -/
theorem State.reg_setFld_other (s : State) (f : Fld) (v : Nat) {a : Nat} (h : f.addr ≠ a) : (s.setFld f v).reg a = s.reg a :=
  State.reg_setReg_other s _ h

theorem State.flag_setFlag_same (s : State) (f : Fld) (b : Bool) (h : f.lo + 1 ≤ 32) (hw : f.w = 1) :
    (s.setFlag f b).flag f = b := by
  unfold State.flag State.setFlag
  rw [State.fld_setFld_same _ _ _ (by omega), hw]
  cases b <;> rfl

theorem State.flag_setFld_other (s : State) (f g : Fld) (v : Nat)
    (h : f.addr ≠ g.addr ∨ f.lo + f.w ≤ g.lo ∨ g.lo + g.w ≤ f.lo) : (s.setFld f v).flag g = s.flag g := by
  unfold State.flag; rw [State.fld_setFld_other _ _ _ _ h]

end Sys2Proof.Machine
end

