-- ==== Sys2Proof/Laws/Events.lean ====
section
/-! SUPPORT. What logging an event, raising an interrupt, leaving L1 and counting change: the records, the ledger, the flash,
the pending interrupts, the link's state register, what is sent and drawn; and, for a counter, its register. -/

namespace Sys2Proof.Machine

/-- `t` is `s` but for the link's state register, its records, its ledger, its flash, its pending interrupts, WAKE_N, and what
it has sent and drawn. -/
def State.LogOnly (s t : State) : Prop := ∃ regs recs led flash i p n w m sent k,
  (∀ a, a ≠ A.HEP_LINK_STAT → tblGet regReset regs a = s.reg a) ∧ t = { s with
    regs := regs, recs := recs, led := led, flash := flash, sent := sent, freeCtr := k
    hep := { s.hep with irqPend := i, pba := p, inta := n, wakeN := w }
    ep := { s.ep with msiPend := m } }

theorem State.LogOnly.upd (s : State) {recs led flash i p n w m sent k} : s.LogOnly { s with
    recs := recs, led := led, flash := flash, sent := sent, freeCtr := k
    hep := { s.hep with irqPend := i, pba := p, inta := n, wakeN := w }
    ep := { s.ep with msiPend := m } } := ⟨_, _, _, _, _, _, _, _, _, _, _, fun _ _ => rfl, rfl⟩

theorem State.LogOnly.refl (s : State) : s.LogOnly s := .upd s

theorem State.LogOnly.trans {s t u : State} (h : s.LogOnly t) (h' : t.LogOnly u) : s.LogOnly u := by
  obtain ⟨_, _, _, _, _, _, _, _, _, _, _, hr, rfl⟩ := h
  obtain ⟨_, _, _, _, _, _, _, _, _, _, _, hr', rfl⟩ := h'
  exact ⟨_, _, _, _, _, _, _, _, _, _, _, fun a ha => (hr' a ha).trans (hr a ha), rfl⟩

theorem State.LogOnly.foldl {α : Type} {s t : State} {f : State → α → State} (h : s.LogOnly t) (hf : ∀ (t : State) (x : α), t.LogOnly (f t x))
    (l : List α) : s.LogOnly (l.foldl f t) := by
  induction l generalizing t with
  | nil => exact h
  | cons x l ih => exact ih (h.trans (hf _ _))

theorem State.setLink_logOnly (s : State) (f : Fld) (v : Nat) (h : f.addr = A.HEP_LINK_STAT) : s.LogOnly (s.setFld f v) :=
  ⟨_, _, _, _, _, _, _, _, _, _, _, fun _ ha => tblGet_set_other _ _ _ (h ▸ Ne.symm ha), rfl⟩

theorem State.exitL1_logOnly (s : State) : s.LogOnly s.exitL1 := by
  unfold State.exitL1 State.settleWake
  split
  · have h := (s.setLink_logOnly F.HEP_LINK_STAT_LSTATE 0 rfl).trans
      (State.setLink_logOnly _ F.HEP_LINK_STAT_L0P_W (s.fld F.HEP_LINK_STAT_WIDTH) rfl)
    split
    · exact h.trans (.upd _)
    · exact h
  · exact .refl _

theorem State.syncInta_logOnly (s : State) : s.LogOnly s.syncInta := by
  unfold State.syncInta
  extract_lets want
  split
  · exact .refl _
  · exact s.exitL1_logOnly.trans (.upd _)

theorem State.sendMsix_logOnly (s : State) (n : Nat) : s.LogOnly (s.sendMsix n) := s.exitL1_logOnly.trans (.upd _)

theorem State.sendMsi_logOnly (s : State) (n : Nat) : s.LogOnly (s.sendMsi n) := s.exitL1_logOnly.trans (.upd _)

theorem State.raiseIrq_logOnly (s : State) (n : Nat) : s.LogOnly (s.raiseIrq n) := by
  unfold State.raiseIrq
  extract_lets _ t
  have h : s.LogOnly t := .upd s
  clear_value t
  split
  · exact h
  · split
    · split
      · exact h.trans (.upd _)
      · exact h.trans (State.sendMsix_logOnly _ _)
    · split
      · exact h.trans (.upd _)
      · exact h.trans (State.sendMsi_logOnly _ _)
    · exact h.trans (State.syncInta_logOnly _)
    · exact h

theorem State.openRec_logOnly (n : Nat) (s : State) (e : Event) : s.LogOnly (State.openRec n s e) := by
  induction n generalizing s e with
  | zero => exact .refl _
  | succ n ih =>
    unfold State.openRec
    extract_lets slot ev head rs t
    have ht : s.LogOnly t := .upd s
    split
    · exact .refl _
    · split
      · exact (ht.trans (.upd _)).trans (ih _ _)
      · exact (ht.trans (.upd _)).trans (State.raiseIrq_logOnly _ _)

theorem State.closeUpTo_logOnly (n : Nat) (s : State) : s.LogOnly (State.closeUpTo n s) := by
  induction n generalizing s with
  | zero => exact .refl _
  | succ n ih =>
    unfold State.closeUpTo
    split
    · exact .refl _
    · extract_lets rs t
      have ht : s.LogOnly t := .upd s
      split
      · exact ((ht.trans (.upd _)).trans (State.openRec_logOnly _ _ _)).trans (ih _)
      · exact ht.trans (.upd _)

theorem State.closeRec_logOnly (s : State) : s.LogOnly s.closeRec := State.closeUpTo_logOnly _ _

theorem State.newRec_logOnly (s : State) (e : Event) : s.LogOnly (s.newRec e) := by
  unfold State.newRec
  extract_lets t u
  have h : s.LogOnly u := by
    unfold u
    split
    · exact s.closeRec_logOnly.trans (.upd _)
    · exact s.closeRec_logOnly.trans (State.openRec_logOnly _ _ _)
  split
  · exact (h.trans (State.closeRec_logOnly _)).trans (.upd _)
  · exact h

theorem State.logNow_logOnly (s : State) (e : Event) : s.LogOnly (s.logNow e) := by
  unfold State.logNow
  split
  · exact .upd s
  · split
    · exact .upd s
    · split
      · exact State.newRec_logOnly _ _
      · split
        · exact .upd s
        · exact (State.newRec_logOnly _ _).trans (.upd _)

theorem State.log_logOnly (s : State) (c n : Nat) (d : List Byte) : s.LogOnly (s.log c n d) := by
  unfold State.log
  split
  · split <;> exact .upd s
  · exact State.logNow_logOnly _ _

theorem State.writeHeld_logOnly (s : State) : s.LogOnly s.writeHeld := by
  unfold State.writeHeld
  split
  · exact .refl _
  · extract_lets x _ t
    have h : s.LogOnly t := State.LogOnly.foldl (.upd s) State.logNow_logOnly _
    split
    · exact h
    · have hu := h.trans (State.newRec_logOnly t ⟨390, noSrc, []⟩)
      dsimp only
      split
      · exact hu.trans (.upd _)
      · exact hu

/-! ### The fields that an event leaves alone -/

theorem State.LogOnly.reg {s t : State} (h : s.LogOnly t) {a : Nat} (ha : a ≠ A.HEP_LINK_STAT) : t.reg a = s.reg a := by
  obtain ⟨_, _, _, _, _, _, _, _, _, _, _, hr, rfl⟩ := h; exact hr a ha
theorem State.LogOnly.aon {s t : State} (h : s.LogOnly t) : t.aon = s.aon := by
  obtain ⟨_, _, _, _, _, _, _, _, _, _, _, _, rfl⟩ := h; rfl
theorem State.LogOnly.start {s t : State} (h : s.LogOnly t) : t.start = s.start := by
  obtain ⟨_, _, _, _, _, _, _, _, _, _, _, _, rfl⟩ := h; rfl
theorem State.LogOnly.time {s t : State} (h : s.LogOnly t) : t.time = s.time := by
  obtain ⟨_, _, _, _, _, _, _, _, _, _, _, _, rfl⟩ := h; rfl
theorem State.LogOnly.link {s t : State} (h : s.LogOnly t) : t.link = s.link := by
  obtain ⟨_, _, _, _, _, _, _, _, _, _, _, _, rfl⟩ := h; rfl
theorem State.LogOnly.data {s t : State} (h : s.LogOnly t) : t.data = s.data := by
  obtain ⟨_, _, _, _, _, _, _, _, _, _, _, _, rfl⟩ := h; rfl
theorem State.LogOnly.herds {s t : State} (h : s.LogOnly t) : t.herds = s.herds := by
  obtain ⟨_, _, _, _, _, _, _, _, _, _, _, _, rfl⟩ := h; rfl
theorem State.LogOnly.modes {s t : State} (h : s.LogOnly t) : t.modes = s.modes := by
  obtain ⟨_, _, _, _, _, _, _, _, _, _, _, _, rfl⟩ := h; rfl
theorem State.LogOnly.plc {s t : State} (h : s.LogOnly t) : t.plc = s.plc := by
  obtain ⟨_, _, _, _, _, _, _, _, _, _, _, _, rfl⟩ := h; rfl
theorem State.LogOnly.grz {s t : State} (h : s.LogOnly t) : t.grz = s.grz := by
  obtain ⟨_, _, _, _, _, _, _, _, _, _, _, _, rfl⟩ := h; rfl
theorem State.LogOnly.dma {s t : State} (h : s.LogOnly t) : t.dma = s.dma := by
  obtain ⟨_, _, _, _, _, _, _, _, _, _, _, _, rfl⟩ := h; rfl
theorem State.LogOnly.image {s t : State} (h : s.LogOnly t) : t.image = s.image := by
  obtain ⟨_, _, _, _, _, _, _, _, _, _, _, _, rfl⟩ := h; rfl
theorem State.LogOnly.sec {s t : State} (h : s.LogOnly t) : t.sec = s.sec := by
  obtain ⟨_, _, _, _, _, _, _, _, _, _, _, _, rfl⟩ := h; rfl
theorem State.LogOnly.pwr {s t : State} (h : s.LogOnly t) : t.pwr = s.pwr := by
  obtain ⟨_, _, _, _, _, _, _, _, _, _, _, _, rfl⟩ := h; rfl
theorem State.LogOnly.bus {s t : State} (h : s.LogOnly t) : t.bus = s.bus := by
  obtain ⟨_, _, _, _, _, _, _, _, _, _, _, _, rfl⟩ := h; rfl
theorem State.LogOnly.pBar0 {s t : State} (h : s.LogOnly t) : t.pBar0 = s.pBar0 := by
  obtain ⟨_, _, _, _, _, _, _, _, _, _, _, _, rfl⟩ := h; rfl
theorem State.LogOnly.pMgmt {s t : State} (h : s.LogOnly t) : t.pMgmt = s.pMgmt := by
  obtain ⟨_, _, _, _, _, _, _, _, _, _, _, _, rfl⟩ := h; rfl
theorem State.LogOnly.pJtag {s t : State} (h : s.LogOnly t) : t.pJtag = s.pJtag := by
  obtain ⟨_, _, _, _, _, _, _, _, _, _, _, _, rfl⟩ := h; rfl
theorem State.LogOnly.badSlots {s t : State} (h : s.LogOnly t) : t.badSlots = s.badSlots := by
  obtain ⟨_, _, _, _, _, _, _, _, _, _, _, _, rfl⟩ := h; rfl
theorem State.LogOnly.badTails {s t : State} (h : s.LogOnly t) : t.badTails = s.badTails := by
  obtain ⟨_, _, _, _, _, _, _, _, _, _, _, _, rfl⟩ := h; rfl
theorem State.LogOnly.flCmd {s t : State} (h : s.LogOnly t) : t.flCmd = s.flCmd := by
  obtain ⟨_, _, _, _, _, _, _, _, _, _, _, _, rfl⟩ := h; rfl
theorem State.LogOnly.pending {s t : State} (h : s.LogOnly t) : t.pending = s.pending := by
  obtain ⟨_, _, _, _, _, _, _, _, _, _, _, _, rfl⟩ := h; rfl
theorem State.LogOnly.hep_perst {s t : State} (h : s.LogOnly t) : t.hep.perst = s.hep.perst := by
  obtain ⟨_, _, _, _, _, _, _, _, _, _, _, _, rfl⟩ := h; rfl
theorem State.LogOnly.hep_tags {s t : State} (h : s.LogOnly t) : t.hep.tags = s.hep.tags := by
  obtain ⟨_, _, _, _, _, _, _, _, _, _, _, _, rfl⟩ := h; rfl
theorem State.LogOnly.hep_flrBusy {s t : State} (h : s.LogOnly t) : t.hep.flrBusy = s.hep.flrBusy := by
  obtain ⟨_, _, _, _, _, _, _, _, _, _, _, _, rfl⟩ := h; rfl
theorem State.LogOnly.hep_quar {s t : State} (h : s.LogOnly t) : t.hep.quar = s.hep.quar := by
  obtain ⟨_, _, _, _, _, _, _, _, _, _, _, _, rfl⟩ := h; rfl
theorem State.LogOnly.hep_freed {s t : State} (h : s.LogOnly t) : t.hep.freed = s.hep.freed := by
  obtain ⟨_, _, _, _, _, _, _, _, _, _, _, _, rfl⟩ := h; rfl
theorem State.LogOnly.hep_downSince {s t : State} (h : s.LogOnly t) : t.hep.downSince = s.hep.downSince := by
  obtain ⟨_, _, _, _, _, _, _, _, _, _, _, _, rfl⟩ := h; rfl
theorem State.LogOnly.hep_attOld {s t : State} (h : s.LogOnly t) : t.hep.attOld = s.hep.attOld := by
  obtain ⟨_, _, _, _, _, _, _, _, _, _, _, _, rfl⟩ := h; rfl
theorem State.LogOnly.hep_attWait {s t : State} (h : s.LogOnly t) : t.hep.attWait = s.hep.attWait := by
  obtain ⟨_, _, _, _, _, _, _, _, _, _, _, _, rfl⟩ := h; rfl
theorem State.LogOnly.hep_msixTbl {s t : State} (h : s.LogOnly t) : t.hep.msixTbl = s.hep.msixTbl := by
  obtain ⟨_, _, _, _, _, _, _, _, _, _, _, _, rfl⟩ := h; rfl
theorem State.LogOnly.hep_aerUnc {s t : State} (h : s.LogOnly t) : t.hep.aerUnc = s.hep.aerUnc := by
  obtain ⟨_, _, _, _, _, _, _, _, _, _, _, _, rfl⟩ := h; rfl
theorem State.LogOnly.hep_aerCor {s t : State} (h : s.LogOnly t) : t.hep.aerCor = s.hep.aerCor := by
  obtain ⟨_, _, _, _, _, _, _, _, _, _, _, _, rfl⟩ := h; rfl
theorem State.LogOnly.hep_aerHdr {s t : State} (h : s.LogOnly t) : t.hep.aerHdr = s.hep.aerHdr := by
  obtain ⟨_, _, _, _, _, _, _, _, _, _, _, _, rfl⟩ := h; rfl
theorem State.LogOnly.ep_mse {s t : State} (h : s.LogOnly t) : t.ep.mse = s.ep.mse := by
  obtain ⟨_, _, _, _, _, _, _, _, _, _, _, _, rfl⟩ := h; rfl
theorem State.LogOnly.ep_bme {s t : State} (h : s.LogOnly t) : t.ep.bme = s.ep.bme := by
  obtain ⟨_, _, _, _, _, _, _, _, _, _, _, _, rfl⟩ := h; rfl
theorem State.LogOnly.ep_d3 {s t : State} (h : s.LogOnly t) : t.ep.d3 = s.ep.d3 := by
  obtain ⟨_, _, _, _, _, _, _, _, _, _, _, _, rfl⟩ := h; rfl
theorem State.LogOnly.ep_bars {s t : State} (h : s.LogOnly t) : t.ep.bars = s.ep.bars := by
  obtain ⟨_, _, _, _, _, _, _, _, _, _, _, _, rfl⟩ := h; rfl
theorem State.LogOnly.ep_mps {s t : State} (h : s.LogOnly t) : t.ep.mps = s.ep.mps := by
  obtain ⟨_, _, _, _, _, _, _, _, _, _, _, _, rfl⟩ := h; rfl
theorem State.LogOnly.ep_mrrs {s t : State} (h : s.LogOnly t) : t.ep.mrrs = s.ep.mrrs := by
  obtain ⟨_, _, _, _, _, _, _, _, _, _, _, _, rfl⟩ := h; rfl
theorem State.LogOnly.fld {s t : State} (h : s.LogOnly t) (f : Fld) (hf : f.addr ≠ A.HEP_LINK_STAT) : t.fld f = s.fld f := by
  unfold State.fld; rw [h.reg hf]
theorem State.LogOnly.flag {s t : State} (h : s.LogOnly t) (f : Fld) (hf : f.addr ≠ A.HEP_LINK_STAT) : t.flag f = s.flag f := by
  unfold State.flag; rw [h.fld f hf]

@[simp] theorem State.log_aon (s : State) (c n : Nat) (d : List Byte) : (s.log c n d).aon = s.aon := (State.log_logOnly s c n d).aon
@[simp] theorem State.log_start (s : State) (c n : Nat) (d : List Byte) : (s.log c n d).start = s.start := (State.log_logOnly s c n d).start
@[simp] theorem State.log_time (s : State) (c n : Nat) (d : List Byte) : (s.log c n d).time = s.time := (State.log_logOnly s c n d).time
@[simp] theorem State.log_link (s : State) (c n : Nat) (d : List Byte) : (s.log c n d).link = s.link := (State.log_logOnly s c n d).link
@[simp] theorem State.log_data (s : State) (c n : Nat) (d : List Byte) : (s.log c n d).data = s.data := (State.log_logOnly s c n d).data
@[simp] theorem State.log_herds (s : State) (c n : Nat) (d : List Byte) : (s.log c n d).herds = s.herds := (State.log_logOnly s c n d).herds
@[simp] theorem State.log_modes (s : State) (c n : Nat) (d : List Byte) : (s.log c n d).modes = s.modes := (State.log_logOnly s c n d).modes
@[simp] theorem State.log_plc (s : State) (c n : Nat) (d : List Byte) : (s.log c n d).plc = s.plc := (State.log_logOnly s c n d).plc
@[simp] theorem State.log_grz (s : State) (c n : Nat) (d : List Byte) : (s.log c n d).grz = s.grz := (State.log_logOnly s c n d).grz
@[simp] theorem State.log_dma (s : State) (c n : Nat) (d : List Byte) : (s.log c n d).dma = s.dma := (State.log_logOnly s c n d).dma
@[simp] theorem State.log_image (s : State) (c n : Nat) (d : List Byte) : (s.log c n d).image = s.image := (State.log_logOnly s c n d).image
@[simp] theorem State.log_sec (s : State) (c n : Nat) (d : List Byte) : (s.log c n d).sec = s.sec := (State.log_logOnly s c n d).sec
@[simp] theorem State.log_pwr (s : State) (c n : Nat) (d : List Byte) : (s.log c n d).pwr = s.pwr := (State.log_logOnly s c n d).pwr
@[simp] theorem State.log_bus (s : State) (c n : Nat) (d : List Byte) : (s.log c n d).bus = s.bus := (State.log_logOnly s c n d).bus
@[simp] theorem State.log_pBar0 (s : State) (c n : Nat) (d : List Byte) : (s.log c n d).pBar0 = s.pBar0 := (State.log_logOnly s c n d).pBar0
@[simp] theorem State.log_pMgmt (s : State) (c n : Nat) (d : List Byte) : (s.log c n d).pMgmt = s.pMgmt := (State.log_logOnly s c n d).pMgmt
@[simp] theorem State.log_pJtag (s : State) (c n : Nat) (d : List Byte) : (s.log c n d).pJtag = s.pJtag := (State.log_logOnly s c n d).pJtag
@[simp] theorem State.log_badSlots (s : State) (c n : Nat) (d : List Byte) : (s.log c n d).badSlots = s.badSlots := (State.log_logOnly s c n d).badSlots
@[simp] theorem State.log_badTails (s : State) (c n : Nat) (d : List Byte) : (s.log c n d).badTails = s.badTails := (State.log_logOnly s c n d).badTails
@[simp] theorem State.log_flCmd (s : State) (c n : Nat) (d : List Byte) : (s.log c n d).flCmd = s.flCmd := (State.log_logOnly s c n d).flCmd
@[simp] theorem State.log_pending (s : State) (c n : Nat) (d : List Byte) : (s.log c n d).pending = s.pending := (State.log_logOnly s c n d).pending
@[simp] theorem State.log_hep_perst (s : State) (c n : Nat) (d : List Byte) : (s.log c n d).hep.perst = s.hep.perst := (State.log_logOnly s c n d).hep_perst
@[simp] theorem State.log_hep_tags (s : State) (c n : Nat) (d : List Byte) : (s.log c n d).hep.tags = s.hep.tags := (State.log_logOnly s c n d).hep_tags
@[simp] theorem State.log_hep_flrBusy (s : State) (c n : Nat) (d : List Byte) : (s.log c n d).hep.flrBusy = s.hep.flrBusy := (State.log_logOnly s c n d).hep_flrBusy
@[simp] theorem State.log_hep_quar (s : State) (c n : Nat) (d : List Byte) : (s.log c n d).hep.quar = s.hep.quar := (State.log_logOnly s c n d).hep_quar
@[simp] theorem State.log_hep_freed (s : State) (c n : Nat) (d : List Byte) : (s.log c n d).hep.freed = s.hep.freed := (State.log_logOnly s c n d).hep_freed
@[simp] theorem State.log_hep_downSince (s : State) (c n : Nat) (d : List Byte) : (s.log c n d).hep.downSince = s.hep.downSince := (State.log_logOnly s c n d).hep_downSince
@[simp] theorem State.log_hep_attOld (s : State) (c n : Nat) (d : List Byte) : (s.log c n d).hep.attOld = s.hep.attOld := (State.log_logOnly s c n d).hep_attOld
@[simp] theorem State.log_hep_attWait (s : State) (c n : Nat) (d : List Byte) : (s.log c n d).hep.attWait = s.hep.attWait := (State.log_logOnly s c n d).hep_attWait
@[simp] theorem State.log_hep_msixTbl (s : State) (c n : Nat) (d : List Byte) : (s.log c n d).hep.msixTbl = s.hep.msixTbl := (State.log_logOnly s c n d).hep_msixTbl
@[simp] theorem State.log_hep_aerUnc (s : State) (c n : Nat) (d : List Byte) : (s.log c n d).hep.aerUnc = s.hep.aerUnc := (State.log_logOnly s c n d).hep_aerUnc
@[simp] theorem State.log_hep_aerCor (s : State) (c n : Nat) (d : List Byte) : (s.log c n d).hep.aerCor = s.hep.aerCor := (State.log_logOnly s c n d).hep_aerCor
@[simp] theorem State.log_hep_aerHdr (s : State) (c n : Nat) (d : List Byte) : (s.log c n d).hep.aerHdr = s.hep.aerHdr := (State.log_logOnly s c n d).hep_aerHdr
@[simp] theorem State.log_ep_mse (s : State) (c n : Nat) (d : List Byte) : (s.log c n d).ep.mse = s.ep.mse := (State.log_logOnly s c n d).ep_mse
@[simp] theorem State.log_ep_bme (s : State) (c n : Nat) (d : List Byte) : (s.log c n d).ep.bme = s.ep.bme := (State.log_logOnly s c n d).ep_bme
@[simp] theorem State.log_ep_d3 (s : State) (c n : Nat) (d : List Byte) : (s.log c n d).ep.d3 = s.ep.d3 := (State.log_logOnly s c n d).ep_d3
@[simp] theorem State.log_ep_bars (s : State) (c n : Nat) (d : List Byte) : (s.log c n d).ep.bars = s.ep.bars := (State.log_logOnly s c n d).ep_bars
@[simp] theorem State.log_ep_mps (s : State) (c n : Nat) (d : List Byte) : (s.log c n d).ep.mps = s.ep.mps := (State.log_logOnly s c n d).ep_mps
@[simp] theorem State.log_ep_mrrs (s : State) (c n : Nat) (d : List Byte) : (s.log c n d).ep.mrrs = s.ep.mrrs := (State.log_logOnly s c n d).ep_mrrs
theorem State.log_reg (s : State) (c n : Nat) (d : List Byte) {a : Nat} (h : a ≠ A.HEP_LINK_STAT) : (s.log c n d).reg a = s.reg a := (State.log_logOnly s c n d).reg h
theorem State.log_fld (s : State) (c n : Nat) (d : List Byte) (f : Fld) (h : f.addr ≠ A.HEP_LINK_STAT) : (s.log c n d).fld f = s.fld f := (State.log_logOnly s c n d).fld f h
theorem State.log_flag (s : State) (c n : Nat) (d : List Byte) (f : Fld) (h : f.addr ≠ A.HEP_LINK_STAT) : (s.log c n d).flag f = s.flag f := (State.log_logOnly s c n d).flag f h

@[simp] theorem State.raiseIrq_aon (s : State) (n : Nat) : (s.raiseIrq n).aon = s.aon := (State.raiseIrq_logOnly s n).aon
@[simp] theorem State.raiseIrq_start (s : State) (n : Nat) : (s.raiseIrq n).start = s.start := (State.raiseIrq_logOnly s n).start
@[simp] theorem State.raiseIrq_time (s : State) (n : Nat) : (s.raiseIrq n).time = s.time := (State.raiseIrq_logOnly s n).time
@[simp] theorem State.raiseIrq_link (s : State) (n : Nat) : (s.raiseIrq n).link = s.link := (State.raiseIrq_logOnly s n).link
@[simp] theorem State.raiseIrq_data (s : State) (n : Nat) : (s.raiseIrq n).data = s.data := (State.raiseIrq_logOnly s n).data
@[simp] theorem State.raiseIrq_herds (s : State) (n : Nat) : (s.raiseIrq n).herds = s.herds := (State.raiseIrq_logOnly s n).herds
@[simp] theorem State.raiseIrq_modes (s : State) (n : Nat) : (s.raiseIrq n).modes = s.modes := (State.raiseIrq_logOnly s n).modes
@[simp] theorem State.raiseIrq_plc (s : State) (n : Nat) : (s.raiseIrq n).plc = s.plc := (State.raiseIrq_logOnly s n).plc
@[simp] theorem State.raiseIrq_grz (s : State) (n : Nat) : (s.raiseIrq n).grz = s.grz := (State.raiseIrq_logOnly s n).grz
@[simp] theorem State.raiseIrq_dma (s : State) (n : Nat) : (s.raiseIrq n).dma = s.dma := (State.raiseIrq_logOnly s n).dma
@[simp] theorem State.raiseIrq_image (s : State) (n : Nat) : (s.raiseIrq n).image = s.image := (State.raiseIrq_logOnly s n).image
@[simp] theorem State.raiseIrq_sec (s : State) (n : Nat) : (s.raiseIrq n).sec = s.sec := (State.raiseIrq_logOnly s n).sec
@[simp] theorem State.raiseIrq_pwr (s : State) (n : Nat) : (s.raiseIrq n).pwr = s.pwr := (State.raiseIrq_logOnly s n).pwr
@[simp] theorem State.raiseIrq_bus (s : State) (n : Nat) : (s.raiseIrq n).bus = s.bus := (State.raiseIrq_logOnly s n).bus
@[simp] theorem State.raiseIrq_pBar0 (s : State) (n : Nat) : (s.raiseIrq n).pBar0 = s.pBar0 := (State.raiseIrq_logOnly s n).pBar0
@[simp] theorem State.raiseIrq_pMgmt (s : State) (n : Nat) : (s.raiseIrq n).pMgmt = s.pMgmt := (State.raiseIrq_logOnly s n).pMgmt
@[simp] theorem State.raiseIrq_pJtag (s : State) (n : Nat) : (s.raiseIrq n).pJtag = s.pJtag := (State.raiseIrq_logOnly s n).pJtag
@[simp] theorem State.raiseIrq_badSlots (s : State) (n : Nat) : (s.raiseIrq n).badSlots = s.badSlots := (State.raiseIrq_logOnly s n).badSlots
@[simp] theorem State.raiseIrq_badTails (s : State) (n : Nat) : (s.raiseIrq n).badTails = s.badTails := (State.raiseIrq_logOnly s n).badTails
@[simp] theorem State.raiseIrq_flCmd (s : State) (n : Nat) : (s.raiseIrq n).flCmd = s.flCmd := (State.raiseIrq_logOnly s n).flCmd
@[simp] theorem State.raiseIrq_pending (s : State) (n : Nat) : (s.raiseIrq n).pending = s.pending := (State.raiseIrq_logOnly s n).pending
@[simp] theorem State.raiseIrq_hep_perst (s : State) (n : Nat) : (s.raiseIrq n).hep.perst = s.hep.perst := (State.raiseIrq_logOnly s n).hep_perst
@[simp] theorem State.raiseIrq_hep_tags (s : State) (n : Nat) : (s.raiseIrq n).hep.tags = s.hep.tags := (State.raiseIrq_logOnly s n).hep_tags
@[simp] theorem State.raiseIrq_hep_flrBusy (s : State) (n : Nat) : (s.raiseIrq n).hep.flrBusy = s.hep.flrBusy := (State.raiseIrq_logOnly s n).hep_flrBusy
@[simp] theorem State.raiseIrq_hep_quar (s : State) (n : Nat) : (s.raiseIrq n).hep.quar = s.hep.quar := (State.raiseIrq_logOnly s n).hep_quar
@[simp] theorem State.raiseIrq_hep_freed (s : State) (n : Nat) : (s.raiseIrq n).hep.freed = s.hep.freed := (State.raiseIrq_logOnly s n).hep_freed
@[simp] theorem State.raiseIrq_hep_downSince (s : State) (n : Nat) : (s.raiseIrq n).hep.downSince = s.hep.downSince := (State.raiseIrq_logOnly s n).hep_downSince
@[simp] theorem State.raiseIrq_hep_attOld (s : State) (n : Nat) : (s.raiseIrq n).hep.attOld = s.hep.attOld := (State.raiseIrq_logOnly s n).hep_attOld
@[simp] theorem State.raiseIrq_hep_attWait (s : State) (n : Nat) : (s.raiseIrq n).hep.attWait = s.hep.attWait := (State.raiseIrq_logOnly s n).hep_attWait
@[simp] theorem State.raiseIrq_hep_msixTbl (s : State) (n : Nat) : (s.raiseIrq n).hep.msixTbl = s.hep.msixTbl := (State.raiseIrq_logOnly s n).hep_msixTbl
@[simp] theorem State.raiseIrq_hep_aerUnc (s : State) (n : Nat) : (s.raiseIrq n).hep.aerUnc = s.hep.aerUnc := (State.raiseIrq_logOnly s n).hep_aerUnc
@[simp] theorem State.raiseIrq_hep_aerCor (s : State) (n : Nat) : (s.raiseIrq n).hep.aerCor = s.hep.aerCor := (State.raiseIrq_logOnly s n).hep_aerCor
@[simp] theorem State.raiseIrq_hep_aerHdr (s : State) (n : Nat) : (s.raiseIrq n).hep.aerHdr = s.hep.aerHdr := (State.raiseIrq_logOnly s n).hep_aerHdr
@[simp] theorem State.raiseIrq_ep_mse (s : State) (n : Nat) : (s.raiseIrq n).ep.mse = s.ep.mse := (State.raiseIrq_logOnly s n).ep_mse
@[simp] theorem State.raiseIrq_ep_bme (s : State) (n : Nat) : (s.raiseIrq n).ep.bme = s.ep.bme := (State.raiseIrq_logOnly s n).ep_bme
@[simp] theorem State.raiseIrq_ep_d3 (s : State) (n : Nat) : (s.raiseIrq n).ep.d3 = s.ep.d3 := (State.raiseIrq_logOnly s n).ep_d3
@[simp] theorem State.raiseIrq_ep_bars (s : State) (n : Nat) : (s.raiseIrq n).ep.bars = s.ep.bars := (State.raiseIrq_logOnly s n).ep_bars
@[simp] theorem State.raiseIrq_ep_mps (s : State) (n : Nat) : (s.raiseIrq n).ep.mps = s.ep.mps := (State.raiseIrq_logOnly s n).ep_mps
@[simp] theorem State.raiseIrq_ep_mrrs (s : State) (n : Nat) : (s.raiseIrq n).ep.mrrs = s.ep.mrrs := (State.raiseIrq_logOnly s n).ep_mrrs
theorem State.raiseIrq_reg (s : State) (n : Nat) {a : Nat} (h : a ≠ A.HEP_LINK_STAT) : (s.raiseIrq n).reg a = s.reg a := (State.raiseIrq_logOnly s n).reg h
theorem State.raiseIrq_fld (s : State) (n : Nat) (f : Fld) (h : f.addr ≠ A.HEP_LINK_STAT) : (s.raiseIrq n).fld f = s.fld f := (State.raiseIrq_logOnly s n).fld f h
theorem State.raiseIrq_flag (s : State) (n : Nat) (f : Fld) (h : f.addr ≠ A.HEP_LINK_STAT) : (s.raiseIrq n).flag f = s.flag f := (State.raiseIrq_logOnly s n).flag f h

@[simp] theorem State.exitL1_aon (s : State) : (s.exitL1).aon = s.aon := (State.exitL1_logOnly s).aon
@[simp] theorem State.exitL1_start (s : State) : (s.exitL1).start = s.start := (State.exitL1_logOnly s).start
@[simp] theorem State.exitL1_time (s : State) : (s.exitL1).time = s.time := (State.exitL1_logOnly s).time
@[simp] theorem State.exitL1_link (s : State) : (s.exitL1).link = s.link := (State.exitL1_logOnly s).link
@[simp] theorem State.exitL1_data (s : State) : (s.exitL1).data = s.data := (State.exitL1_logOnly s).data
@[simp] theorem State.exitL1_herds (s : State) : (s.exitL1).herds = s.herds := (State.exitL1_logOnly s).herds
@[simp] theorem State.exitL1_modes (s : State) : (s.exitL1).modes = s.modes := (State.exitL1_logOnly s).modes
@[simp] theorem State.exitL1_plc (s : State) : (s.exitL1).plc = s.plc := (State.exitL1_logOnly s).plc
@[simp] theorem State.exitL1_grz (s : State) : (s.exitL1).grz = s.grz := (State.exitL1_logOnly s).grz
@[simp] theorem State.exitL1_dma (s : State) : (s.exitL1).dma = s.dma := (State.exitL1_logOnly s).dma
@[simp] theorem State.exitL1_image (s : State) : (s.exitL1).image = s.image := (State.exitL1_logOnly s).image
@[simp] theorem State.exitL1_sec (s : State) : (s.exitL1).sec = s.sec := (State.exitL1_logOnly s).sec
@[simp] theorem State.exitL1_pwr (s : State) : (s.exitL1).pwr = s.pwr := (State.exitL1_logOnly s).pwr
@[simp] theorem State.exitL1_bus (s : State) : (s.exitL1).bus = s.bus := (State.exitL1_logOnly s).bus
@[simp] theorem State.exitL1_pBar0 (s : State) : (s.exitL1).pBar0 = s.pBar0 := (State.exitL1_logOnly s).pBar0
@[simp] theorem State.exitL1_pMgmt (s : State) : (s.exitL1).pMgmt = s.pMgmt := (State.exitL1_logOnly s).pMgmt
@[simp] theorem State.exitL1_pJtag (s : State) : (s.exitL1).pJtag = s.pJtag := (State.exitL1_logOnly s).pJtag
@[simp] theorem State.exitL1_badSlots (s : State) : (s.exitL1).badSlots = s.badSlots := (State.exitL1_logOnly s).badSlots
@[simp] theorem State.exitL1_badTails (s : State) : (s.exitL1).badTails = s.badTails := (State.exitL1_logOnly s).badTails
@[simp] theorem State.exitL1_flCmd (s : State) : (s.exitL1).flCmd = s.flCmd := (State.exitL1_logOnly s).flCmd
@[simp] theorem State.exitL1_pending (s : State) : (s.exitL1).pending = s.pending := (State.exitL1_logOnly s).pending
@[simp] theorem State.exitL1_hep_perst (s : State) : (s.exitL1).hep.perst = s.hep.perst := (State.exitL1_logOnly s).hep_perst
@[simp] theorem State.exitL1_hep_tags (s : State) : (s.exitL1).hep.tags = s.hep.tags := (State.exitL1_logOnly s).hep_tags
@[simp] theorem State.exitL1_hep_flrBusy (s : State) : (s.exitL1).hep.flrBusy = s.hep.flrBusy := (State.exitL1_logOnly s).hep_flrBusy
@[simp] theorem State.exitL1_hep_quar (s : State) : (s.exitL1).hep.quar = s.hep.quar := (State.exitL1_logOnly s).hep_quar
@[simp] theorem State.exitL1_hep_freed (s : State) : (s.exitL1).hep.freed = s.hep.freed := (State.exitL1_logOnly s).hep_freed
@[simp] theorem State.exitL1_hep_downSince (s : State) : (s.exitL1).hep.downSince = s.hep.downSince := (State.exitL1_logOnly s).hep_downSince
@[simp] theorem State.exitL1_hep_attOld (s : State) : (s.exitL1).hep.attOld = s.hep.attOld := (State.exitL1_logOnly s).hep_attOld
@[simp] theorem State.exitL1_hep_attWait (s : State) : (s.exitL1).hep.attWait = s.hep.attWait := (State.exitL1_logOnly s).hep_attWait
@[simp] theorem State.exitL1_hep_msixTbl (s : State) : (s.exitL1).hep.msixTbl = s.hep.msixTbl := (State.exitL1_logOnly s).hep_msixTbl
@[simp] theorem State.exitL1_hep_aerUnc (s : State) : (s.exitL1).hep.aerUnc = s.hep.aerUnc := (State.exitL1_logOnly s).hep_aerUnc
@[simp] theorem State.exitL1_hep_aerCor (s : State) : (s.exitL1).hep.aerCor = s.hep.aerCor := (State.exitL1_logOnly s).hep_aerCor
@[simp] theorem State.exitL1_hep_aerHdr (s : State) : (s.exitL1).hep.aerHdr = s.hep.aerHdr := (State.exitL1_logOnly s).hep_aerHdr
@[simp] theorem State.exitL1_ep_mse (s : State) : (s.exitL1).ep.mse = s.ep.mse := (State.exitL1_logOnly s).ep_mse
@[simp] theorem State.exitL1_ep_bme (s : State) : (s.exitL1).ep.bme = s.ep.bme := (State.exitL1_logOnly s).ep_bme
@[simp] theorem State.exitL1_ep_d3 (s : State) : (s.exitL1).ep.d3 = s.ep.d3 := (State.exitL1_logOnly s).ep_d3
@[simp] theorem State.exitL1_ep_bars (s : State) : (s.exitL1).ep.bars = s.ep.bars := (State.exitL1_logOnly s).ep_bars
@[simp] theorem State.exitL1_ep_mps (s : State) : (s.exitL1).ep.mps = s.ep.mps := (State.exitL1_logOnly s).ep_mps
@[simp] theorem State.exitL1_ep_mrrs (s : State) : (s.exitL1).ep.mrrs = s.ep.mrrs := (State.exitL1_logOnly s).ep_mrrs
theorem State.exitL1_reg (s : State) {a : Nat} (h : a ≠ A.HEP_LINK_STAT) : (s.exitL1).reg a = s.reg a := (State.exitL1_logOnly s).reg h
theorem State.exitL1_fld (s : State) (f : Fld) (h : f.addr ≠ A.HEP_LINK_STAT) : (s.exitL1).fld f = s.fld f := (State.exitL1_logOnly s).fld f h
theorem State.exitL1_flag (s : State) (f : Fld) (h : f.addr ≠ A.HEP_LINK_STAT) : (s.exitL1).flag f = s.flag f := (State.exitL1_logOnly s).flag f h

@[simp] theorem State.writeHeld_aon (s : State) : (s.writeHeld).aon = s.aon := (State.writeHeld_logOnly s).aon
@[simp] theorem State.writeHeld_start (s : State) : (s.writeHeld).start = s.start := (State.writeHeld_logOnly s).start
@[simp] theorem State.writeHeld_time (s : State) : (s.writeHeld).time = s.time := (State.writeHeld_logOnly s).time
@[simp] theorem State.writeHeld_link (s : State) : (s.writeHeld).link = s.link := (State.writeHeld_logOnly s).link
@[simp] theorem State.writeHeld_data (s : State) : (s.writeHeld).data = s.data := (State.writeHeld_logOnly s).data
@[simp] theorem State.writeHeld_herds (s : State) : (s.writeHeld).herds = s.herds := (State.writeHeld_logOnly s).herds
@[simp] theorem State.writeHeld_modes (s : State) : (s.writeHeld).modes = s.modes := (State.writeHeld_logOnly s).modes
@[simp] theorem State.writeHeld_plc (s : State) : (s.writeHeld).plc = s.plc := (State.writeHeld_logOnly s).plc
@[simp] theorem State.writeHeld_grz (s : State) : (s.writeHeld).grz = s.grz := (State.writeHeld_logOnly s).grz
@[simp] theorem State.writeHeld_dma (s : State) : (s.writeHeld).dma = s.dma := (State.writeHeld_logOnly s).dma
@[simp] theorem State.writeHeld_image (s : State) : (s.writeHeld).image = s.image := (State.writeHeld_logOnly s).image
@[simp] theorem State.writeHeld_sec (s : State) : (s.writeHeld).sec = s.sec := (State.writeHeld_logOnly s).sec
@[simp] theorem State.writeHeld_pwr (s : State) : (s.writeHeld).pwr = s.pwr := (State.writeHeld_logOnly s).pwr
@[simp] theorem State.writeHeld_bus (s : State) : (s.writeHeld).bus = s.bus := (State.writeHeld_logOnly s).bus
@[simp] theorem State.writeHeld_pBar0 (s : State) : (s.writeHeld).pBar0 = s.pBar0 := (State.writeHeld_logOnly s).pBar0
@[simp] theorem State.writeHeld_pMgmt (s : State) : (s.writeHeld).pMgmt = s.pMgmt := (State.writeHeld_logOnly s).pMgmt
@[simp] theorem State.writeHeld_pJtag (s : State) : (s.writeHeld).pJtag = s.pJtag := (State.writeHeld_logOnly s).pJtag
@[simp] theorem State.writeHeld_badSlots (s : State) : (s.writeHeld).badSlots = s.badSlots := (State.writeHeld_logOnly s).badSlots
@[simp] theorem State.writeHeld_badTails (s : State) : (s.writeHeld).badTails = s.badTails := (State.writeHeld_logOnly s).badTails
@[simp] theorem State.writeHeld_flCmd (s : State) : (s.writeHeld).flCmd = s.flCmd := (State.writeHeld_logOnly s).flCmd
@[simp] theorem State.writeHeld_pending (s : State) : (s.writeHeld).pending = s.pending := (State.writeHeld_logOnly s).pending
@[simp] theorem State.writeHeld_hep_perst (s : State) : (s.writeHeld).hep.perst = s.hep.perst := (State.writeHeld_logOnly s).hep_perst
@[simp] theorem State.writeHeld_hep_tags (s : State) : (s.writeHeld).hep.tags = s.hep.tags := (State.writeHeld_logOnly s).hep_tags
@[simp] theorem State.writeHeld_hep_flrBusy (s : State) : (s.writeHeld).hep.flrBusy = s.hep.flrBusy := (State.writeHeld_logOnly s).hep_flrBusy
@[simp] theorem State.writeHeld_hep_quar (s : State) : (s.writeHeld).hep.quar = s.hep.quar := (State.writeHeld_logOnly s).hep_quar
@[simp] theorem State.writeHeld_hep_freed (s : State) : (s.writeHeld).hep.freed = s.hep.freed := (State.writeHeld_logOnly s).hep_freed
@[simp] theorem State.writeHeld_hep_downSince (s : State) : (s.writeHeld).hep.downSince = s.hep.downSince := (State.writeHeld_logOnly s).hep_downSince
@[simp] theorem State.writeHeld_hep_attOld (s : State) : (s.writeHeld).hep.attOld = s.hep.attOld := (State.writeHeld_logOnly s).hep_attOld
@[simp] theorem State.writeHeld_hep_attWait (s : State) : (s.writeHeld).hep.attWait = s.hep.attWait := (State.writeHeld_logOnly s).hep_attWait
@[simp] theorem State.writeHeld_hep_msixTbl (s : State) : (s.writeHeld).hep.msixTbl = s.hep.msixTbl := (State.writeHeld_logOnly s).hep_msixTbl
@[simp] theorem State.writeHeld_hep_aerUnc (s : State) : (s.writeHeld).hep.aerUnc = s.hep.aerUnc := (State.writeHeld_logOnly s).hep_aerUnc
@[simp] theorem State.writeHeld_hep_aerCor (s : State) : (s.writeHeld).hep.aerCor = s.hep.aerCor := (State.writeHeld_logOnly s).hep_aerCor
@[simp] theorem State.writeHeld_hep_aerHdr (s : State) : (s.writeHeld).hep.aerHdr = s.hep.aerHdr := (State.writeHeld_logOnly s).hep_aerHdr
@[simp] theorem State.writeHeld_ep_mse (s : State) : (s.writeHeld).ep.mse = s.ep.mse := (State.writeHeld_logOnly s).ep_mse
@[simp] theorem State.writeHeld_ep_bme (s : State) : (s.writeHeld).ep.bme = s.ep.bme := (State.writeHeld_logOnly s).ep_bme
@[simp] theorem State.writeHeld_ep_d3 (s : State) : (s.writeHeld).ep.d3 = s.ep.d3 := (State.writeHeld_logOnly s).ep_d3
@[simp] theorem State.writeHeld_ep_bars (s : State) : (s.writeHeld).ep.bars = s.ep.bars := (State.writeHeld_logOnly s).ep_bars
@[simp] theorem State.writeHeld_ep_mps (s : State) : (s.writeHeld).ep.mps = s.ep.mps := (State.writeHeld_logOnly s).ep_mps
@[simp] theorem State.writeHeld_ep_mrrs (s : State) : (s.writeHeld).ep.mrrs = s.ep.mrrs := (State.writeHeld_logOnly s).ep_mrrs
theorem State.writeHeld_reg (s : State) {a : Nat} (h : a ≠ A.HEP_LINK_STAT) : (s.writeHeld).reg a = s.reg a := (State.writeHeld_logOnly s).reg h
theorem State.writeHeld_fld (s : State) (f : Fld) (h : f.addr ≠ A.HEP_LINK_STAT) : (s.writeHeld).fld f = s.fld f := (State.writeHeld_logOnly s).fld f h
theorem State.writeHeld_flag (s : State) (f : Fld) (h : f.addr ≠ A.HEP_LINK_STAT) : (s.writeHeld).flag f = s.flag f := (State.writeHeld_logOnly s).flag f h

/-! ### Counters -/

/-- A counter changes its own register, and may log the event of its overflow. -/
theorem State.count31_logOnly (s : State) (a n : Nat) : ∃ v, (s.setReg a v).LogOnly (s.count31 a n) := by
  unfold State.count31
  extract_lets c
  split
  · exact ⟨s.reg a, ⟨s.regs, _, _, _, _, _, _, _, _, _, _, fun b _ => by
      rw [State.reg_setReg]; split
      · subst_vars; rfl
      · rfl, rfl⟩⟩
  · split
    · exact ⟨_, .refl _⟩
    · exact ⟨_, State.log_logOnly _ _ _ _⟩

@[simp] theorem State.count31_aon (s : State) (a n : Nat) : (s.count31 a n).aon = s.aon :=
  (s.count31_logOnly a n).elim fun _ h => h.aon
@[simp] theorem State.count31_start (s : State) (a n : Nat) : (s.count31 a n).start = s.start :=
  (s.count31_logOnly a n).elim fun _ h => h.start
@[simp] theorem State.count31_time (s : State) (a n : Nat) : (s.count31 a n).time = s.time :=
  (s.count31_logOnly a n).elim fun _ h => h.time
@[simp] theorem State.count31_link (s : State) (a n : Nat) : (s.count31 a n).link = s.link :=
  (s.count31_logOnly a n).elim fun _ h => h.link
@[simp] theorem State.count31_data (s : State) (a n : Nat) : (s.count31 a n).data = s.data :=
  (s.count31_logOnly a n).elim fun _ h => h.data
@[simp] theorem State.count31_herds (s : State) (a n : Nat) : (s.count31 a n).herds = s.herds :=
  (s.count31_logOnly a n).elim fun _ h => h.herds
@[simp] theorem State.count31_modes (s : State) (a n : Nat) : (s.count31 a n).modes = s.modes :=
  (s.count31_logOnly a n).elim fun _ h => h.modes
@[simp] theorem State.count31_plc (s : State) (a n : Nat) : (s.count31 a n).plc = s.plc :=
  (s.count31_logOnly a n).elim fun _ h => h.plc
@[simp] theorem State.count31_grz (s : State) (a n : Nat) : (s.count31 a n).grz = s.grz :=
  (s.count31_logOnly a n).elim fun _ h => h.grz
@[simp] theorem State.count31_dma (s : State) (a n : Nat) : (s.count31 a n).dma = s.dma :=
  (s.count31_logOnly a n).elim fun _ h => h.dma
@[simp] theorem State.count31_image (s : State) (a n : Nat) : (s.count31 a n).image = s.image :=
  (s.count31_logOnly a n).elim fun _ h => h.image
@[simp] theorem State.count31_sec (s : State) (a n : Nat) : (s.count31 a n).sec = s.sec :=
  (s.count31_logOnly a n).elim fun _ h => h.sec
@[simp] theorem State.count31_pwr (s : State) (a n : Nat) : (s.count31 a n).pwr = s.pwr :=
  (s.count31_logOnly a n).elim fun _ h => h.pwr
@[simp] theorem State.count31_bus (s : State) (a n : Nat) : (s.count31 a n).bus = s.bus :=
  (s.count31_logOnly a n).elim fun _ h => h.bus
@[simp] theorem State.count31_pBar0 (s : State) (a n : Nat) : (s.count31 a n).pBar0 = s.pBar0 :=
  (s.count31_logOnly a n).elim fun _ h => h.pBar0
@[simp] theorem State.count31_pMgmt (s : State) (a n : Nat) : (s.count31 a n).pMgmt = s.pMgmt :=
  (s.count31_logOnly a n).elim fun _ h => h.pMgmt
@[simp] theorem State.count31_pJtag (s : State) (a n : Nat) : (s.count31 a n).pJtag = s.pJtag :=
  (s.count31_logOnly a n).elim fun _ h => h.pJtag
@[simp] theorem State.count31_badSlots (s : State) (a n : Nat) : (s.count31 a n).badSlots = s.badSlots :=
  (s.count31_logOnly a n).elim fun _ h => h.badSlots
@[simp] theorem State.count31_badTails (s : State) (a n : Nat) : (s.count31 a n).badTails = s.badTails :=
  (s.count31_logOnly a n).elim fun _ h => h.badTails
@[simp] theorem State.count31_flCmd (s : State) (a n : Nat) : (s.count31 a n).flCmd = s.flCmd :=
  (s.count31_logOnly a n).elim fun _ h => h.flCmd
@[simp] theorem State.count31_pending (s : State) (a n : Nat) : (s.count31 a n).pending = s.pending :=
  (s.count31_logOnly a n).elim fun _ h => h.pending
@[simp] theorem State.count31_hep_perst (s : State) (a n : Nat) : (s.count31 a n).hep.perst = s.hep.perst :=
  (s.count31_logOnly a n).elim fun _ h => h.hep_perst
@[simp] theorem State.count31_hep_tags (s : State) (a n : Nat) : (s.count31 a n).hep.tags = s.hep.tags :=
  (s.count31_logOnly a n).elim fun _ h => h.hep_tags
@[simp] theorem State.count31_hep_flrBusy (s : State) (a n : Nat) : (s.count31 a n).hep.flrBusy = s.hep.flrBusy :=
  (s.count31_logOnly a n).elim fun _ h => h.hep_flrBusy
@[simp] theorem State.count31_hep_quar (s : State) (a n : Nat) : (s.count31 a n).hep.quar = s.hep.quar :=
  (s.count31_logOnly a n).elim fun _ h => h.hep_quar
@[simp] theorem State.count31_hep_freed (s : State) (a n : Nat) : (s.count31 a n).hep.freed = s.hep.freed :=
  (s.count31_logOnly a n).elim fun _ h => h.hep_freed
@[simp] theorem State.count31_hep_downSince (s : State) (a n : Nat) : (s.count31 a n).hep.downSince = s.hep.downSince :=
  (s.count31_logOnly a n).elim fun _ h => h.hep_downSince
@[simp] theorem State.count31_hep_attOld (s : State) (a n : Nat) : (s.count31 a n).hep.attOld = s.hep.attOld :=
  (s.count31_logOnly a n).elim fun _ h => h.hep_attOld
@[simp] theorem State.count31_hep_attWait (s : State) (a n : Nat) : (s.count31 a n).hep.attWait = s.hep.attWait :=
  (s.count31_logOnly a n).elim fun _ h => h.hep_attWait
@[simp] theorem State.count31_hep_msixTbl (s : State) (a n : Nat) : (s.count31 a n).hep.msixTbl = s.hep.msixTbl :=
  (s.count31_logOnly a n).elim fun _ h => h.hep_msixTbl
@[simp] theorem State.count31_hep_aerUnc (s : State) (a n : Nat) : (s.count31 a n).hep.aerUnc = s.hep.aerUnc :=
  (s.count31_logOnly a n).elim fun _ h => h.hep_aerUnc
@[simp] theorem State.count31_hep_aerCor (s : State) (a n : Nat) : (s.count31 a n).hep.aerCor = s.hep.aerCor :=
  (s.count31_logOnly a n).elim fun _ h => h.hep_aerCor
@[simp] theorem State.count31_hep_aerHdr (s : State) (a n : Nat) : (s.count31 a n).hep.aerHdr = s.hep.aerHdr :=
  (s.count31_logOnly a n).elim fun _ h => h.hep_aerHdr
@[simp] theorem State.count31_ep_mse (s : State) (a n : Nat) : (s.count31 a n).ep.mse = s.ep.mse :=
  (s.count31_logOnly a n).elim fun _ h => h.ep_mse
@[simp] theorem State.count31_ep_bme (s : State) (a n : Nat) : (s.count31 a n).ep.bme = s.ep.bme :=
  (s.count31_logOnly a n).elim fun _ h => h.ep_bme
@[simp] theorem State.count31_ep_d3 (s : State) (a n : Nat) : (s.count31 a n).ep.d3 = s.ep.d3 :=
  (s.count31_logOnly a n).elim fun _ h => h.ep_d3
@[simp] theorem State.count31_ep_bars (s : State) (a n : Nat) : (s.count31 a n).ep.bars = s.ep.bars :=
  (s.count31_logOnly a n).elim fun _ h => h.ep_bars
@[simp] theorem State.count31_ep_mps (s : State) (a n : Nat) : (s.count31 a n).ep.mps = s.ep.mps :=
  (s.count31_logOnly a n).elim fun _ h => h.ep_mps
@[simp] theorem State.count31_ep_mrrs (s : State) (a n : Nat) : (s.count31 a n).ep.mrrs = s.ep.mrrs :=
  (s.count31_logOnly a n).elim fun _ h => h.ep_mrrs

theorem State.count31_reg_other (s : State) (n : Nat) {a b : Nat} (h : a ≠ b) (hb : b ≠ A.HEP_LINK_STAT) :
    (s.count31 a n).reg b = s.reg b := by
  obtain ⟨v, e⟩ := s.count31_logOnly a n
  rw [e.reg hb]; exact tblGet_set_other _ _ _ h

end Sys2Proof.Machine
end

