-- ==== Sys2Proof/Laws/Guards.lean ====
section
/-! SUPPORT. What the guards of accesses, of timers and of the two ends of a link come to where their condition holds. -/

namespace Sys2Proof.Machine

theorem State.reached_logOnly (s : State) (p : Path) : s.LogOnly (s.reached p) := by
  unfold State.reached
  split
  · exact s.exitL1_logOnly
  · exact .refl s

/-- A write that is admitted takes effect. -/
theorem State.guarded_admits {s : State} {p : Path} {a : Nat} {image : Bool} (h : s.Admits p a image) (act : State → State) :
    s.guarded p a image act = act (s.reached p) := by
  obtain ⟨h1, h2, h3⟩ := h
  have hm : (s.reached p).mode = s.mode := (s.reached_logOnly p).fld F.GLB_MODE_STAT_CUR_MODE (by decide)
  unfold State.guarded
  cases image with
  | false => simp [h1, h2]
  | true => simp [h1, h2, hm, h3 rfl]

/-- A read that is admitted takes effect. -/
theorem State.guardedRead_admits {s : State} {p : Path} {a : Nat} (h : s.AdmitsRead p a) (act : State → State) :
    s.guardedRead p a act = act (s.reached p) := by simp [State.guardedRead, h.1, h.2]

/-- An image-owned register outside Service is refused (R11). -/
theorem State.guarded_image {s : State} {p : Path} {a : Nat} (h1 : s.reachable p = true) (h2 : s.serves a = true)
    (h3 : s.mode ≠ 3) (act : State → State) : s.guarded p a true act = (s.reached p).imageReject a := by
  have hm : (s.reached p).mode = s.mode := (s.reached_logOnly p).fld F.GLB_MODE_STAT_CUR_MODE (by decide)
  simp [State.guarded, h1, h2, hm, h3]

/-- What happens while the hub runs. -/
theorem State.whenUp_up {s : State} (h : s.start.phase = .run) (act : State → State) : s.whenUp act = act s := by
  simp [State.whenUp, State.up, h]

theorem State.engine_runs {s : State} (h : s.Runs) (i : Instr) (act : State → State) : s.engine i act = act s := by
  simp [State.engine, State.up, h.1, h.2]

theorem State.timer_runs {s : State} (h : s.Runs) (i : Instr) (act : State → State) : s.timer i act = act s := by
  simp [State.timer, h.2, State.engine_runs h]

theorem State.lockAge_held {s : State} {p : Nat} (h : s.SensorUp p) : s.lockAge p = s := by
  have hl := h.2.2.2
  unfold State.lockAge
  split
  · rename_i t e
    have := hl t e
    rw [if_neg]
    simp; omega
  · rfl

theorem State.asSensor_up {s : State} {p : Nat} (h : s.SensorUp p) (act : State → State) : s.asSensor p act = act s := by
  simp [State.asSensor, State.up, h.1, h.2.1, h.2.2.1, State.lockAge_held h]

theorem State.asHub_up {s : State} {p : Nat} (h : s.HubUp p) (act : State → State) : s.asHub p act = act s := by
  simp [State.asHub, State.up, h.1, h.2.1, h.2.2]

end Sys2Proof.Machine
end

