-- ==== Sys2Proof/Laws/Keeps.lean ====
section
/-! SUPPORT. What every transition of the hub keeps (`State.Keeps`): its laws, and the primitive operations. -/

namespace Sys2Proof.Machine

/-! ### The relation -/

theorem fuses_trans {a b c : Byte} (h : a &&& b = a) (h' : b &&& c = b) : a &&& c = a := by
  rw [← h, BitVec.and_assoc, h']

theorem State.Keeps.refl (s : State) : s.Keeps s := ⟨id, List.prefix_refl _, rfl, Nat.le_refl _, fun _ => BitVec.and_self⟩

theorem State.Keeps.trans {s t u : State} (h : s.Keeps t) (h' : t.Keeps u) : s.Keeps u :=
  ⟨h'.canon ∘ h.canon, h.sent.trans h'.sent, h'.pending.trans h.pending, Nat.le_trans h.free h'.free,
    fun a => fuses_trans (h.otp a) (h'.otp a)⟩

/-- A transition that leaves every store, the record and the queue alone. -/
theorem State.Keeps.same {s0 s t : State} (h : s0.Keeps s) (hr : t.regs = s.regs) (hf : t.flash = s.flash)
    (hd : t.data.tbl = s.data.tbl) (ho : t.sec.otp = s.sec.otp) (hi : t.image = s.image) (hs : t.sent = s.sent)
    (hp : t.pending = s.pending) (hc : t.freeCtr = s.freeCtr) : s0.Keeps t := by
  refine h.trans ⟨fun c => ?_, ?_, hp, ?_, ?_⟩
  · exact ⟨hr ▸ c.regs, hf ▸ c.flash, hd ▸ c.tbl, ho ▸ c.otp, hi ▸ c.image⟩
  · exact hs ▸ List.prefix_refl _
  · exact Nat.le_of_eq hc.symm
  · intro a; rw [ho]; exact BitVec.and_self

/-- An update of the fields that are no store. -/
theorem State.Keeps.upd {s0 s : State} (h : s0.Keeps s) {aon start time recs led link ep hep data herds modes plc grz dma sec
    pwr bus b m j bad tail fl} (hd : data.tbl = s.data.tbl) (ho : sec.otp = s.sec.otp) :
    s0.Keeps ⟨s.regs, aon, start, time, recs, led, link, ep, hep, data, herds, modes, plc, grz, dma, s.image, sec, pwr, bus,
      b, m, j, s.flash, bad, tail, fl, s.freeCtr, s.sent, s.pending⟩ :=
  h.same rfl rfl hd ho rfl rfl rfl rfl

theorem State.Keeps.ite {s0 a b : State} {c : Prop} [Decidable c] (ha : s0.Keeps a) (hb : s0.Keeps b) :
    s0.Keeps (if c then a else b) := by split <;> assumption

theorem State.Keeps.foldl {α : Type} {s0 s : State} {f : State → α → State} (h : s0.Keeps s)
    (hf : ∀ t x, s0.Keeps t → s0.Keeps (f t x)) (l : List α) : s0.Keeps (l.foldl f s) := by
  induction l generalizing s with
  | nil => exact h
  | cons x l ih => exact ih (hf s x h)

theorem State.Keeps.foldlFst {α β : Type} {s0 : State} {x : State × β} {f : State × β → α → State × β} (h : s0.Keeps x.1)
    (hf : ∀ t y, s0.Keeps t.1 → s0.Keeps (f t y).1) (l : List α) : s0.Keeps (l.foldl f x).1 := by
  induction l generalizing x with
  | nil => exact h
  | cons y l ih => exact ih (hf x y h)

/-- A command's answer keeps what every transition keeps. -/
def State.Answers (s : State) (r : Result) : Prop := ∀ t, r = .next t → s.Keeps t

theorem State.Keeps.next {s0 t : State} (h : s0.Keeps t) : s0.Answers (.next t) := fun _ e => by cases e; exact h

/-! ### The primitive operations -/

variable {s0 s : State}

theorem State.setReg_keeps (h : s0.Keeps s) (a : Nat) (v : Word) : s0.Keeps (s.setReg a v) :=
  h.trans ⟨fun c => ⟨tblWf_set _ _ _ _ c.regs, c.flash, c.tbl, c.otp, c.image⟩, List.prefix_refl _, rfl, Nat.le_refl _,
    fun _ => BitVec.and_self⟩

theorem State.emits_keeps (h : s0.Keeps s) (l : List Out) : s0.Keeps (s.emits l) :=
  h.trans ⟨fun c => ⟨c.regs, c.flash, c.tbl, c.otp, c.image⟩, List.prefix_append _ _, rfl, Nat.le_refl _,
    fun _ => BitVec.and_self⟩

theorem State.emit_keeps (h : s0.Keeps s) (o : Out) : s0.Keeps (s.emit o) := State.emits_keeps h [o]

theorem State.drawnN_keeps (h : s0.Keeps s) (n : Nat) : s0.Keeps (s.drawnN n) :=
  h.trans ⟨fun c => ⟨c.regs, c.flash, c.tbl, c.otp, c.image⟩, List.prefix_refl _, rfl, Nat.le_add_right _ _,
    fun _ => BitVec.and_self⟩

theorem State.drawn_keeps (h : s0.Keeps s) : s0.Keeps s.drawn := State.drawnN_keeps h 1

theorem flashProg_canon (t : Tbl Byte) (a : Nat) (l : List Byte) (w : tblWf erased t = true) :
    tblWf erased (flashProg t a l) = true := by
  induction l generalizing t a with
  | nil => exact w
  | cons b l ih => exact ih _ _ (tblWf_set _ _ _ _ w)

theorem State.setFlash_keeps (h : s0.Keeps s) {f : Tbl Byte} (hf : tblWf erased s.flash = true → tblWf erased f = true) :
    s0.Keeps { s with flash := f } :=
  h.trans ⟨fun c => ⟨c.regs, hf c.flash, c.tbl, c.otp, c.image⟩, List.prefix_refl _, rfl, Nat.le_refl _,
    fun _ => BitVec.and_self⟩

theorem State.program_keeps (h : s0.Keeps s) (a : Nat) (l : List Byte) : s0.Keeps (s.program a l) :=
  State.setFlash_keeps h (flashProg_canon _ _ _)

theorem State.eraseRange_keeps (h : s0.Keeps s) (a n : Nat) : s0.Keeps (s.eraseRange a n) :=
  State.setFlash_keeps h (tblWf_filter _ _ _)

theorem State.setRegs_keeps (h : s0.Keeps s) {r : Tbl Word} (hr : tblWf regReset s.regs = true → tblWf regReset r = true) :
    s0.Keeps { s with regs := r } :=
  h.trans ⟨fun c => ⟨hr c.regs, c.flash, c.tbl, c.otp, c.image⟩, List.prefix_refl _, rfl, Nat.le_refl _,
    fun _ => BitVec.and_self⟩

theorem State.setData_keeps (h : s0.Keeps s) {d : DataSt} (hd : tblWf zeroB s.data.tbl = true → tblWf zeroB d.tbl = true) :
    s0.Keeps { s with data := d } :=
  h.trans ⟨fun c => ⟨c.regs, c.flash, hd c.tbl, c.otp, c.image⟩, List.prefix_refl _, rfl, Nat.le_refl _,
    fun _ => BitVec.and_self⟩

theorem tblStore_canon (t : Tbl Byte) (a : Nat) (l : List Byte) (w : tblWf zeroB t = true) :
    tblWf zeroB (tblStore t a l) = true := by
  induction l generalizing t a with
  | nil => exact w
  | cons b l ih => exact ih _ _ (tblWf_set _ _ _ _ w)

theorem State.setImage_keeps (h : s0.Keeps s) {im : Option Image} (hi : (∀ i, s.image = some i → i.canon) → ∀ i, im = some i → i.canon) :
    s0.Keeps { s with image := im } :=
  h.trans ⟨fun c => ⟨c.regs, c.flash, c.tbl, c.otp, hi c.image⟩, List.prefix_refl _, rfl, Nat.le_refl _,
    fun _ => BitVec.and_self⟩

end Sys2Proof.Machine
end

