-- ==== Sys2Proof/Laws/KeepsOps.lean ====
section
/-! SUPPORT. What the operations of Machine/Ops.lean keep (`State.Keeps`), one lemma each. -/

namespace Sys2Proof.Machine

theorem State.setFld_keeps {s0 : State} {s : State} (a1 : Fld) (a2 : Nat) (h : s0.Keeps s) :
    s0.Keeps (State.setFld s a1 a2) := by
  unfold State.setFld
  apply State.setReg_keeps
  exact h

theorem State.setFlag_keeps {s0 : State} {s : State} (a1 : Fld) (a2 : Bool) (h : s0.Keeps s) :
    s0.Keeps (State.setFlag s a1 a2) := by
  unfold State.setFlag
  apply State.setFld_keeps
  exact h

theorem State.setPair_keeps {s0 : State} {s : State} (a1 : Nat) (a2 : Nat) (a3 : Nat) (h : s0.Keeps s) :
    s0.Keeps (State.setPair s a1 a2 a3) := by
  unfold State.setPair
  apply State.setReg_keeps
  apply State.setReg_keeps
  exact h

theorem State.setPath_keeps {s0 : State} {s : State} (a1 : Path) (a2 : PathSt) (h : s0.Keeps s) :
    s0.Keeps (State.setPath s a1 a2) := by
  unfold State.setPath
  split
  · refine State.Keeps.upd ?_ rfl rfl
    exact h
  · refine State.Keeps.upd ?_ rfl rfl
    exact h
  · refine State.Keeps.upd ?_ rfl rfl
    exact h

theorem State.advance_keeps {s0 : State} {s : State} (a1 : Nat) (h : s0.Keeps s) :
    s0.Keeps (State.advance s a1) := by
  unfold State.advance
  extract_lets v0
  refine State.Keeps.upd ?_ rfl rfl
  exact h

end Sys2Proof.Machine
end

