-- ==== Sys2Proof/Laws/KeepsEvents.lean ====
section
/-! SUPPORT. What the operations of Machine/Events.lean keep (`State.Keeps`), one lemma each. -/

namespace Sys2Proof.Machine

theorem State.settleWake_keeps {s0 : State} {s : State} (h : s0.Keeps s) :
    s0.Keeps (State.settleWake s) := by
  unfold State.settleWake
  extract_lets v0
  apply State.Keeps.ite
  · apply State.emit_keeps
    refine State.Keeps.upd ?_ rfl rfl
    exact h
  · exact h

theorem State.exitL1_keeps {s0 : State} {s : State} (h : s0.Keeps s) :
    s0.Keeps (State.exitL1 s) := by
  unfold State.exitL1
  apply State.Keeps.ite
  · apply State.settleWake_keeps
    apply State.setFld_keeps
    apply State.setFld_keeps
    exact h
  · exact h

theorem State.reached_keeps {s0 : State} {s : State} (a1 : Path) (h : s0.Keeps s) :
    s0.Keeps (State.reached s a1) := by
  unfold State.reached
  apply State.Keeps.ite
  · apply State.exitL1_keeps
    exact h
  · exact h

theorem State.sendMsix_keeps {s0 : State} {s : State} (a1 : Nat) (h : s0.Keeps s) :
    s0.Keeps (State.sendMsix s a1) := by
  unfold State.sendMsix
  apply State.emit_keeps
  apply State.exitL1_keeps
  exact h

theorem State.sendMsi_keeps {s0 : State} {s : State} (a1 : Nat) (h : s0.Keeps s) :
    s0.Keeps (State.sendMsi s a1) := by
  unfold State.sendMsi
  apply State.emit_keeps
  apply State.exitL1_keeps
  exact h

theorem State.syncInta_keeps {s0 : State} {s : State} (h : s0.Keeps s) :
    s0.Keeps (State.syncInta s) := by
  unfold State.syncInta
  extract_lets v0 v1 v2
  have h3 : s0.Keeps v1 := by
    unfold v1
    apply State.exitL1_keeps
    exact h
  apply State.Keeps.ite
  · exact h
  · apply State.emit_keeps
    refine State.Keeps.upd ?_ rfl rfl
    exact h3

theorem State.raiseIrq_keeps {s0 : State} {s : State} (a1 : Nat) (h : s0.Keeps s) :
    s0.Keeps (State.raiseIrq s a1) := by
  unfold State.raiseIrq
  extract_lets v0 v1 v2 v3 v4 v5
  have h6 : s0.Keeps v1 := by
    unfold v1
    refine State.Keeps.upd ?_ rfl rfl
    exact h
  apply State.Keeps.ite
  · exact h6
  · split
    · apply State.Keeps.ite
      · refine State.Keeps.upd ?_ rfl rfl
        exact h6
      · apply State.sendMsix_keeps
        exact h6
    · apply State.Keeps.ite
      · refine State.Keeps.upd ?_ rfl rfl
        exact h6
      · apply State.sendMsi_keeps
        exact h6
    · apply State.syncInta_keeps
      exact h6
    · exact h6

theorem State.flushIrq_keeps {s0 : State} {s : State} (h : s0.Keeps s) :
    s0.Keeps (State.flushIrq s) := by
  unfold State.flushIrq
  extract_lets v0 v1 v2 v3 v4 v5 v6
  have h7 : s0.Keeps v2 := by
    unfold v2
    apply State.Keeps.ite
    · apply State.Keeps.foldl
      · refine State.Keeps.upd ?_ rfl rfl
        exact h
      · intro t8 x9 h10
        apply State.sendMsix_keeps
        exact h10
    · exact h
  have h11 : s0.Keeps v5 := by
    unfold v5
    refine State.Keeps.upd ?_ rfl rfl
    exact h7
  have h12 : s0.Keeps v6 := by
    unfold v6
    apply State.Keeps.ite
    · apply State.Keeps.foldl
      · exact h11
      · intro t13 x14 h15
        apply State.sendMsi_keeps
        exact h15
    · exact h7
  apply State.syncInta_keeps
  exact h12

theorem State.repeatRec_keeps {s0 : State} {s : State} (a1 : OpenRec) (h : s0.Keeps s) :
    s0.Keeps (State.repeatRec s a1) := by
  unfold State.repeatRec
  extract_lets v0 v1
  refine State.Keeps.upd ?_ rfl rfl
  exact h

theorem State.programBad_keeps {s0 : State} {s : State} (a1 : Nat) (a2 : Nat) (h : s0.Keeps s) :
    s0.Keeps (State.programBad s a1 a2) := by
  unfold State.programBad
  apply State.drawnN_keeps
  apply State.program_keeps
  exact h

theorem State.openRec_keeps {s0 : State} (n : Nat) {s : State} (e : Event) (h : s0.Keeps s) : s0.Keeps (State.openRec n s e) := by
  induction n generalizing s e with
  | zero => exact h
  | succ n ih =>
    unfold State.openRec
    extract_lets slot ev head x t
    have ht : s0.Keeps t := h.upd rfl rfl
    split
    · exact h
    · split
      · exact ih _ (State.programBad_keeps _ _ ht)
      · exact State.raiseIrq_keeps _ (State.Keeps.upd (State.program_keeps (State.Keeps.upd ht rfl rfl) _ _) rfl rfl)

theorem State.closeUpTo_keeps {s0 : State} (n : Nat) {s : State} (h : s0.Keeps s) : s0.Keeps (State.closeUpTo n s) := by
  induction n generalizing s with
  | zero => exact h
  | succ n ih =>
    unfold State.closeUpTo
    split
    · exact h
    · extract_lets rs t
      have ht : s0.Keeps t := h.upd rfl rfl
      split
      · exact ih (State.openRec_keeps _ _ (State.programBad_keeps _ _ ht))
      · exact State.program_keeps ht _ _

theorem State.closeRec_keeps {s0 : State} {s : State} (h : s0.Keeps s) :
    s0.Keeps (State.closeRec s) := by
  unfold State.closeRec
  apply State.closeUpTo_keeps
  exact h

theorem State.dropEvent_keeps {s0 : State} {s : State} (h : s0.Keeps s) :
    s0.Keeps (State.dropEvent s) := by
  unfold State.dropEvent
  extract_lets v0
  refine State.Keeps.upd ?_ rfl rfl
  exact h

theorem State.newRec_keeps {s0 : State} {s : State} (a1 : Event) (h : s0.Keeps s) :
    s0.Keeps (State.newRec s a1) := by
  unfold State.newRec
  extract_lets v0 v1 v2 v3
  have h4 : s0.Keeps v0 := by
    unfold v0
    apply State.closeRec_keeps
    exact h
  have h5 : s0.Keeps v1 := by
    unfold v1
    apply State.Keeps.ite
    · apply State.dropEvent_keeps
      exact h4
    · apply State.openRec_keeps
      exact h4
  have h6 : s0.Keeps v2 := by
    unfold v2
    apply State.closeRec_keeps
    exact h5
  apply State.Keeps.ite
  · refine State.Keeps.upd ?_ rfl rfl
    exact h6
  · exact h5

theorem State.limitRec_keeps {s0 : State} {s : State} (a1 : Event) (h : s0.Keeps s) :
    s0.Keeps (State.limitRec s a1) := by
  unfold State.limitRec
  extract_lets v0 v1
  have h2 : s0.Keeps v0 := by
    unfold v0
    apply State.newRec_keeps
    exact h
  refine State.Keeps.upd ?_ rfl rfl
  exact h2

theorem State.logNow_keeps {s0 : State} {s : State} (a1 : Event) (h : s0.Keeps s) :
    s0.Keeps (State.logNow s a1) := by
  unfold State.logNow
  apply State.Keeps.ite
  · apply State.dropEvent_keeps
    exact h
  · split
    · apply State.repeatRec_keeps
      exact h
    · apply State.Keeps.ite
      · apply State.newRec_keeps
        exact h
      · split
        · apply State.repeatRec_keeps
          exact h
        · apply State.limitRec_keeps
          exact h

theorem State.log_keeps {s0 : State} {s : State} (a1 : Nat) (a2 : Nat) (a3 : List Byte) (h : s0.Keeps s) :
    s0.Keeps (State.log s a1 a2 a3) := by
  unfold State.log
  extract_lets v0
  apply State.Keeps.ite
  · apply State.Keeps.ite
    · refine State.Keeps.upd ?_ rfl rfl
      exact h
    · refine State.Keeps.upd ?_ rfl rfl
      exact h
  · apply State.logNow_keeps
    exact h

theorem State.tableFull_keeps {s0 : State} {s : State} (a1 : Nat) (h : s0.Keeps s) :
    s0.Keeps (State.tableFull s a1) := by
  unfold State.tableFull
  apply State.log_keeps
  exact h

theorem State.writeHeld_keeps {s0 : State} {s : State} (h : s0.Keeps s) :
    s0.Keeps (State.writeHeld s) := by
  unfold State.writeHeld
  extract_lets v0 v1 v2 v3 v4
  have h5 : s0.Keeps v2 := by
    unfold v2
    apply State.Keeps.foldl
    · refine State.Keeps.upd ?_ rfl rfl
      exact h
    · intro t6 x7 h8
      apply State.logNow_keeps
      exact h8
  have h9 : s0.Keeps v3 := by
    unfold v3
    apply State.newRec_keeps
    exact h5
  apply State.Keeps.ite
  · exact h
  · apply State.Keeps.ite
    · exact h5
    · split
      · extract_lets v10
        refine State.Keeps.upd ?_ rfl rfl
        exact h9
      · exact h9

theorem State.logOnce_keeps {s0 : State} {s : State} (a1 : Nat) (a2 : Nat) (a3 : List Byte) (a4 : Nat) (h : s0.Keeps s) :
    s0.Keeps (State.logOnce s a1 a2 a3 a4) := by
  unfold State.logOnce
  extract_lets v0
  apply State.Keeps.ite
  · exact h
  · apply State.log_keeps
    refine State.Keeps.upd ?_ rfl rfl
    exact h

theorem State.unsuppress_keeps {s0 : State} {s : State} (a1 : Nat) (h : s0.Keeps s) :
    s0.Keeps (State.unsuppress s a1) := by
  unfold State.unsuppress
  extract_lets v0
  refine State.Keeps.upd ?_ rfl rfl
  exact h

end Sys2Proof.Machine
end

