-- ==== Sys2Proof/Laws/KeepsFlags.lean ====
section
/-! SUPPORT. What the operations of Machine/Flags.lean keep (`State.Keeps`), one lemma each. -/

namespace Sys2Proof.Machine

theorem State.count31_keeps {s0 : State} {s : State} (a1 : Nat) (a2 : Nat) (h : s0.Keeps s) :
    s0.Keeps (State.count31 s a1 a2) := by
  unfold State.count31
  extract_lets v0
  apply State.Keeps.ite
  · exact h
  · apply State.Keeps.ite
    · apply State.setReg_keeps
      exact h
    · apply State.log_keeps
      apply State.setReg_keeps
      exact h

theorem State.count48_keeps {s0 : State} {s : State} (a1 : Nat) (a2 : Nat) (h : s0.Keeps s) :
    s0.Keeps (State.count48 s a1 a2) := by
  unfold State.count48
  extract_lets v0
  apply State.Keeps.ite
  · exact h
  · apply State.Keeps.ite
    · apply State.setPair_keeps
      exact h
    · apply State.log_keeps
      apply State.setFlag_keeps
      apply State.setPair_keeps
      exact h

theorem State.countSmall_keeps {s0 : State} {s : State} (a1 : Fld) (h : s0.Keeps s) :
    s0.Keeps (State.countSmall s a1) := by
  unfold State.countSmall
  apply State.setFld_keeps
  exact h

theorem State.plainWrite_keeps {s0 : State} {s : State} (a1 : Nat) (a2 : Word) (h : s0.Keeps s) :
    s0.Keeps (State.plainWrite s a1 a2) := by
  unfold State.plainWrite
  split
  · apply State.setReg_keeps
    exact h
  · exact h

theorem State.aer_keeps {s0 : State} {s : State} (a1 : Nat) (a2 : Bool) (a3 : List Word) (h : s0.Keeps s) :
    s0.Keeps (State.aer s a1 a2 a3) := by
  unfold State.aer
  extract_lets v0 v1 v2 v3 v4 v5 v6 v7 v8 v9 v10 v11 v12
  have h13 : s0.Keeps v9 := by
    unfold v9
    refine State.Keeps.upd ?_ rfl rfl
    exact h
  have h14 : s0.Keeps v12 := by
    unfold v12
    apply State.Keeps.ite
    · apply State.emit_keeps
      exact h13
    · exact h13
  apply State.Keeps.ite
  · exact h14
  · apply State.log_keeps
    exact h14

theorem State.aerTlp_keeps {s0 : State} {s : State} (a1 : Nat) (a2 : Bool) (h : s0.Keeps s) :
    s0.Keeps (State.aerTlp s a1 a2) := by
  unfold State.aerTlp
  apply State.aer_keeps
  apply State.drawnN_keeps
  exact h

theorem State.aerCorErr_keeps {s0 : State} {s : State} (a1 : Nat) (h : s0.Keeps s) :
    s0.Keeps (State.aerCorErr s a1) := by
  unfold State.aerCorErr
  extract_lets v0 v1 v2 v3 v4
  have h5 : s0.Keeps v3 := by
    unfold v3
    refine State.Keeps.upd ?_ rfl rfl
    exact h
  have h6 : s0.Keeps v4 := by
    unfold v4
    apply State.Keeps.ite
    · apply State.emit_keeps
      exact h5
    · exact h5
  apply State.Keeps.ite
  · exact h6
  · apply State.log_keeps
    exact h6

theorem State.bufErr_keeps {s0 : State} {s : State} (a1 : BufErr) (h : s0.Keeps s) :
    s0.Keeps (State.bufErr s a1) := by
  unfold State.bufErr
  split
  · exact h
  · apply State.aerCorErr_keeps
    exact h
  · apply State.aer_keeps
    apply State.count31_keeps
    exact h

theorem State.linkErr_keeps {s0 : State} {s : State} (a1 : LinkErr) (h : s0.Keeps s) :
    s0.Keeps (State.linkErr s a1) := by
  unfold State.linkErr
  split
  · apply State.aerCorErr_keeps
    exact h
  · apply State.aerCorErr_keeps
    exact h
  · apply State.aerCorErr_keeps
    exact h
  · apply State.aerCorErr_keeps
    exact h
  · apply State.aerCorErr_keeps
    exact h
  · apply State.aer_keeps
    exact h
  · apply State.aer_keeps
    exact h
  · apply State.aerTlp_keeps
    exact h
  · apply State.aerTlp_keeps
    exact h

theorem State.poisonIn_keeps {s0 : State} {s : State} (a1 : List Word) (h : s0.Keeps s) :
    s0.Keeps (State.poisonIn s a1) := by
  unfold State.poisonIn
  apply State.aer_keeps
  apply State.count31_keeps
  exact h

theorem State.reservedWrite_keeps {s0 : State} {s : State} (a1 : Path) (h : s0.Keeps s) :
    s0.Keeps (State.reservedWrite s a1) := by
  unfold State.reservedWrite
  extract_lets v0 v1
  have h2 : s0.Keeps v0 := by
    unfold v0
    apply State.setFlag_keeps
    exact h
  apply State.Keeps.ite
  · exact h2
  · apply State.log_keeps
    apply State.setPath_keeps
    exact h2

theorem State.imageReject_keeps {s0 : State} {s : State} (a1 : Nat) (h : s0.Keeps s) :
    s0.Keeps (State.imageReject s a1) := by
  unfold State.imageReject
  extract_lets v0 v1
  have h2 : s0.Keeps v0 := by
    unfold v0
    apply State.setFlag_keeps
    exact h
  apply State.Keeps.ite
  · exact h2
  · apply State.log_keeps
    refine State.Keeps.upd ?_ rfl rfl
    exact h2

theorem State.noRegister_keeps {s0 : State} {s : State} (a1 : Path) (a2 : Nat) (h : s0.Keeps s) :
    s0.Keeps (State.noRegister s a1 a2) := by
  unfold State.noRegister
  extract_lets v0
  have h1 : s0.Keeps v0 := by
    unfold v0
    apply State.reservedWrite_keeps
    exact h
  apply State.Keeps.ite
  · apply State.imageReject_keeps
    exact h1
  · exact h1

theorem State.partialWrite_keeps {s0 : State} {s : State} (h : s0.Keeps s) :
    s0.Keeps (State.partialWrite s) := by
  unfold State.partialWrite
  apply State.count31_keeps
  apply State.setFlag_keeps
  exact h

theorem State.barUr_keeps {s0 : State} {s : State} (a1 : Bool) (a2 : List Word) (h : s0.Keeps s) :
    s0.Keeps (State.barUr s a1 a2) := by
  unfold State.barUr
  extract_lets v0
  have h1 : s0.Keeps v0 := by
    unfold v0
    apply State.aer_keeps
    apply State.count31_keeps
    apply State.exitL1_keeps
    exact h
  apply State.Keeps.ite
  · exact h1
  · apply State.emit_keeps
    exact h1

theorem State.unreachable_keeps {s0 : State} {s : State} (a1 : Path) (a2 : Bool) (h : s0.Keeps s) :
    s0.Keeps (State.unreachable s a1 a2) := by
  unfold State.unreachable
  split
  · apply State.Keeps.ite
    · exact h
    · apply State.barUr_keeps
      apply State.drawnN_keeps
      exact h
  · exact h

theorem State.unserved_keeps {s0 : State} {s : State} (a1 : Path) (h : s0.Keeps s) :
    s0.Keeps (State.unserved s a1) := by
  unfold State.unserved
  apply State.Keeps.ite
  · apply State.setFlag_keeps
    exact h
  · apply State.reservedWrite_keeps
    exact h

theorem State.guarded_keeps {s0 : State} {s : State} (a1 : Path) (a2 : Nat) (a3 : Bool) (a4 : State → State) (h : s0.Keeps s) (g4 : ∀ t, s0.Keeps t → s0.Keeps (a4 t)) :
    s0.Keeps (State.guarded s a1 a2 a3 a4) := by
  unfold State.guarded
  extract_lets v0
  have h1 : s0.Keeps v0 := by
    unfold v0
    apply State.reached_keeps
    exact h
  apply State.Keeps.ite
  · apply State.unreachable_keeps
    exact h
  · apply State.Keeps.ite
    · apply State.unserved_keeps
      exact h
    · apply State.Keeps.ite
      · apply State.imageReject_keeps
        exact h1
      · apply g4
        exact h1

theorem State.answer_keeps {s0 : State} {s : State} (a1 : Path) (a2 : Word) (h : s0.Keeps s) :
    s0.Keeps (State.answer s a1 a2) := by
  unfold State.answer
  apply State.emit_keeps
  exact h

theorem State.guardedRead_keeps {s0 : State} {s : State} (a1 : Path) (a2 : Nat) (a3 : State → State) (h : s0.Keeps s) (g3 : ∀ t, s0.Keeps t → s0.Keeps (a3 t)) :
    s0.Keeps (State.guardedRead s a1 a2 a3) := by
  unfold State.guardedRead
  apply State.Keeps.ite
  · apply State.unreachable_keeps
    exact h
  · apply State.Keeps.ite
    · apply State.answer_keeps
      apply State.reached_keeps
      exact h
    · apply g3
      apply State.reached_keeps
      exact h

theorem State.whenUp_keeps {s0 : State} {s : State} (a1 : State → State) (h : s0.Keeps s) (g1 : ∀ t, s0.Keeps t → s0.Keeps (a1 t)) :
    s0.Keeps (State.whenUp s a1) := by
  unfold State.whenUp
  apply State.Keeps.ite
  · apply g1
    exact h
  · exact h

theorem State.hold_keeps {s0 : State} {s : State} (a1 : Instr) (h : s0.Keeps s) :
    s0.Keeps (State.hold s a1) := by
  unfold State.hold
  extract_lets v0
  refine State.Keeps.upd ?_ rfl rfl
  exact h

theorem State.engine_keeps {s0 : State} {s : State} (a1 : Instr) (a2 : State → State) (h : s0.Keeps s) (g2 : ∀ t, s0.Keeps t → s0.Keeps (a2 t)) :
    s0.Keeps (State.engine s a1 a2) := by
  unfold State.engine
  apply State.Keeps.ite
  · exact h
  · apply State.Keeps.ite
    · apply State.hold_keeps
      exact h
    · apply g2
      exact h

theorem State.timer_keeps {s0 : State} {s : State} (a1 : Instr) (a2 : State → State) (h : s0.Keeps s) (g2 : ∀ t, s0.Keeps t → s0.Keeps (a2 t)) :
    s0.Keeps (State.timer s a1 a2) := by
  unfold State.timer
  apply State.Keeps.ite
  · exact h
  · apply State.engine_keeps
    · exact h
    · intro t0 h1
      apply g2
      exact h1

theorem State.latchHi_keeps {s0 : State} {s : State} (a1 : Path) (a2 : Nat) (a3 : Word) (h : s0.Keeps s) :
    s0.Keeps (State.latchHi s a1 a2 a3) := by
  unfold State.latchHi
  extract_lets v0
  apply State.setPath_keeps
  exact h

end Sys2Proof.Machine
end

