-- ==== Sys2Proof/Laws/KeepsGrid.lean ====
section
/-! SUPPORT. What the operations of Machine/Grid.lean keep (`State.Keeps`), one lemma each. -/

namespace Sys2Proof.Machine

theorem State.skipPassed_keeps {s0 : State} {s : State} (h : s0.Keeps s) :
    s0.Keeps (State.skipPassed s) := by
  unfold State.skipPassed
  extract_lets v0 v1 v2 v3 v4
  apply State.Keeps.ite
  · exact h
  · apply State.log_keeps
    refine State.Keeps.upd ?_ rfl rfl
    exact h

end Sys2Proof.Machine
end

