-- ==== Sys2Proof/Laws/KeepsTime.lean ====
section
/-! SUPPORT. What the operations of Machine/Time.lean keep (`State.Keeps`), one lemma each. -/

namespace Sys2Proof.Machine

theorem State.cycle_keeps {s0 : State} {s : State} (h : s0.Keeps s) :
    s0.Keeps (State.cycle s) := by
  unfold State.cycle
  extract_lets v0 v1 v2
  refine State.Keeps.upd ?_ rfl rfl
  exact h

theorem State.commitInc_keeps {s0 : State} {s : State} (a1 : Word) (h : s0.Keeps s) :
    s0.Keeps (State.commitInc s a1) := by
  unfold State.commitInc
  extract_lets v0 v1
  apply State.Keeps.ite
  · refine State.Keeps.upd ?_ rfl rfl
    exact h
  · apply State.log_keeps
    apply State.setFlag_keeps
    exact h

theorem State.commitAdj_keeps {s0 : State} {s : State} (a1 : Word) (h : s0.Keeps s) :
    s0.Keeps (State.commitAdj s a1) := by
  unfold State.commitAdj
  split
  · apply State.log_keeps
    apply State.setFlag_keeps
    exact h
  · extract_lets v0 v1
    apply State.setFlag_keeps
    refine State.Keeps.upd ?_ rfl rfl
    exact h

theorem State.alarmCheck_keeps {s0 : State} {s : State} (h : s0.Keeps s) :
    s0.Keeps (State.alarmCheck s) := by
  unfold State.alarmCheck
  extract_lets v0
  apply State.Keeps.ite
  · apply State.log_keeps
    refine State.Keeps.upd ?_ rfl rfl
    exact h
  · exact h

theorem State.alarmCtrl_keeps {s0 : State} {s : State} (a1 : Word) (h : s0.Keeps s) :
    s0.Keeps (State.alarmCtrl s a1) := by
  unfold State.alarmCtrl
  extract_lets v0 v1 v2 v3 v4 v5
  have h6 : s0.Keeps v2 := by
    unfold v2
    refine State.Keeps.upd ?_ rfl rfl
    exact h
  have h7 : s0.Keeps v4 := by
    unfold v4
    apply State.Keeps.ite
    · refine State.Keeps.upd ?_ rfl rfl
      exact h6
    · exact h6
  apply State.Keeps.ite
  · refine State.Keeps.upd ?_ rfl rfl
    exact h7
  · exact h7

theorem State.setCmp_keeps {s0 : State} {s : State} (a1 : Nat) (a2 : Option CmpTarget) (h : s0.Keeps s) :
    s0.Keeps (State.setCmp s a1 a2) := by
  unfold State.setCmp
  extract_lets v0
  apply State.setFlag_keeps
  refine State.Keeps.upd ?_ rfl rfl
  exact h

theorem State.cmpArm_keeps {s0 : State} {s : State} (a1 : Nat) (h : s0.Keeps s) :
    s0.Keeps (State.cmpArm s a1) := by
  unfold State.cmpArm
  extract_lets v0 v1
  have h2 : s0.Keeps v0 := by
    unfold v0
    apply State.log_keeps
    apply State.setFlag_keeps
    apply State.setCmp_keeps
    exact h
  split
  · exact h
  · apply State.setCmp_keeps
    exact h
  · apply State.Keeps.ite
    · exact h2
    · apply State.Keeps.ite
      · exact h2
      · apply State.setCmp_keeps
        exact h

theorem State.drivePin_keeps {s0 : State} {s : State} (a1 : Nat) (a2 : Bool) (a3 : Nat) (h : s0.Keeps s) :
    s0.Keeps (State.drivePin s a1 a2 a3) := by
  unfold State.drivePin
  apply State.Keeps.ite
  · exact h
  · apply State.emit_keeps
    apply State.setFlag_keeps
    exact h

theorem State.pinFollow_keeps {s0 : State} {s : State} (a1 : Nat) (a2 : Bool) (h : s0.Keeps s) :
    s0.Keeps (State.pinFollow s a1 a2) := by
  unfold State.pinFollow
  extract_lets v0
  apply State.Keeps.ite
  · apply State.drivePin_keeps
    refine State.Keeps.upd ?_ rfl rfl
    exact h
  · apply State.Keeps.ite
    · exact h
    · apply State.drivePin_keeps
      exact h

theorem State.cmpCtrl_keeps {s0 : State} {s : State} (a1 : Nat) (a2 : Word) (h : s0.Keeps s) :
    s0.Keeps (State.cmpCtrl s a1 a2) := by
  unfold State.cmpCtrl
  extract_lets v0
  have h1 : s0.Keeps v0 := by
    unfold v0
    apply State.pinFollow_keeps
    apply State.plainWrite_keeps
    exact h
  apply State.Keeps.ite
  · apply State.setCmp_keeps
    exact h1
  · apply State.Keeps.ite
    · apply State.cmpArm_keeps
      exact h1
    · exact h1

theorem State.cmpTgtHi_keeps {s0 : State} {s : State} (a1 : Nat) (a2 : Word) (h : s0.Keeps s) :
    s0.Keeps (State.cmpTgtHi s a1 a2) := by
  unfold State.cmpTgtHi
  extract_lets v0 v1
  have h2 : s0.Keeps v0 := by
    unfold v0
    apply State.plainWrite_keeps
    exact h
  apply State.Keeps.ite
  · apply State.cmpArm_keeps
    exact h2
  · exact h2

theorem State.cmpPin_keeps {s0 : State} {s : State} (a1 : Nat) (a2 : Nat) (h : s0.Keeps s) :
    s0.Keeps (State.cmpPin s a1 a2) := by
  unfold State.cmpPin
  extract_lets v0 v1 v2
  have h3 : s0.Keeps v1 := by
    unfold v1
    apply State.Keeps.ite
    · apply State.setFlag_keeps
      exact h
    · apply State.drivePin_keeps
      exact h
  apply State.Keeps.ite
  · exact h
  · apply State.Keeps.ite
    · apply State.drivePin_keeps
      exact h
    · refine State.Keeps.upd ?_ rfl rfl
      exact h3

theorem State.paceRequest_keeps {s0 : State} {s : State} (a1 : Nat) (h : s0.Keeps s) :
    s0.Keeps (State.paceRequest s a1) := by
  unfold State.paceRequest
  extract_lets v0
  apply State.Keeps.ite
  · apply State.setFld_keeps
    exact h
  · apply State.setFlag_keeps
    exact h

theorem State.paceByCmp_keeps {s0 : State} {s : State} (a1 : Nat) (h : s0.Keeps s) :
    s0.Keeps (State.paceByCmp s a1) := by
  unfold State.paceByCmp
  apply State.Keeps.foldl
  · exact h
  · intro t0 x1 h2
    apply State.Keeps.ite
    · apply State.paceRequest_keeps
      exact h2
    · exact h2

theorem State.cmpFire_keeps {s0 : State} {s : State} (a1 : Nat) (a2 : Nat) (h : s0.Keeps s) :
    s0.Keeps (State.cmpFire s a1 a2) := by
  unfold State.cmpFire
  extract_lets v0 v1
  have h2 : s0.Keeps v0 := by
    unfold v0
    apply State.setFlag_keeps
    exact h
  have h3 : s0.Keeps v1 := by
    unfold v1
    apply State.Keeps.ite
    · apply State.raiseIrq_keeps
      exact h2
    · exact h2
  apply State.paceByCmp_keeps
  apply State.cmpPin_keeps
  exact h3

theorem State.cmpNext_keeps {s0 : State} {s : State} (a1 : Nat) (a2 : Nat) (a3 : Nat) (h : s0.Keeps s) :
    s0.Keeps (State.cmpNext s a1 a2 a3) := by
  unfold State.cmpNext
  split
  · extract_lets v0
    apply State.setCmp_keeps
    exact h
  · apply State.setCmp_keeps
    exact h
  · apply State.setCmp_keeps
    exact h

theorem State.cmpMatch_keeps {s0 : State} {s : State} (a1 : Nat) (h : s0.Keeps s) :
    s0.Keeps (State.cmpMatch s a1) := by
  unfold State.cmpMatch
  split
  · exact h
  · apply State.cmpNext_keeps
    apply State.cmpFire_keeps
    apply State.advance_keeps
    exact h

theorem State.cmpPulseEnd_keeps {s0 : State} {s : State} (a1 : Nat) (h : s0.Keeps s) :
    s0.Keeps (State.cmpPulseEnd s a1) := by
  unfold State.cmpPulseEnd
  split
  · exact h
  · extract_lets v0 v1 v2
    have h3 : s0.Keeps v0 := by
      unfold v0
      apply State.advance_keeps
      exact h
    have h4 : s0.Keeps v2 := by
      unfold v2
      refine State.Keeps.upd ?_ rfl rfl
      exact h3
    apply State.drivePin_keeps
    exact h4

theorem State.cmpStep_keeps {s0 : State} {s : State} (a1 : Nat) (a2 : Nat) (h : s0.Keeps s) :
    s0.Keeps (State.cmpStep s a1 a2) := by
  unfold State.cmpStep
  split
  · exact h
  · extract_lets v0 v1
    have h2 : s0.Keeps v1 := by
      unfold v1
      apply State.Keeps.ite
      · apply State.setFlag_keeps
        exact h
      · apply State.setFlag_keeps
        apply State.cmpFire_keeps
        exact h
    apply State.Keeps.ite
    · apply State.log_keeps
      apply State.setFlag_keeps
      apply State.setCmp_keeps
      exact h
    · apply State.Keeps.ite
      · apply State.setCmp_keeps
        exact h
      · apply State.Keeps.ite
        · exact h
        · apply State.cmpNext_keeps
          exact h2

theorem State.cmpStepAll_keeps {s0 : State} {s : State} (a1 : Nat) (h : s0.Keeps s) :
    s0.Keeps (State.cmpStepAll s a1) := by
  unfold State.cmpStepAll
  apply State.Keeps.foldl
  · exact h
  · intro t0 x1 h2
    apply State.cmpStep_keeps
    exact h2

theorem State.cmpRegrid_keeps {s0 : State} {s : State} (a1 : Nat) (a2 : Nat) (h : s0.Keeps s) :
    s0.Keeps (State.cmpRegrid s a1 a2) := by
  unfold State.cmpRegrid
  split
  · exact h
  · apply State.Keeps.ite
    · apply State.setCmp_keeps
      exact h
    · exact h

theorem State.cmpRegridAll_keeps {s0 : State} {s : State} (a1 : Nat) (h : s0.Keeps s) :
    s0.Keeps (State.cmpRegridAll s a1) := by
  unfold State.cmpRegridAll
  apply State.Keeps.foldl
  · exact h
  · intro t0 x1 h2
    apply State.cmpRegrid_keeps
    exact h2

theorem State.setCapt_keeps {s0 : State} {s : State} (a1 : Nat) (a2 : List CaptEnt) (h : s0.Keeps s) :
    s0.Keeps (State.setCapt s a1 a2) := by
  unfold State.setCapt
  extract_lets v0
  refine State.Keeps.upd ?_ rfl rfl
  exact h

theorem State.captAccept_keeps {s0 : State} {s : State} (a1 : Nat) (a2 : Bool) (a3 : Nat) (h : s0.Keeps s) :
    s0.Keeps (State.captAccept s a1 a2 a3) := by
  unfold State.captAccept
  extract_lets v0 v1 v2
  have h3 : s0.Keeps v2 := by
    unfold v2
    apply State.setCapt_keeps
    exact h
  apply State.Keeps.ite
  · apply State.Keeps.ite
    · apply State.count31_keeps
      exact h
    · apply State.Keeps.ite
      · apply State.raiseIrq_keeps
        exact h3
      · exact h3
  · exact h

theorem State.captEdge_keeps {s0 : State} {s : State} (a1 : Nat) (a2 : Bool) (a3 : Nat) (a4 : Nat) (h : s0.Keeps s) :
    s0.Keeps (State.captEdge s a1 a2 a3 a4) := by
  unfold State.captEdge
  extract_lets v0 v1 v2 v3
  have h4 : s0.Keeps v2 := by
    unfold v2
    apply State.Keeps.ite
    · apply State.drawn_keeps
      exact h
    · exact h
  apply State.Keeps.ite
  · refine State.Keeps.upd ?_ rfl rfl
    exact h
  · apply State.Keeps.ite
    · apply State.captAccept_keeps
      exact h4
    · refine State.Keeps.upd ?_ rfl rfl
      exact h4

theorem State.ppsEdge_keeps {s0 : State} {s : State} (a1 : Nat) (h : s0.Keeps s) :
    s0.Keeps (State.ppsEdge s a1) := by
  unfold State.ppsEdge
  extract_lets v0
  apply State.setPair_keeps
  refine State.Keeps.upd ?_ rfl rfl
  exact h

theorem State.deviceSecond_keeps {s0 : State} {s : State} (h : s0.Keeps s) :
    s0.Keeps (State.deviceSecond s) := by
  unfold State.deviceSecond
  extract_lets v0 v1 v2 v3 v4 v5 v6 v7 v8
  have h9 : s0.Keeps v1 := by
    unfold v1
    apply State.advance_keeps
    exact h
  have h10 : s0.Keeps v3 := by
    unfold v3
    apply State.alarmCheck_keeps
    refine State.Keeps.upd ?_ rfl rfl
    exact h9
  have h11 : s0.Keeps v4 := by
    unfold v4
    apply State.setReg_keeps
    exact h10
  have h12 : s0.Keeps v6 := by
    unfold v6
    refine State.Keeps.upd ?_ rfl rfl
    exact h11
  apply State.Keeps.ite
  · exact h12
  · apply State.emit_keeps
    refine State.Keeps.upd ?_ rfl rfl
    exact h12

end Sys2Proof.Machine
end

