-- ==== Sys2Proof/Laws/KeepsLink.lean ====
section
/-! SUPPORT. What the operations of Machine/Link.lean keep (`State.Keeps`), one lemma each. -/

namespace Sys2Proof.Machine

theorem State.setRx_keeps {s0 : State} {s : State} (a1 : Nat) (a2 : RxSt) (h : s0.Keeps s) :
    s0.Keeps (State.setRx s a1 a2) := by
  unfold State.setRx
  extract_lets v0
  refine State.Keeps.upd ?_ rfl rfl
  exact h

theorem State.setTx_keeps {s0 : State} {s : State} (a1 : Nat) (a2 : TxSt) (h : s0.Keeps s) :
    s0.Keeps (State.setTx s a1 a2) := by
  unfold State.setTx
  extract_lets v0
  refine State.Keeps.upd ?_ rfl rfl
  exact h

theorem State.setBond_keeps {s0 : State} {s : State} (a1 : Nat) (a2 : BondSt) (h : s0.Keeps s) :
    s0.Keeps (State.setBond s a1 a2) := by
  unfold State.setBond
  extract_lets v0
  refine State.Keeps.upd ?_ rfl rfl
  exact h

theorem State.setPort_keeps {s0 : State} {s : State} (a1 : Nat) (a2 : PortSt) (h : s0.Keeps s) :
    s0.Keeps (State.setPort s a1 a2) := by
  unfold State.setPort
  extract_lets v0
  refine State.Keeps.upd ?_ rfl rfl
  exact h

theorem State.setSensor_keeps {s0 : State} {s : State} (a1 : Nat) (a2 : SensorSt) (h : s0.Keeps s) :
    s0.Keeps (State.setSensor s a1 a2) := by
  unfold State.setSensor
  extract_lets v0
  refine State.Keeps.upd ?_ rfl rfl
  exact h

theorem State.loadEq_keeps {s0 : State} {s : State} (a1 : Nat) (a2 : Nat) (h : s0.Keeps s) :
    s0.Keeps (State.loadEq s a1 a2) := by
  unfold State.loadEq
  extract_lets v0 v1 v2
  apply State.setTx_keeps
  apply State.setRx_keeps
  exact h

theorem State.setStep_keeps {s0 : State} {s : State} (a1 : Nat) (a2 : Nat) (h : s0.Keeps s) :
    s0.Keeps (State.setStep s a1 a2) := by
  unfold State.setStep
  apply State.loadEq_keeps
  apply State.setFld_keeps
  exact h

theorem State.unlock_keeps {s0 : State} {s : State} (a1 : Nat) (h : s0.Keeps s) :
    s0.Keeps (State.unlock s a1) := by
  unfold State.unlock
  extract_lets v0 v1 v2 v3 v4 v5
  have h6 : s0.Keeps v2 := by
    unfold v2
    apply State.setRx_keeps
    exact h
  have h7 : s0.Keeps v3 := by
    unfold v3
    apply State.setFlag_keeps
    apply State.setFlag_keeps
    exact h6
  have h8 : s0.Keeps v5 := by
    unfold v5
    apply State.Keeps.ite
    · apply State.setSensor_keeps
      exact h7
    · exact h7
  apply State.Keeps.ite
  · apply State.setFld_keeps
    exact h8
  · exact h8

theorem State.rxStep_keeps {s0 : State} {s : State} (a1 : Nat) (a2 : Nat) (h : s0.Keeps s) :
    s0.Keeps (State.rxStep s a1 a2) := by
  unfold State.rxStep
  apply State.setStep_keeps
  apply State.unlock_keeps
  exact h

theorem State.unassign_keeps {s0 : State} {s : State} (a1 : Nat) (h : s0.Keeps s) :
    s0.Keeps (State.unassign s a1) := by
  unfold State.unassign
  extract_lets v0 v1
  have h2 : s0.Keeps v0 := by
    unfold v0
    apply State.Keeps.ite
    · apply State.setSensor_keeps
      exact h
    · exact h
  apply State.setStep_keeps
  apply State.setTx_keeps
  apply State.setSensor_keeps
  exact h2

theorem State.lockAge_keeps {s0 : State} {s : State} (a1 : Nat) (h : s0.Keeps s) :
    s0.Keeps (State.lockAge s a1) := by
  unfold State.lockAge
  split
  · apply State.Keeps.ite
    · apply State.unassign_keeps
      exact h
    · exact h
  · exact h

theorem State.bondDown_keeps {s0 : State} {s : State} (a1 : Nat) (a2 : Bool) (h : s0.Keeps s) :
    s0.Keeps (State.bondDown s a1 a2) := by
  unfold State.bondDown
  extract_lets v0 v1
  have h2 : s0.Keeps v1 := by
    unfold v1
    apply State.setFlag_keeps
    exact h
  apply State.Keeps.ite
  · apply State.log_keeps
    exact h2
  · exact h2

theorem State.bondChoose_keeps {s0 : State} {s : State} (a1 : Nat) (h : s0.Keeps s) :
    s0.Keeps (State.bondChoose s a1) := by
  unfold State.bondChoose
  extract_lets v0 v1 v2 v3 v4
  split
  · apply State.bondDown_keeps
    apply State.setFld_keeps
    apply State.setFld_keeps
    exact h
  · apply State.bondDown_keeps
    apply State.setFld_keeps
    apply State.setFld_keeps
    exact h

theorem State.bondReport_keeps {s0 : State} {s : State} (a1 : Nat) (a2 : List Byte) (h : s0.Keeps s) :
    s0.Keeps (State.bondReport s a1 a2) := by
  unfold State.bondReport
  extract_lets v0 v1 v2 v3 v4 v5 v6 v7 v8 v9 v10
  have h11 : s0.Keeps v9 := by
    unfold v9
    apply State.setFld_keeps
    apply State.setBond_keeps
    exact h
  have h12 : s0.Keeps v10 := by
    unfold v10
    apply State.setFld_keeps
    exact h11
  apply State.setFld_keeps
  exact h12

theorem State.laneBack_keeps {s0 : State} {s : State} (a1 : Nat) (h : s0.Keeps s) :
    s0.Keeps (State.laneBack s a1) := by
  unfold State.laneBack
  extract_lets v0 v1 v2
  apply State.setRx_keeps
  apply State.setBond_keeps
  exact h

theorem State.laneDrop_keeps {s0 : State} {s : State} (a1 : Nat) (h : s0.Keeps s) :
    s0.Keeps (State.laneDrop s a1) := by
  unfold State.laneDrop
  extract_lets v0 v1
  apply State.Keeps.ite
  · exact h
  · apply State.count31_keeps
    apply State.setBond_keeps
    exact h

theorem State.deskew_keeps {s0 : State} {s : State} (a1 : Nat) (a2 : Nat) (h : s0.Keeps s) :
    s0.Keeps (State.deskew s a1 a2) := by
  unfold State.deskew
  extract_lets v0 v1 v2 v3 v4 v5 v6 v7 v8 v9 v10 v11
  have h12 : s0.Keeps v8 := by
    unfold v8
    apply State.setRx_keeps
    exact h
  have h13 : s0.Keeps v11 := by
    unfold v11
    apply State.setRx_keeps
    exact h
  apply State.Keeps.ite
  · apply State.setFld_keeps
    apply State.laneBack_keeps
    exact h
  · apply State.Keeps.ite
    · apply State.Keeps.ite
      · apply State.laneDrop_keeps
        exact h12
      · apply State.setFld_keeps
        apply State.Keeps.foldl
        · apply State.laneBack_keeps
          exact h12
        · intro t14 x15 h16
          apply State.laneBack_keeps
          exact h16
    · apply State.Keeps.ite
      · apply State.setRx_keeps
        exact h
      · apply State.Keeps.ite
        · apply State.laneDrop_keeps
          exact h13
        · exact h13

theorem State.bondHear_keeps {s0 : State} {s : State} (a1 : Nat) (a2 : List Byte) (h : s0.Keeps s) :
    s0.Keeps (State.bondHear s a1 a2) := by
  unfold State.bondHear
  extract_lets v0 v1 v2
  have h3 : s0.Keeps v2 := by
    unfold v2
    apply State.setRx_keeps
    apply State.bondReport_keeps
    exact h
  apply State.Keeps.ite
  · apply State.deskew_keeps
    exact h3
  · apply State.laneBack_keeps
    exact h3

theorem State.bandChange_keeps {s0 : State} {s : State} (a1 : Nat) (a2 : Nat) (h : s0.Keeps s) :
    s0.Keeps (State.bandChange s a1 a2) := by
  unfold State.bandChange
  extract_lets v0 v1 v2 v3
  have h4 : s0.Keeps v0 := by
    unfold v0
    apply State.setFld_keeps
    exact h
  have h5 : s0.Keeps v3 := by
    unfold v3
    apply State.setTx_keeps
    apply State.setRx_keeps
    exact h4
  apply State.Keeps.ite
  · exact h
  · apply State.Keeps.ite
    · apply State.setFld_keeps
      exact h5
    · exact h5

theorem State.loseLock_keeps {s0 : State} {s : State} (a1 : Nat) (h : s0.Keeps s) :
    s0.Keeps (State.loseLock s a1) := by
  unfold State.loseLock
  extract_lets v0
  have h1 : s0.Keeps v0 := by
    unfold v0
    apply State.log_keeps
    apply State.count31_keeps
    apply State.unlock_keeps
    exact h
  apply State.Keeps.ite
  · apply State.setFlag_keeps
    apply State.setFld_keeps
    exact h1
  · exact h1

theorem State.trainBase_keeps {s0 : State} {s : State} (a1 : Nat) (h : s0.Keeps s) :
    s0.Keeps (State.trainBase s a1) := by
  unfold State.trainBase
  split
  · extract_lets v0
    apply State.Keeps.ite
    · apply State.setPort_keeps
      exact h
    · exact h
  · exact h

theorem State.takeSync_keeps {s0 : State} {s : State} (a1 : Nat) (a2 : List Byte) (h : s0.Keeps s) :
    s0.Keeps (State.takeSync s a1 a2) := by
  unfold State.takeSync
  extract_lets v0 v1 v2 v3 v4 v5 v6 v7
  have h8 : s0.Keeps v2 := by
    unfold v2
    apply State.setRx_keeps
    exact h
  have h9 : s0.Keeps v3 := by
    unfold v3
    apply State.setFlag_keeps
    exact h8
  have h10 : s0.Keeps v4 := by
    unfold v4
    apply State.Keeps.ite
    · apply State.setFlag_keeps
      exact h9
    · exact h9
  have h11 : s0.Keeps v6 := by
    unfold v6
    apply State.Keeps.ite
    · apply State.setSensor_keeps
      exact h10
    · exact h10
  apply State.trainBase_keeps
  apply State.Keeps.ite
  · apply State.bondHear_keeps
    exact h11
  · apply State.setRx_keeps
    exact h11

theorem State.deliverBlock_keeps {s0 : State} {s : State} (a1 : Nat) (a2 : Bool) (a3 : List Byte) (h : s0.Keeps s) :
    s0.Keeps (State.deliverBlock s a1 a2 a3) := by
  unfold State.deliverBlock
  extract_lets v0 v1 v2 v3 v4
  apply State.Keeps.ite
  · apply State.setTx_keeps
    exact h
  · apply State.Keeps.ite
    · apply State.Keeps.ite
      · apply State.count31_keeps
        exact h
      · apply State.setRx_keeps
        exact h
    · apply State.Keeps.ite
      · exact h
      · apply State.Keeps.ite
        · apply State.count31_keeps
          exact h
        · apply State.Keeps.ite
          · apply State.count31_keeps
            exact h
          · apply State.Keeps.ite
            · exact h
            · apply State.setRx_keeps
              exact h

theorem State.lockedBlock_keeps {s0 : State} {s : State} (a1 : Nat) (a2 : List Bool) (a3 : Bool) (h : s0.Keeps s) :
    s0.Keeps (State.lockedBlock s a1 a2 a3) := by
  unfold State.lockedBlock
  extract_lets v0 v1 v2 v3 v4 v5 v6 v7 v8 v9 v10 v11 v12 v13 v14 v15 v16
  have h17 : s0.Keeps v4 := by
    unfold v4
    apply State.count48_keeps
    exact h
  have h18 : s0.Keeps v7 := by
    unfold v7
    apply State.setRx_keeps
    exact h17
  have h19 : s0.Keeps v8 := by
    unfold v8
    apply State.Keeps.ite
    · exact h18
    · apply State.count31_keeps
      exact h18
  have h20 : s0.Keeps v13 := by
    unfold v13
    apply State.Keeps.ite
    · apply State.count31_keeps
      exact h19
    · exact h19
  have h21 : s0.Keeps v14 := by
    unfold v14
    apply State.count31_keeps
    exact h19
  apply State.Keeps.ite
  · apply State.loseLock_keeps
    exact h19
  · apply State.Keeps.ite
    · apply State.takeSync_keeps
      exact h20
    · apply State.Keeps.ite
      · apply State.Keeps.ite
        · apply State.loseLock_keeps
          exact h21
        · apply State.setRx_keeps
          apply State.setFlag_keeps
          exact h21
      · apply State.Keeps.ite
        · exact h19
        · split
          extract_lets v22
          have h23 : s0.Keeps v22 := by
            unfold v22
            apply State.setRx_keeps
            exact h19
          apply State.Keeps.ite
          · apply State.deliverBlock_keeps
            exact h23
          · exact h23

theorem State.huntBlock_keeps {s0 : State} {s : State} (a1 : Nat) (a2 : List Bool) (h : s0.Keeps s) :
    s0.Keeps (State.huntBlock s a1 a2) := by
  unfold State.huntBlock
  extract_lets v0 v1 v2 v3 v4
  have h5 : s0.Keeps v3 := by
    unfold v3
    apply State.Keeps.ite
    · apply State.setSensor_keeps
      exact h
    · exact h
  apply State.Keeps.ite
  · apply State.Keeps.ite
    · apply State.setFlag_keeps
      apply State.setRx_keeps
      exact h5
    · apply State.setRx_keeps
      exact h
  · apply State.setRx_keeps
    exact h

theorem State.rxBlock_keeps {s0 : State} {s : State} (a1 : Nat) (a2 : List Bool) (a3 : Bool) (h : s0.Keeps s) :
    s0.Keeps (State.rxBlock s a1 a2 a3) := by
  unfold State.rxBlock
  apply State.Keeps.ite
  · apply State.lockedBlock_keeps
    exact h
  · apply State.huntBlock_keeps
    exact h

theorem State.passBit_keeps {s0 : State} {s : State} (a1 : Nat) (a2 : Bool) (h : s0.Keeps s) :
    s0.Keeps (State.passBit s a1 a2) := by
  unfold State.passBit
  extract_lets v0 v1
  apply State.Keeps.ite
  · apply State.setRx_keeps
    exact h
  · apply State.Keeps.ite
    · apply State.rxBlock_keeps
      apply State.setRx_keeps
      exact h
    · apply State.setRx_keeps
      exact h

theorem State.rxBit_keeps {s0 : State} {s : State} (a1 : Nat) (a2 : Bool) (h : s0.Keeps s) :
    s0.Keeps (State.rxBit s a1 a2) := by
  unfold State.rxBit
  extract_lets v0 v1
  apply State.Keeps.ite
  · apply State.Keeps.ite
    · apply State.count31_keeps
      apply State.setRx_keeps
      exact h
    · apply State.count48_keeps
      apply State.setRx_keeps
      exact h
  · apply State.passBit_keeps
    apply State.setRx_keeps
    exact h

theorem State.receiveBits_keeps {s0 : State} {s : State} (a1 : Nat) (a2 : List Bool) (h : s0.Keeps s) :
    s0.Keeps (State.receiveBits s a1 a2) := by
  unfold State.receiveBits
  apply State.Keeps.ite
  · apply State.Keeps.foldl
    · exact h
    · intro t0 x1 h2
      apply State.rxBit_keeps
      exact h2
  · exact h

theorem State.sendCtl_keeps {s0 : State} {s : State} (a1 : Nat) (a2 : Nat) (a3 : Nat) (a4 : List Byte) (h : s0.Keeps s) :
    s0.Keeps (State.sendCtl s a1 a2 a3 a4) := by
  unfold State.sendCtl
  extract_lets v0
  apply State.setTx_keeps
  exact h

theorem State.receiveBlock_keeps {s0 : State} {s : State} (a1 : Nat) (a2 : List Bool) (h : s0.Keeps s) :
    s0.Keeps (State.receiveBlock s a1 a2) := by
  unfold State.receiveBlock
  apply State.Keeps.foldl
  · exact h
  · intro t0 x1 h2
    apply State.passBit_keeps
    exact h2

theorem State.sendBits_keeps {s0 : State} {s : State} (a1 : Nat) (a2 : List Bool) (a3 : List Bool) (h : s0.Keeps s) :
    s0.Keeps (State.sendBits s a1 a2 a3) := by
  unfold State.sendBits
  extract_lets v0 v1
  split
  extract_lets v2 v3
  have h4 : s0.Keeps v3 := by
    unfold v3
    apply State.setTx_keeps
    exact h
  split
  · apply State.receiveBits_keeps
    exact h4
  · apply State.receiveBlock_keeps
    exact h4
  · apply State.emit_keeps
    exact h4

theorem State.sendBlock_keeps {s0 : State} {s : State} (a1 : Nat) (a2 : Bool) (a3 : List Byte) (h : s0.Keeps s) :
    s0.Keeps (State.sendBlock s a1 a2 a3) := by
  unfold State.sendBlock
  split
  extract_lets v0
  apply State.sendBits_keeps
  apply State.setTx_keeps
  exact h

theorem State.bondJoin_keeps {s0 : State} {s : State} (a1 : Nat) (h : s0.Keeps s) :
    s0.Keeps (State.bondJoin s a1) := by
  unfold State.bondJoin
  extract_lets v0 v1 v2 v3 v4 v5
  have h6 : s0.Keeps v2 := by
    unfold v2
    apply State.bondChoose_keeps
    exact h
  have h7 : s0.Keeps v5 := by
    unfold v5
    apply State.setBond_keeps
    exact h6
  apply State.Keeps.ite
  · exact h
  · apply State.Keeps.ite
    · exact h7
    · apply State.Keeps.foldl
      · exact h7
      · intro t8 x9 h10
        extract_lets v11
        apply State.Keeps.ite
        · apply State.setTx_keeps
          exact h10
        · exact h10

theorem State.trainSync_keeps {s0 : State} {s : State} (a1 : Nat) (h : s0.Keeps s) :
    s0.Keeps (State.trainSync s a1) := by
  unfold State.trainSync
  extract_lets v0 v1 v2 v3
  have h4 : s0.Keeps v1 := by
    unfold v1
    apply State.setSensor_keeps
    exact h
  apply State.Keeps.ite
  · exact h
  · apply State.Keeps.ite
    · exact h4
    · apply State.Keeps.foldl
      · exact h4
      · intro t5 x6 h7
        apply State.sendCtl_keeps
        exact h7

theorem State.sendSync_keeps {s0 : State} {s : State} (a1 : Nat) (h : s0.Keeps s) :
    s0.Keeps (State.sendSync s a1) := by
  unfold State.sendSync
  extract_lets v0 v1 v2 v3 v4 v5 v6 v7 v8 v9
  have h10 : s0.Keeps v1 := by
    unfold v1
    apply State.drawn_keeps
    exact h
  have h11 : s0.Keeps v2 := by
    unfold v2
    apply State.Keeps.ite
    · apply State.bondJoin_keeps
      exact h10
    · exact h10
  have h12 : s0.Keeps v7 := by
    unfold v7
    apply State.setTx_keeps
    exact h11
  have h13 : s0.Keeps v8 := by
    unfold v8
    apply State.sendBits_keeps
    exact h12
  apply State.trainSync_keeps
  apply State.setTx_keeps
  exact h13

theorem State.takeOwn_keeps {s0 : State} {s t : State} {p : Nat} {b : Bool × List Byte} (h : s0.Keeps s)
    (e : s.takeOwn p = some (b, t)) : s0.Keeps t := by
  unfold State.takeOwn at e
  obtain ⟨_, _, e⟩ := Option.map_eq_some_iff.1 e
  cases e
  exact State.setTx_keeps _ _ h

theorem State.takeBond_keeps {s0 : State} {s t : State} {p : Nat} {b : Bool × List Byte} (h : s0.Keeps s)
    (e : s.takeBond p = some (b, t)) : s0.Keeps t := by
  unfold State.takeBond at e
  extract_lets at e
  obtain ⟨_, _, e⟩ := Option.map_eq_some_iff.1 e
  cases e
  exact State.setBond_keeps _ _ h

theorem State.setDealt_keeps {s0 : State} {s : State} (a1 : Nat) (a2 : List (Bool × List Byte)) (h : s0.Keeps s) :
    s0.Keeps (State.setDealt s a1 a2) := by
  unfold State.setDealt
  extract_lets v0 v1
  apply State.setBond_keeps
  exact h

theorem State.deal_keeps {s0 : State} {s : State} (t : Nat) (h : s0.Keeps s) : s0.Keeps (s.deal t) := by
  unfold State.deal
  extract_lets set
  refine State.Keeps.foldl h (fun s x hs => ?_) _
  extract_lets p
  split
  · exact State.setDealt_keeps _ _ (State.takeOwn_keeps hs (by assumption))
  · split
    · exact State.setDealt_keeps _ _ (State.takeBond_keeps hs (by assumption))
    · exact State.setDealt_keeps _ _ hs

theorem State.nextQueued_keeps {s0 : State} {s t : State} {p : Nat} {b : Bool × List Byte} (h : s0.Keeps s)
    (e : s.nextQueued p = some (b, t)) : s0.Keeps t := by
  unfold State.nextQueued at e
  split at e
  · extract_lets u at e
    have hu : s0.Keeps u := State.Keeps.ite (State.deal_keeps _ h) h
    split at e
    · cases e; exact State.setDealt_keeps _ _ hu
    · cases e
  · exact State.takeOwn_keeps h e

theorem State.noteTimeReq_keeps {s0 : State} {s : State} (a1 : Nat) (a2 : Bool) (a3 : List Byte) (h : s0.Keeps s) :
    s0.Keeps (State.noteTimeReq s a1 a2 a3) := by
  unfold State.noteTimeReq
  extract_lets v0 v1
  apply State.Keeps.ite
  · split
    · refine State.Keeps.upd ?_ rfl rfl
      exact h
    · exact h
  · exact h

theorem State.noteRevert_keeps {s0 : State} {s : State} (a1 : Nat) (a2 : Bool) (a3 : List Byte) (h : s0.Keeps s) :
    s0.Keeps (State.noteRevert s a1 a2 a3) := by
  unfold State.noteRevert
  apply State.Keeps.ite
  · split
    · apply State.Keeps.ite
      · exact h
      · apply State.rxStep_keeps
        exact h
    · exact h
  · exact h

theorem State.missTrigger_keeps {s0 : State} {s : State} (a1 : Nat) (h : s0.Keeps s) :
    s0.Keeps (State.missTrigger s a1) := by
  unfold State.missTrigger
  extract_lets v0
  refine State.Keeps.upd ?_ rfl rfl
  exact h

theorem State.slotTrigger_keeps {s0 : State} {s : State} (a1 : Nat) (a2 : TrigBlock) (h : s0.Keeps s) :
    s0.Keeps (State.slotTrigger s a1 a2) := by
  unfold State.slotTrigger
  extract_lets v0
  split
  · apply State.missTrigger_keeps
    exact h
  · apply State.setTx_keeps
    exact h

theorem State.repick_keeps {s0 : State} {s : State} (a1 : Nat) (h : s0.Keeps s) :
    s0.Keeps (State.repick s a1) := by
  unfold State.repick
  extract_lets v0 v1
  apply State.Keeps.foldl
  · apply State.setTx_keeps
    exact h
  · intro t2 x3 h4
    apply State.slotTrigger_keeps
    exact h4

theorem State.launch_keeps {s0 : State} {s : State} (a1 : Nat) (a2 : TrigBlock) (h : s0.Keeps s) :
    s0.Keeps (State.launch s a1 a2) := by
  unfold State.launch
  extract_lets v0
  apply State.sendBlock_keeps
  apply State.setTx_keeps
  exact h

theorem State.sendNext_keeps {s0 : State} {s : State} (a1 : Nat) (h : s0.Keeps s) :
    s0.Keeps (State.sendNext s a1) := by
  unfold State.sendNext
  split
  · extract_lets v0 v1
    have h2 : s0.Keeps v1 := by
      unfold v1
      apply State.Keeps.ite
      · apply State.setTx_keeps
        rename_i y3 y4
        refine State.nextQueued_keeps ?_ y4
        exact h
      · rename_i y5 y6
        refine State.nextQueued_keeps ?_ y6
        exact h
    apply State.noteRevert_keeps
    apply State.sendBlock_keeps
    apply State.noteTimeReq_keeps
    exact h2
  · apply State.sendBlock_keeps
    exact h

theorem State.takeResult_keeps {s0 : State} {s t : State} {p : Nat} {b : List Byte} (h : s0.Keeps s)
    (e : s.takeResult p = some (b, t)) : s0.Keeps t := by
  unfold State.takeResult at e
  extract_lets at e
  obtain ⟨_, _, e⟩ := Option.map_eq_some_iff.1 e
  cases e
  exact State.setTx_keeps _ _ h

theorem State.transmit_keeps {s0 : State} {s : State} (a1 : Nat) (h : s0.Keeps s) :
    s0.Keeps (State.transmit s a1) := by
  unfold State.transmit
  extract_lets v0 v1 v2 v3 v4 v5 v6
  have h7 : s0.Keeps v0 := by
    unfold v0
    apply State.lockAge_keeps
    apply State.advance_keeps
    exact h
  have h8 : s0.Keeps v2 := by
    unfold v2
    apply State.Keeps.ite
    · apply State.setDealt_keeps
      exact h7
    · exact h7
  have h9 : s0.Keeps v4 := by
    unfold v4
    apply State.repick_keeps
    exact h7
  have h10 : s0.Keeps v6 := by
    unfold v6
    apply State.sendNext_keeps
    exact h9
  apply State.Keeps.ite
  · apply State.sendSync_keeps
    exact h7
  · apply State.Keeps.ite
    · apply State.sendBlock_keeps
      apply State.Keeps.ite
      · apply State.setDealt_keeps
        exact h7
      · exact h7
    · split
      · split
        · apply State.sendBlock_keeps
          rename_i y11 y12
          refine State.takeResult_keeps ?_ y12
          exact h8
        · apply State.sendBlock_keeps
          apply State.setTx_keeps
          exact h8
      · split
        · apply State.launch_keeps
          exact h9
        · split
          · apply State.launch_keeps
            exact h9
          · exact h10

end Sys2Proof.Machine
end

