-- ==== Sys2Proof/Laws/KeepsChain.lean ====
section
/-! SUPPORT. What the operations of Machine/Chain.lean keep (`State.Keeps`), one lemma each. -/

namespace Sys2Proof.Machine

theorem State.setBrup_keeps {s0 : State} {s : State} (a1 : Nat) (a2 : Nat) (h : s0.Keeps s) :
    s0.Keeps (State.setBrup s a1 a2) := by
  unfold State.setBrup
  apply State.setFld_keeps
  exact h

theorem State.brupFail_keeps {s0 : State} {s : State} (a1 : Nat) (a2 : Nat) (a3 : Nat) (h : s0.Keeps s) :
    s0.Keeps (State.brupFail s a1 a2 a3) := by
  unfold State.brupFail
  apply State.setFld_keeps
  apply State.setFld_keeps
  exact h

theorem State.plcTrigger_keeps {s0 : State} {s : State} (a1 : Nat) (h : s0.Keeps s) :
    s0.Keeps (State.plcTrigger s a1) := by
  unfold State.plcTrigger
  extract_lets v0
  refine State.Keeps.upd ?_ rfl rfl
  exact h

theorem State.pathSteps_keeps {s0 : State} {s : State} (a1 : Nat) (h : s0.Keeps s) :
    s0.Keeps (State.pathSteps s a1) := by
  unfold State.pathSteps
  apply State.Keeps.ite
  · exact h
  · apply State.Keeps.foldl
    · exact h
    · intro t0 x1 h2
      extract_lets v3
      apply State.Keeps.ite
      · apply State.setFld_keeps
        exact h2
      · exact h2

theorem State.setHop_keeps {s0 : State} {s : State} (a1 : Nat) (a2 : Nat) (a3 : Nat) (a4 : Bool) (h : s0.Keeps s) :
    s0.Keeps (State.setHop s a1 a2 a3 a4) := by
  unfold State.setHop
  extract_lets v0 v1 v2
  have h3 : s0.Keeps v2 := by
    unfold v2
    apply State.pathSteps_keeps
    apply State.setReg_keeps
    exact h
  apply State.Keeps.ite
  · apply State.plcTrigger_keeps
    exact h3
  · exact h3

theorem State.askAll_keeps {s0 : State} {s : State} (a1 : Nat) (a2 : Await) (a3 : List (List Byte)) (h : s0.Keeps s) :
    s0.Keeps (State.askAll s a1 a2 a3) := by
  unfold State.askAll
  extract_lets v0 v1 v2
  have h3 : s0.Keeps v1 := by
    unfold v1
    apply State.setTx_keeps
    exact h
  apply State.setPort_keeps
  exact h3

theorem State.ask_keeps {s0 : State} {s : State} (a1 : Nat) (a2 : Await) (a3 : Nat) (a4 : Nat) (a5 : List Byte) (h : s0.Keeps s) :
    s0.Keeps (State.ask s a1 a2 a3 a4 a5) := by
  unfold State.ask
  apply State.askAll_keeps
  exact h

theorem State.answered_keeps {s0 : State} {s : State} (a1 : Nat) (a2 : Await) (h : s0.Keeps s) :
    s0.Keeps (State.answered s a1 a2) := by
  unfold State.answered
  extract_lets v0
  apply State.setPort_keeps
  exact h

theorem State.setRound_keeps {s0 : State} {s : State} (a1 : Nat) (a2 : Option DelayRound) (h : s0.Keeps s) :
    s0.Keeps (State.setRound s a1 a2) := by
  unfold State.setRound
  extract_lets v0
  refine State.Keeps.upd ?_ rfl rfl
  exact h

theorem State.timeReq_keeps {s0 : State} {s : State} (a1 : Nat) (a2 : Nat) (h : s0.Keeps s) :
    s0.Keeps (State.timeReq s a1 a2) := by
  unfold State.timeReq
  apply State.sendCtl_keeps
  exact h

theorem State.startRound_keeps {s0 : State} {s : State} (a1 : Nat) (h : s0.Keeps s) :
    s0.Keeps (State.startRound s a1) := by
  unfold State.startRound
  extract_lets v0 v1
  have h2 : s0.Keeps v1 := by
    unfold v1
    refine State.Keeps.upd ?_ rfl rfl
    exact h
  apply State.Keeps.ite
  · apply State.timeReq_keeps
    apply State.setRound_keeps
    exact h2
  · exact h

theorem State.runDue_keeps {s0 : State} {s : State} (a1 : Nat) (h : s0.Keeps s) :
    s0.Keeps (State.runDue s a1) := by
  unfold State.runDue
  extract_lets v0
  split
  · apply State.Keeps.ite
    · exact h
    · apply State.startRound_keeps
      exact h
  · exact h

theorem State.dropNodeTrigs_keeps {s0 : State} {s : State} (a1 : Nat) (h : s0.Keeps s) :
    s0.Keeps (State.dropNodeTrigs s a1) := by
  unfold State.dropNodeTrigs
  extract_lets v0
  apply State.setTx_keeps
  exact h

theorem State.delayClear_keeps {s0 : State} {s : State} (a1 : Nat) (h : s0.Keeps s) :
    s0.Keeps (State.delayClear s a1) := by
  unfold State.delayClear
  extract_lets v0 v1 v2
  have h3 : s0.Keeps v0 := by
    unfold v0
    apply State.dropNodeTrigs_keeps
    apply State.setFlag_keeps
    exact h
  refine State.Keeps.upd ?_ rfl rfl
  exact h3

theorem State.delaysClear_keeps {s0 : State} {s : State} (a1 : Nat) (a2 : Nat) (h : s0.Keeps s) :
    s0.Keeps (State.delaysClear s a1 a2) := by
  unfold State.delaysClear
  apply State.Keeps.ite
  · exact h
  · apply State.Keeps.foldl
    · exact h
    · intro t0 x1 h2
      apply State.Keeps.ite
      · apply State.delayClear_keeps
        exact h2
      · exact h2

theorem State.tunEnd_keeps {s0 : State} {s : State} (a1 : Nat) (a2 : Nat) (h : s0.Keeps s) :
    s0.Keeps (State.tunEnd s a1 a2) := by
  unfold State.tunEnd
  apply State.Keeps.foldl
  · exact h
  · intro t0 x1 h2
    extract_lets v3
    apply State.Keeps.ite
    · apply State.setFld_keeps
      apply State.setFld_keeps
      exact h2
    · exact h2

theorem State.loseNode_keeps {s0 : State} {s : State} (a1 : Nat) (a2 : Nat) (h : s0.Keeps s) :
    s0.Keeps (State.loseNode s a1 a2) := by
  unfold State.loseNode
  extract_lets v0 v1 v2 v3
  have h4 : s0.Keeps v1 := by
    unfold v1
    apply State.setFld_keeps
    apply State.setFlag_keeps
    exact h
  have h5 : s0.Keeps v2 := by
    unfold v2
    apply State.tunEnd_keeps
    apply State.count31_keeps
    apply State.delayClear_keeps
    exact h4
  have h6 : s0.Keeps v3 := by
    unfold v3
    apply State.setHop_keeps
    exact h5
  apply State.Keeps.ite
  · apply State.Keeps.ite
    · apply State.Keeps.foldl
      · exact h6
      · intro t7 x8 h9
        apply State.log_keeps
        exact h9
    · exact h6
  · exact h

theorem State.loseFrom_keeps {s0 : State} {s : State} (a1 : Nat) (a2 : Nat) (h : s0.Keeps s) :
    s0.Keeps (State.loseFrom s a1 a2) := by
  unfold State.loseFrom
  extract_lets v0 v1 v2
  have h3 : s0.Keeps v0 := by
    unfold v0
    apply State.Keeps.ite
    · apply State.Keeps.ite
      · apply State.setHop_keeps
        exact h
      · exact h
    · apply State.Keeps.foldl
      · exact h
      · intro t4 x5 h6
        apply State.Keeps.ite
        · apply State.loseNode_keeps
          exact h6
        · exact h6
  have h7 : s0.Keeps v1 := by
    unfold v1
    apply State.setFld_keeps
    apply State.delaysClear_keeps
    exact h3
  apply State.setPort_keeps
  exact h7

theorem State.query_keeps {s0 : State} {s : State} (a1 : Nat) (h : s0.Keeps s) :
    s0.Keeps (State.query s a1) := by
  unfold State.query
  apply State.ask_keeps
  exact h

theorem State.discover_keeps {s0 : State} {s : State} (a1 : Nat) (h : s0.Keeps s) :
    s0.Keeps (State.discover s a1) := by
  unfold State.discover
  extract_lets v0 v1 v2 v3 v4 v5 v6
  have h7 : s0.Keeps v0 := by
    unfold v0
    apply State.loseFrom_keeps
    exact h
  have h8 : s0.Keeps v1 := by
    unfold v1
    apply State.setStep_keeps
    apply State.setReg_keeps
    exact h7
  have h9 : s0.Keeps v2 := by
    unfold v2
    apply State.setBrup_keeps
    apply State.setFld_keeps
    exact h8
  have h10 : s0.Keeps v4 := by
    unfold v4
    apply State.setPort_keeps
    exact h9
  have h11 : s0.Keeps v5 := by
    unfold v5
    apply State.sendCtl_keeps
    exact h10
  apply State.Keeps.ite
  · apply State.query_keeps
    exact h11
  · apply State.setPort_keeps
    exact h11

theorem State.fixGoals_keeps {s0 : State} {s : State} (a1 : Nat) (h : s0.Keeps s) :
    s0.Keeps (State.fixGoals s a1) := by
  unfold State.fixGoals
  extract_lets v0 v1 v2 v3
  apply State.setPort_keeps
  exact h

theorem State.noEntries_keeps {s0 : State} {s : State} (a1 : Nat) (a2 : Nat) (h : s0.Keeps s) :
    s0.Keeps (State.noEntries s a1 a2) := by
  unfold State.noEntries
  apply State.Keeps.foldl
  · exact h
  · intro t0 x1 h2
    apply State.Keeps.ite
    · apply State.log_keeps
      apply State.count31_keeps
      exact h2
    · exact h2

theorem State.recordCaps_keeps {s0 : State} {s : State} (a1 : Nat) (a2 : Nat) (a3 : Caps) (h : s0.Keeps s) :
    s0.Keeps (State.recordCaps s a1 a2 a3) := by
  unfold State.recordCaps
  extract_lets v0 v1 v2 v3 v4 v5 v6 v7 v8
  have h9 : s0.Keeps v1 := by
    unfold v1
    apply State.setPair_keeps
    exact h
  have h10 : s0.Keeps v2 := by
    unfold v2
    apply State.setFld_keeps
    apply State.setFld_keeps
    exact h9
  have h11 : s0.Keeps v3 := by
    unfold v3
    apply State.setFld_keeps
    apply State.setFld_keeps
    exact h10
  have h12 : s0.Keeps v4 := by
    unfold v4
    apply State.setFlag_keeps
    apply State.setFld_keeps
    exact h11
  have h13 : s0.Keeps v5 := by
    unfold v5
    apply State.setFld_keeps
    apply State.setFlag_keeps
    exact h12
  have h14 : s0.Keeps v6 := by
    unfold v6
    apply State.setFld_keeps
    apply State.setFlag_keeps
    exact h13
  have h15 : s0.Keeps v7 := by
    unfold v7
    split
    · apply State.Keeps.ite
      · exact h14
      · apply State.log_keeps
        apply State.setFlag_keeps
        exact h14
    · exact h14
  refine State.Keeps.upd ?_ rfl rfl
  exact h15

theorem State.retrainCount_keeps {s0 : State} {s : State} (a1 : Nat) (h : s0.Keeps s) :
    s0.Keeps (State.retrainCount s a1) := by
  unfold State.retrainCount
  extract_lets v0 v1 v2 v3 v4 v5
  have h6 : s0.Keeps v0 := by
    unfold v0
    apply State.count31_keeps
    exact h
  have h7 : s0.Keeps v4 := by
    unfold v4
    refine State.Keeps.upd ?_ rfl rfl
    exact h6
  have h8 : s0.Keeps v5 := by
    unfold v5
    apply State.Keeps.ite
    · apply State.log_keeps
      exact h7
    · exact h7
  apply State.delaysClear_keeps
  exact h8

theorem State.startPronk_keeps {s0 : State} {s : State} (a1 : Nat) (a2 : Nat) (a3 : Nat) (a4 : Nat) (a5 : Nat) (a6 : Bool) (h : s0.Keeps s) :
    s0.Keeps (State.startPronk s a1 a2 a3 a4 a5 a6) := by
  unfold State.startPronk
  extract_lets v0 v1 v2
  have h3 : s0.Keeps v2 := by
    unfold v2
    apply State.setPort_keeps
    exact h
  apply State.sendCtl_keeps
  apply State.setBrup_keeps
  exact h3

theorem State.enqueueKey_keeps {s0 : State} {s : State} (a1 : Nat) (h : s0.Keeps s) :
    s0.Keeps (State.enqueueKey s a1) := by
  unfold State.enqueueKey
  extract_lets v0
  refine State.Keeps.upd ?_ rfl rfl
  exact h

theorem State.wantSession_keeps {s0 : State} {s : State} (a1 : Nat) (h : s0.Keeps s) :
    s0.Keeps (State.wantSession s a1) := by
  unfold State.wantSession
  apply State.Keeps.ite
  · exact h
  · apply State.setFld_keeps
    apply State.enqueueKey_keeps
    exact h

theorem State.firstSession_keeps {s0 : State} {s : State} (a1 : Nat) (h : s0.Keeps s) :
    s0.Keeps (State.firstSession s a1) := by
  unfold State.firstSession
  apply State.Keeps.ite
  · apply State.wantSession_keeps
    exact h
  · exact h

theorem State.portUpCheck_keeps {s0 : State} {s : State} (a1 : Nat) (h : s0.Keeps s) :
    s0.Keeps (State.portUpCheck s a1) := by
  unfold State.portUpCheck
  extract_lets v0
  apply State.Keeps.ite
  · apply State.Keeps.foldl
    · apply State.setBrup_keeps
      exact h
    · intro t1 x2 h3
      apply State.firstSession_keeps
      exact h3
  · exact h

theorem State.hopsDone_keeps {s0 : State} {s : State} (a1 : Nat) (h : s0.Keeps s) :
    s0.Keeps (State.hopsDone s a1) := by
  unfold State.hopsDone
  extract_lets v0 v1
  have h2 : s0.Keeps v1 := by
    unfold v1
    apply State.setPort_keeps
    exact h
  apply State.Keeps.ite
  · apply State.Keeps.ite
    · apply State.firstSession_keeps
      apply State.setBrup_keeps
      exact h2
    · apply State.setBrup_keeps
      exact h2
  · apply State.runDue_keeps
    apply State.portUpCheck_keeps
    apply State.setBrup_keeps
    exact h2

theorem State.bringUpNext_keeps {s0 : State} {s : State} (a1 : Nat) (h : s0.Keeps s) :
    s0.Keeps (State.bringUpNext s a1) := by
  unfold State.bringUpNext
  extract_lets v0 v1 v2 v3 v4
  have h5 : s0.Keeps v4 := by
    unfold v4
    apply State.setPort_keeps
    exact h
  split
  · apply State.startPronk_keeps
    apply State.retrainCount_keeps
    apply State.setPort_keeps
    exact h
  · apply State.Keeps.ite
    · apply State.setBrup_keeps
      exact h5
    · apply State.Keeps.ite
      · apply State.startPronk_keeps
        exact h5
      · apply State.hopsDone_keeps
        exact h5

theorem State.chainDone_keeps {s0 : State} {s : State} (a1 : Nat) (h : s0.Keeps s) :
    s0.Keeps (State.chainDone s a1) := by
  unfold State.chainDone
  extract_lets v0 v1
  have h2 : s0.Keeps v1 := by
    unfold v1
    apply State.fixGoals_keeps
    exact h
  apply State.Keeps.ite
  · apply State.setBrup_keeps
    apply State.setPort_keeps
    exact h
  · apply State.Keeps.ite
    · exact h2
    · apply State.bringUpNext_keeps
      exact h2

theorem State.hopDown_keeps {s0 : State} {s : State} (a1 : Nat) (a2 : Nat) (a3 : Nat) (h : s0.Keeps s) :
    s0.Keeps (State.hopDown s a1 a2 a3) := by
  unfold State.hopDown
  extract_lets v0 v1 v2 v3
  have h4 : s0.Keeps v1 := by
    unfold v1
    apply State.setPort_keeps
    apply State.brupFail_keeps
    exact h
  have h5 : s0.Keeps v2 := by
    unfold v2
    apply State.loseFrom_keeps
    exact h4
  have h6 : s0.Keeps v3 := by
    unfold v3
    apply State.setHop_keeps
    exact h5
  apply State.Keeps.ite
  · apply State.setBrup_keeps
    exact h6
  · apply State.bringUpNext_keeps
    exact h6

theorem State.retrain_keeps {s0 : State} {s : State} (a1 : Nat) (a2 : Nat) (a3 : Nat) (h : s0.Keeps s) :
    s0.Keeps (State.retrain s a1 a2 a3) := by
  unfold State.retrain
  apply State.startPronk_keeps
  apply State.retrainCount_keeps
  exact h

theorem State.retrainAll_keeps {s0 : State} {s : State} (a1 : Nat) (h : s0.Keeps s) :
    s0.Keeps (State.retrainAll s a1) := by
  unfold State.retrainAll
  extract_lets v0 v1
  apply State.bringUpNext_keeps
  apply State.setPort_keeps
  exact h

theorem State.trainStop_keeps {s0 : State} {s : State} (a1 : Nat) (h : s0.Keeps s) :
    s0.Keeps (State.trainStop s a1) := by
  unfold State.trainStop
  extract_lets v0
  apply State.Keeps.ite
  · apply State.setTx_keeps
    exact h
  · exact h

theorem State.pronkSettle_keeps {s0 : State} {s : State} (a1 : Nat) (h : s0.Keeps s) :
    s0.Keeps (State.pronkSettle s a1) := by
  unfold State.pronkSettle
  split
  · exact h
  · extract_lets v0
    have h1 : s0.Keeps v0 := by
      unfold v0
      apply State.ask_keeps
      apply State.count31_keeps
      apply State.trainStop_keeps
      exact h
    apply State.Keeps.ite
    · apply State.Keeps.ite
      · apply State.rxStep_keeps
        exact h1
      · exact h1
    · apply State.Keeps.ite
      · apply State.ask_keeps
        apply State.trainStop_keeps
        exact h
      · exact h

theorem State.hopResult_keeps {s0 : State} {s : State} (a1 : Nat) (a2 : Nat) (a3 : Bool) (h : s0.Keeps s) :
    s0.Keeps (State.hopResult s a1 a2 a3) := by
  unfold State.hopResult
  split
  · exact h
  · extract_lets v0 v1
    apply State.Keeps.ite
    · exact h
    · apply State.pronkSettle_keeps
      apply State.setPort_keeps
      exact h

theorem State.pronkDrop_keeps {s0 : State} {s : State} (a1 : Nat) (a2 : Nat) (h : s0.Keeps s) :
    s0.Keeps (State.pronkDrop s a1 a2) := by
  unfold State.pronkDrop
  split
  · exact h
  · extract_lets v0 v1 v2 v3 v4
    have h5 : s0.Keeps v1 := by
      unfold v1
      apply State.answered_keeps
      apply State.answered_keeps
      exact h
    have h6 : s0.Keeps v4 := by
      unfold v4
      apply State.setPort_keeps
      exact h
    apply State.Keeps.ite
    · exact h
    · apply State.Keeps.ite
      · apply State.bringUpNext_keeps
        apply State.setPort_keeps
        exact h5
      · apply State.Keeps.ite
        · exact h6
        · apply State.pronkSettle_keeps
          exact h6

theorem State.dropNodes_keeps {s0 : State} {s : State} (a1 : Nat) (a2 : Nat) (h : s0.Keeps s) :
    s0.Keeps (State.dropNodes s a1 a2) := by
  unfold State.dropNodes
  extract_lets v0 v1
  have h2 : s0.Keeps v1 := by
    unfold v1
    apply State.answered_keeps
    apply State.answered_keeps
    apply State.answered_keeps
    apply State.loseFrom_keeps
    exact h
  apply State.Keeps.ite
  · apply State.chainDone_keeps
    apply State.pronkDrop_keeps
    exact h2
  · apply State.pronkDrop_keeps
    exact h2

theorem State.committed_keeps {s0 : State} {s : State} (a1 : Nat) (h : s0.Keeps s) :
    s0.Keeps (State.committed s a1) := by
  unfold State.committed
  split
  · exact h
  · extract_lets v0 v1 v2
    have h3 : s0.Keeps v0 := by
      unfold v0
      apply State.Keeps.foldl
      · exact h
      · intro t4 x5 h6
        apply State.setHop_keeps
        exact h6
    have h7 : s0.Keeps v2 := by
      unfold v2
      apply State.setPort_keeps
      exact h3
    apply State.bringUpNext_keeps
    apply State.trainStop_keeps
    exact h7

theorem State.reverted_keeps {s0 : State} {s : State} (a1 : Nat) (a2 : Nat) (h : s0.Keeps s) :
    s0.Keeps (State.reverted s a1 a2) := by
  unfold State.reverted
  split
  · exact h
  · extract_lets v0 v1 v2 v3 v4 v5 v6 v7
    have h8 : s0.Keeps v2 := by
      unfold v2
      apply State.Keeps.ite
      · apply State.rxStep_keeps
        exact h
      · exact h
    have h9 : s0.Keeps v3 := by
      unfold v3
      apply State.brupFail_keeps
      apply State.trainStop_keeps
      exact h8
    have h10 : s0.Keeps v5 := by
      unfold v5
      apply State.setFld_keeps
      exact h9
    have h11 : s0.Keeps v7 := by
      unfold v7
      apply State.setPort_keeps
      exact h9
    apply State.Keeps.ite
    · apply State.startPronk_keeps
      apply State.Keeps.ite
      · apply State.retrainCount_keeps
        exact h9
      · exact h9
    · apply State.Keeps.ite
      · apply State.bringUpNext_keeps
        apply State.setFld_keeps
        apply State.setPort_keeps
        exact h9
      · apply State.Keeps.ite
        · apply State.bringUpNext_keeps
          apply State.setPort_keeps
          exact h10
        · apply State.Keeps.ite
          · apply State.hopDown_keeps
            exact h9
          · apply State.retrain_keeps
            exact h11

theorem State.askFailed_keeps {s0 : State} {s : State} (a1 : Nat) (a2 : Await) (h : s0.Keeps s) :
    s0.Keeps (State.askFailed s a1 a2) := by
  unfold State.askFailed
  extract_lets v0
  have h1 : s0.Keeps v0 := by
    unfold v0
    apply State.answered_keeps
    exact h
  split
  · apply State.chainDone_keeps
    exact h1
  · apply State.chainDone_keeps
    exact h1
  · apply State.chainDone_keeps
    exact h1
  · exact h1
  · apply State.reverted_keeps
    exact h1
  · apply State.reverted_keeps
    exact h1
  · exact h1
  · exact h1

end Sys2Proof.Machine
end

