-- ==== Sys2Proof/Laws/KeepsTriggers.lean ====
section
/-! SUPPORT. What the operations of Machine/Triggers.lean keep (`State.Keeps`), one lemma each. -/

namespace Sys2Proof.Machine

theorem State.placeTrigger_keeps {s0 : State} {s : State} (a1 : Nat) (a2 : Nat) (a3 : Int) (a4 : Nat) (a5 : Nat) (a6 : Nat) (a7 : Nat) (h : s0.Keeps s) :
    s0.Keeps (State.placeTrigger s a1 a2 a3 a4 a5 a6 a7) := by
  unfold State.placeTrigger
  apply State.Keeps.ite
  · apply State.missTrigger_keeps
    exact h
  · apply State.slotTrigger_keeps
    exact h

theorem State.planNode_keeps {s0 : State} {s : State} (a1 : Nat) (a2 : Nat) (a3 : Nat) (h : s0.Keeps s) :
    s0.Keeps (State.planNode s a1 a2 a3) := by
  unfold State.planNode
  apply State.Keeps.ite
  · exact h
  · apply State.Keeps.foldl
    · exact h
    · intro t0 x1 h2
      extract_lets v3 v4
      apply State.placeTrigger_keeps
      exact h2

theorem State.planTriggers_keeps {s0 : State} {s : State} (a1 : Nat) (a2 : Nat) (h : s0.Keeps s) :
    s0.Keeps (State.planTriggers s a1 a2) := by
  unfold State.planTriggers
  apply State.Keeps.ite
  · exact h
  · apply State.Keeps.foldl
    · exact h
    · intro t0 x1 h2
      apply State.planNode_keeps
      exact h2

theorem State.planAhead_keeps {s0 : State} {s : State} (h : s0.Keeps s) :
    s0.Keeps (State.planAhead s) := by
  unfold State.planAhead
  extract_lets v0 v1 v2 v3 v4
  have h5 : s0.Keeps v2 := by
    unfold v2
    apply State.Keeps.ite
    · apply State.planTriggers_keeps
      exact h
    · exact h
  have h6 : s0.Keeps v3 := by
    unfold v3
    apply State.Keeps.ite
    · apply State.planTriggers_keeps
      exact h5
    · exact h5
  refine State.Keeps.upd ?_ rfl rfl
  exact h6

theorem State.planLate_keeps {s0 : State} {s : State} (a1 : Nat) (h : s0.Keeps s) :
    s0.Keeps (State.planLate s a1) := by
  unfold State.planLate
  extract_lets v0 v1 v2 v3 v4 v5 v6
  have h7 : s0.Keeps v1 := by
    unfold v1
    apply State.planNode_keeps
    exact h
  have h8 : s0.Keeps v3 := by
    unfold v3
    refine State.Keeps.upd ?_ rfl rfl
    exact h7
  have h9 : s0.Keeps v6 := by
    unfold v6
    apply State.Keeps.ite
    · apply State.planNode_keeps
      exact h8
    · exact h8
  apply State.Keeps.ite
  · apply State.planNode_keeps
    exact h9
  · exact h9

theorem State.dropTrigs_keeps {s0 : State} {s : State} (h : s0.Keeps s) :
    s0.Keeps (State.dropTrigs s) := by
  unfold State.dropTrigs
  extract_lets v0
  refine State.Keeps.upd ?_ rfl rfl
  exact h

theorem State.retrigger_keeps {s0 : State} {s : State} (a1 : Int) (a2 : Nat) (h : s0.Keeps s) :
    s0.Keeps (State.retrigger s a1 a2) := by
  unfold State.retrigger
  extract_lets v0 v1 v2 v3
  have h4 : s0.Keeps v1 := by
    unfold v1
    apply State.dropTrigs_keeps
    exact h
  have h5 : s0.Keeps v3 := by
    unfold v3
    refine State.Keeps.upd ?_ rfl rfl
    exact h4
  apply State.Keeps.foldl
  · exact h5
  · intro t6 x7 h8
    extract_lets v9
    apply State.Keeps.ite
    · apply State.Keeps.ite
      · exact h8
      · apply State.placeTrigger_keeps
        exact h8
    · apply State.placeTrigger_keeps
      exact h8

theorem State.applyAdj_keeps {s0 : State} {s : State} (h : s0.Keeps s) :
    s0.Keeps (State.applyAdj s) := by
  unfold State.applyAdj
  split
  · exact h
  · extract_lets v0 v1 v2 v3 v4 v5 v6
    have h7 : s0.Keeps v2 := by
      unfold v2
      refine State.Keeps.upd ?_ rfl rfl
      exact h
    have h8 : s0.Keeps v3 := by
      unfold v3
      apply State.setFlag_keeps
      apply State.setFlag_keeps
      exact h7
    have h9 : s0.Keeps v5 := by
      unfold v5
      apply State.skipPassed_keeps
      apply State.log_keeps
      exact h8
    apply State.planAhead_keeps
    apply State.retrigger_keeps
    apply State.cmpStepAll_keeps
    exact h9

theorem State.timeBase_keeps {s0 : State} {s : State} (h : s0.Keeps s) :
    s0.Keeps (State.timeBase s) := by
  unfold State.timeBase
  split
  · extract_lets v0
    apply State.cycle_keeps
    refine State.Keeps.upd ?_ rfl rfl
    exact h
  · apply State.cycle_keeps
    apply State.applyAdj_keeps
    exact h
  · apply State.cycle_keeps
    exact h

theorem State.endRound_keeps {s0 : State} {s : State} (a1 : Nat) (h : s0.Keeps s) :
    s0.Keeps (State.endRound s a1) := by
  unfold State.endRound
  extract_lets v0
  apply State.runDue_keeps
  apply State.sendCtl_keeps
  apply State.setRound_keeps
  exact h

theorem State.publishDelay_keeps {s0 : State} {s : State} (a1 : Nat) (a2 : List Int) (h : s0.Keeps s) :
    s0.Keeps (State.publishDelay s a1 a2) := by
  unfold State.publishDelay
  extract_lets v0 v1 v2 v3 v4 v5 v6 v7 v8 v9
  have h10 : s0.Keeps v4 := by
    unfold v4
    apply State.setFlag_keeps
    apply State.setFld_keeps
    exact h
  have h11 : s0.Keeps v5 := by
    unfold v5
    apply State.Keeps.ite
    · apply State.log_keeps
      exact h10
    · exact h10
  have h12 : s0.Keeps v7 := by
    unfold v7
    refine State.Keeps.upd ?_ rfl rfl
    exact h11
  have h13 : s0.Keeps v8 := by
    unfold v8
    apply State.Keeps.ite
    · apply State.setFld_keeps
      exact h12
    · exact h12
  have h14 : s0.Keeps v9 := by
    unfold v9
    apply State.portUpCheck_keeps
    apply State.endRound_keeps
    exact h13
  apply State.Keeps.ite
  · exact h14
  · apply State.planLate_keeps
    exact h14

theorem State.failRound_keeps {s0 : State} {s : State} (a1 : Nat) (h : s0.Keeps s) :
    s0.Keeps (State.failRound s a1) := by
  unfold State.failRound
  extract_lets v0 v1 v2 v3
  have h4 : s0.Keeps v2 := by
    unfold v2
    refine State.Keeps.upd ?_ rfl rfl
    exact h
  have h5 : s0.Keeps v3 := by
    unfold v3
    apply State.Keeps.ite
    · apply State.dropNodeTrigs_keeps
      apply State.setFlag_keeps
      exact h4
    · exact h4
  apply State.endRound_keeps
  exact h5

theorem State.nextAttempt_keeps {s0 : State} {s : State} (a1 : Nat) (a2 : DelayRound) (h : s0.Keeps s) :
    s0.Keeps (State.nextAttempt s a1 a2) := by
  unfold State.nextAttempt
  apply State.Keeps.ite
  · apply State.failRound_keeps
    exact h
  · apply State.timeReq_keeps
    apply State.setRound_keeps
    exact h

theorem State.roundOn_keeps {s0 : State} {s : State} (a1 : Nat) (h : s0.Keeps s) :
    s0.Keeps (State.roundOn s a1) := by
  unfold State.roundOn
  split
  · apply State.Keeps.ite
    · apply State.publishDelay_keeps
      exact h
    · apply State.nextAttempt_keeps
      exact h
  · exact h

theorem State.timeReply_keeps {s0 : State} {s : State} (a1 : Nat) (a2 : Byte) (a3 : Int) (a4 : Nat) (h : s0.Keeps s) :
    s0.Keeps (State.timeReply s a1 a2 a3 a4) := by
  unfold State.timeReply
  split
  · split
    · apply State.Keeps.ite
      · exact h
      · apply State.timer_keeps
        · apply State.setRound_keeps
          exact h
        · intro t0 h1
          apply State.roundOn_keeps
          exact h1
    · exact h
  · exact h

end Sys2Proof.Machine
end

