-- ==== Sys2Proof/Laws/KeepsClock.lean ====
section
/-! SUPPORT. What the operations of Machine/Clock.lean keep (`State.Keeps`), one lemma each. -/

namespace Sys2Proof.Machine

theorem State.ptmStart_keeps {s0 : State} {s : State} (h : s0.Keeps s) :
    s0.Keeps (State.ptmStart s) := by
  unfold State.ptmStart
  extract_lets v0 v1
  have h2 : s0.Keeps v0 := by
    unfold v0
    apply State.setFlag_keeps
    apply State.setFld_keeps
    exact h
  apply State.Keeps.ite
  · exact h
  · apply State.Keeps.ite
    · apply State.raiseIrq_keeps
      apply State.setFlag_keeps
      apply State.setFld_keeps
      exact h
    · apply State.emit_keeps
      refine State.Keeps.upd ?_ rfl rfl
      exact h2

theorem State.ptmCtrl_keeps {s0 : State} {s : State} (a1 : Word) (h : s0.Keeps s) :
    s0.Keeps (State.ptmCtrl s a1) := by
  unfold State.ptmCtrl
  extract_lets v0
  have h1 : s0.Keeps v0 := by
    unfold v0
    apply State.plainWrite_keeps
    exact h
  apply State.Keeps.ite
  · apply State.ptmStart_keeps
    exact h1
  · exact h1

theorem State.ptmDone_keeps {s0 : State} {s : State} (a1 : Nat) (a2 : Nat) (a3 : BitVec 64) (h : s0.Keeps s) :
    s0.Keeps (State.ptmDone s a1 a2 a3) := by
  unfold State.ptmDone
  split
  · exact h
  · apply State.Keeps.ite
    · split
      · extract_lets v0
        apply State.emit_keeps
        refine State.Keeps.upd ?_ rfl rfl
        exact h
      · extract_lets v1 v2 v3 v4 v5
        have h6 : s0.Keeps v2 := by
          unfold v2
          apply State.setPair_keeps
          apply State.setPair_keeps
          exact h
        have h7 : s0.Keeps v3 := by
          unfold v3
          apply State.setReg_keeps
          exact h6
        have h8 : s0.Keeps v4 := by
          unfold v4
          apply State.setFld_keeps
          apply State.setFld_keeps
          exact h7
        apply State.raiseIrq_keeps
        refine State.Keeps.upd ?_ rfl rfl
        exact h8
    · exact h

theorem State.ptmTimeout_keeps {s0 : State} {s : State} (h : s0.Keeps s) :
    s0.Keeps (State.ptmTimeout s) := by
  unfold State.ptmTimeout
  extract_lets v0 v1
  have h2 : s0.Keeps v0 := by
    unfold v0
    apply State.setFlag_keeps
    apply State.setFld_keeps
    exact h
  apply State.Keeps.ite
  · apply State.raiseIrq_keeps
    apply State.log_keeps
    refine State.Keeps.upd ?_ rfl rfl
    exact h2
  · exact h

theorem execTimeIncHiWrite_keeps {s0 : State} (a0 : Path) (a1 : Word) {s : State} (h : s0.Keeps s) :
    s0.Answers (execTimeIncHiWrite a0 a1 s) := by
  unfold execTimeIncHiWrite
  apply State.Keeps.next
  apply State.guarded_keeps
  · exact h
  · intro t0 h1
    apply State.commitInc_keeps
    exact h1

theorem execTimeAdjHiWrite_keeps {s0 : State} (a0 : Path) (a1 : Word) {s : State} (h : s0.Keeps s) :
    s0.Answers (execTimeAdjHiWrite a0 a1 s) := by
  unfold execTimeAdjHiWrite
  apply State.Keeps.next
  apply State.guarded_keeps
  · exact h
  · intro t0 h1
    apply State.commitAdj_keeps
    exact h1

theorem execDeviceSecond_keeps {s0 : State} {s : State} (h : s0.Keeps s) :
    s0.Answers (execDeviceSecond s) := by
  unfold execDeviceSecond
  apply State.Keeps.next
  apply State.whenUp_keeps
  · exact h
  · intro t0 h1
    apply State.deviceSecond_keeps
    exact h1

theorem execAlarmArm_keeps {s0 : State} (a0 : Path) (a1 : Word) {s : State} (h : s0.Keeps s) :
    s0.Answers (execAlarmArm a0 a1 s) := by
  unfold execAlarmArm
  apply State.Keeps.next
  apply State.guarded_keeps
  · exact h
  · intro t0 h1
    apply State.alarmCtrl_keeps
    exact h1

theorem execAlarmDisarm_keeps {s0 : State} (a0 : Path) (a1 : Word) {s : State} (h : s0.Keeps s) :
    s0.Answers (execAlarmDisarm a0 a1 s) := by
  unfold execAlarmDisarm
  apply State.Keeps.next
  apply State.guarded_keeps
  · exact h
  · intro t0 h1
    apply State.alarmCtrl_keeps
    exact h1

theorem execTimeCmpTgtHiWrite_keeps {s0 : State} (a0 : Path) (a1 : Fin 64) (a2 : Word) {s : State} (h : s0.Keeps s) :
    s0.Answers (execTimeCmpTgtHiWrite a0 a1 a2 s) := by
  unfold execTimeCmpTgtHiWrite
  apply State.Keeps.next
  apply State.guarded_keeps
  · exact h
  · intro t0 h1
    apply State.cmpTgtHi_keeps
    exact h1

theorem execCmpArm_keeps {s0 : State} (a0 : Path) (a1 : Fin 64) (a2 : Word) {s : State} (h : s0.Keeps s) :
    s0.Answers (execCmpArm a0 a1 a2 s) := by
  unfold execCmpArm
  apply State.Keeps.next
  apply State.guarded_keeps
  · exact h
  · intro t0 h1
    apply State.cmpCtrl_keeps
    exact h1

theorem execCmpModeOff_keeps {s0 : State} (a0 : Path) (a1 : Fin 64) (a2 : Word) {s : State} (h : s0.Keeps s) :
    s0.Answers (execCmpModeOff a0 a1 a2 s) := by
  unfold execCmpModeOff
  apply State.Keeps.next
  apply State.guarded_keeps
  · exact h
  · intro t0 h1
    apply State.cmpCtrl_keeps
    exact h1

theorem execCmpPulseEnd_keeps {s0 : State} (a0 : Fin 64) {s : State} (h : s0.Keeps s) :
    s0.Answers (execCmpPulseEnd a0 s) := by
  unfold execCmpPulseEnd
  apply State.Keeps.next
  apply State.whenUp_keeps
  · exact h
  · intro t0 h1
    apply State.cmpPulseEnd_keeps
    exact h1

theorem execCaptEdge_keeps {s0 : State} (a0 : Fin 32) (a1 : Bool) (a2 : Fin 16) (a3 : Nat) {s : State} (h : s0.Keeps s) :
    s0.Answers (execCaptEdge a0 a1 a2 a3 s) := by
  unfold execCaptEdge
  apply State.Keeps.next
  apply State.whenUp_keeps
  · exact h
  · intro t0 h1
    apply State.captEdge_keeps
    exact h1

theorem State.captRead_keeps {s0 : State} {s : State} (a1 : Path) (a2 : Nat) (h : s0.Keeps s) :
    s0.Keeps (State.captRead s a1 a2) := by
  unfold State.captRead
  split
  · apply State.answer_keeps
    apply State.latchHi_keeps
    exact h
  · apply State.answer_keeps
    apply State.latchHi_keeps
    apply State.setCapt_keeps
    exact h

theorem execTimeCaptFifoLoRead_keeps {s0 : State} (a0 : Path) (a1 : Fin 32) {s : State} (h : s0.Keeps s) :
    s0.Answers (execTimeCaptFifoLoRead a0 a1 s) := by
  unfold execTimeCaptFifoLoRead
  apply State.Keeps.next
  apply State.guardedRead_keeps
  · exact h
  · intro t0 h1
    apply State.captRead_keeps
    exact h1

theorem execPpsInEdge_keeps {s0 : State} (a0 : Fin 16) {s : State} (h : s0.Keeps s) :
    s0.Answers (execPpsInEdge a0 s) := by
  unfold execPpsInEdge
  apply State.Keeps.next
  apply State.whenUp_keeps
  · exact h
  · intro t0 h1
    apply State.ppsEdge_keeps
    exact h1

theorem State.ppsOutEnd_keeps {s0 : State} {s : State} (h : s0.Keeps s) :
    s0.Keeps (State.ppsOutEnd s) := by
  unfold State.ppsOutEnd
  split
  · exact h
  · extract_lets v0 v1
    have h2 : s0.Keeps v0 := by
      unfold v0
      apply State.advance_keeps
      exact h
    apply State.emit_keeps
    refine State.Keeps.upd ?_ rfl rfl
    exact h2

theorem execPpsOutPulseEnd_keeps {s0 : State} {s : State} (h : s0.Keeps s) :
    s0.Answers (execPpsOutPulseEnd s) := by
  unfold execPpsOutPulseEnd
  apply State.Keeps.next
  apply State.whenUp_keeps
  · exact h
  · intro t0 h1
    apply State.ppsOutEnd_keeps
    exact h1

theorem execRef10mInEdge_keeps {s0 : State} {s : State} (h : s0.Keeps s) :
    s0.Answers (execRef10mInEdge s) := by
  unfold execRef10mInEdge
  apply State.Keeps.next
  apply State.whenUp_keeps
  · exact h
  · intro t0 h1
    extract_lets v2
    refine State.Keeps.upd ?_ rfl rfl
    exact h1

theorem execPtmGo_keeps {s0 : State} (a0 : Path) (a1 : Word) {s : State} (h : s0.Keeps s) :
    s0.Answers (execPtmGo a0 a1 s) := by
  unfold execPtmGo
  apply State.Keeps.next
  apply State.guarded_keeps
  · exact h
  · intro t0 h1
    apply State.ptmCtrl_keeps
    exact h1

theorem execPtmPeriod_keeps {s0 : State} {s : State} (h : s0.Keeps s) :
    s0.Answers (execPtmPeriod s) := by
  unfold execPtmPeriod
  apply State.Keeps.next
  apply State.whenUp_keeps
  · exact h
  · intro t0 h1
    apply State.Keeps.ite
    · exact h1
    · apply State.ptmStart_keeps
      exact h1

theorem execPtmResponse_keeps {s0 : State} (a0 : Nat) (a1 : Nat) (a2 : BitVec 64) {s : State} (h : s0.Keeps s) :
    s0.Answers (execPtmResponse a0 a1 a2 s) := by
  unfold execPtmResponse
  apply State.Keeps.next
  apply State.whenUp_keeps
  · exact h
  · intro t0 h1
    apply State.ptmDone_keeps
    exact h1

theorem execPtmTimeout_keeps {s0 : State} {s : State} (h : s0.Keeps s) :
    s0.Answers (execPtmTimeout s) := by
  unfold execPtmTimeout
  apply State.Keeps.next
  apply State.whenUp_keeps
  · exact h
  · intro t0 h1
    apply State.ptmTimeout_keeps
    exact h1

theorem execTimeRoundDue_keeps {s0 : State} (a0 : Fin 512) {s : State} (h : s0.Keeps s) :
    s0.Answers (execTimeRoundDue a0 s) := by
  unfold execTimeRoundDue
  apply State.Keeps.next
  apply State.timer_keeps
  · exact h
  · intro t0 h1
    apply State.startRound_keeps
    exact h1

theorem execTimeReply_keeps {s0 : State} (a0 : Fin 512) (a1 : Byte) (a2 : BitVec 32) (a3 : Nat) {s : State} (h : s0.Keeps s) :
    s0.Answers (execTimeReply a0 a1 a2 a3 s) := by
  unfold execTimeReply
  apply State.Keeps.next
  apply State.whenUp_keeps
  · exact h
  · intro t0 h1
    apply State.timeReply_keeps
    exact h1

theorem execTimeReplyTimeout_keeps {s0 : State} (a0 : Fin 512) {s : State} (h : s0.Keeps s) :
    s0.Answers (execTimeReplyTimeout a0 s) := by
  unfold execTimeReplyTimeout
  apply State.Keeps.next
  apply State.timer_keeps
  · exact h
  · intro t0 h1
    apply State.roundOn_keeps
    exact h1

end Sys2Proof.Machine
end

