-- ==== Sys2Proof/Laws/KeepsNodes.lean ====
section
/-! SUPPORT. What the operations of Machine/Nodes.lean keep (`State.Keeps`), one lemma each. -/

namespace Sys2Proof.Machine

theorem execBlockTransmit_keeps {s0 : State} (a0 : Fin 80) {s : State} (h : s0.Keeps s) :
    s0.Answers (execBlockTransmit a0 s) := by
  unfold execBlockTransmit
  apply State.Keeps.next
  apply State.whenUp_keeps
  · exact h
  · intro t0 h1
    apply State.Keeps.ite
    · apply State.transmit_keeps
      exact h1
    · exact h1

theorem execBlockReceive_keeps {s0 : State} (a0 : Fin 80) (a1 : List Bool) {s : State} (h : s0.Keeps s) :
    s0.Answers (execBlockReceive a0 a1 s) := by
  unfold execBlockReceive
  apply State.Keeps.next
  apply State.Keeps.ite
  · apply State.receiveBits_keeps
    exact h
  · exact h

theorem State.huntDown_keeps {s0 : State} {s : State} (a1 : Nat) (h : s0.Keeps s) :
    s0.Keeps (State.huntDown s a1) := by
  unfold State.huntDown
  extract_lets v0
  apply State.Keeps.ite
  · apply State.hopDown_keeps
    apply State.setPort_keeps
    exact h
  · exact h

theorem State.huntTimeout_keeps {s0 : State} {s : State} (a1 : Nat) (h : s0.Keeps s) :
    s0.Keeps (State.huntTimeout s a1) := by
  unfold State.huntTimeout
  extract_lets v0
  have h1 : s0.Keeps v0 := by
    unfold v0
    apply State.log_keeps
    apply State.setFlag_keeps
    exact h
  apply State.Keeps.ite
  · exact h
  · apply State.Keeps.ite
    · apply State.Keeps.ite
      · apply State.lockAge_keeps
        exact h1
      · apply State.unassign_keeps
        exact h1
    · apply State.timer_keeps
      · exact h1
      · intro t2 h3
        apply State.huntDown_keeps
        exact h3

theorem execHuntTimeout_keeps {s0 : State} (a0 : Fin 80) {s : State} (h : s0.Keeps s) :
    s0.Answers (execHuntTimeout a0 s) := by
  unfold execHuntTimeout
  apply State.Keeps.next
  apply State.whenUp_keeps
  · exact h
  · intro t0 h1
    apply State.huntTimeout_keeps
    exact h1

theorem State.eyeClear_keeps {s0 : State} {s : State} (a1 : Nat) (h : s0.Keeps s) :
    s0.Keeps (State.eyeClear s a1) := by
  unfold State.eyeClear
  apply State.Keeps.foldl
  · exact h
  · intro t0 x1 h2
    apply State.setReg_keeps
    exact h2

theorem State.eyeCtrl_keeps {s0 : State} {s : State} (a1 : Nat) (a2 : Word) (h : s0.Keeps s) :
    s0.Keeps (State.eyeCtrl s a1 a2) := by
  unfold State.eyeCtrl
  extract_lets v0 v1
  have h2 : s0.Keeps v0 := by
    unfold v0
    apply State.plainWrite_keeps
    exact h
  have h3 : s0.Keeps v1 := by
    unfold v1
    apply State.setFld_keeps
    apply State.eyeClear_keeps
    exact h2
  apply State.Keeps.ite
  · exact h2
  · apply State.setFld_keeps
    exact h3

theorem State.eyePoint_keeps {s0 : State} {s : State} (a1 : Nat) (a2 : Nat) (h : s0.Keeps s) :
    s0.Keeps (State.eyePoint s a1 a2) := by
  unfold State.eyePoint
  extract_lets v0 v1 v2
  have h3 : s0.Keeps v2 := by
    unfold v2
    apply State.setFld_keeps
    apply State.setReg_keeps
    exact h
  apply State.Keeps.ite
  · apply State.Keeps.ite
    · apply State.setFld_keeps
      exact h3
    · exact h3
  · exact h

theorem execEyeScanGo_keeps {s0 : State} (a0 : Path) (a1 : Fin 80) (a2 : Word) {s : State} (h : s0.Keeps s) :
    s0.Answers (execEyeScanGo a0 a1 a2 s) := by
  unfold execEyeScanGo
  apply State.Keeps.next
  apply State.guarded_keeps
  · exact h
  · intro t0 h1
    apply State.eyeCtrl_keeps
    exact h1

theorem execEyePointDone_keeps {s0 : State} (a0 : Fin 80) (a1 : Nat) {s : State} (h : s0.Keeps s) :
    s0.Answers (execEyePointDone a0 a1 s) := by
  unfold execEyePointDone
  apply State.Keeps.next
  apply State.whenUp_keeps
  · exact h
  · intro t0 h1
    apply State.eyePoint_keeps
    exact h1

theorem State.dropSession_keeps {s0 : State} {s : State} (a1 : Nat) (h : s0.Keeps s) :
    s0.Keeps (State.dropSession s a1) := by
  unfold State.dropSession
  extract_lets v0 v1
  have h2 : s0.Keeps v1 := by
    unfold v1
    refine State.Keeps.upd ?_ rfl rfl
    exact h
  apply State.setFld_keeps
  exact h2

theorem State.takeCaps_keeps {s0 : State} {s : State} (a1 : Nat) (a2 : Caps) (h : s0.Keeps s) :
    s0.Keeps (State.takeCaps s a1 a2) := by
  unfold State.takeCaps
  extract_lets v0 v1 v2 v3 v4 v5 v6
  have h7 : s0.Keeps v0 := by
    unfold v0
    apply State.answered_keeps
    exact h
  have h8 : s0.Keeps v4 := by
    unfold v4
    apply State.drawn_keeps
    apply State.ask_keeps
    exact h7
  have h9 : s0.Keeps v6 := by
    unfold v6
    apply State.noEntries_keeps
    apply State.recordCaps_keeps
    exact h7
  apply State.Keeps.ite
  · exact h
  · apply State.Keeps.ite
    · apply State.chainDone_keeps
      apply State.log_keeps
      apply State.brupFail_keeps
      exact h7
    · apply State.Keeps.ite
      · apply State.setPort_keeps
        exact h8
      · apply State.ask_keeps
        exact h9

theorem State.placeNode_keeps {s0 : State} {s : State} (a1 : Nat) (a2 : Nat) (h : s0.Keeps s) :
    s0.Keeps (State.placeNode s a1 a2) := by
  unfold State.placeNode
  extract_lets v0 v1 v2
  have h3 : s0.Keeps v1 := by
    unfold v1
    apply State.setFld_keeps
    apply State.setFlag_keeps
    exact h
  have h4 : s0.Keeps v2 := by
    unfold v2
    apply State.dropSession_keeps
    apply State.setFld_keeps
    exact h3
  apply State.setHop_keeps
  apply State.delayClear_keeps
  exact h4

theorem State.assigned_keeps {s0 : State} {s : State} (a1 : Nat) (h : s0.Keeps s) :
    s0.Keeps (State.assigned s a1) := by
  unfold State.assigned
  extract_lets v0 v1 v2 v3 v4
  have h5 : s0.Keeps v1 := by
    unfold v1
    apply State.Keeps.ite
    · apply State.placeNode_keeps
      exact h
    · apply State.Keeps.ite
      · apply State.dropSession_keeps
        apply State.setHop_keeps
        exact h
      · exact h
  have h6 : s0.Keeps v2 := by
    unfold v2
    apply State.setFld_keeps
    exact h5
  have h7 : s0.Keeps v4 := by
    unfold v4
    apply State.setPort_keeps
    exact h6
  apply State.Keeps.ite
  · apply State.ask_keeps
    exact h7
  · apply State.chainDone_keeps
    exact h7

theorem State.extended_keeps {s0 : State} {s : State} (a1 : Nat) (a2 : Bool) (h : s0.Keeps s) :
    s0.Keeps (State.extended s a1 a2) := by
  unfold State.extended
  extract_lets v0
  apply State.Keeps.ite
  · apply State.query_keeps
    apply State.setPort_keeps
    exact h
  · apply State.Keeps.ite
    · exact h
    · apply State.chainDone_keeps
      exact h

theorem State.stopTraffic_keeps {s0 : State} {s : State} (a1 : Nat) (a2 : LoopSt) (h : s0.Keeps s) :
    s0.Keeps (State.stopTraffic s a1 a2) := by
  unfold State.stopTraffic
  extract_lets v0
  apply State.setPort_keeps
  exact h

theorem State.loopAnswer_keeps {s0 : State} {s : State} (a1 : Nat) (a2 : LoopSt) (a3 : Bool) (h : s0.Keeps s) :
    s0.Keeps (State.loopAnswer s a1 a2 a3) := by
  unfold State.loopAnswer
  extract_lets v0 v1 v2
  apply State.Keeps.ite
  · apply State.startPronk_keeps
    apply State.stopTraffic_keeps
    exact h
  · apply State.log_keeps
    apply State.setFld_keeps
    apply State.setPort_keeps
    exact h

theorem State.loopRun_keeps {s0 : State} {s : State} (a1 : Nat) (h : s0.Keeps s) :
    s0.Keeps (State.loopRun s a1) := by
  unfold State.loopRun
  split
  · apply State.committed_keeps
    exact h
  · extract_lets v0 v1 v2 v3 v4 v5
    have h6 : s0.Keeps v0 := by
      unfold v0
      apply State.loseFrom_keeps
      exact h
    have h7 : s0.Keeps v2 := by
      unfold v2
      apply State.setPort_keeps
      exact h6
    have h8 : s0.Keeps v4 := by
      unfold v4
      apply State.Keeps.ite
      · apply State.setTx_keeps
        exact h7
      · exact h7
    have h9 : s0.Keeps v5 := by
      unfold v5
      apply State.setFlag_keeps
      apply State.setBrup_keeps
      exact h8
    apply State.setFld_keeps
    exact h9

theorem State.takeAck_keeps {s0 : State} {s : State} (a1 : Nat) (a2 : Nat) (a3 : AckBlock) (h : s0.Keeps s) :
    s0.Keeps (State.takeAck s a1 a2 a3) := by
  unfold State.takeAck
  extract_lets v0 v1 v2
  have h3 : s0.Keeps v1 := by
    unfold v1
    apply State.answered_keeps
    exact h
  apply State.Keeps.ite
  · apply State.Keeps.ite
    · apply State.assigned_keeps
      exact h3
    · apply State.chainDone_keeps
      exact h3
  · apply State.Keeps.ite
    · apply State.extended_keeps
      apply State.answered_keeps
      exact h
    · apply State.Keeps.ite
      · apply State.answered_keeps
        exact h
      · apply State.Keeps.ite
        · apply State.setPort_keeps
          exact h
        · apply State.Keeps.ite
          · split
            · apply State.Keeps.ite
              · apply State.loopAnswer_keeps
                exact h
              · exact h
            · exact h
          · apply State.Keeps.ite
            · apply State.loopRun_keeps
              apply State.answered_keeps
              exact h
            · apply State.Keeps.ite
              · apply State.reverted_keeps
                apply State.answered_keeps
                exact h
              · exact h

theorem State.answerLate_keeps {s0 : State} {s : State} (a1 : Nat) (a2 : Nat) (h : s0.Keeps s) :
    s0.Keeps (State.answerLate s a1 a2) := by
  unfold State.answerLate
  split
  · exact h
  · extract_lets v0 v1 v2
    have h3 : s0.Keeps v1 := by
      unfold v1
      apply State.setTx_keeps
      exact h
    apply State.Keeps.ite
    · apply State.setPort_keeps
      exact h3
    · apply State.askFailed_keeps
      exact h

theorem State.hopSwitch_keeps {s0 : State} {s : State} (a1 : Nat) (h : s0.Keeps s) :
    s0.Keeps (State.hopSwitch s a1) := by
  unfold State.hopSwitch
  extract_lets v0 v1 v2 v3 v4
  have h5 : s0.Keeps v1 := by
    unfold v1
    apply State.setSensor_keeps
    exact h
  have h6 : s0.Keeps v3 := by
    unfold v3
    apply State.setTx_keeps
    exact h5
  apply State.Keeps.ite
  · split
    · exact h
    · apply State.Keeps.ite
      · exact h5
      · apply State.Keeps.ite
        · apply State.rxStep_keeps
          exact h6
        · apply State.setStep_keeps
          exact h6
  · split
    · exact h
    · extract_lets v7 v8 v9
      have h10 : s0.Keeps v7 := by
        unfold v7
        apply State.setPort_keeps
        apply State.delaysClear_keeps
        exact h
      have h11 : s0.Keeps v9 := by
        unfold v9
        apply State.Keeps.ite
        · apply State.setTx_keeps
          exact h10
        · exact h10
      apply State.Keeps.ite
      · exact h
      · apply State.Keeps.ite
        · apply State.rxStep_keeps
          exact h11
        · exact h11

theorem State.trainPattern_keeps {s0 : State} {s : State} (a1 : Nat) (a2 : Nat) (h : s0.Keeps s) :
    s0.Keeps (State.trainPattern s a1 a2) := by
  unfold State.trainPattern
  split
  · exact h
  · extract_lets v0 v1
    apply State.Keeps.ite
    · exact h
    · apply State.setPort_keeps
      exact h

theorem State.trainEnd_keeps {s0 : State} {s : State} (a1 : Nat) (h : s0.Keeps s) :
    s0.Keeps (State.trainEnd s a1) := by
  unfold State.trainEnd
  split
  · exact h
  · apply State.hopResult_keeps
    exact h

theorem State.trainResult_keeps {s0 : State} {s : State} (a1 : Nat) (a2 : Nat) (a3 : Nat) (a4 : Bool) (h : s0.Keeps s) :
    s0.Keeps (State.trainResult s a1 a2 a3 a4) := by
  unfold State.trainResult
  split
  · exact h
  · apply State.Keeps.ite
    · apply State.hopResult_keeps
      exact h
    · exact h

theorem State.sensorBack_keeps {s0 : State} {s : State} (a1 : Nat) (h : s0.Keeps s) :
    s0.Keeps (State.sensorBack s a1) := by
  unfold State.sensorBack
  extract_lets v0 v1 v2 v3
  have h4 : s0.Keeps v1 := by
    unfold v1
    apply State.setSensor_keeps
    exact h
  have h5 : s0.Keeps v3 := by
    unfold v3
    apply State.setTx_keeps
    exact h4
  apply State.Keeps.ite
  · exact h4
  · apply State.Keeps.ite
    · apply State.rxStep_keeps
      exact h5
    · apply State.setStep_keeps
      exact h5

theorem State.switchTimeout_keeps {s0 : State} {s : State} (a1 : Nat) (h : s0.Keeps s) :
    s0.Keeps (State.switchTimeout s a1) := by
  unfold State.switchTimeout
  apply State.Keeps.ite
  · apply State.Keeps.ite
    · apply State.sensorBack_keeps
      exact h
    · exact h
  · apply State.Keeps.ite
    · split
      · extract_lets v0 v1
        have h2 : s0.Keeps v1 := by
          unfold v1
          apply State.setPort_keeps
          exact h
        apply State.Keeps.ite
        · apply State.reverted_keeps
          apply State.Keeps.ite
          · apply State.count31_keeps
            exact h2
          · exact h2
        · exact h
      · exact h
    · exact h

theorem State.glitchExpire_keeps {s0 : State} {s : State} (a1 : Nat) (a2 : Nat) (h : s0.Keeps s) :
    s0.Keeps (State.glitchExpire s a1 a2) := by
  unfold State.glitchExpire
  extract_lets v0
  apply State.Keeps.ite
  · exact h
  · apply State.retrain_keeps
    apply State.brupFail_keeps
    exact h

theorem State.upHold_keeps {s0 : State} {s : State} (a1 : Nat) (a2 : Nat) (h : s0.Keeps s) :
    s0.Keeps (State.upHold s a1 a2) := by
  unfold State.upHold
  extract_lets v0 v1
  have h2 : s0.Keeps v1 := by
    unfold v1
    apply State.setPort_keeps
    exact h
  apply State.Keeps.ite
  · apply State.Keeps.ite
    · exact h2
    · apply State.bringUpNext_keeps
      exact h2
  · exact h

theorem State.pollFailed_keeps {s0 : State} {s : State} (a1 : Nat) (a2 : Nat) (h : s0.Keeps s) :
    s0.Keeps (State.pollFailed s a1 a2) := by
  unfold State.pollFailed
  extract_lets v0 v1
  have h2 : s0.Keeps v0 := by
    unfold v0
    apply State.brupFail_keeps
    exact h
  apply State.Keeps.ite
  · apply State.setBrup_keeps
    apply State.dropNodes_keeps
    apply State.setPort_keeps
    exact h2
  · apply State.dropNodes_keeps
    apply State.ask_keeps
    exact h2

theorem State.pollTimer_keeps {s0 : State} {s : State} (a1 : Nat) (a2 : Nat) (h : s0.Keeps s) :
    s0.Keeps (State.pollTimer s a1 a2) := by
  unfold State.pollTimer
  extract_lets v0 v1
  apply State.Keeps.ite
  · apply State.Keeps.ite
    · apply State.pollFailed_keeps
      exact h
    · apply State.sendCtl_keeps
      apply State.setPort_keeps
      exact h
  · exact h

theorem State.reverseStart_keeps {s0 : State} {s : State} (a1 : Nat) (h : s0.Keeps s) :
    s0.Keeps (State.reverseStart s a1) := by
  unfold State.reverseStart
  extract_lets v0 v1
  apply State.Keeps.ite
  · apply State.setTx_keeps
    apply State.setPort_keeps
    exact h
  · exact h

theorem State.laneStart_keeps {s0 : State} {s : State} (a1 : Nat) (h : s0.Keeps s) :
    s0.Keeps (State.laneStart s a1) := by
  unfold State.laneStart
  extract_lets v0
  apply State.Keeps.ite
  · apply State.bringUpNext_keeps
    apply State.fixGoals_keeps
    apply State.setHop_keeps
    apply State.setPort_keeps
    exact h
  · exact h

theorem State.rediscover_keeps {s0 : State} {s : State} (a1 : Nat) (h : s0.Keeps s) :
    s0.Keeps (State.rediscover s a1) := by
  unfold State.rediscover
  extract_lets v0
  apply State.Keeps.ite
  · exact h
  · apply State.Keeps.ite
    · apply State.laneStart_keeps
      exact h
    · apply State.Keeps.ite
      · apply State.query_keeps
        apply State.setBrup_keeps
        exact h
      · apply State.ask_keeps
        exact h

theorem State.brupCtrl_keeps {s0 : State} {s : State} (a1 : Nat) (a2 : Word) (h : s0.Keeps s) :
    s0.Keeps (State.brupCtrl s a1 a2) := by
  unfold State.brupCtrl
  apply State.Keeps.ite
  · exact h
  · apply State.Keeps.ite
    · apply State.log_keeps
      exact h
    · apply State.Keeps.ite
      · exact h
      · apply State.Keeps.ite
        · apply State.discover_keeps
          exact h
        · apply State.retrainAll_keeps
          exact h

theorem State.replay_keeps {s0 : State} {s : State} (a1 : Instr) (h : s0.Keeps s) :
    s0.Keeps (State.replay s a1) := by
  unfold State.replay
  split
  · apply State.takeCaps_keeps
    exact h
  · apply State.takeAck_keeps
    exact h
  · apply State.trainResult_keeps
    exact h
  · apply State.trainEnd_keeps
    exact h
  · apply State.brupCtrl_keeps
    exact h
  · apply State.brupCtrl_keeps
    exact h
  · apply State.huntDown_keeps
    exact h
  · apply State.switchTimeout_keeps
    exact h
  · apply State.glitchExpire_keeps
    exact h
  · apply State.upHold_keeps
    exact h
  · apply State.pollTimer_keeps
    exact h
  · apply State.rediscover_keeps
    exact h
  · apply State.startRound_keeps
    exact h
  · apply State.roundOn_keeps
    exact h
  · exact h

theorem execCaps_keeps {s0 : State} (a0 : Fin 80) (a1 : Caps) {s : State} (h : s0.Keeps s) :
    s0.Answers (execCaps a0 a1 s) := by
  unfold execCaps
  apply State.Keeps.next
  apply State.engine_keeps
  · exact h
  · intro t0 h1
    apply State.takeCaps_keeps
    exact h1

theorem execAck_keeps {s0 : State} (a0 : Fin 80) (a1 : Fin 8) (a2 : AckBlock) {s : State} (h : s0.Keeps s) :
    s0.Answers (execAck a0 a1 a2 s) := by
  unfold execAck
  apply State.Keeps.next
  apply State.engine_keeps
  · exact h
  · intro t0 h1
    apply State.takeAck_keeps
    exact h1

theorem execHopStepSwitch_keeps {s0 : State} (a0 : Fin 80) {s : State} (h : s0.Keeps s) :
    s0.Answers (execHopStepSwitch a0 s) := by
  unfold execHopStepSwitch
  apply State.Keeps.next
  apply State.whenUp_keeps
  · exact h
  · intro t0 h1
    apply State.hopSwitch_keeps
    exact h1

theorem execTrainPattern_keeps {s0 : State} (a0 : Fin 80) (a1 : BitVec 32) {s : State} (h : s0.Keeps s) :
    s0.Answers (execTrainPattern a0 a1 s) := by
  unfold execTrainPattern
  apply State.Keeps.next
  apply State.whenUp_keeps
  · exact h
  · intro t0 h1
    apply State.trainPattern_keeps
    exact h1

theorem execTrainPeriodEnd_keeps {s0 : State} (a0 : Fin 80) {s : State} (h : s0.Keeps s) :
    s0.Answers (execTrainPeriodEnd a0 s) := by
  unfold execTrainPeriodEnd
  apply State.Keeps.next
  apply State.engine_keeps
  · exact h
  · intro t0 h1
    apply State.trainEnd_keeps
    exact h1

theorem execTrainResult_keeps {s0 : State} (a0 : Fin 80) (a1 : Fin 8) (a2 : Nat) (a3 : Bool) {s : State} (h : s0.Keeps s) :
    s0.Answers (execTrainResult a0 a1 a2 a3 s) := by
  unfold execTrainResult
  apply State.Keeps.next
  apply State.engine_keeps
  · exact h
  · intro t0 h1
    apply State.trainResult_keeps
    exact h1

theorem execPronkSwitchTimeout_keeps {s0 : State} (a0 : Fin 80) {s : State} (h : s0.Keeps s) :
    s0.Answers (execPronkSwitchTimeout a0 s) := by
  unfold execPronkSwitchTimeout
  apply State.Keeps.next
  apply State.timer_keeps
  · exact h
  · intro t0 h1
    apply State.switchTimeout_keeps
    exact h1

theorem execGlitchWindowExpire_keeps {s0 : State} (a0 : Fin 80) (a1 : Fin 8) {s : State} (h : s0.Keeps s) :
    s0.Answers (execGlitchWindowExpire a0 a1 s) := by
  unfold execGlitchWindowExpire
  apply State.Keeps.next
  apply State.timer_keeps
  · exact h
  · intro t0 h1
    apply State.glitchExpire_keeps
    exact h1

theorem execUpHoldExpire_keeps {s0 : State} (a0 : Fin 80) (a1 : Fin 8) {s : State} (h : s0.Keeps s) :
    s0.Answers (execUpHoldExpire a0 a1 s) := by
  unfold execUpHoldExpire
  apply State.Keeps.next
  apply State.timer_keeps
  · exact h
  · intro t0 h1
    apply State.upHold_keeps
    exact h1

theorem execDiscPollTimer_keeps {s0 : State} (a0 : Fin 80) (a1 : Fin 8) {s : State} (h : s0.Keeps s) :
    s0.Answers (execDiscPollTimer a0 a1 s) := by
  unfold execDiscPollTimer
  apply State.Keeps.next
  apply State.timer_keeps
  · exact h
  · intro t0 h1
    apply State.pollTimer_keeps
    exact h1

theorem execReverseStopEnd_keeps {s0 : State} (a0 : Fin 80) {s : State} (h : s0.Keeps s) :
    s0.Answers (execReverseStopEnd a0 s) := by
  unfold execReverseStopEnd
  apply State.Keeps.next
  apply State.whenUp_keeps
  · exact h
  · intro t0 h1
    apply State.reverseStart_keeps
    exact h1

theorem execRediscoveryTimer_keeps {s0 : State} (a0 : Fin 80) {s : State} (h : s0.Keeps s) :
    s0.Answers (execRediscoveryTimer a0 s) := by
  unfold execRediscoveryTimer
  apply State.Keeps.next
  apply State.timer_keeps
  · exact h
  · intro t0 h1
    apply State.rediscover_keeps
    exact h1

theorem execTrlBrupCtrlRetrain_keeps {s0 : State} (a0 : Path) (a1 : Fin 80) (a2 : Word) {s : State} (h : s0.Keeps s) :
    s0.Answers (execTrlBrupCtrlRetrain a0 a1 a2 s) := by
  unfold execTrlBrupCtrlRetrain
  apply State.Keeps.next
  apply State.guarded_keeps
  · exact h
  · intro t0 h1
    apply State.engine_keeps
    · exact h1
    · intro t2 h3
      apply State.brupCtrl_keeps
      exact h3

theorem execTrlBrupCtrlRediscover_keeps {s0 : State} (a0 : Path) (a1 : Fin 80) (a2 : Word) {s : State} (h : s0.Keeps s) :
    s0.Answers (execTrlBrupCtrlRediscover a0 a1 a2 s) := by
  unfold execTrlBrupCtrlRediscover
  apply State.Keeps.next
  apply State.guarded_keeps
  · exact h
  · intro t0 h1
    apply State.engine_keeps
    · exact h1
    · intro t2 h3
      apply State.brupCtrl_keeps
      exact h3

theorem State.downLost_keeps {s0 : State} {s : State} (a1 : Nat) (a2 : Nat) (h : s0.Keeps s) :
    s0.Keeps (State.downLost s a1 a2) := by
  unfold State.downLost
  extract_lets v0
  have h1 : s0.Keeps v0 := by
    unfold v0
    apply State.brupFail_keeps
    exact h
  apply State.Keeps.ite
  · exact h
  · apply State.Keeps.ite
    · apply State.loseFrom_keeps
      exact h1
    · apply State.dropNodes_keeps
      exact h1

theorem execErrDownLost_keeps {s0 : State} (a0 : Fin 64) (a1 : Fin 8) {s : State} (h : s0.Keeps s) :
    s0.Answers (execErrDownLost a0 a1 s) := by
  unfold execErrDownLost
  apply State.Keeps.next
  apply State.whenUp_keeps
  · exact h
  · intro t0 h1
    apply State.downLost_keeps
    exact h1

theorem execErrOverflow_keeps {s0 : State} (a0 : Fin 80) (a1 : Fin 8) (a2 : BitVec 32) {s : State} (h : s0.Keeps s) :
    s0.Answers (execErrOverflow a0 a1 a2 s) := by
  unfold execErrOverflow
  apply State.Keeps.next
  apply State.whenUp_keeps
  · exact h
  · intro t0 h1
    apply State.log_keeps
    apply State.Keeps.ite
    · exact h1
    · apply State.count31_keeps
      exact h1

theorem execErrBusStuck_keeps {s0 : State} (a0 : Fin 64) (a1 : Fin 8) {s : State} (h : s0.Keeps s) :
    s0.Answers (execErrBusStuck a0 a1 s) := by
  unfold execErrBusStuck
  apply State.Keeps.next
  apply State.whenUp_keeps
  · exact h
  · intro t0 h1
    apply State.tunEnd_keeps
    exact h1

theorem execErrTrigLate_keeps {s0 : State} (a0 : Fin 64) (a1 : Fin 8) (a2 : Fin 4) {s : State} (h : s0.Keeps s) :
    s0.Answers (execErrTrigLate a0 a1 a2 s) := by
  unfold execErrTrigLate
  apply State.Keeps.next
  apply State.whenUp_keeps
  · exact h
  · intro t0 h1
    apply State.missTrigger_keeps
    exact h1

theorem execErrTemp_keeps {s0 : State} (a0 : Fin 64) (a1 : Fin 8) (a2 : BitVec 32) {s : State} (h : s0.Keeps s) :
    s0.Answers (execErrTemp a0 a1 a2 s) := by
  unfold execErrTemp
  apply State.Keeps.next
  apply State.whenUp_keeps
  · exact h
  · intro t0 h1
    apply State.log_keeps
    exact h1

theorem execErrUnknown_keeps {s0 : State} (a0 : Fin 64) (a1 : Fin 8) (a2 : Byte) (a3 : BitVec 32) {s : State} (h : s0.Keeps s) :
    s0.Answers (execErrUnknown a0 a1 a2 a3 s) := by
  unfold execErrUnknown
  apply State.Keeps.next
  apply State.whenUp_keeps
  · exact h
  · intro t0 h1
    apply State.log_keeps
    exact h1

theorem State.asSensor_keeps {s0 : State} {s : State} (a1 : Nat) (a2 : State → State) (h : s0.Keeps s) (g2 : ∀ t, s0.Keeps t → s0.Keeps (a2 t)) :
    s0.Keeps (State.asSensor s a1 a2) := by
  unfold State.asSensor
  apply State.Keeps.ite
  · apply g2
    apply State.lockAge_keeps
    exact h
  · exact h

theorem State.sendAck_keeps {s0 : State} {s : State} (a1 : Nat) (a2 : Nat) (a3 : Nat) (a4 : Nat) (a5 : Nat) (a6 : Nat) (h : s0.Keeps s) :
    s0.Keeps (State.sendAck s a1 a2 a3 a4 a5 a6) := by
  unfold State.sendAck
  apply State.sendCtl_keeps
  exact h

theorem execDiscQuery_keeps {s0 : State} (a0 : Fin 80) {s : State} (h : s0.Keeps s) :
    s0.Answers (execDiscQuery a0 s) := by
  unfold execDiscQuery
  apply State.Keeps.next
  apply State.asSensor_keeps
  · exact h
  · intro t0 h1
    extract_lets v2
    apply State.Keeps.ite
    · apply State.drawnN_keeps
      apply State.sendCtl_keeps
      exact h1
    · exact h1

theorem execDiscAssign_keeps {s0 : State} (a0 : Fin 80) (a1 : Nat) (a2 : List (Option Nat)) (a3 : Nat) (a4 : Nat) {s : State} (h : s0.Keeps s) :
    s0.Answers (execDiscAssign a0 a1 a2 a3 a4 s) := by
  unfold execDiscAssign
  apply State.Keeps.next
  apply State.asSensor_keeps
  · exact h
  · intro t0 h1
    extract_lets v2 v3
    apply State.Keeps.ite
    · apply State.sendAck_keeps
      apply State.setSensor_keeps
      exact h1
    · exact h1

theorem execDiscExtend_keeps {s0 : State} (a0 : Fin 80) (a1 : Fin 8) {s : State} (h : s0.Keeps s) :
    s0.Answers (execDiscExtend a0 a1 s) := by
  unfold execDiscExtend
  apply State.Keeps.next
  apply State.asSensor_keeps
  · exact h
  · intro t0 h1
    apply State.Keeps.ite
    · apply State.sendAck_keeps
      exact h1
    · exact h1

theorem execDiscCut_keeps {s0 : State} (a0 : Fin 80) (a1 : Fin 8) {s : State} (h : s0.Keeps s) :
    s0.Answers (execDiscCut a0 a1 s) := by
  unfold execDiscCut
  apply State.Keeps.next
  apply State.asSensor_keeps
  · exact h
  · intro t0 h1
    extract_lets v2 v3
    apply State.Keeps.ite
    · apply State.sendAck_keeps
      apply State.setSensor_keeps
      exact h1
    · exact h1

theorem execDiscReset_keeps {s0 : State} (a0 : Fin 80) {s : State} (h : s0.Keeps s) :
    s0.Answers (execDiscReset a0 s) := by
  unfold execDiscReset
  apply State.Keeps.next
  apply State.asSensor_keeps
  · exact h
  · intro t0 h1
    apply State.unassign_keeps
    exact h1

theorem execDiscPoll_keeps {s0 : State} (a0 : Fin 80) (a1 : Fin 8) {s : State} (h : s0.Keeps s) :
    s0.Answers (execDiscPoll a0 a1 s) := by
  unfold execDiscPoll
  apply State.Keeps.next
  apply State.asSensor_keeps
  · exact h
  · intro t0 h1
    apply State.Keeps.ite
    · apply State.sendAck_keeps
      exact h1
    · exact h1

theorem execTrigReceive_keeps {s0 : State} (a0 : Fin 80) (a1 : Fin 8) {s : State} (h : s0.Keeps s) :
    s0.Answers (execTrigReceive a0 a1 s) := by
  unfold execTrigReceive
  apply State.Keeps.next
  apply State.asSensor_keeps
  · exact h
  · intro t0 h1
    extract_lets v2 v3
    apply State.Keeps.ite
    · apply State.sendAck_keeps
      apply State.setSensor_keeps
      exact h1
    · exact h1

theorem execTimeReq_keeps {s0 : State} (a0 : Fin 80) (a1 : Fin 8) (a2 : Byte) {s : State} (h : s0.Keeps s) :
    s0.Answers (execTimeReq a0 a1 a2 s) := by
  unfold execTimeReq
  apply State.Keeps.next
  apply State.asSensor_keeps
  · exact h
  · intro t0 h1
    apply State.Keeps.ite
    · apply State.drawnN_keeps
      apply State.sendCtl_keeps
      exact h1
    · exact h1

theorem execTimeResult_keeps {s0 : State} (a0 : Fin 80) (a1 : Fin 8) (a2 : BitVec 24) {s : State} (h : s0.Keeps s) :
    s0.Answers (execTimeResult a0 a1 a2 s) := by
  unfold execTimeResult
  apply State.Keeps.next
  apply State.asSensor_keeps
  · exact h
  · intro t0 h1
    extract_lets v2 v3
    split
    · apply State.setSensor_keeps
      exact h1
    · exact h1

theorem execRateSwitch_keeps {s0 : State} (a0 : Fin 80) (a1 : Byte) (a2 : Nat) (a3 : BitVec 16) {s : State} (h : s0.Keeps s) :
    s0.Answers (execRateSwitch a0 a1 a2 a3 s) := by
  unfold execRateSwitch
  apply State.Keeps.next
  apply State.asSensor_keeps
  · exact h
  · intro t0 h1
    extract_lets v2
    apply State.Keeps.ite
    · apply State.setSensor_keeps
      exact h1
    · exact h1

theorem execRateCommit_keeps {s0 : State} (a0 : Fin 80) {s : State} (h : s0.Keeps s) :
    s0.Answers (execRateCommit a0 s) := by
  unfold execRateCommit
  apply State.Keeps.next
  apply State.asSensor_keeps
  · exact h
  · intro t0 h1
    extract_lets v2 v3
    apply State.Keeps.ite
    · apply State.sendAck_keeps
      apply State.setTx_keeps
      apply State.setSensor_keeps
      exact h1
    · exact h1

theorem execRateRevert_keeps {s0 : State} (a0 : Fin 80) {s : State} (h : s0.Keeps s) :
    s0.Answers (execRateRevert a0 s) := by
  unfold execRateRevert
  apply State.Keeps.next
  apply State.asSensor_keeps
  · exact h
  · intro t0 h1
    apply State.sendAck_keeps
    apply State.sensorBack_keeps
    exact h1

theorem execTrainLoopReq_keeps {s0 : State} (a0 : Fin 80) (a1 : Fin 8) {s : State} (h : s0.Keeps s) :
    s0.Answers (execTrainLoopReq a0 a1 s) := by
  unfold execTrainLoopReq
  apply State.Keeps.next
  apply State.asSensor_keeps
  · exact h
  · intro t0 h1
    extract_lets v2
    apply State.Keeps.ite
    · apply State.sendAck_keeps
      apply State.setSensor_keeps
      exact h1
    · exact h1

theorem execTrainLoopEnd_keeps {s0 : State} (a0 : Fin 80) (a1 : Fin 8) {s : State} (h : s0.Keeps s) :
    s0.Answers (execTrainLoopEnd a0 a1 s) := by
  unfold execTrainLoopEnd
  apply State.Keeps.next
  apply State.asSensor_keeps
  · exact h
  · intro t0 h1
    apply State.Keeps.ite
    · apply State.unassign_keeps
      exact h1
    · exact h1

end Sys2Proof.Machine
end

