-- ==== Sys2Proof/Laws/KeepsSessions.lean ====
section
/-! SUPPORT. What the operations of Machine/Sessions.lean keep (`State.Keeps`), one lemma each. -/

namespace Sys2Proof.Machine

theorem State.setSess_keeps {s0 : State} {s : State} (a1 : Nat) (a2 : SessSt) (h : s0.Keeps s) :
    s0.Keeps (State.setSess s a1 a2) := by
  unfold State.setSess
  extract_lets v0
  refine State.Keeps.upd ?_ rfl rfl
  exact h

theorem State.nextKeyNode_keeps {s0 : State} {s t : State} {n : Nat} {b : Bool} (h : s0.Keeps s)
    (e : s.nextKeyNode = some (n, b, t)) : s0.Keeps t := by
  unfold State.nextKeyNode at e
  extract_lets free at e
  split at e
  · cases e; exact h.upd rfl rfl
  · cases e; exact h.upd rfl rfl
  · cases e

theorem State.startSession_keeps {s0 : State} {s : State} (h : s0.Keeps s) :
    s0.Keeps (State.startSession s) := by
  unfold State.startSession
  apply State.Keeps.ite
  · exact h
  · split
    · exact h
    · extract_lets v0 v1 v2 v3 v4 v5 v6 v7
      have h8 : s0.Keeps v2 := by
        unfold v2
        apply State.drawnN_keeps
        rename_i y9 y10
        refine State.nextKeyNode_keeps ?_ y10
        exact h
      have h11 : s0.Keeps v4 := by
        unfold v4
        refine State.Keeps.upd ?_ rfl rfl
        exact h8
      have h12 : s0.Keeps v6 := by
        unfold v6
        apply State.setSess_keeps
        exact h11
      have h13 : s0.Keeps v7 := by
        unfold v7
        apply State.Keeps.ite
        · apply State.setFlag_keeps
          exact h12
        · apply State.setFld_keeps
          exact h12
      apply State.askAll_keeps
      exact h13

theorem State.sessionFail_keeps {s0 : State} {s : State} (a1 : Nat) (a2 : Nat) (h : s0.Keeps s) :
    s0.Keeps (State.sessionFail s a1 a2) := by
  unfold State.sessionFail
  extract_lets v0 v1 v2 v3 v4
  have h5 : s0.Keeps v1 := by
    unfold v1
    apply State.answered_keeps
    apply State.answered_keeps
    exact h
  have h6 : s0.Keeps v2 := by
    unfold v2
    apply State.Keeps.foldl
    · exact h5
    · intro t7 x8 h9
      extract_lets v10
      apply State.setTx_keeps
      exact h9
  have h11 : s0.Keeps v3 := by
    unfold v3
    apply State.setFld_keeps
    apply State.setSess_keeps
    exact h6
  have h12 : s0.Keeps v4 := by
    unfold v4
    apply State.setFlag_keeps
    exact h11
  apply State.Keeps.ite
  · apply State.setFld_keeps
    exact h12
  · exact h12

theorem State.loseKeys_keeps {s0 : State} {s : State} (a1 : Nat) (h : s0.Keeps s) :
    s0.Keeps (State.loseKeys s a1) := by
  unfold State.loseKeys
  extract_lets v0 v1
  have h2 : s0.Keeps v1 := by
    unfold v1
    apply State.setSess_keeps
    exact h
  apply State.Keeps.ite
  · apply State.setFld_keeps
    exact h2
  · exact h2

theorem State.endSession_keeps {s0 : State} {s : State} (a1 : Nat) (a2 : Nat) (h : s0.Keeps s) :
    s0.Keeps (State.endSession s a1 a2) := by
  unfold State.endSession
  apply State.wantSession_keeps
  apply State.sessionFail_keeps
  apply State.loseKeys_keeps
  exact h

theorem State.keyCert_keeps {s0 : State} {s : State} (a1 : Nat) (a2 : List KeyFrag) (h : s0.Keeps s) :
    s0.Keeps (State.keyCert s a1 a2) := by
  unfold State.keyCert
  extract_lets v0 v1 v2 v3 v4
  have h5 : s0.Keeps v1 := by
    unfold v1
    apply State.answered_keeps
    exact h
  have h6 : s0.Keeps v3 := by
    unfold v3
    apply State.drawn_keeps
    exact h5
  split
  · apply State.Keeps.ite
    · exact h
    · apply State.sessionFail_keeps
      exact h
  · apply State.Keeps.ite
    · exact h
    · split
      · apply State.sessionFail_keeps
        exact h5
      · split
        · apply State.sessionFail_keeps
          exact h6
        · extract_lets v7 v8 v9 v10
          have h11 : s0.Keeps v9 := by
            unfold v9
            apply State.setSess_keeps
            exact h6
          have h12 : s0.Keeps v10 := by
            unfold v10
            apply State.setFld_keeps
            exact h11
          apply State.askAll_keeps
          exact h12

theorem State.keyDone_keeps {s0 : State} {s : State} (a1 : Nat) (a2 : List KeyFrag) (h : s0.Keeps s) :
    s0.Keeps (State.keyDone s a1 a2) := by
  unfold State.keyDone
  extract_lets v0 v1 v2 v3 v4
  have h5 : s0.Keeps v1 := by
    unfold v1
    apply State.answered_keeps
    exact h
  have h6 : s0.Keeps v2 := by
    unfold v2
    apply State.setSess_keeps
    exact h5
  have h7 : s0.Keeps v3 := by
    unfold v3
    apply State.setFlag_keeps
    apply State.setFld_keeps
    apply State.setFld_keeps
    exact h6
  have h8 : s0.Keeps v4 := by
    unfold v4
    apply State.count31_keeps
    exact h7
  split
  · exact h
  · apply State.Keeps.ite
    · exact h
    · apply State.Keeps.ite
      · apply State.sessionFail_keeps
        exact h5
      · apply State.Keeps.ite
        · apply State.setFld_keeps
          exact h8
        · exact h8

theorem State.answerLateAny_keeps {s0 : State} {s : State} (a1 : Nat) (a2 : Nat) (h : s0.Keeps s) :
    s0.Keeps (State.answerLateAny s a1 a2) := by
  unfold State.answerLateAny
  split
  · apply State.sessionFail_keeps
    exact h
  · apply State.sessionFail_keeps
    exact h
  · apply State.answerLate_keeps
    exact h

theorem execAnswerLate_keeps {s0 : State} (a0 : Fin 80) (a1 : Nat) {s : State} (h : s0.Keeps s) :
    s0.Answers (execAnswerLate a0 a1 s) := by
  unfold execAnswerLate
  apply State.Keeps.next
  apply State.whenUp_keeps
  · exact h
  · intro t0 h1
    apply State.Keeps.ite
    · exact h1
    · apply State.answerLateAny_keeps
      exact h1

theorem State.sessionRetry_keeps {s0 : State} {s : State} (a1 : Nat) (h : s0.Keeps s) :
    s0.Keeps (State.sessionRetry s a1) := by
  unfold State.sessionRetry
  extract_lets v0 v1
  apply State.Keeps.ite
  · exact h
  · apply State.Keeps.ite
    · refine State.Keeps.upd ?_ rfl rfl
      exact h
    · apply State.Keeps.ite
      · apply State.wantSession_keeps
        exact h
      · exact h

theorem State.rekeyDue_keeps {s0 : State} {s : State} (a1 : Nat) (h : s0.Keeps s) :
    s0.Keeps (State.rekeyDue s a1) := by
  unfold State.rekeyDue
  extract_lets v0
  apply State.Keeps.ite
  · apply State.setFld_keeps
    refine State.Keeps.upd ?_ rfl rfl
    exact h
  · exact h

theorem State.dropOldKey_keeps {s0 : State} {s : State} (a1 : Nat) (h : s0.Keeps s) :
    s0.Keeps (State.dropOldKey s a1) := by
  unfold State.dropOldKey
  extract_lets v0
  apply State.setSess_keeps
  exact h

theorem State.nodeErrSession_keeps {s0 : State} {s : State} (a1 : Nat) (h : s0.Keeps s) :
    s0.Keeps (State.nodeErrSession s a1) := by
  unfold State.nodeErrSession
  apply State.Keeps.ite
  · apply State.sessionFail_keeps
    apply State.setFld_keeps
    apply State.loseKeys_keeps
    exact h
  · exact h

theorem State.sendKey_keeps {s0 : State} {s : State} (a1 : Nat) (a2 : Nat) (a3 : Nat) (a4 : List Byte) (h : s0.Keeps s) :
    s0.Keeps (State.sendKey s a1 a2 a3 a4) := by
  unfold State.sendKey
  extract_lets v0
  apply State.setTx_keeps
  exact h

theorem State.sendErrSession_keeps {s0 : State} {s : State} (a1 : Nat) (a2 : Nat) (h : s0.Keeps s) :
    s0.Keeps (State.sendErrSession s a1 a2) := by
  unfold State.sendErrSession
  apply State.drawn_keeps
  apply State.sendCtl_keeps
  exact h

theorem State.keyHello_keeps {s0 : State} {s : State} (a1 : Nat) (a2 : Nat) (a3 : List KeyFrag) (h : s0.Keeps s) :
    s0.Keeps (State.keyHello s a1 a2 a3) := by
  unfold State.keyHello
  split
  · exact h
  · extract_lets v0 v1 v2 v3 v4 v5 v6 v7
    have h8 : s0.Keeps v2 := by
      unfold v2
      apply State.drawnN_keeps
      exact h
    have h9 : s0.Keeps v5 := by
      unfold v5
      apply State.drawnN_keeps
      exact h8
    apply State.Keeps.ite
    · exact h
    · apply State.Keeps.ite
      · apply State.sendErrSession_keeps
        exact h
      · split
        extract_lets v10 v11 v12
        have h13 : s0.Keeps v12 := by
          unfold v12
          apply State.setSensor_keeps
          exact h9
        apply State.sendKey_keeps
        exact h13

theorem State.keyFinish_keeps {s0 : State} {s : State} (a1 : Nat) (a2 : Nat) (a3 : List KeyFrag) (h : s0.Keeps s) :
    s0.Keeps (State.keyFinish s a1 a2 a3) := by
  unfold State.keyFinish
  extract_lets v0 v1
  split
  · extract_lets v2 v3
    apply State.Keeps.ite
    · exact h
    · split
      · apply State.sendErrSession_keeps
        exact h
      · extract_lets v4 v5
        have h6 : s0.Keeps v5 := by
          unfold v5
          apply State.setSensor_keeps
          exact h
        apply State.Keeps.ite
        · apply State.sendErrSession_keeps
          exact h
        · apply State.sendKey_keeps
          exact h6
  · exact h

theorem State.keyEnd_keeps {s0 : State} {s : State} (a1 : Nat) (a2 : Nat) (a3 : List KeyFrag) (h : s0.Keeps s) :
    s0.Keeps (State.keyEnd s a1 a2 a3) := by
  unfold State.keyEnd
  extract_lets v0
  split
  · apply State.Keeps.ite
    · apply State.setSensor_keeps
      exact h
    · exact h
  · exact h

theorem State.replayAny_keeps {s0 : State} {s : State} (a1 : Instr) (h : s0.Keeps s) :
    s0.Keeps (State.replayAny s a1) := by
  unfold State.replayAny
  split
  · apply State.keyCert_keeps
    exact h
  · apply State.keyDone_keeps
    exact h
  · apply State.startSession_keeps
    exact h
  · apply State.sessionRetry_keeps
    exact h
  · apply State.replay_keeps
    exact h

theorem execSessionStart_keeps {s0 : State} {s : State} (h : s0.Keeps s) :
    s0.Answers (execSessionStart s) := by
  unfold execSessionStart
  apply State.Keeps.next
  apply State.timer_keeps
  · exact h
  · intro t0 h1
    apply State.startSession_keeps
    exact h1

theorem execKeyCert_keeps {s0 : State} (a0 : Fin 80) (a1 : Fin 8) (a2 : List KeyFrag) {s : State} (h : s0.Keeps s) :
    s0.Answers (execKeyCert a0 a1 a2 s) := by
  unfold execKeyCert
  apply State.Keeps.next
  apply State.engine_keeps
  · exact h
  · intro t0 h1
    apply State.keyCert_keeps
    exact h1

theorem execKeyDone_keeps {s0 : State} (a0 : Fin 80) (a1 : Fin 8) (a2 : List KeyFrag) {s : State} (h : s0.Keeps s) :
    s0.Answers (execKeyDone a0 a1 a2 s) := by
  unfold execKeyDone
  apply State.Keeps.next
  apply State.engine_keeps
  · exact h
  · intro t0 h1
    apply State.keyDone_keeps
    exact h1

theorem execKeyHello_keeps {s0 : State} (a0 : Fin 80) (a1 : Fin 8) (a2 : List KeyFrag) {s : State} (h : s0.Keeps s) :
    s0.Answers (execKeyHello a0 a1 a2 s) := by
  unfold execKeyHello
  apply State.Keeps.next
  apply State.asSensor_keeps
  · exact h
  · intro t0 h1
    apply State.keyHello_keeps
    exact h1

theorem execKeyFinish_keeps {s0 : State} (a0 : Fin 80) (a1 : Fin 8) (a2 : List KeyFrag) {s : State} (h : s0.Keeps s) :
    s0.Answers (execKeyFinish a0 a1 a2 s) := by
  unfold execKeyFinish
  apply State.Keeps.next
  apply State.asSensor_keeps
  · exact h
  · intro t0 h1
    apply State.keyFinish_keeps
    exact h1

theorem execKeyEnd_keeps {s0 : State} (a0 : Fin 80) (a1 : Fin 8) (a2 : List KeyFrag) {s : State} (h : s0.Keeps s) :
    s0.Answers (execKeyEnd a0 a1 a2 s) := by
  unfold execKeyEnd
  apply State.Keeps.next
  apply State.asSensor_keeps
  · exact h
  · intro t0 h1
    apply State.keyEnd_keeps
    exact h1

theorem execSessionRetry_keeps {s0 : State} (a0 : Fin 516) {s : State} (h : s0.Keeps s) :
    s0.Answers (execSessionRetry a0 s) := by
  unfold execSessionRetry
  apply State.Keeps.next
  apply State.timer_keeps
  · exact h
  · intro t0 h1
    apply State.sessionRetry_keeps
    exact h1

theorem execRekeyDue_keeps {s0 : State} (a0 : Fin 516) {s : State} (h : s0.Keeps s) :
    s0.Answers (execRekeyDue a0 s) := by
  unfold execRekeyDue
  apply State.Keeps.next
  apply State.whenUp_keeps
  · exact h
  · intro t0 h1
    apply State.rekeyDue_keeps
    exact h1

theorem execOldKeyExpire_keeps {s0 : State} (a0 : Fin 516) {s : State} (h : s0.Keeps s) :
    s0.Answers (execOldKeyExpire a0 s) := by
  unfold execOldKeyExpire
  apply State.Keeps.next
  apply State.whenUp_keeps
  · exact h
  · intro t0 h1
    apply State.dropOldKey_keeps
    exact h1

theorem execErrSession_keeps {s0 : State} (a0 : Fin 80) (a1 : Fin 8) (a2 : BitVec 32) {s : State} (h : s0.Keeps s) :
    s0.Answers (execErrSession a0 a1 a2 s) := by
  unfold execErrSession
  apply State.Keeps.next
  apply State.whenUp_keeps
  · exact h
  · intro t0 h1
    apply State.nodeErrSession_keeps
    exact h1

end Sys2Proof.Machine
end

