-- ==== Sys2Proof/Laws/KeepsTables.lean ====
section
/-! SUPPORT. What the operations of Machine/Tables.lean keep (`State.Keeps`), one lemma each. -/

namespace Sys2Proof.Machine

theorem State.blockRefused_keeps {s0 : State} {s : State} (a1 : Nat) (h : s0.Keeps s) :
    s0.Keeps (State.blockRefused s a1) := by
  unfold State.blockRefused
  extract_lets v0 v1 v2
  have h3 : s0.Keeps v0 := by
    unfold v0
    apply State.count31_keeps
    exact h
  apply State.Keeps.ite
  · apply State.imageReject_keeps
    exact h
  · apply State.Keeps.ite
    · exact h3
    · apply State.log_keeps
      refine State.Keeps.upd ?_ rfl rfl
      exact h3

theorem State.tblPart_keeps {s0 : State} {s : State} (o : Nat) (d : List Byte) (ep : Bool) (b : Nat) (h : s0.Keeps s) :
    s0.Keeps (s.tblPart o d ep b) := by
  unfold State.tblPart
  exact State.setData_keeps h fun c => tblStore_canon _ _ _ c

theorem State.tblWrite_keeps {s0 : State} {s : State} (a1 : Nat) (a2 : List Byte) (a3 : Bool) (h : s0.Keeps s) :
    s0.Keeps (State.tblWrite s a1 a2 a3) := by
  unfold State.tblWrite
  apply State.Keeps.ite
  · exact h
  · apply State.Keeps.foldl
    · exact h
    · intro t0 x1 h2
      extract_lets v3
      have h4 : s0.Keeps v3 := by
        unfold v3
        apply State.tblPart_keeps
        exact h2
      apply State.Keeps.ite
      · apply State.blockRefused_keeps
        exact h2
      · exact h4

theorem execTableWrite_keeps {s0 : State} (a0 : Path) (a1 : Nat) (a2 : List Byte) {s : State} (h : s0.Keeps s) :
    s0.Answers (execTableWrite a0 a1 a2 s) := by
  unfold execTableWrite
  apply State.Keeps.next
  apply State.guarded_keeps
  · exact h
  · intro t0 h1
    apply State.Keeps.ite
    · apply State.barUr_keeps
      apply State.drawnN_keeps
      exact h1
    · apply State.Keeps.ite
      · apply State.noRegister_keeps
        exact h1
      · apply State.Keeps.ite
        · apply State.tblWrite_keeps
          exact h1
        · apply State.partialWrite_keeps
          exact h1

end Sys2Proof.Machine
end

