-- ==== Sys2Proof/Laws/KeepsQueues.lean ====
section
/-! SUPPORT. What the operations of Machine/Queues.lean keep (`State.Keeps`), one lemma each. -/

namespace Sys2Proof.Machine

theorem State.post_keeps {s0 : State} {s : State} (a1 : Nat) (a2 : List Byte) (a3 : Bool) (a4 : Bool) (h : s0.Keeps s) :
    s0.Keeps (State.post s a1 a2 a3 a4) := by
  unfold State.post
  apply State.emits_keeps
  apply State.exitL1_keeps
  exact h

theorem State.highMark_keeps {s0 : State} {s : State} (a1 : Fld) (a2 : Fld) (a3 : Fld) (a4 : Nat) (a5 : Nat) (a6 : Nat) (a7 : Bool) (a8 : Nat) (h : s0.Keeps s) :
    s0.Keeps (State.highMark s a1 a2 a3 a4 a5 a6 a7 a8) := by
  unfold State.highMark
  extract_lets v0 v1 v2
  have h3 : s0.Keeps v0 := by
    unfold v0
    apply State.setFld_keeps
    exact h
  have h4 : s0.Keeps v2 := by
    unfold v2
    apply State.countSmall_keeps
    apply State.setFlag_keeps
    exact h3
  apply State.Keeps.ite
  · apply State.Keeps.ite
    · apply State.raiseIrq_keeps
      exact h4
    · exact h4
  · exact h3

theorem State.clearMark_keeps {s0 : State} {s : State} (a1 : Fld) (a2 : Fld) (a3 : Fld) (a4 : Nat) (h : s0.Keeps s) :
    s0.Keeps (State.clearMark s a1 a2 a3 a4) := by
  unfold State.clearMark
  apply State.setFld_keeps
  apply State.setFld_keeps
  apply State.setFlag_keeps
  exact h

theorem State.cqFill_keeps {s0 : State} {s : State} (a1 : Nat) (a2 : Nat) (h : s0.Keeps s) :
    s0.Keeps (State.cqFill s a1 a2) := by
  unfold State.cqFill
  extract_lets v0
  apply State.highMark_keeps
  apply State.setFld_keeps
  exact h

theorem State.setCqLag_keeps {s0 : State} {s : State} (a1 : Nat) (a2 : Nat) (h : s0.Keeps s) :
    s0.Keeps (State.setCqLag s a1 a2) := by
  unfold State.setCqLag
  extract_lets v0
  refine State.Keeps.upd ?_ rfl rfl
  exact h

theorem State.postRec_keeps {s0 : State} {s : State} (a1 : Nat) (a2 : Nat) (a3 : List Byte) (h : s0.Keeps s) :
    s0.Keeps (State.postRec s a1 a2 a3) := by
  unfold State.postRec
  extract_lets v0 v1 v2 v3 v4 v5 v6 v7 v8 v9 v10 v11
  have h12 : s0.Keeps v5 := by
    unfold v5
    apply State.post_keeps
    exact h
  have h13 : s0.Keeps v8 := by
    unfold v8
    apply State.Keeps.ite
    · apply State.setFld_keeps
      exact h12
    · exact h12
  have h14 : s0.Keeps v9 := by
    unfold v9
    apply State.Keeps.ite
    · apply State.setFlag_keeps
      apply State.count31_keeps
      exact h13
    · exact h13
  have h15 : s0.Keeps v10 := by
    unfold v10
    apply State.count48_keeps
    apply State.setFld_keeps
    apply State.setFld_keeps
    exact h14
  have h16 : s0.Keeps v11 := by
    unfold v11
    apply State.cqFill_keeps
    apply State.setCqLag_keeps
    exact h15
  apply State.Keeps.ite
  · apply State.count31_keeps
    exact h
  · apply State.Keeps.ite
    · apply State.setFld_keeps
      apply State.count31_keeps
      exact h
    · apply State.Keeps.ite
      · apply State.raiseIrq_keeps
        apply State.setFlag_keeps
        exact h16
      · exact h16

theorem State.cqCi_keeps {s0 : State} {s : State} (a1 : Nat) (a2 : Word) (h : s0.Keeps s) :
    s0.Keeps (State.cqCi s a1 a2) := by
  unfold State.cqCi
  extract_lets v0 v1 v2 v3 v4 v5 v6
  have h7 : s0.Keeps v5 := by
    unfold v5
    apply State.setFld_keeps
    exact h
  have h8 : s0.Keeps v6 := by
    unfold v6
    apply State.setFlag_keeps
    apply State.cqFill_keeps
    apply State.setCqLag_keeps
    exact h7
  apply State.Keeps.ite
  · apply State.setFlag_keeps
    exact h
  · apply State.Keeps.ite
    · apply State.raiseIrq_keeps
      apply State.setFlag_keeps
      exact h8
    · exact h8

theorem State.cqCfg_keeps {s0 : State} {s : State} (a1 : Nat) (a2 : Word) (h : s0.Keeps s) :
    s0.Keeps (State.cqCfg s a1 a2) := by
  unfold State.cqCfg
  extract_lets v0 v1 v2 v3
  have h4 : s0.Keeps v2 := by
    unfold v2
    apply State.plainWrite_keeps
    exact h
  have h5 : s0.Keeps v3 := by
    unfold v3
    apply State.setFld_keeps
    apply State.setFld_keeps
    apply State.setFld_keeps
    exact h4
  apply State.Keeps.ite
  · apply State.setFld_keeps
    exact h4
  · apply State.Keeps.ite
    · apply State.cqFill_keeps
      apply State.setCqLag_keeps
      apply State.setFld_keeps
      exact h5
    · exact h4

theorem State.cqBase_keeps {s0 : State} {s : State} (a1 : Nat) (a2 : Nat) (a3 : Word) (h : s0.Keeps s) :
    s0.Keeps (State.cqBase s a1 a2 a3) := by
  unfold State.cqBase
  apply State.Keeps.ite
  · exact h
  · apply State.plainWrite_keeps
    exact h

theorem State.cqWmStat_keeps {s0 : State} {s : State} (a1 : Nat) (a2 : Word) (h : s0.Keeps s) :
    s0.Keeps (State.cqWmStat s a1 a2) := by
  unfold State.cqWmStat
  apply State.Keeps.ite
  · apply State.clearMark_keeps
    exact h
  · exact h

theorem execCqCfgEnable_keeps {s0 : State} (a0 : Path) (a1 : Fin 64) (a2 : Word) {s : State} (h : s0.Keeps s) :
    s0.Answers (execCqCfgEnable a0 a1 a2 s) := by
  unfold execCqCfgEnable
  apply State.Keeps.next
  apply State.guarded_keeps
  · exact h
  · intro t0 h1
    apply State.cqCfg_keeps
    exact h1

theorem execCqCiWrite_keeps {s0 : State} (a0 : Path) (a1 : Fin 64) (a2 : Word) {s : State} (h : s0.Keeps s) :
    s0.Answers (execCqCiWrite a0 a1 a2 s) := by
  unfold execCqCiWrite
  apply State.Keeps.next
  apply State.guarded_keeps
  · exact h
  · intro t0 h1
    apply State.cqCi_keeps
    exact h1

theorem execCqWmStatNoticeClear_keeps {s0 : State} (a0 : Path) (a1 : Fin 64) (a2 : Word) {s : State} (h : s0.Keeps s) :
    s0.Answers (execCqWmStatNoticeClear a0 a1 a2 s) := by
  unfold execCqWmStatNoticeClear
  apply State.Keeps.next
  apply State.guarded_keeps
  · exact h
  · intro t0 h1
    apply State.cqWmStat_keeps
    exact h1

theorem State.readReq_keeps {s0 : State} {s t : State} {use : TagUse} {a n : Nat} (h : s0.Keeps s)
    (e : s.readReq use a n = some t) : s0.Keeps t := by
  unfold State.readReq at e
  split at e
  · cases e
  · obtain ⟨k, _, rfl⟩ := Option.map_eq_some_iff.1 e
    exact State.emit_keeps ((State.exitL1_keeps h).upd rfl rfl) _

theorem State.freeTag_keeps {s0 : State} {s : State} (a1 : Nat) (h : s0.Keeps s) :
    s0.Keeps (State.freeTag s a1) := by
  unfold State.freeTag
  extract_lets v0
  refine State.Keeps.upd ?_ rfl rfl
  exact h

end Sys2Proof.Machine
end

