-- ==== Sys2Proof/Laws/KeepsStore.lean ====
section
/-! SUPPORT. What the operations of Machine/Store.lean keep (`State.Keeps`), one lemma each. -/

namespace Sys2Proof.Machine

theorem State.setStr_keeps {s0 : State} {s : State} (a1 : Nat) (a2 : StreamSt) (h : s0.Keeps s) :
    s0.Keeps (State.setStr s a1 a2) := by
  unfold State.setStr
  extract_lets v0
  refine State.Keeps.upd ?_ rfl rfl
  exact h

theorem State.setHerd_keeps {s0 : State} {s : State} (a1 : Herd) (h : s0.Keeps s) :
    s0.Keeps (State.setHerd s a1) := by
  unfold State.setHerd
  refine State.Keeps.upd ?_ rfl rfl
  exact h

theorem State.setQueue_keeps {s0 : State} {s : State} (a1 : Nat) (a2 : QueueSt) (h : s0.Keeps s) :
    s0.Keeps (State.setQueue s a1 a2) := by
  unfold State.setQueue
  extract_lets v0 v1
  apply State.highMark_keeps
  apply State.setStr_keeps
  exact h

theorem State.queueReset_keeps {s0 : State} {s : State} (a1 : Nat) (h : s0.Keeps s) :
    s0.Keeps (State.queueReset s a1) := by
  unfold State.queueReset
  extract_lets v0 v1 v2 v3
  have h4 : s0.Keeps v3 := by
    unfold v3
    apply State.setQueue_keeps
    apply State.setStr_keeps
    exact h
  apply State.log_keeps
  apply State.setFlag_keeps
  apply State.count31_keeps
  exact h4

theorem State.onQueue_keeps {s0 : State} {s : State} (a1 : Nat) (a2 : State → State) (h : s0.Keeps s) (g2 : ∀ t, s0.Keeps t → s0.Keeps (a2 t)) :
    s0.Keeps (State.onQueue s a1 a2) := by
  unfold State.onQueue
  apply State.Keeps.ite
  · apply g2
    exact h
  · apply State.queueReset_keeps
    exact h

theorem State.freeTo_keeps {s0 : State} {s : State} (a1 : Nat) (a2 : Nat) (h : s0.Keeps s) :
    s0.Keeps (State.freeTo s a1 a2) := by
  unfold State.freeTo
  apply State.onQueue_keeps
  · exact h
  · intro t0 h1
    extract_lets v2 v3 v4 v5
    apply State.setQueue_keeps
    apply State.setStr_keeps
    exact h1

theorem State.lostLine_keeps {s0 : State} {s : State} (a1 : Nat) (a2 : Nat) (h : s0.Keeps s) :
    s0.Keeps (State.lostLine s a1 a2) := by
  unfold State.lostLine
  apply State.logOnce_keeps
  apply State.count31_keeps
  exact h

theorem State.freeOne_keeps {s0 : State} {s t : State} {i : Nat} (h : s0.Keeps s) (e : s.freeOne i = some t) : s0.Keeps t := by
  unfold State.freeOne at e
  extract_lets x at e
  split at e
  · cases e
  · split at e
    · cases e
    · cases e
      split
      · exact State.lostLine_keeps _ _ (State.freeTo_keeps _ _ (State.setStr_keeps _ _ h))
      · exact State.logOnce_keeps _ _ _ _ (State.freeTo_keeps _ _ h)

theorem State.makeRoom_keeps {s0 : State} {s t : State} {i n k : Nat} (h : s0.Keeps s) (e : State.makeRoom i n k s = some t) :
    s0.Keeps t := by
  induction k generalizing s with
  | zero => cases e
  | succ k ih =>
    unfold State.makeRoom at e
    extract_lets q at e
    split at e
    · cases e; exact h
    · obtain ⟨u, hu, e⟩ := Option.bind_eq_some_iff.1 e
      exact ih (State.freeOne_keeps h hu) e

theorem State.storeLine_keeps {s0 : State} {s : State} (a1 : Nat) (a2 : QLine) (h : s0.Keeps s) :
    s0.Keeps (State.storeLine s a1 a2).1 := by
  unfold State.storeLine
  split
  · dsimp only
    apply State.lostLine_keeps
    exact h
  · extract_lets v0
    dsimp only
    apply State.setQueue_keeps
    rename_i y1 y2
    refine State.makeRoom_keeps ?_ y2
    exact h

theorem State.trimRetained_keeps {s0 : State} {s : State} (a1 : Nat) (h : s0.Keeps s) :
    s0.Keeps (State.trimRetained s a1) := by
  unfold State.trimRetained
  extract_lets v0 v1
  apply State.Keeps.foldl
  · exact h
  · intro t2 x3 h4
    apply State.setStr_keeps
    exact h4

theorem State.settleQueue_keeps {s0 : State} {s : State} (a1 : Nat) (h : s0.Keeps s) :
    s0.Keeps (State.settleQueue s a1) := by
  unfold State.settleQueue
  extract_lets v0
  apply State.Keeps.ite
  · apply State.freeTo_keeps
    exact h
  · exact h

theorem State.endFrame_keeps {s0 : State} {s : State} (a1 : Nat) (a2 : Bool) (h : s0.Keeps s) :
    s0.Keeps (State.endFrame s a1 a2) := by
  unfold State.endFrame
  extract_lets v0 v1
  have h2 : s0.Keeps v0 := by
    unfold v0
    apply State.onQueue_keeps
    · exact h
    · intro t3 h4
      exact h4
  split
  · exact h2
  · extract_lets v5 v6 v7
    have h8 : s0.Keeps v7 := by
      unfold v7
      apply State.setStr_keeps
      exact h2
    apply State.settleQueue_keeps
    apply State.trimRetained_keeps
    exact h8

theorem State.takeRing_keeps {s0 : State} {s : State} (a1 : Nat) (h : s0.Keeps s) :
    s0.Keeps (State.takeRing s a1) := by
  unfold State.takeRing
  extract_lets v0 v1 v2
  have h3 : s0.Keeps v2 := by
    unfold v2
    apply State.setStr_keeps
    exact h
  apply State.Keeps.foldl
  · exact h3
  · intro t4 x5 h6
    extract_lets v7
    apply State.Keeps.ite
    · exact h6
    · split
      · extract_lets v8
        have h9 : s0.Keeps v8 := by
          unfold v8
          apply State.Keeps.ite
          · apply State.setStr_keeps
            exact h6
          · exact h6
        apply State.freeTo_keeps
        exact h9
      · exact h6

theorem State.openRings_keeps {s0 : State} {s : State} (h : s0.Keeps s) :
    s0.Keeps (State.openRings s) := by
  unfold State.openRings
  apply State.Keeps.foldl
  · exact h
  · intro t0 x1 h2
    extract_lets v3 v4
    apply State.Keeps.ite
    · apply State.onQueue_keeps
      · exact h2
      · intro t5 h6
        apply State.takeRing_keeps
        exact h6
    · exact h2

theorem State.closeRings_keeps {s0 : State} {s : State} (h : s0.Keeps s) :
    s0.Keeps (State.closeRings s) := by
  unfold State.closeRings
  apply State.Keeps.foldl
  · exact h
  · intro t0 x1 h2
    apply State.Keeps.ite
    · apply State.onQueue_keeps
      · exact h2
      · intro t3 h4
        apply State.Keeps.ite
        · apply State.takeRing_keeps
          apply State.freeTo_keeps
          exact h4
        · exact h4
    · exact h2

theorem State.ringAtSof_keeps {s0 : State} {s : State} (a1 : Nat) (h : s0.Keeps s) :
    s0.Keeps (State.ringAtSof s a1) := by
  unfold State.ringAtSof
  apply State.Keeps.ite
  · exact h
  · apply State.openRings_keeps
    apply State.takeRing_keeps
    exact h

theorem State.flushCtrl_keeps {s0 : State} {s : State} (a1 : Nat) (a2 : Word) (h : s0.Keeps s) :
    s0.Keeps (State.flushCtrl s a1 a2) := by
  unfold State.flushCtrl
  apply State.Keeps.ite
  · apply State.setFlag_keeps
    exact h
  · exact h

theorem State.flushAtSof_keeps {s0 : State} {s : State} (a1 : Nat) (h : s0.Keeps s) :
    s0.Keeps (State.flushAtSof s a1) := by
  unfold State.flushAtSof
  extract_lets v0 v1 v2 v3 v4
  have h5 : s0.Keeps v4 := by
    unfold v4
    apply State.freeTo_keeps
    apply State.setStr_keeps
    exact h
  apply State.Keeps.ite
  · exact h
  · apply State.count31_keeps
    apply State.setFlag_keeps
    exact h5

theorem State.lstWmStat_keeps {s0 : State} {s : State} (a1 : Nat) (a2 : Word) (h : s0.Keeps s) :
    s0.Keeps (State.lstWmStat s a1 a2) := by
  unfold State.lstWmStat
  apply State.Keeps.ite
  · apply State.clearMark_keeps
    exact h
  · exact h

theorem State.uncorrectable_keeps {s0 : State} {s : State} (a1 : Nat) (a2 : Nat) (h : s0.Keeps s) :
    s0.Keeps (State.uncorrectable s a1 a2) := by
  unfold State.uncorrectable
  extract_lets v0 v1 v2
  split
  · exact h
  · extract_lets v3
    have h4 : s0.Keeps v3 := by
      unfold v3
      apply State.setStr_keeps
      exact h
    apply State.log_keeps
    apply State.setFlag_keeps
    apply State.count31_keeps
    apply State.count31_keeps
    exact h4

theorem State.markBad_keeps {s0 : State} {s : State} (a1 : Nat) (a2 : Nat) (a3 : List Nat) (h : s0.Keeps s) :
    s0.Keeps (State.markBad s a1 a2 a3) := by
  unfold State.markBad
  apply State.Keeps.foldl
  · exact h
  · intro t0 x1 h2
    extract_lets v3 v4 v5
    apply State.Keeps.ite
    · exact h2
    · apply State.setStr_keeps
      exact h2

theorem State.repairRow_keeps {s0 : State} {s : State} (a1 : Nat) (a2 : Nat) (h : s0.Keeps s) :
    s0.Keeps (State.repairRow s a1 a2) := by
  unfold State.repairRow
  extract_lets v0 v1 v2 v3 v4 v5 v6
  have h7 : s0.Keeps v1 := by
    unfold v1
    apply State.setFlag_keeps
    exact h
  have h8 : s0.Keeps v5 := by
    unfold v5
    refine State.Keeps.upd ?_ rfl rfl
    exact h
  have h9 : s0.Keeps v6 := by
    unfold v6
    apply State.setFld_keeps
    apply State.countSmall_keeps
    apply State.count31_keeps
    exact h8
  apply State.Keeps.ite
  · apply State.Keeps.ite
    · exact h7
    · apply State.log_keeps
      refine State.Keeps.upd ?_ rfl rfl
      exact h7
  · apply State.log_keeps
    exact h9

theorem State.scrubRow_keeps {s0 : State} {s : State} (a1 : RowErr) (h : s0.Keeps s) :
    s0.Keeps (State.scrubRow s a1) := by
  unfold State.scrubRow
  extract_lets v0 v1
  have h2 : s0.Keeps v0 := by
    unfold v0
    apply State.count31_keeps
    exact h
  have h3 : s0.Keeps v1 := by
    unfold v1
    apply State.Keeps.ite
    · exact h2
    · apply State.markBad_keeps
      exact h2
  apply State.Keeps.ite
  · apply State.repairRow_keeps
    exact h3
  · exact h3

theorem execScrubPass_keeps {s0 : State} (a0 : List RowErr) {s : State} (h : s0.Keeps s) :
    s0.Answers (execScrubPass a0 s) := by
  unfold execScrubPass
  apply State.Keeps.next
  apply State.whenUp_keeps
  · exact h
  · intro t0 h1
    apply State.Keeps.foldl
    · exact h1
    · intro t2 x3 h4
      apply State.scrubRow_keeps
      exact h4

theorem execLstQCtrlFlush_keeps {s0 : State} (a0 : Path) (a1 : Fin 1024) (a2 : Word) {s : State} (h : s0.Keeps s) :
    s0.Answers (execLstQCtrlFlush a0 a1 a2 s) := by
  unfold execLstQCtrlFlush
  apply State.Keeps.next
  apply State.guarded_keeps
  · exact h
  · intro t0 h1
    apply State.flushCtrl_keeps
    exact h1

theorem execLstQWmStatNoticeClear_keeps {s0 : State} (a0 : Path) (a1 : Fin 1024) (a2 : Word) {s : State} (h : s0.Keeps s) :
    s0.Answers (execLstQWmStatNoticeClear a0 a1 a2 s) := by
  unfold execLstQWmStatNoticeClear
  apply State.Keeps.next
  apply State.guarded_keeps
  · exact h
  · intro t0 h1
    apply State.lstWmStat_keeps
    exact h1

end Sys2Proof.Machine
end

