-- ==== Sys2Proof/Laws/KeepsEmit.lean ====
section
/-! SUPPORT. What the operations of Machine/Emit.lean keep (`State.Keeps`), one lemma each. -/

namespace Sys2Proof.Machine

theorem State.bondSend_keeps {s0 : State} {s : State} (a1 : Nat) (a2 : List (Bool × List Byte)) (h : s0.Keeps s) :
    s0.Keeps (State.bondSend s a1 a2) := by
  unfold State.bondSend
  extract_lets v0
  apply State.setBond_keeps
  exact h

theorem State.reportLost_keeps {s0 : State} {s : State} (a1 : Nat) (a2 : Nat) (a3 : Nat) (h : s0.Keeps s) :
    s0.Keeps (State.reportLost s a1 a2 a3) := by
  unfold State.reportLost
  extract_lets v0 v1 v2
  apply State.Keeps.ite
  · exact h
  · apply State.bondSend_keeps
    apply State.setSensor_keeps
    exact h

theorem State.trunkLine_keeps {s0 : State} {s : State} (a1 : Nat) (a2 : Nat) (a3 : OutLine) (a4 : RouteForm) (a5 : Bool) (a6 : List Byte) (h : s0.Keeps s) :
    s0.Keeps (State.trunkLine s a1 a2 a3 a4 a5 a6) := by
  unfold State.trunkLine
  split
  · exact h
  · extract_lets v0 v1 v2 v3 v4 v5 v6 v7 v8 v9 v10 v11 v12 v13
    have h14 : s0.Keeps v5 := by
      unfold v5
      apply State.Keeps.ite
      · apply State.bondSend_keeps
        apply State.setSensor_keeps
        exact h
      · exact h
    have h15 : s0.Keeps v7 := by
      unfold v7
      apply State.reportLost_keeps
      exact h14
    have h16 : s0.Keeps v13 := by
      unfold v13
      apply State.bondSend_keeps
      exact h15
    apply State.Keeps.ite
    · apply State.setSensor_keeps
      exact h14
    · apply State.setSensor_keeps
      exact h16

theorem State.trunkEof_keeps {s0 : State} {s : State} (a1 : Nat) (a2 : Nat) (a3 : Nat) (a4 : Nat) (a5 : Bool) (a6 : Bool) (h : s0.Keeps s) :
    s0.Keeps (State.trunkEof s a1 a2 a3 a4 a5 a6) := by
  unfold State.trunkEof
  apply State.Keeps.ite
  · exact h
  · apply State.bondSend_keeps
    exact h

theorem State.lineFailed_keeps {s0 : State} {s : State} (a1 : OutLine) (h : s0.Keeps s) :
    s0.Keeps (State.lineFailed s a1) := by
  unfold State.lineFailed
  extract_lets v0
  split
  · apply State.setStr_keeps
    exact h
  · exact h

theorem State.lineDone_keeps {s0 : State} {s : State} (a1 : OutLine) (h : s0.Keeps s) :
    s0.Keeps (State.lineDone s a1) := by
  unfold State.lineDone
  extract_lets v0
  split
  · apply State.setStr_keeps
    exact h
  · exact h

theorem State.dropLate_keeps {s0 : State} {s : State} (a1 : OutLine) (h : s0.Keeps s) :
    s0.Keeps (State.dropLate s a1) := by
  unfold State.dropLate
  apply State.lineFailed_keeps
  apply State.count31_keeps
  exact h

theorem State.slotSkip_keeps {s0 : State} {s : State} (a1 : OutLine) (h : s0.Keeps s) :
    s0.Keeps (State.slotSkip s a1) := by
  unfold State.slotSkip
  extract_lets v0
  split
  · apply State.Keeps.ite
    · exact h
    · apply State.setStr_keeps
      exact h
  · exact h

theorem State.emitLine_keeps {s0 : State} {s : State} (a1 : OutLine) (a2 : RouteForm) (a3 : List Byte) (h : s0.Keeps s) :
    s0.Keeps (State.emitLine s a1 a2 a3) := by
  unfold State.emitLine
  split
  · exact h
  · extract_lets v0 v1
    have h2 : s0.Keeps v1 := by
      unfold v1
      apply State.Keeps.ite
      · refine State.Keeps.upd ?_ rfl rfl
        exact h
      · exact h
    split
    · exact h2
    · extract_lets v3 v4 v5 v6 v7
      have h8 : s0.Keeps v4 := by
        unfold v4
        apply State.Keeps.ite
        · exact h2
        · apply State.slotSkip_keeps
          exact h2
      have h9 : s0.Keeps v7 := by
        unfold v7
        apply State.trunkLine_keeps
        exact h8
      apply State.Keeps.ite
      · apply State.slotSkip_keeps
        apply State.Keeps.ite
        · exact h2
        · apply State.dropLate_keeps
          exact h2
      · apply State.Keeps.ite
        · exact h9
        · split
          · apply State.setStr_keeps
            exact h9
          · exact h9

end Sys2Proof.Machine
end

