-- ==== Sys2Proof/Laws/KeepsPools.lean ====
section
/-! SUPPORT. What the operations of Machine/Pools.lean keep (`State.Keeps`), one lemma each. -/

namespace Sys2Proof.Machine

theorem State.writeBack_keeps {s0 : State} {s : State} (a1 : Nat) (a2 : Nat) (a3 : Nat) (a4 : Nat) (a5 : Nat) (h : s0.Keeps s) :
    s0.Keeps (State.writeBack s a1 a2 a3 a4 a5) := by
  unfold State.writeBack
  apply State.post_keeps
  exact h

theorem State.descRecord_keeps {s0 : State} {s : State} (a1 : Nat) (a2 : Desc) (a3 : Nat) (a4 : Nat) (a5 : Nat) (a6 : Nat) (h : s0.Keeps s) :
    s0.Keeps (State.descRecord s a1 a2 a3 a4 a5 a6) := by
  unfold State.descRecord
  apply State.Keeps.ite
  · apply State.postRec_keeps
    exact h
  · exact h

theorem State.bufRecord_keeps {s0 : State} {s : State} (a1 : HerdBuf) (a2 : Nat) (h : s0.Keeps s) :
    s0.Keeps (State.bufRecord s a1 a2) := by
  unfold State.bufRecord
  apply State.Keeps.ite
  · apply State.drawn_keeps
    apply State.descRecord_keeps
    exact h
  · exact h

theorem State.chBytes_keeps {s0 : State} {s : State} (a1 : Nat) (a2 : Nat) (h : s0.Keeps s) :
    s0.Keeps (State.chBytes s a1 a2) := by
  unfold State.chBytes
  apply State.count48_keeps
  exact h

theorem State.setPool_keeps {s0 : State} {s : State} (a1 : Nat) (a2 : PoolSt) (h : s0.Keeps s) :
    s0.Keeps (State.setPool s a1 a2) := by
  unfold State.setPool
  extract_lets v0
  refine State.Keeps.upd ?_ rfl rfl
  exact h

theorem State.poolAvail_keeps {s0 : State} {s : State} (a1 : Nat) (h : s0.Keeps s) :
    s0.Keeps (State.poolAvail s a1) := by
  unfold State.poolAvail
  extract_lets v0 v1 v2 v3 v4 v5 v6
  have h7 : s0.Keeps v2 := by
    unfold v2
    apply State.setFld_keeps
    exact h
  have h8 : s0.Keeps v3 := by
    unfold v3
    apply State.setFld_keeps
    exact h7
  have h9 : s0.Keeps v6 := by
    unfold v6
    apply State.countSmall_keeps
    apply State.setFlag_keeps
    exact h8
  apply State.Keeps.ite
  · apply State.Keeps.ite
    · apply State.raiseIrq_keeps
      exact h9
    · exact h9
  · exact h8

theorem State.poolFetch_keeps {s0 : State} {s : State} (p n : Nat) (h : s0.Keeps s) : s0.Keeps (State.poolFetch p n s) := by
  induction n generalizing s with
  | zero => exact h
  | succ n ih =>
    unfold State.poolFetch
    extract_lets x o
    split
    · exact h
    · split
      · exact h
      · rename_i t e
        exact ih (State.setPool_keeps _ _ (State.readReq_keeps h e))

theorem State.poolGo_keeps {s0 : State} {s : State} (a1 : Nat) (h : s0.Keeps s) :
    s0.Keeps (State.poolGo s a1) := by
  unfold State.poolGo
  apply State.poolFetch_keeps
  exact h

theorem State.markNoBuf_keeps {s0 : State} {s : State} (a1 : Nat) (h : s0.Keeps s) :
    s0.Keeps (State.markNoBuf s a1) := by
  unfold State.markNoBuf
  refine State.Keeps.upd ?_ rfl rfl
  exact h

theorem State.poolStop_keeps {s0 : State} {s : State} (a1 : Nat) (a2 : Nat) (h : s0.Keeps s) :
    s0.Keeps (State.poolStop s a1 a2) := by
  unfold State.poolStop
  extract_lets v0 v1 v2 v3
  have h4 : s0.Keeps v1 := by
    unfold v1
    apply State.setPool_keeps
    exact h
  have h5 : s0.Keeps v2 := by
    unfold v2
    apply State.Keeps.ite
    · apply State.markNoBuf_keeps
      exact h4
    · exact h4
  refine State.Keeps.upd ?_ rfl rfl
  exact h5

theorem State.takeBuf_keeps {s0 : State} {s : State} (ch p n need k : Nat) (h : s0.Keeps s) :
    s0.Keeps (State.takeBuf ch p n need k s).1 := by
  induction k generalizing s with
  | zero => exact h
  | succ k ih =>
    unfold State.takeBuf
    extract_lets x
    split
    · exact h
    · extract_lets t u c
      have ht : s0.Keeps t := State.setPool_keeps _ _ h
      have hu : s0.Keeps u := State.poolAvail_keeps _ (State.setFld_keeps _ _ ht)
      split
      · exact ih (State.descRecord_keeps _ _ _ _ _ _ (State.chBytes_keeps _ _ (State.writeBack_keeps _ _ _ _ _ hu)))
      · split
        · exact hu
        · exact State.setHerd_keeps _ hu

theorem State.seekBuf_keeps {s0 : State} {s : State} (a1 : Nat) (a2 : Nat) (a3 : Nat) (h : s0.Keeps s) :
    s0.Keeps (State.seekBuf s a1 a2 a3) := by
  unfold State.seekBuf
  split
  · exact h
  · split
    extract_lets v0
    have h1 : s0.Keeps v0 := by
      unfold v0
      apply State.poolGo_keeps
      rename_i y2 y3 y4
      rw [show y2 = _ from (congrArg Prod.fst y4).symm]
      split
      · apply State.takeBuf_keeps
        exact h
      · dsimp only
        exact h
    split
    · exact h1
    · apply State.Keeps.ite
      · apply State.setHerd_keeps
        exact h1
      · apply State.setHerd_keeps
        exact h1

theorem State.takeBufs_keeps {s0 : State} {s : State} (a1 : Nat) (h : s0.Keeps s) :
    s0.Keeps (State.takeBufs s a1) := by
  unfold State.takeBufs
  split
  · exact h
  · apply State.Keeps.foldl
    · exact h
    · intro t0 x1 h2
      apply State.seekBuf_keeps
      exact h2

theorem State.retryBufs_keeps {s0 : State} {s : State} (a1 : Nat) (h : s0.Keeps s) :
    s0.Keeps (State.retryBufs s a1) := by
  unfold State.retryBufs
  apply State.Keeps.foldl
  · exact h
  · intro t0 x1 h2
    apply State.Keeps.foldl
    · exact h2
    · intro t3 x4 h5
      apply State.Keeps.ite
      · apply State.seekBuf_keeps
        exact h5
      · exact h5

theorem State.poolPi_keeps {s0 : State} {s : State} (a1 : Nat) (a2 : Word) (h : s0.Keeps s) :
    s0.Keeps (State.poolPi s a1 a2) := by
  unfold State.poolPi
  extract_lets v0 v1 v2 v3 v4 v5 v6
  have h7 : s0.Keeps v4 := by
    unfold v4
    apply State.poolAvail_keeps
    apply State.setFld_keeps
    exact h
  have h8 : s0.Keeps v6 := by
    unfold v6
    apply State.setPool_keeps
    exact h7
  apply State.Keeps.ite
  · apply State.setFlag_keeps
    exact h
  · apply State.retryBufs_keeps
    apply State.poolGo_keeps
    exact h8

theorem State.poolArrive_keeps {s0 : State} {s : State} (a1 : Nat) (a2 : Nat) (a3 : List Byte) (h : s0.Keeps s) :
    s0.Keeps (State.poolArrive s a1 a2 a3) := by
  unfold State.poolArrive
  extract_lets v0 v1
  apply State.Keeps.ite
  · apply State.poolStop_keeps
    apply State.setFlag_keeps
    exact h
  · apply State.retryBufs_keeps
    apply State.setPool_keeps
    exact h

theorem State.poolFetchFail_keeps {s0 : State} {s : State} (a1 : Nat) (a2 : Nat) (h : s0.Keeps s) :
    s0.Keeps (State.poolFetchFail s a1 a2) := by
  unfold State.poolFetchFail
  extract_lets v0
  apply State.poolStop_keeps
  apply State.log_keeps
  apply State.count31_keeps
  exact h

theorem State.poolWmStat_keeps {s0 : State} {s : State} (a1 : Nat) (a2 : Word) (h : s0.Keeps s) :
    s0.Keeps (State.poolWmStat s a1 a2) := by
  unfold State.poolWmStat
  apply State.Keeps.ite
  · apply State.clearMark_keeps
    exact h
  · exact h

theorem execDmaPoolPiWrite_keeps {s0 : State} (a0 : Path) (a1 : Fin 64) (a2 : Word) {s : State} (h : s0.Keeps s) :
    s0.Answers (execDmaPoolPiWrite a0 a1 a2 s) := by
  unfold execDmaPoolPiWrite
  apply State.Keeps.next
  apply State.guarded_keeps
  · exact h
  · intro t0 h1
    apply State.poolPi_keeps
    exact h1

theorem execDmaPoolWmStatNoticeClear_keeps {s0 : State} (a0 : Path) (a1 : Fin 64) (a2 : Word) {s : State} (h : s0.Keeps s) :
    s0.Answers (execDmaPoolWmStatNoticeClear a0 a1 a2 s) := by
  unfold execDmaPoolWmStatNoticeClear
  apply State.Keeps.next
  apply State.guarded_keeps
  · exact h
  · intro t0 h1
    apply State.poolWmStat_keeps
    exact h1

end Sys2Proof.Machine
end

