-- ==== Sys2Proof/Laws/KeepsHerds.lean ====
section
/-! SUPPORT. What the operations of Machine/Herds.lean keep (`State.Keeps`), one lemma each. -/

namespace Sys2Proof.Machine

theorem State.assertWake_keeps {s0 : State} {s : State} (h : s0.Keeps s) :
    s0.Keeps (State.assertWake s) := by
  unfold State.assertWake
  extract_lets v0
  apply State.Keeps.ite
  · exact h
  · apply State.emit_keeps
    refine State.Keeps.upd ?_ rfl rfl
    exact h

theorem State.wakeHost_keeps {s0 : State} {s : State} (h : s0.Keeps s) :
    s0.Keeps (State.wakeHost s) := by
  unfold State.wakeHost
  extract_lets v0 v1 v2 v3
  have h4 : s0.Keeps v0 := by
    unfold v0
    apply State.assertWake_keeps
    exact h
  have h5 : s0.Keeps v2 := by
    unfold v2
    refine State.Keeps.upd ?_ rfl rfl
    exact h4
  have h6 : s0.Keeps v3 := by
    unfold v3
    apply State.Keeps.ite
    · apply State.emit_keeps
      apply State.setFld_keeps
      exact h5
    · exact h5
  apply State.settleWake_keeps
  exact h6

theorem State.parkStream_keeps {s0 : State} {s : State} (a1 : Nat) (a2 : Nat × OutPlace) (h : s0.Keeps s) :
    s0.Keeps (State.parkStream s a1 a2) := by
  unfold State.parkStream
  extract_lets v0 v1 v2
  split
  · exact h
  · extract_lets v3 v4 v5 v6 v7 v8
    have h9 : s0.Keeps v8 := by
      unfold v8
      refine State.Keeps.upd ?_ rfl rfl
      exact h
    apply State.Keeps.ite
    · apply State.log_keeps
      apply State.wakeHost_keeps
      exact h9
    · exact h9

theorem State.parkMeasure_keeps {s0 : State} {s : State} (a1 : Nat) (a2 : List ((Nat × OutPlace) × Nat)) (h : s0.Keeps s) :
    s0.Keeps (State.parkMeasure s a1 a2) := by
  unfold State.parkMeasure
  apply State.Keeps.ite
  · exact h
  · apply State.Keeps.foldl
    · exact h
    · intro t0 x1 h2
      apply State.parkStream_keeps
      exact h2

theorem State.herdWrites_keeps {s0 : State} {s : State} (a1 : Herd) (a2 : Nat) (a3 : Nat) (a4 : Nat) (a5 : List Byte) (h : s0.Keeps s) :
    s0.Keeps (State.herdWrites s a1 a2 a3 a4 a5) := by
  unfold State.herdWrites
  extract_lets v0 v1 v2 v3 v4
  have h5 : s0.Keeps v1 := by
    unfold v1
    apply State.Keeps.foldl
    · exact h
    · intro t6 x7 h8
      apply State.chBytes_keeps
      apply State.writeBack_keeps
      exact h8
  have h9 : s0.Keeps v2 := by
    unfold v2
    apply State.Keeps.ite
    · apply State.Keeps.foldl
      · exact h5
      · intro t10 x11 h12
        apply State.Keeps.ite
        · exact h12
        · apply State.chBytes_keeps
          apply State.post_keeps
          exact h12
    · exact h
  have h13 : s0.Keeps v3 := by
    unfold v3
    apply State.Keeps.foldl
    · exact h9
    · intro t14 x15 h16
      apply State.bufRecord_keeps
      exact h16
  apply State.Keeps.ite
  · exact h13
  · apply State.Keeps.foldl
    · exact h13
    · intro t17 x18 h19
      apply State.postRec_keeps
      exact h19

theorem State.firstHerd_keeps {s0 : State} {s : State} (h : s0.Keeps s) :
    s0.Keeps (State.firstHerd s) := by
  unfold State.firstHerd
  apply State.Keeps.ite
  · exact h
  · apply State.setFld_keeps
    exact h

theorem State.closeHerd_keeps {s0 : State} {s : State} (a1 : Nat) (a2 : Nat) (h : s0.Keeps s) :
    s0.Keeps (State.closeHerd s a1 a2) := by
  unfold State.closeHerd
  split
  · exact h
  · extract_lets v0 v1 v2 v3 v4 v5
    have h6 : s0.Keeps v3 := by
      unfold v3
      apply State.herdWrites_keeps
      apply State.firstHerd_keeps
      exact h
    have h7 : s0.Keeps v4 := by
      unfold v4
      apply State.Keeps.ite
      · exact h
      · apply State.Keeps.ite
        · apply State.count48_keeps
          exact h6
        · exact h6
    have h8 : s0.Keeps v5 := by
      unfold v5
      split
      · apply State.setHerd_keeps
        exact h7
      · exact h7
    apply State.Keeps.ite
    · exact h
    · apply State.parkMeasure_keeps
      exact h8

theorem State.settleHerds_keeps {s0 : State} {s : State} (h : s0.Keeps s) :
    s0.Keeps (State.settleHerds s) := by
  unfold State.settleHerds
  apply State.Keeps.foldl
  · exact h
  · intro t0 x1 h2
    apply State.Keeps.ite
    · apply State.closeHerd_keeps
      exact h2
    · exact h2

theorem State.herdDeadline_keeps {s0 : State} {s : State} (a1 : Nat) (h : s0.Keeps s) :
    s0.Keeps (State.herdDeadline s a1) := by
  unfold State.herdDeadline
  split
  · apply State.Keeps.ite
    · exact h
    · apply State.closeHerd_keeps
      apply State.advance_keeps
      exact h
  · exact h

theorem State.writeLine_keeps {s0 : State} {s : State} (a1 : OutLine) (a2 : OutPlace) (a3 : HerdBuf) (a4 : Bool) (h : s0.Keeps s) :
    s0.Keeps (State.writeLine s a1 a2 a3 a4) := by
  unfold State.writeLine
  extract_lets v0 v1 v2 v3 v4 v5 v6
  have h7 : s0.Keeps v3 := by
    unfold v3
    apply State.post_keeps
    exact h
  have h8 : s0.Keeps v6 := by
    unfold v6
    apply State.Keeps.ite
    · apply State.chBytes_keeps
      apply State.post_keeps
      exact h7
    · exact h7
  apply State.lineDone_keeps
  apply State.count48_keeps
  apply State.chBytes_keeps
  exact h8

theorem State.lineUnsent_keeps {s0 : State} {s : State} (a1 : OutLine) (a2 : Herd) (a3 : Nat) (h : s0.Keeps s) :
    s0.Keeps (State.lineUnsent s a1 a2 a3) := by
  unfold State.lineUnsent
  extract_lets v0
  have h1 : s0.Keeps v0 := by
    unfold v0
    apply State.count31_keeps
    exact h
  apply State.Keeps.ite
  · apply State.lineDone_keeps
    exact h1
  · apply State.lineFailed_keeps
    exact h1

theorem State.commitLine_keeps {s0 : State} {s : State} (a1 : OutLine) (h : s0.Keeps s) :
    s0.Keeps (State.commitLine s a1) := by
  unfold State.commitLine
  split
  · extract_lets v0
    apply State.Keeps.ite
    · exact h
    · apply State.Keeps.ite
      · apply State.dropLate_keeps
        exact h
      · apply State.Keeps.ite
        · apply State.lineFailed_keeps
          apply State.count31_keeps
          exact h
        · apply State.Keeps.ite
          · apply State.lineUnsent_keeps
            exact h
          · split
            · apply State.lineFailed_keeps
              apply State.count31_keeps
              exact h
            · apply State.writeLine_keeps
              exact h
  · apply State.lineFailed_keeps
    apply State.count31_keeps
    exact h
  · exact h

theorem State.lineCommit_keeps {s0 : State} {s : State} (a1 : Nat) (h : s0.Keeps s) :
    s0.Keeps (State.lineCommit s a1) := by
  unfold State.lineCommit
  split
  · exact h
  · extract_lets v0 v1
    have h2 : s0.Keeps v1 := by
      unfold v1
      refine State.Keeps.upd ?_ rfl rfl
      exact h
    apply State.settleHerds_keeps
    apply State.commitLine_keeps
    exact h2

theorem execHerdDeadline_keeps {s0 : State} (a0 : Nat) {s : State} (h : s0.Keeps s) :
    s0.Answers (execHerdDeadline a0 s) := by
  unfold execHerdDeadline
  apply State.Keeps.next
  apply State.whenUp_keeps
  · exact h
  · intro t0 h1
    apply State.herdDeadline_keeps
    exact h1

theorem execLineCommit_keeps {s0 : State} (a0 : Fin 256) {s : State} (h : s0.Keeps s) :
    s0.Answers (execLineCommit a0 s) := by
  unfold execLineCommit
  apply State.Keeps.next
  apply State.whenUp_keeps
  · exact h
  · intro t0 h1
    apply State.lineCommit_keeps
    exact h1

end Sys2Proof.Machine
end

