-- ==== Sys2Proof/Laws/KeepsChannels.lean ====
section
/-! SUPPORT. What the operations of Machine/Channels.lean keep (`State.Keeps`), one lemma each. -/

namespace Sys2Proof.Machine

theorem State.setChan_keeps {s0 : State} {s : State} (a1 : Nat) (a2 : ChanSt) (h : s0.Keeps s) :
    s0.Keeps (State.setChan s a1 a2) := by
  unfold State.setChan
  extract_lets v0
  refine State.Keeps.upd ?_ rfl rfl
  exact h

theorem State.setChState_keeps {s0 : State} {s : State} (a1 : Nat) (a2 : Nat) (h : s0.Keeps s) :
    s0.Keeps (State.setChState s a1 a2) := by
  unfold State.setChState
  apply State.setFld_keeps
  exact h

theorem State.chBarred_keeps {s0 : State} {s : State} (a1 : Nat) (h : s0.Keeps s) :
    s0.Keeps (State.chBarred s a1) := by
  unfold State.chBarred
  apply State.Keeps.ite
  · exact h
  · apply State.log_keeps
    apply State.setFlag_keeps
    exact h

theorem State.chRej_keeps {s0 : State} {s : State} (a1 : Nat) (h : s0.Keeps s) :
    s0.Keeps (State.chRej s a1) := by
  unfold State.chRej
  apply State.setFlag_keeps
  exact h

theorem State.chWrite_keeps {s0 : State} {s : State} (a1 : Nat) (a2 : State → State) (h : s0.Keeps s) (g2 : ∀ t, s0.Keeps t → s0.Keeps (a2 t)) :
    s0.Keeps (State.chWrite s a1 a2) := by
  unfold State.chWrite
  apply State.Keeps.ite
  · apply State.chBarred_keeps
    exact h
  · apply g2
    exact h

theorem State.chDiscard_keeps {s0 : State} {s : State} (a1 : Nat) (h : s0.Keeps s) :
    s0.Keeps (State.chDiscard s a1) := by
  unfold State.chDiscard
  extract_lets v0
  refine State.Keeps.upd ?_ rfl rfl
  exact h

theorem State.chTidy_keeps {s0 : State} {s : State} (a1 : Nat) (h : s0.Keeps s) :
    s0.Keeps (State.chTidy s a1) := by
  unfold State.chTidy
  extract_lets v0
  apply State.Keeps.ite
  · apply State.setChState_keeps
    exact h
  · exact h

theorem State.chRecord_keeps {s0 : State} {s : State} (a1 : Nat) (a2 : Nat) (a3 : Nat) (h : s0.Keeps s) :
    s0.Keeps (State.chRecord s a1 a2 a3) := by
  unfold State.chRecord
  extract_lets v0
  apply State.postRec_keeps
  exact h

theorem State.chHalt_keeps {s0 : State} {s : State} (a1 : Nat) (a2 : Nat) (h : s0.Keeps s) :
    s0.Keeps (State.chHalt s a1 a2) := by
  unfold State.chHalt
  extract_lets v0
  have h1 : s0.Keeps v0 := by
    unfold v0
    apply State.setFld_keeps
    apply State.setChState_keeps
    exact h
  apply State.chRecord_keeps
  apply State.chDiscard_keeps
  exact h1

theorem State.grzBytes_keeps {s0 : State} {s : State} (a1 : Nat) (a2 : List Byte) (a3 : Bool) (h : s0.Keeps s) :
    s0.Keeps (State.grzBytes s a1 a2 a3) := by
  unfold State.grzBytes
  extract_lets v0 v1 v2 v3 v4 v5
  have h6 : s0.Keeps v0 := by
    unfold v0
    apply State.Keeps.foldl
    · exact h
    · intro t7 x8 h9
      extract_lets v10
      apply State.setReg_keeps
      exact h9
  refine State.Keeps.upd ?_ rfl rfl
  exact h6

theorem State.intWrite_keeps {s0 : State} {s : State} (a1 : Nat) (a2 : List Byte) (a3 : Bool) (h : s0.Keeps s) :
    s0.Keeps (State.intWrite s a1 a2 a3) := by
  unfold State.intWrite
  apply State.Keeps.ite
  · exact h
  · apply State.Keeps.ite
    · apply State.grzBytes_keeps
      exact h
    · apply State.tblWrite_keeps
      exact h

theorem State.hostPut_keeps {s0 : State} {s : State} (a1 : Nat) (a2 : Desc) (a3 : Nat) (a4 : List Byte) (a5 : Nat → Bool) (h : s0.Keeps s) :
    s0.Keeps (State.hostPut s a1 a2 a3 a4 a5) := by
  unfold State.hostPut
  extract_lets v0 v1 v2 v3
  have h4 : s0.Keeps v2 := by
    unfold v2
    apply State.exitL1_keeps
    exact h
  have h5 : s0.Keeps v3 := by
    unfold v3
    apply State.Keeps.ite
    · apply State.Keeps.foldl
      · exact h4
      · intro t6 x7 h8
        apply State.emit_keeps
        exact h8
    · apply State.Keeps.foldl
      · exact h4
      · intro t9 x10 h11
        apply State.emit_keeps
        exact h11
  apply State.chBytes_keeps
  exact h5

theorem State.intPut_keeps {s0 : State} {s : State} (a1 : Desc) (a2 : Nat) (a3 : List Byte) (a4 : Bool) (h : s0.Keeps s) :
    s0.Keeps (State.intPut s a1 a2 a3 a4) := by
  unfold State.intPut
  apply State.Keeps.ite
  · apply State.Keeps.foldl
    · exact h
    · intro t0 x1 h2
      apply State.intWrite_keeps
      exact h2
  · apply State.intWrite_keeps
    exact h

theorem State.chRunSet_keeps {s0 : State} {s : State} (a1 : Nat) (a2 : DescRun) (h : s0.Keeps s) :
    s0.Keeps (State.chRunSet s a1 a2) := by
  unfold State.chRunSet
  extract_lets v0
  apply State.setReg_keeps
  apply State.setChan_keeps
  exact h

theorem State.chGrant_keeps {s0 : State} {s : State} (a1 : Nat) (a2 : DescRun) (h : s0.Keeps s) :
    s0.Keeps (State.chGrant s a1 a2).1 := by
  unfold State.chGrant
  extract_lets v0 v1
  split
  · dsimp only
    apply State.setFld_keeps
    exact h
  · dsimp only
    exact h

theorem State.chSpend_keeps {s0 : State} {s : State} (a1 : Nat) (a2 : Nat) (h : s0.Keeps s) :
    s0.Keeps (State.chSpend s a1 a2) := by
  unfold State.chSpend
  extract_lets v0
  apply State.Keeps.ite
  · exact h
  · apply State.setChan_keeps
    exact h

theorem State.chPush_keeps {s0 : State} {s : State} (a1 : Nat) (a2 : DescRun) (h : s0.Keeps s) :
    s0.Keeps (State.chPush s a1 a2) := by
  unfold State.chPush
  extract_lets v0 v1 v2 v3 v4 v5
  have h6 : s0.Keeps v5 := by
    unfold v5
    apply State.chSpend_keeps
    exact h
  apply State.Keeps.ite
  · exact h6
  · split
    · apply State.chRunSet_keeps
      apply State.hostPut_keeps
      exact h6
    · apply State.chRunSet_keeps
      apply State.hostPut_keeps
      exact h6
    · apply State.chRunSet_keeps
      apply State.intPut_keeps
      exact h6

theorem State.chAsk_keeps {s0 : State} {s : State} (c n : Nat) (h : s0.Keeps s) : s0.Keeps (State.chAsk c n s) := by
  induction n generalizing s with
  | zero => exact h
  | succ n ih =>
    unfold State.chAsk
    split
    · exact h
    · extract_lets upTo stop
      split
      · exact h
      · dsimp only
        split
        · exact h
        · exact ih (State.setChan_keeps _ _ (State.chSpend_keeps _ _ (State.readReq_keeps h (by assumption))))

theorem State.chSettle_keeps {s0 : State} {s : State} (a1 : Nat) (h : s0.Keeps s) :
    s0.Keeps (State.chSettle s a1) := by
  unfold State.chSettle
  split
  · extract_lets v0
    apply State.Keeps.ite
    · apply State.setChan_keeps
      exact h
    · exact h
  · exact h

theorem State.chMove_keeps {s0 : State} {s : State} (a1 : Nat) (h : s0.Keeps s) :
    s0.Keeps (State.chMove s a1) := by
  unfold State.chMove
  split
  · apply State.Keeps.ite
    · exact h
    · split
      extract_lets v0 v1
      have h2 : s0.Keeps v1 := by
        unfold v1
        apply State.setChan_keeps
        rename_i y3 y4 y5
        rw [show y3 = _ from (congrArg Prod.fst y5).symm]
        apply State.chGrant_keeps
        exact h
      apply State.chSettle_keeps
      apply State.Keeps.ite
      · apply State.chAsk_keeps
        exact h2
      · apply State.chPush_keeps
        exact h2
  · exact h

theorem State.chFetch_keeps {s0 : State} {s : State} (c : Nat) (h : s0.Keeps s) : s0.Keeps (s.chFetch c) := by
  unfold State.chFetch
  extract_lets x
  split
  · refine State.chTidy_keeps _ ?_
    cases e : s.readReq (.fetchCh c (s.fld (F.DMA_CH_CI_IDX c))) (s.chFetchAt c) 32 with
    | none => exact h
    | some t => exact State.readReq_keeps h e
  · exact State.chTidy_keeps _ h

theorem State.chGo_keeps {s0 : State} {s : State} (a1 : Nat) (h : s0.Keeps s) :
    s0.Keeps (State.chGo s a1) := by
  unfold State.chGo
  apply State.chFetch_keeps
  apply State.chMove_keeps
  exact h

theorem State.kick_keeps {s0 : State} {s : State} (h : s0.Keeps s) :
    s0.Keeps (State.kick s) := by
  unfold State.kick
  extract_lets v0
  have h1 : s0.Keeps v0 := by
    unfold v0
    apply State.Keeps.foldl
    · exact h
    · intro t2 x3 h4
      apply State.Keeps.ite
      · apply State.chGo_keeps
        exact h4
      · exact h4
  apply State.Keeps.foldl
  · exact h1
  · intro t5 x6 h7
    apply State.poolGo_keeps
    exact h7

theorem State.chBegin_keeps {s0 : State} {s : State} (a1 : Nat) (a2 : Desc) (a3 : Option Nat) (a4 : Option (Nat × Nat)) (h : s0.Keeps s) :
    s0.Keeps (State.chBegin s a1 a2 a3 a4) := by
  unfold State.chBegin
  extract_lets v0 v1 v2 v3
  have h4 : s0.Keeps v1 := by
    unfold v1
    apply State.setChan_keeps
    exact h
  have h5 : s0.Keeps v2 := by
    unfold v2
    apply State.setFld_keeps
    exact h4
  have h6 : s0.Keeps v3 := by
    unfold v3
    apply State.setPair_keeps
    exact h5
  apply State.chRunSet_keeps
  exact h6

theorem State.chStart_keeps {s0 : State} {s : State} (a1 : Nat) (a2 : Nat) (a3 : Option Nat) (h : s0.Keeps s) :
    s0.Keeps (State.chStart s a1 a2 a3) := by
  unfold State.chStart
  split
  · exact h
  · extract_lets v0 v1 v2 v3
    have h4 : s0.Keeps v2 := by
      unfold v2
      apply State.chBegin_keeps
      apply State.setFld_keeps
      exact h
    apply State.Keeps.ite
    · exact h
    · apply State.Keeps.ite
      · apply State.chBegin_keeps
        exact h
      · split
        · apply State.Keeps.ite
          · apply State.chHalt_keeps
            exact h
          · apply State.setChan_keeps
            exact h4
        · apply State.chBegin_keeps
          exact h
        · apply State.chMove_keeps
          apply State.chBegin_keeps
          apply State.setFld_keeps
          exact h

theorem State.chArrive_keeps {s0 : State} {s : State} (a1 : Nat) (a2 : Nat) (a3 : List Byte) (h : s0.Keeps s) :
    s0.Keeps (State.chArrive s a1 a2 a3) := by
  unfold State.chArrive
  extract_lets v0 v1 v2
  have h3 : s0.Keeps v2 := by
    unfold v2
    apply State.setChan_keeps
    exact h
  apply State.Keeps.ite
  · apply State.chTidy_keeps
    apply State.setChan_keeps
    apply State.setFlag_keeps
    exact h
  · apply State.Keeps.ite
    · apply State.chBegin_keeps
      exact h3
    · exact h3

theorem State.chReport_keeps {s0 : State} {s : State} (a1 : Nat) (a2 : Desc) (a3 : Nat) (a4 : Nat) (a5 : Nat) (a6 : Nat) (h : s0.Keeps s) :
    s0.Keeps (State.chReport s a1 a2 a3 a4 a5 a6) := by
  unfold State.chReport
  apply State.descRecord_keeps
  apply State.chBytes_keeps
  apply State.writeBack_keeps
  exact h

theorem State.chRetire_keeps {s0 : State} {s : State} (a1 : Nat) (a2 : DescRun) (a3 : Nat × Nat) (h : s0.Keeps s) :
    s0.Keeps (State.chRetire s a1 a2 a3) := by
  unfold State.chRetire
  extract_lets v0 v1 v2
  have h3 : s0.Keeps v1 := by
    unfold v1
    apply State.setChan_keeps
    exact h
  have h4 : s0.Keeps v2 := by
    unfold v2
    apply State.Keeps.ite
    · apply State.count31_keeps
      exact h3
    · exact h3
  apply State.chReport_keeps
  exact h4

theorem State.chDone_keeps {s0 : State} {s : State} (a1 : Nat) (h : s0.Keeps s) :
    s0.Keeps (State.chDone s a1) := by
  unfold State.chDone
  split
  · split
    · apply State.Keeps.ite
      · apply State.chFetch_keeps
        apply State.chRetire_keeps
        exact h
      · exact h
    · exact h
  · exact h

theorem State.chAbsorb_keeps {s0 : State} {s : State} (c n : Nat) (h : s0.Keeps s) : s0.Keeps (State.chAbsorb c n s) := by
  induction n generalizing s with
  | zero => exact h
  | succ n ih =>
    unfold State.chAbsorb
    split
    · exact h
    · split
      · exact h
      · extract_lets rest
        split
        · split
          · split
            · exact h
            · exact ih (State.chRunSet_keeps _ _ h)
          · exact ih (State.chRunSet_keeps _ _ (State.intPut_keeps _ _ _ _ h))
        · exact ih (State.chRunSet_keeps _ _ h)

theorem State.chData_keeps {s0 : State} {s : State} (a1 : Nat) (a2 : Nat) (a3 : List Byte) (a4 : Bool) (h : s0.Keeps s) :
    s0.Keeps (State.chData s a1 a2 a3 a4) := by
  unfold State.chData
  split
  · exact h
  · extract_lets v0 v1 v2 v3
    have h4 : s0.Keeps v2 := by
      unfold v2
      apply State.Keeps.ite
      · apply State.intPut_keeps
        exact h
      · exact h
    apply State.chAbsorb_keeps
    apply State.setChan_keeps
    exact h4

theorem State.chFail_keeps {s0 : State} {s : State} (a1 : Nat) (a2 : Nat) (a3 : Nat) (h : s0.Keeps s) :
    s0.Keeps (State.chFail s a1 a2 a3) := by
  unfold State.chFail
  split
  · exact h
  · extract_lets v0 v1
    apply State.setChan_keeps
    exact h

theorem State.readFailed_keeps {s0 : State} {s : State} (a1 : TagUse) (a2 : Nat) (a3 : Nat) (h : s0.Keeps s) :
    s0.Keeps (State.readFailed s a1 a2 a3) := by
  unfold State.readFailed
  split
  · apply State.chHalt_keeps
    exact h
  · apply State.poolFetchFail_keeps
    exact h
  · apply State.chSettle_keeps
    apply State.chFail_keeps
    exact h

theorem State.tagAnswer_keeps {s0 : State} {s : State} (a1 : TagSt) (a2 : CplStatus) (a3 : List Byte) (a4 : Bool) (h : s0.Keeps s) :
    s0.Keeps (State.tagAnswer s a1 a2 a3 a4) := by
  unfold State.tagAnswer
  split
  · extract_lets v0 v1 v2 v3
    have h4 : s0.Keeps v3 := by
      unfold v3
      clear_value v1
      split
      · refine State.Keeps.upd ?_ rfl rfl
        exact h
      · apply State.freeTag_keeps
        exact h
    apply State.Keeps.ite
    · exact h4
    · split
      · apply State.chSettle_keeps
        apply State.chData_keeps
        apply State.Keeps.ite
        · apply State.aerTlp_keeps
          exact h4
        · exact h4
      · apply State.readFailed_keeps
        exact h4
      · apply State.readFailed_keeps
        exact h4
  · extract_lets v5
    have h6 : s0.Keeps v5 := by
      unfold v5
      apply State.freeTag_keeps
      exact h
    apply State.Keeps.ite
    · exact h6
    · apply State.Keeps.ite
      · apply State.readFailed_keeps
        exact h6
      · apply State.Keeps.ite
        · apply State.chHalt_keeps
          apply State.aerTlp_keeps
          exact h6
        · apply State.chArrive_keeps
          exact h6
  · extract_lets v7
    have h8 : s0.Keeps v7 := by
      unfold v7
      apply State.freeTag_keeps
      exact h
    apply State.Keeps.ite
    · exact h8
    · apply State.Keeps.ite
      · apply State.readFailed_keeps
        exact h8
      · apply State.Keeps.ite
        · apply State.poolFetchFail_keeps
          apply State.aerTlp_keeps
          exact h8
        · apply State.poolArrive_keeps
          exact h8

theorem State.completion_keeps {s0 : State} {s : State} (a1 : Nat) (a2 : CplStatus) (a3 : List Byte) (a4 : Bool) (h : s0.Keeps s) :
    s0.Keeps (State.completion s a1 a2 a3 a4) := by
  unfold State.completion
  split
  · apply State.kick_keeps
    apply State.tagAnswer_keeps
    exact h
  · apply State.Keeps.ite
    · apply State.count31_keeps
      exact h
    · apply State.aerTlp_keeps
      apply State.count31_keeps
      exact h

theorem State.completionTimeout_keeps {s0 : State} {s : State} (a1 : Nat) (h : s0.Keeps s) :
    s0.Keeps (State.completionTimeout s a1) := by
  unfold State.completionTimeout
  split
  · extract_lets v0
    have h1 : s0.Keeps v0 := by
      unfold v0
      apply State.freeTag_keeps
      exact h
    apply State.kick_keeps
    apply State.Keeps.ite
    · exact h1
    · apply State.readFailed_keeps
      apply State.aer_keeps
      exact h1
  · exact h

theorem State.chPi_keeps {s0 : State} {s : State} (a1 : Nat) (a2 : Word) (h : s0.Keeps s) :
    s0.Keeps (State.chPi s a1 a2) := by
  unfold State.chPi
  extract_lets v0 v1 v2 v3 v4
  have h5 : s0.Keeps v3 := by
    unfold v3
    apply State.setFld_keeps
    exact h
  apply State.Keeps.ite
  · apply State.setFld_keeps
    exact h
  · apply State.Keeps.ite
    · apply State.setFlag_keeps
      exact h
    · apply State.chFetch_keeps
      apply State.setChan_keeps
      exact h5

theorem State.chRing_keeps {s0 : State} {s : State} (a1 : Nat) (a2 : Nat) (a3 : Word) (h : s0.Keeps s) :
    s0.Keeps (State.chRing s a1 a2 a3) := by
  unfold State.chRing
  apply State.Keeps.ite
  · apply State.chRej_keeps
    exact h
  · apply State.plainWrite_keeps
    exact h

theorem State.chCfg_keeps {s0 : State} {s : State} (a1 : Nat) (a2 : Word) (h : s0.Keeps s) :
    s0.Keeps (State.chCfg s a1 a2) := by
  unfold State.chCfg
  extract_lets v0 v1 v2 v3
  have h4 : s0.Keeps v2 := by
    unfold v2
    apply State.setChState_keeps
    apply State.plainWrite_keeps
    exact h
  have h5 : s0.Keeps v3 := by
    unfold v3
    apply State.plainWrite_keeps
    exact h
  apply State.Keeps.ite
  · apply State.Keeps.ite
    · apply State.setChan_keeps
      apply State.setFld_keeps
      exact h4
    · apply State.chRej_keeps
      exact h
  · apply State.Keeps.ite
    · exact h5
    · apply State.chFetch_keeps
      apply State.setChan_keeps
      apply State.setFld_keeps
      apply State.setChState_keeps
      exact h5

theorem State.chPause_keeps {s0 : State} {s : State} (a1 : Nat) (h : s0.Keeps s) :
    s0.Keeps (State.chPause s a1) := by
  unfold State.chPause
  apply State.Keeps.ite
  · apply State.setChState_keeps
    exact h
  · exact h

theorem State.chPausedNow_keeps {s0 : State} {s : State} (a1 : Nat) (h : s0.Keeps s) :
    s0.Keeps (State.chPausedNow s a1) := by
  unfold State.chPausedNow
  apply State.Keeps.ite
  · apply State.chRecord_keeps
    apply State.setChState_keeps
    apply State.chDone_keeps
    exact h
  · exact h

theorem State.chResume_keeps {s0 : State} {s : State} (a1 : Nat) (h : s0.Keeps s) :
    s0.Keeps (State.chResume s a1) := by
  unfold State.chResume
  apply State.Keeps.ite
  · apply State.chGo_keeps
    apply State.setChState_keeps
    exact h
  · apply State.Keeps.ite
    · apply State.chGo_keeps
      apply State.chRecord_keeps
      apply State.setChState_keeps
      exact h
    · exact h

theorem State.chAbort_keeps {s0 : State} {s : State} (a1 : Nat) (h : s0.Keeps s) :
    s0.Keeps (State.chAbort s a1) := by
  unfold State.chAbort
  extract_lets v0 v1 v2 v3
  have h4 : s0.Keeps v1 := by
    unfold v1
    apply State.chDiscard_keeps
    exact h
  have h5 : s0.Keeps v2 := by
    unfold v2
    split
    · split
      · apply State.chRetire_keeps
        apply State.setFld_keeps
        exact h4
      · apply State.chRetire_keeps
        apply State.setFld_keeps
        exact h4
    · apply State.setFld_keeps
      exact h4
  apply State.Keeps.ite
  · apply State.chRecord_keeps
    apply State.setChState_keeps
    apply State.setChan_keeps
    exact h5
  · apply State.setFld_keeps
    exact h

theorem State.chReq_keeps {s0 : State} {s : State} (a1 : Nat) (h : s0.Keeps s) :
    s0.Keeps (State.chReq s a1) := by
  unfold State.chReq
  apply State.Keeps.ite
  · apply State.chMove_keeps
    apply State.paceRequest_keeps
    exact h
  · exact h

theorem State.chCtrl_keeps {s0 : State} {s : State} (a1 : Nat) (a2 : Word) (h : s0.Keeps s) :
    s0.Keeps (State.chCtrl s a1 a2) := by
  unfold State.chCtrl
  extract_lets v0 v1
  have h2 : s0.Keeps v0 := by
    unfold v0
    apply State.Keeps.ite
    · apply State.chPause_keeps
      exact h
    · exact h
  have h3 : s0.Keeps v1 := by
    unfold v1
    apply State.Keeps.ite
    · apply State.chAbort_keeps
      exact h
    · apply State.Keeps.ite
      · apply State.chResume_keeps
        exact h2
      · exact h2
  apply State.Keeps.ite
  · apply State.chReq_keeps
    exact h3
  · exact h3

theorem State.paceMoves_keeps {s0 : State} {s : State} (h : s0.Keeps s) :
    s0.Keeps (State.paceMoves s) := by
  unfold State.paceMoves
  apply State.Keeps.foldl
  · exact h
  · intro t0 x1 h2
    apply State.Keeps.ite
    · apply State.chMove_keeps
      exact h2
    · exact h2

theorem execCmpMatch_keeps {s0 : State} (a0 : Fin 64) {s : State} (h : s0.Keeps s) :
    s0.Answers (execCmpMatch a0 s) := by
  unfold execCmpMatch
  apply State.Keeps.next
  apply State.whenUp_keeps
  · exact h
  · intro t0 h1
    apply State.paceMoves_keeps
    apply State.cmpMatch_keeps
    exact h1

theorem execTimeAdjApply_keeps {s0 : State} {s : State} (h : s0.Keeps s) :
    s0.Answers (execTimeAdjApply s) := by
  unfold execTimeAdjApply
  apply State.Keeps.next
  apply State.whenUp_keeps
  · exact h
  · intro t0 h1
    apply State.paceMoves_keeps
    apply State.applyAdj_keeps
    exact h1

theorem execDmaChPiWrite_keeps {s0 : State} (a0 : Path) (a1 : Fin 256) (a2 : Word) {s : State} (h : s0.Keeps s) :
    s0.Answers (execDmaChPiWrite a0 a1 a2 s) := by
  unfold execDmaChPiWrite
  apply State.Keeps.next
  apply State.guarded_keeps
  · exact h
  · intro t0 h1
    apply State.chWrite_keeps
    · exact h1
    · intro t2 h3
      apply State.chPi_keeps
      exact h3

theorem execDmaChCfgWrite_keeps {s0 : State} (a0 : Path) (a1 : Fin 256) (a2 : Word) {s : State} (h : s0.Keeps s) :
    s0.Answers (execDmaChCfgWrite a0 a1 a2 s) := by
  unfold execDmaChCfgWrite
  apply State.Keeps.next
  apply State.guarded_keeps
  · exact h
  · intro t0 h1
    apply State.chWrite_keeps
    · exact h1
    · intro t2 h3
      apply State.chCfg_keeps
      exact h3

theorem execH2i_keeps {s0 : State} (a0 : Fin 256) {s : State} (h : s0.Keeps s) :
    s0.Answers (execH2i a0 s) := by
  unfold execH2i
  apply State.Keeps.next
  apply State.whenUp_keeps
  · exact h
  · intro t0 h1
    apply State.chStart_keeps
    exact h1

theorem execI2h_keeps {s0 : State} (a0 : Fin 256) (a1 : Option Nat) {s : State} (h : s0.Keeps s) :
    s0.Answers (execI2h a0 a1 s) := by
  unfold execI2h
  apply State.Keeps.next
  apply State.whenUp_keeps
  · exact h
  · intro t0 h1
    apply State.chStart_keeps
    exact h1

theorem execFillH_keeps {s0 : State} (a0 : Fin 256) {s : State} (h : s0.Keeps s) :
    s0.Answers (execFillH a0 s) := by
  unfold execFillH
  apply State.Keeps.next
  apply State.whenUp_keeps
  · exact h
  · intro t0 h1
    apply State.chStart_keeps
    exact h1

theorem execFillI_keeps {s0 : State} (a0 : Fin 256) {s : State} (h : s0.Keeps s) :
    s0.Answers (execFillI a0 s) := by
  unfold execFillI
  apply State.Keeps.next
  apply State.whenUp_keeps
  · exact h
  · intro t0 h1
    apply State.chStart_keeps
    exact h1

theorem execCompare_keeps {s0 : State} (a0 : Fin 256) (a1 : Option Nat) {s : State} (h : s0.Keeps s) :
    s0.Answers (execCompare a0 a1 s) := by
  unfold execCompare
  apply State.Keeps.next
  apply State.whenUp_keeps
  · exact h
  · intro t0 h1
    apply State.chStart_keeps
    exact h1

theorem execLink_keeps {s0 : State} (a0 : Fin 256) {s : State} (h : s0.Keeps s) :
    s0.Answers (execLink a0 s) := by
  unfold execLink
  apply State.Keeps.next
  apply State.whenUp_keeps
  · exact h
  · intro t0 h1
    apply State.chStart_keeps
    exact h1

theorem execNop_keeps {s0 : State} (a0 : Fin 256) {s : State} (h : s0.Keeps s) :
    s0.Answers (execNop a0 s) := by
  unfold execNop
  apply State.Keeps.next
  apply State.whenUp_keeps
  · exact h
  · intro t0 h1
    apply State.chStart_keeps
    exact h1

theorem execDescriptorDone_keeps {s0 : State} (a0 : Fin 256) {s : State} (h : s0.Keeps s) :
    s0.Answers (execDescriptorDone a0 s) := by
  unfold execDescriptorDone
  apply State.Keeps.next
  apply State.whenUp_keeps
  · exact h
  · intro t0 h1
    apply State.chDone_keeps
    exact h1

theorem execPause_keeps {s0 : State} (a0 : Path) (a1 : Fin 256) (a2 : Word) {s : State} (h : s0.Keeps s) :
    s0.Answers (execPause a0 a1 a2 s) := by
  unfold execPause
  apply State.Keeps.next
  apply State.guarded_keeps
  · exact h
  · intro t0 h1
    apply State.chWrite_keeps
    · exact h1
    · intro t2 h3
      apply State.chCtrl_keeps
      exact h3

theorem execDmaPaused_keeps {s0 : State} (a0 : Fin 256) {s : State} (h : s0.Keeps s) :
    s0.Answers (execDmaPaused a0 s) := by
  unfold execDmaPaused
  apply State.Keeps.next
  apply State.whenUp_keeps
  · exact h
  · intro t0 h1
    apply State.chPausedNow_keeps
    exact h1

theorem execResume_keeps {s0 : State} (a0 : Path) (a1 : Fin 256) (a2 : Word) {s : State} (h : s0.Keeps s) :
    s0.Answers (execResume a0 a1 a2 s) := by
  unfold execResume
  apply State.Keeps.next
  apply State.guarded_keeps
  · exact h
  · intro t0 h1
    apply State.chWrite_keeps
    · exact h1
    · intro t2 h3
      apply State.chCtrl_keeps
      exact h3

theorem execAbort_keeps {s0 : State} (a0 : Path) (a1 : Fin 256) (a2 : Word) {s : State} (h : s0.Keeps s) :
    s0.Answers (execAbort a0 a1 a2 s) := by
  unfold execAbort
  apply State.Keeps.next
  apply State.guarded_keeps
  · exact h
  · intro t0 h1
    apply State.chWrite_keeps
    · exact h1
    · intro t2 h3
      apply State.chCtrl_keeps
      exact h3

theorem execReq_keeps {s0 : State} (a0 : Path) (a1 : Fin 256) (a2 : Word) {s : State} (h : s0.Keeps s) :
    s0.Answers (execReq a0 a1 a2 s) := by
  unfold execReq
  apply State.Keeps.next
  apply State.guarded_keeps
  · exact h
  · intro t0 h1
    apply State.chWrite_keeps
    · exact h1
    · intro t2 h3
      apply State.chCtrl_keeps
      exact h3

theorem execCompletionReceive_keeps {s0 : State} (a0 : Nat) (a1 : CplStatus) (a2 : List Byte) (a3 : Bool) {s : State} (h : s0.Keeps s) :
    s0.Answers (execCompletionReceive a0 a1 a2 a3 s) := by
  unfold execCompletionReceive
  apply State.Keeps.next
  apply State.whenUp_keeps
  · exact h
  · intro t0 h1
    apply State.completion_keeps
    exact h1

theorem execCompletionTimeout_keeps {s0 : State} (a0 : Nat) {s : State} (h : s0.Keeps s) :
    s0.Answers (execCompletionTimeout a0 s) := by
  unfold execCompletionTimeout
  apply State.Keeps.next
  apply State.whenUp_keeps
  · exact h
  · intro t0 h1
    apply State.completionTimeout_keeps
    exact h1

end Sys2Proof.Machine
end

