-- ==== Sys2Proof/Laws/KeepsSlices.lean ====
section
/-! SUPPORT. What the operations of Machine/Slices.lean keep (`State.Keeps`), one lemma each. -/

namespace Sys2Proof.Machine

theorem State.setFrame_keeps {s0 : State} {s : State} (a1 : Nat) (a2 : FrameRec) (h : s0.Keeps s) :
    s0.Keeps (State.setFrame s a1 a2) := by
  unfold State.setFrame
  apply State.setStr_keeps
  exact h

theorem State.emitStats_keeps {s0 : State} {s : State} (a1 : Nat) (a2 : Nat) (a3 : Nat) (a4 : FrameRec) (h : s0.Keeps s) :
    s0.Keeps (State.emitStats s a1 a2 a3 a4) := by
  unfold State.emitStats
  extract_lets v0 v1 v2 v3
  have h4 : s0.Keeps v2 := by
    unfold v2
    apply State.setFrame_keeps
    exact h
  have h5 : s0.Keeps v3 := by
    unfold v3
    apply State.emitLine_keeps
    exact h4
  apply State.emitLine_keeps
  exact h5

theorem State.auditRead_keeps {s0 : State} {s : State} (a1 : Nat) (a2 : Nat) (a3 : Nat) (a4 : Nat → Bool) (h : s0.Keeps s) :
    s0.Keeps (State.auditRead s a1 a2 a3 a4) := by
  unfold State.auditRead
  split
  · exact h
  · extract_lets v0 v1
    apply State.Keeps.ite
    · exact h
    · refine State.Keeps.upd ?_ rfl rfl
      exact h

theorem State.auditEmit_keeps {s0 : State} {s : State} (a1 : Nat) (a2 : Nat) (a3 : Nat) (a4 : Nat) (a5 : Nat) (h : s0.Keeps s) :
    s0.Keeps (State.auditEmit s a1 a2 a3 a4 a5) := by
  unfold State.auditEmit
  split
  · exact h
  · extract_lets v0
    apply State.Keeps.ite
    · refine State.Keeps.upd ?_ rfl rfl
      exact h
    · exact h

theorem State.emitRoiLine_keeps {s0 : State} {s : State} (a1 : Nat) (a2 : Nat) (a3 : Nat) (a4 : Nat) (a5 : Nat) (a6 : FrameRec) (a7 : Geo) (a8 : Nat) (h : s0.Keeps s) :
    s0.Keeps (State.emitRoiLine s a1 a2 a3 a4 a5 a6 a7 a8) := by
  unfold State.emitRoiLine
  extract_lets v0 v1 v2 v3 v4 v5 v6 v7 v8 v9 v10 v11 v12 v13
  have h14 : s0.Keeps v12 := by
    unfold v12
    apply State.auditEmit_keeps
    apply State.emitLine_keeps
    apply State.setFrame_keeps
    exact h
  have h15 : s0.Keeps v13 := by
    unfold v13
    apply State.Keeps.ite
    · apply State.count31_keeps
      exact h14
    · exact h14
  apply State.Keeps.ite
  · split
    · apply State.emitStats_keeps
      exact h15
    · exact h15
  · exact h15

theorem State.emitRoi_keeps {s0 : State} {s : State} (i k roi fid : Nat) (tail : Bool) (n : Nat) (h : s0.Keeps s) :
    s0.Keeps (State.emitRoi i k roi fid tail n s) := by
  induction n generalizing s with
  | zero => exact h
  | succ n ih =>
    unfold State.emitRoi
    split
    · exact h
    · split
      · exact h
      · extract_lets g L Y hh begins
        exact State.Keeps.ite (ih (State.emitRoiLine_keeps _ _ _ _ _ _ _ _ h)) (State.Keeps.ite (ih (State.setFrame_keeps _ _ h)) h)

theorem State.emitReady_keeps {s0 : State} {s : State} (a1 : Nat) (a2 : Nat) (a3 : Bool) (h : s0.Keeps s) :
    s0.Keeps (State.emitReady s a1 a2 a3) := by
  unfold State.emitReady
  apply State.Keeps.foldl
  · exact h
  · intro t0 x1 h2
    split
    · apply State.emitRoi_keeps
      exact h2
    · exact h2

theorem State.countSlices_keeps {s0 : State} {s : State} (a1 : FrameRec) (a2 : Geo) (a3 : Nat) (h : s0.Keeps s) :
    s0.Keeps (State.countSlices s a1 a2 a3) := by
  unfold State.countSlices
  extract_lets v0
  apply State.Keeps.foldl
  · exact h
  · intro t1 x2 h3
    apply State.Keeps.ite
    · apply State.count48_keeps
      apply State.count48_keeps
      exact h3
    · exact h3

theorem State.countStage4_keeps {s0 : State} {s : State} (a1 : Nat) (a2 : Nat) (a3 : Bool) (h : s0.Keeps s) :
    s0.Keeps (State.countStage4 s a1 a2 a3) := by
  unfold State.countStage4
  split
  · exact h
  · split
    · exact h
    · extract_lets v0 v1 v2 v3
      have h4 : s0.Keeps v3 := by
        unfold v3
        apply State.Keeps.foldl
        · exact h
        · intro t5 x6 h7
          extract_lets v8 v9
          have h10 : s0.Keeps v9 := by
            unfold v9
            apply State.count48_keeps
            exact h7
          apply State.Keeps.ite
          · apply State.count31_keeps
            exact h10
          · exact h10
      apply State.Keeps.ite
      · exact h
      · apply State.setFrame_keeps
        exact h4

theorem State.routeEnds_keeps {s0 : State} {s : State} (a1 : Nat) (a2 : FrameRec) (h : s0.Keeps s) :
    s0.Keeps (State.routeEnds s a1 a2) := by
  unfold State.routeEnds
  apply State.Keeps.foldl
  · exact h
  · intro t0 x1 h2
    split
    · exact h2
    · split
      · exact h2
      · extract_lets v3 v4 v5
        apply State.trunkEof_keeps
        exact h2

theorem State.finishFrame_keeps {s0 : State} {s : State} (a1 : Nat) (a2 : Nat) (h : s0.Keeps s) :
    s0.Keeps (State.finishFrame s a1 a2) := by
  unfold State.finishFrame
  extract_lets v0 v1
  have h2 : s0.Keeps v0 := by
    unfold v0
    apply State.countStage4_keeps
    apply State.emitReady_keeps
    exact h
  have h3 : s0.Keeps v1 := by
    unfold v1
    apply State.Keeps.foldl
    · exact h2
    · intro t4 x5 h6
      split
      · apply State.Keeps.ite
        · apply State.emitStats_keeps
          exact h6
        · exact h6
      · exact h6
  split
  · apply State.setFrame_keeps
    apply State.routeEnds_keeps
    exact h3
  · exact h3

theorem State.retireSlice_keeps {s0 : State} {s : State} (a1 : Nat) (h : s0.Keeps s) :
    s0.Keeps (State.retireSlice s a1) := by
  unfold State.retireSlice
  extract_lets v0 v1 v2
  have h3 : s0.Keeps v0 := by
    unfold v0
    apply State.setFld_keeps
    apply State.setFld_keeps
    exact h
  have h4 : s0.Keeps v2 := by
    unfold v2
    refine State.Keeps.upd ?_ rfl rfl
    exact h3
  split
  · apply State.Keeps.ite
    · apply State.setFlag_keeps
      exact h4
    · exact h4
  · exact h3

theorem State.settleLeaving_keeps {s0 : State} {s : State} (h : s0.Keeps s) :
    s0.Keeps (State.settleLeaving s) := by
  unfold State.settleLeaving
  apply State.Keeps.foldl
  · exact h
  · intro t0 x1 h2
    extract_lets v3 v4 v5 v6 v7
    have h8 : s0.Keeps v5 := by
      unfold v5
      apply State.retireSlice_keeps
      exact h2
    have h9 : s0.Keeps v6 := by
      unfold v6
      apply State.Keeps.ite
      · apply State.setFld_keeps
        apply State.setFld_keeps
        exact h8
      · exact h8
    apply State.Keeps.ite
    · exact h2
    · refine State.Keeps.upd ?_ rfl rfl
      exact h9

theorem State.settleFrames_keeps {s0 : State} {s : State} (a1 : Nat) (h : s0.Keeps s) :
    s0.Keeps (State.settleFrames s a1) := by
  unfold State.settleFrames
  extract_lets v0 v1
  apply State.settleHerds_keeps
  apply State.settleLeaving_keeps
  apply State.closeRings_keeps
  apply State.Keeps.foldl
  · exact h
  · intro t2 x3 h4
    apply State.finishFrame_keeps
    exact h4

theorem State.emitEmbedded_keeps {s0 : State} {s : State} (a1 : Nat) (a2 : FrameRec) (a3 : QLine) (h : s0.Keeps s) :
    s0.Keeps (State.emitEmbedded s a1 a2 a3) := by
  unfold State.emitEmbedded
  apply State.Keeps.ite
  · exact h
  · split
    · exact h
    · extract_lets v0 v1 v2 v3
      apply State.emitLine_keeps
      exact h

theorem State.takePixels_keeps {s0 : State} {s : State} (a1 : Nat) (a2 : FrameRec) (a3 : QLine) (h : s0.Keeps s) :
    s0.Keeps (State.takePixels s a1 a2 a3) := by
  unfold State.takePixels
  extract_lets v0 v1 v2 v3 v4 v5 v6
  have h7 : s0.Keeps v5 := by
    unfold v5
    apply State.count31_keeps
    apply State.setFrame_keeps
    exact h
  have h8 : s0.Keeps v6 := by
    unfold v6
    apply State.auditRead_keeps
    apply State.Keeps.foldl
    · exact h7
    · intro t9 x10 h11
      apply State.countSlices_keeps
      exact h11
  apply State.countStage4_keeps
  apply State.emitReady_keeps
  exact h8

theorem State.readLine_keeps {s0 : State} {s : State} (a1 : Nat) (a2 : Nat) (a3 : Bool) (h : s0.Keeps s) :
    s0.Keeps (State.readLine s a1 a2 a3) := by
  unfold State.readLine
  extract_lets v0 v1
  have h2 : s0.Keeps v0 := by
    unfold v0
    apply State.count31_keeps
    exact h
  split
  · exact h2
  · extract_lets v3 v4
    have h5 : s0.Keeps v3 := by
      unfold v3
      apply State.settleQueue_keeps
      apply State.setStr_keeps
      exact h2
    have h6 : s0.Keeps v4 := by
      unfold v4
      split
      · exact h5
      · apply State.Keeps.ite
        · exact h5
        · apply State.Keeps.ite
          · apply State.emitEmbedded_keeps
            apply State.auditRead_keeps
            exact h5
          · apply State.takePixels_keeps
            exact h5
    apply State.Keeps.ite
    · apply State.settleFrames_keeps
      apply State.uncorrectable_keeps
      exact h2
    · apply State.settleFrames_keeps
      exact h6

theorem State.liveWrite_keeps {s0 : State} {s : State} (a1 : Nat) (a2 : Word) (h : s0.Keeps s) :
    s0.Keeps (State.liveWrite s a1 a2) := by
  unfold State.liveWrite
  extract_lets v0
  have h1 : s0.Keeps v0 := by
    unfold v0
    apply State.plainWrite_keeps
    exact h
  apply State.Keeps.ite
  · apply State.setFlag_keeps
    exact h1
  · exact h1

theorem State.roiPos_keeps {s0 : State} {s : State} (a1 : Nat) (a2 : Word) (h : s0.Keeps s) :
    s0.Keeps (State.roiPos s a1 a2) := by
  unfold State.roiPos
  apply State.Keeps.ite
  · apply State.plainWrite_keeps
    exact h
  · apply State.setFlag_keeps
    exact h

theorem State.applyLive_keeps {s0 : State} {s : State} (a1 : Nat) (h : s0.Keeps s) :
    s0.Keeps (State.applyLive s a1) := by
  unfold State.applyLive
  extract_lets v0 v1 v2 v3 v4
  have h5 : s0.Keeps v0 := by
    unfold v0
    apply State.setFlag_keeps
    exact h
  have h6 : s0.Keeps v2 := by
    unfold v2
    apply State.setStr_keeps
    exact h5
  have h7 : s0.Keeps v3 := by
    unfold v3
    apply State.Keeps.foldl
    · exact h6
    · intro t8 x9 h10
      apply State.setReg_keeps
      exact h10
  apply State.Keeps.ite
  · exact h
  · apply State.Keeps.ite
    · exact h7
    · apply State.Keeps.ite
      · apply State.setFld_keeps
        exact h7
      · apply State.log_keeps
        apply State.setFlag_keeps
        exact h7

theorem execSliceLineRead_keeps {s0 : State} (a0 : Fin 1024) (a1 : Nat) (a2 : Bool) {s : State} (h : s0.Keeps s) :
    s0.Answers (execSliceLineRead a0 a1 a2 s) := by
  unfold execSliceLineRead
  apply State.Keeps.next
  apply State.whenUp_keeps
  · exact h
  · intro t0 h1
    extract_lets v2
    apply State.onQueue_keeps
    · exact h1
    · intro t3 h4
      apply State.readLine_keeps
      exact h4

theorem execSlcStrLiveCommit_keeps {s0 : State} (a0 : Path) (a1 : Fin 1024) (a2 : Word) {s : State} (h : s0.Keeps s) :
    s0.Answers (execSlcStrLiveCommit a0 a1 a2 s) := by
  unfold execSlcStrLiveCommit
  apply State.Keeps.next
  apply State.guarded_keeps
  · exact h
  · intro t0 h1
    apply State.liveWrite_keeps
    exact h1

theorem execRoiPosWrite_keeps {s0 : State} (a0 : Path) (a1 : Fin 4096) (a2 : Word) {s : State} (h : s0.Keeps s) :
    s0.Answers (execRoiPosWrite a0 a1 a2 s) := by
  unfold execRoiPosWrite
  apply State.Keeps.next
  apply State.guarded_keeps
  · exact h
  · intro t0 h1
    apply State.roiPos_keeps
    exact h1

end Sys2Proof.Machine
end

