-- ==== Sys2Proof/Laws/KeepsIngress.lean ====
section
/-! SUPPORT. What the operations of Machine/Ingress.lean keep (`State.Keeps`), one lemma each. -/

namespace Sys2Proof.Machine

theorem State.countNode_keeps {s0 : State} {s : State} (a1 : Nat) (a2 : Nat) (h : s0.Keeps s) :
    s0.Keeps (State.countNode s a1 a2) := by
  unfold State.countNode
  apply State.Keeps.ite
  · exact h
  · apply State.count31_keeps
    exact h

theorem State.withStream_keeps {s0 : State} {s : State} (p pos vc : Nat) (act : Nat → State → State) (h : s0.Keeps s)
    (g : ∀ i t, s0.Keeps t → s0.Keeps (act i t)) : s0.Keeps (s.withStream p pos vc act) := by
  unfold State.withStream
  split
  · exact g _ _ h
  · exact State.count31_keeps _ _ h

theorem State.asHub_keeps {s0 : State} {s : State} (a1 : Nat) (a2 : State → State) (h : s0.Keeps s) (g2 : ∀ t, s0.Keeps t → s0.Keeps (a2 t)) :
    s0.Keeps (State.asHub s a1 a2) := by
  unfold State.asHub
  apply State.Keeps.ite
  · apply g2
    exact h
  · exact h

theorem State.lineBad_keeps {s0 : State} {s : State} (a1 : Nat) (a2 : Nat) (a3 : Nat) (a4 : Nat) (h : s0.Keeps s) :
    s0.Keeps (State.lineBad s a1 a2 a3 a4) := by
  unfold State.lineBad
  extract_lets v0 v1 v2
  have h3 : s0.Keeps v2 := by
    unfold v2
    apply State.setStr_keeps
    exact h
  apply State.Keeps.ite
  · exact h3
  · apply State.count31_keeps
    exact h3

theorem State.dropAsm_keeps {s0 : State} {s : State} (a1 : Nat) (h : s0.Keeps s) :
    s0.Keeps (State.dropAsm s a1) := by
  unfold State.dropAsm
  split
  · apply State.lineBad_keeps
    exact h
  · exact h

theorem State.overrun_keeps {s0 : State} {s : State} (a1 : Nat) (h : s0.Keeps s) :
    s0.Keeps (State.overrun s a1) := by
  unfold State.overrun
  apply State.logOnce_keeps
  apply State.count31_keeps
  exact h

theorem State.rejectSof_keeps {s0 : State} {s : State} (a1 : Nat) (a2 : Nat) (h : s0.Keeps s) :
    s0.Keeps (State.rejectSof s a1 a2) := by
  unfold State.rejectSof
  extract_lets v0
  apply State.setStr_keeps
  exact h

theorem State.keySwitch_keeps {s0 : State} {s : State} (a1 : Nat) (a2 : Nat) (h : s0.Keeps s) :
    s0.Keeps (State.keySwitch s a1 a2) := by
  unfold State.keySwitch
  split
  · exact h
  · extract_lets v0
    apply State.setSess_keeps
    exact h

theorem State.adoptMove_keeps {s0 : State} {s : State} (a1 : Nat) (h : s0.Keeps s) :
    s0.Keeps (State.adoptMove s a1) := by
  unfold State.adoptMove
  split
  · extract_lets v0 v1 v2
    have h3 : s0.Keeps v2 := by
      unfold v2
      refine State.Keeps.upd ?_ rfl rfl
      exact h
    apply State.setFlag_keeps
    exact h3
  · exact h

theorem State.acceptSof_keeps {s0 : State} {s : State} (a1 : Nat) (a2 : Nat) (a3 : Nat) (a4 : SofBlock) (h : s0.Keeps s) :
    s0.Keeps (State.acceptSof s a1 a2 a3 a4) := by
  unfold State.acceptSof
  extract_lets v0 v1 v2 v3 v4 v5 v6 v7
  have h8 : s0.Keeps v0 := by
    unfold v0
    apply State.dropAsm_keeps
    apply State.flushAtSof_keeps
    apply State.ringAtSof_keeps
    exact h
  have h9 : s0.Keeps v1 := by
    unfold v1
    apply State.adoptMove_keeps
    apply State.applyLive_keeps
    apply State.endFrame_keeps
    exact h8
  have h10 : s0.Keeps v6 := by
    unfold v6
    apply State.setStr_keeps
    exact h9
  have h11 : s0.Keeps v7 := by
    unfold v7
    apply State.setReg_keeps
    apply State.setPair_keeps
    exact h10
  apply State.settleFrames_keeps
  apply State.keySwitch_keeps
  apply State.setPair_keeps
  exact h11

theorem State.takeSof_keeps {s0 : State} {s : State} (a1 : Nat) (a2 : Nat) (a3 : SofBlock) (h : s0.Keeps s) :
    s0.Keeps (State.takeSof s a1 a2 a3) := by
  unfold State.takeSof
  extract_lets v0 v1 v2
  have h3 : s0.Keeps v1 := by
    unfold v1
    apply State.count31_keeps
    apply State.rejectSof_keeps
    exact h
  apply State.Keeps.ite
  · exact h3
  · apply State.Keeps.ite
    · exact h3
    · split
      · exact h3
      · apply State.Keeps.ite
        · apply State.acceptSof_keeps
          exact h
        · apply State.overrun_keeps
          apply State.rejectSof_keeps
          exact h

theorem State.takeEof_keeps {s0 : State} {s : State} (a1 : Nat) (a2 : EofBlock) (h : s0.Keeps s) :
    s0.Keeps (State.takeEof s a1 a2) := by
  unfold State.takeEof
  extract_lets v0
  apply State.Keeps.ite
  · exact h
  · split
    · apply State.Keeps.ite
      · apply State.settleFrames_keeps
        apply State.endFrame_keeps
        apply State.dropAsm_keeps
        exact h
      · apply State.count31_keeps
        exact h
    · apply State.count31_keeps
      exact h

theorem State.sensorErr_keeps {s0 : State} {s : State} (a1 : Nat) (h : s0.Keeps s) :
    s0.Keeps (State.sensorErr s a1) := by
  unfold State.sensorErr
  extract_lets v0 v1
  have h2 : s0.Keeps v1 := by
    unfold v1
    apply State.setStr_keeps
    exact h
  apply State.settleFrames_keeps
  apply State.endFrame_keeps
  apply State.dropAsm_keeps
  exact h2

theorem State.noteVerdict_keeps {s0 : State} {s : State} (a1 : Nat) (a2 : FrameRec) (a3 : LineIn) (a4 : Verdict) (h : s0.Keeps s) :
    s0.Keeps (State.noteVerdict s a1 a2 a3 a4) := by
  unfold State.noteVerdict
  extract_lets v0 v1 v2 v3 v4 v5 v6 v7 v8 v9
  have h10 : s0.Keeps v5 := by
    unfold v5
    apply State.count31_keeps
    exact h
  have h11 : s0.Keeps v6 := by
    unfold v6
    apply State.Keeps.ite
    · apply State.count31_keeps
      exact h10
    · exact h10
  have h12 : s0.Keeps v8 := by
    unfold v8
    apply State.setSess_keeps
    exact h11
  split
  · apply State.setSess_keeps
    exact h
  · apply State.Keeps.ite
    · apply State.setSess_keeps
      exact h
    · exact h
  · apply State.Keeps.ite
    · exact h11
    · apply State.Keeps.ite
      · apply State.endSession_keeps
        exact h12
      · exact h12

theorem State.store_keeps {s0 : State} {s : State} (a1 : Nat) (a2 : FrameRec) (a3 : LineIn) (a4 : Verdict) (h : s0.Keeps s) :
    s0.Keeps (State.store s a1 a2 a3 a4) := by
  unfold State.store
  extract_lets v0 v1 v2 v3 v4
  split
  extract_lets v5 v6
  have h7 : s0.Keeps v5 := by
    unfold v5
    split
    · apply State.setFrame_keeps
      rename_i y8 y9 y10 y11 y12 y13
      rw [show y8 = _ from (congrArg Prod.fst y10).symm]
      apply State.storeLine_keeps
      exact h
    · rename_i y14 y15 y16 y17 y18
      rw [show y14 = _ from (congrArg Prod.fst y16).symm]
      apply State.storeLine_keeps
      exact h
  have h19 : s0.Keeps v6 := by
    unfold v6
    apply State.count48_keeps
    exact h7
  apply State.Keeps.ite
  · rename_i y20 y21 y22
    rw [show y20 = _ from (congrArg Prod.fst y22).symm]
    apply State.storeLine_keeps
    exact h
  · apply State.Keeps.ite
    · exact h19
    · apply State.count31_keeps
      exact h19

theorem State.lineIn_keeps {s0 : State} {s : State} (a1 : Nat) (a2 : FrameRec) (a3 : LineIn) (h : s0.Keeps s) :
    s0.Keeps (State.lineIn s a1 a2 a3) := by
  unfold State.lineIn
  extract_lets v0 v1 v2 v3
  have h4 : s0.Keeps v1 := by
    unfold v1
    apply State.noteVerdict_keeps
    exact h
  apply State.Keeps.ite
  · apply State.count31_keeps
    exact h4
  · apply State.Keeps.ite
    · apply State.count31_keeps
      exact h4
    · apply State.Keeps.ite
      · apply State.overrun_keeps
        exact h4
      · apply State.Keeps.ite
        · apply State.count31_keeps
          exact h4
        · apply State.Keeps.ite
          · apply State.count31_keeps
            exact h4
          · apply State.onQueue_keeps
            · exact h4
            · intro t5 h6
              apply State.Keeps.ite
              · exact h6
              · apply State.store_keeps
                exact h6

theorem State.assemble_keeps {s0 : State} {s : State} (a1 : Nat) (a2 : Nat) (a3 : FrameRec) (a4 : Cont) (a5 : Bool) (a6 : Nat) (h : s0.Keeps s) :
    s0.Keeps (State.assemble s a1 a2 a3 a4 a5 a6) := by
  unfold State.assemble
  extract_lets v0 v1 v2 v3 v4 v5 v6
  have h7 : s0.Keeps v2 := by
    unfold v2
    apply State.Keeps.ite
    · apply State.dropAsm_keeps
      exact h
    · exact h
  clear_value v4
  split
  · apply State.lineBad_keeps
    exact h7
  · extract_lets v8
    apply State.Keeps.ite
    · apply State.lineBad_keeps
      exact h7
    · apply State.Keeps.ite
      · apply State.setStr_keeps
        exact h7
      · apply State.Keeps.ite
        · apply State.lineIn_keeps
          apply State.setStr_keeps
          exact h7
        · apply State.lineBad_keeps
          exact h7

theorem State.ingest_keeps {s0 : State} {s : State} (a1 : Nat) (a2 : Nat) (a3 : Cont) (a4 : Bool) (a5 : Nat) (h : s0.Keeps s) :
    s0.Keeps (State.ingest s a1 a2 a3 a4 a5) := by
  unfold State.ingest
  extract_lets v0 v1 v2
  have h3 : s0.Keeps v2 := by
    unfold v2
    apply State.count31_keeps
    exact h
  apply State.Keeps.ite
  · exact h
  · split
    · apply State.count31_keeps
      exact h
    · apply State.Keeps.ite
      · apply State.setFld_keeps
        apply State.setFld_keeps
        exact h
      · apply State.Keeps.ite
        · apply State.assemble_keeps
          exact h
        · apply State.Keeps.ite
          · apply State.dropAsm_keeps
            exact h3
          · exact h3

theorem State.setSeq_keeps {s0 : State} {s : State} (a1 : Nat) (a2 : Nat) (a3 : Nat) (h : s0.Keeps s) :
    s0.Keeps (State.setSeq s a1 a2 a3) := by
  unfold State.setSeq
  extract_lets v0 v1
  apply State.setPort_keeps
  exact h

theorem State.skipSeq_keeps {s0 : State} {s : State} (a1 : Nat) (a2 : Nat) (h : s0.Keeps s) :
    s0.Keeps (State.skipSeq s a1 a2) := by
  unfold State.skipSeq
  extract_lets v0
  apply State.Keeps.ite
  · exact h
  · apply State.setSeq_keeps
    exact h

theorem State.checkSeq_keeps {s0 : State} {s : State} (a1 : Nat) (a2 : Nat) (a3 : Nat) (a4 : Nat) (h : s0.Keeps s) :
    s0.Keeps (State.checkSeq s a1 a2 a3 a4) := by
  unfold State.checkSeq
  extract_lets v0 v1
  have h2 : s0.Keeps v1 := by
    unfold v1
    apply State.Keeps.ite
    · apply State.countNode_keeps
      exact h
    · exact h
  apply State.setSeq_keeps
  exact h2

theorem State.container_keeps {s0 : State} {s : State} (a1 : Nat) (a2 : List Byte) (a3 : Nat) (a4 : Bool) (a5 : Nat) (h : s0.Keeps s) :
    s0.Keeps (State.container s a1 a2 a3 a4 a5) := by
  unfold State.container
  extract_lets v0 v1 v2 v3 v4 v5 v6 v7 v8 v9
  split
  · apply State.count31_keeps
    exact h
  · split
    · apply State.skipSeq_keeps
      apply State.count31_keeps
      exact h
    · extract_lets v10 v11 v12 v13 v14
      have h15 : s0.Keeps v11 := by
        unfold v11
        apply State.skipSeq_keeps
        apply State.countNode_keeps
        apply State.count31_keeps
        exact h
      have h16 : s0.Keeps v14 := by
        unfold v14
        apply State.checkSeq_keeps
        exact h
      apply State.Keeps.ite
      · apply State.Keeps.ite
        · exact h15
        · apply State.lineBad_keeps
          apply State.Keeps.ite
          · exact h15
          · apply State.dropAsm_keeps
            exact h15
      · apply State.ingest_keeps
        exact h16

theorem State.takeData_keeps {s0 : State} {s : State} (p : Nat) (b : Bool) (age n : Nat) (d : List Byte) (h : s0.Keeps s) :
    s0.Keeps (State.takeData p b age n d s) := by
  induction n generalizing s d with
  | zero => exact h
  | succ n ih =>
    unfold State.takeData
    split
    · exact h
    · split
      · refine ih _ ?_
        split
        · exact h
        · exact State.count31_keeps _ _ (State.setPort_keeps _ _ h)
      · refine ih _ (State.container_keeps _ _ _ _ _ ?_)
        split
        · exact State.setPort_keeps _ _ h
        · exact h

theorem execSof_keeps {s0 : State} (a0 : Fin 80) (a1 : Fin 8) (a2 : SofBlock) {s : State} (h : s0.Keeps s) :
    s0.Answers (execSof a0 a1 a2 s) := by
  unfold execSof
  apply State.Keeps.next
  apply State.asHub_keeps
  · exact h
  · intro t0 h1
    apply State.withStream_keeps
    · exact h1
    · intro x2 t3 h4
      apply State.onQueue_keeps
      · exact h4
      · intro t5 h6
        apply State.takeSof_keeps
        exact h6

theorem execEof_keeps {s0 : State} (a0 : Fin 80) (a1 : Fin 8) (a2 : EofBlock) {s : State} (h : s0.Keeps s) :
    s0.Answers (execEof a0 a1 a2 s) := by
  unfold execEof
  apply State.Keeps.next
  apply State.asHub_keeps
  · exact h
  · intro t0 h1
    apply State.withStream_keeps
    · exact h1
    · intro x2 t3 h4
      apply State.takeEof_keeps
      exact h4

theorem execContainerReceive_keeps {s0 : State} (a0 : Fin 80) (a1 : List Byte) (a2 : Bool) (a3 : Nat) {s : State} (h : s0.Keeps s) :
    s0.Answers (execContainerReceive a0 a1 a2 a3 s) := by
  unfold execContainerReceive
  apply State.Keeps.next
  apply State.asHub_keeps
  · exact h
  · intro t0 h1
    apply State.takeData_keeps
    exact h1

theorem execErrSensor_keeps {s0 : State} (a0 : Fin 80) (a1 : Fin 8) (a2 : Fin 4) (a3 : BitVec 32) {s : State} (h : s0.Keeps s) :
    s0.Answers (execErrSensor a0 a1 a2 a3 s) := by
  unfold execErrSensor
  apply State.Keeps.next
  apply State.whenUp_keeps
  · exact h
  · intro t0 h1
    extract_lets v2
    have h3 : s0.Keeps v2 := by
      unfold v2
      apply State.log_keeps
      exact h1
    split
    · apply State.sensorErr_keeps
      exact h3
    · exact h3

end Sys2Proof.Machine
end

