-- ==== Sys2Proof/Laws/KeepsRuns.lean ====
section
/-! SUPPORT. What the operations of Machine/Runs.lean keep (`State.Keeps`), one lemma each. -/

namespace Sys2Proof.Machine

theorem State.nodeChanges_keeps {s0 : State} {s : State} (h : s0.Keeps s) :
    s0.Keeps (State.nodeChanges s) := by
  unfold State.nodeChanges
  extract_lets v0 v1 v2 v3 v4 v5 v6 v7
  have h8 : s0.Keeps v4 := by
    unfold v4
    apply State.Keeps.ite
    · exact h
    · apply State.plcTrigger_keeps
      exact h
  have h9 : s0.Keeps v5 := by
    unfold v5
    apply State.Keeps.ite
    · exact h8
    · apply State.plcTrigger_keeps
      exact h8
  have h10 : s0.Keeps v6 := by
    unfold v6
    apply State.Keeps.foldl
    · exact h9
    · intro t11 x12 h13
      apply State.setFld_keeps
      exact h13
  refine State.Keeps.upd ?_ rfl rfl
  exact h10

theorem State.plcRefuse_keeps {s0 : State} {s : State} (a1 : Nat) (h : s0.Keeps s) :
    s0.Keeps (State.plcRefuse s a1) := by
  unfold State.plcRefuse
  apply State.log_keeps
  apply State.count31_keeps
  apply State.setFld_keeps
  apply State.setFlag_keeps
  exact h

theorem State.joinNode_keeps {s0 : State} (inp : PlcIn) (na : Nat) {s : State × Placement} (h : s0.Keeps s.1) :
    s0.Keeps (State.joinNode inp na s).1 := by
  obtain ⟨s, l⟩ := s
  unfold State.joinNode
  dsimp only
  split
  · exact h
  · generalize List.foldl _ _ _ = x
    split
    · exact State.plcRefuse_keeps _ h
    · exact State.Keeps.ite (State.plcRefuse_keeps _ h) h

theorem State.submitEnd_keeps {s0 : State} {s : State} (l : Placement) (st : Tbl PoolReg) (off : List Nat)
    (r : Placement × List Nat) (h : s0.Keeps s) : s0.Keeps (s.submitEnd l st off r).1 := by
  unfold State.submitEnd
  split
  · extract_lets gone t
    have ht : s0.Keeps t := State.Keeps.foldl h (fun _ _ h => State.setReg_keeps h _ _) _
    exact ht.upd rfl rfl
  · exact State.plcRefuse_keeps _ (h.upd rfl rfl)

theorem State.submitPhase_keeps {s0 : State} {s : State} (inp : PlcIn) (l : Placement) (h : s0.Keeps s) :
    s0.Keeps (s.submitPhase inp l).1 := State.submitEnd_keeps _ _ _ _ h

theorem State.outRegs_keeps {s0 : State} {s : State} (a1 : Placement) (a2 : Placement) (h : s0.Keeps s) :
    s0.Keeps (State.outRegs s a1 a2) := by
  unfold State.outRegs
  extract_lets v0 v1
  have h2 : s0.Keeps v1 := by
    unfold v1
    apply State.Keeps.foldl
    · exact h
    · intro t3 x4 h5
      apply State.setReg_keeps
      apply State.setReg_keeps
      exact h5
  apply State.Keeps.foldl
  · exact h2
  · intro t6 x7 h8
    extract_lets v9 v10
    apply State.setReg_keeps
    apply State.setReg_keeps
    exact h8

theorem State.refusedRegs_keeps {s0 : State} {s : State} (a1 : Nat) (h : s0.Keeps s) :
    s0.Keeps (State.refusedRegs s a1) := by
  unfold State.refusedRegs
  apply State.Keeps.foldl
  · exact h
  · intro t0 x1 h2
    apply State.setReg_keeps
    exact h2

theorem State.inRegs_keeps {s0 : State} {s : State} (a1 : Placement) (a2 : Placement) (h : s0.Keeps s) :
    s0.Keeps (State.inRegs s a1 a2) := by
  unfold State.inRegs
  extract_lets v0 v1
  have h2 : s0.Keeps v1 := by
    unfold v1
    apply State.Keeps.foldl
    · exact h
    · intro t3 x4 h5
      apply State.setFld_keeps
      apply State.setReg_keeps
      apply State.setReg_keeps
      exact h5
  apply State.Keeps.foldl
  · exact h2
  · intro t6 x7 h8
    extract_lets v9 v10 v11
    have h12 : s0.Keeps v11 := by
      unfold v11
      apply State.setReg_keeps
      apply State.setReg_keeps
      exact h8
    apply State.setFld_keeps
    exact h12

theorem State.roleRegs_keeps {s0 : State} {s : State} (h : s0.Keeps s) :
    s0.Keeps (State.roleRegs s) := by
  unfold State.roleRegs
  apply State.setFld_keeps
  apply State.setFld_keeps
  exact h

theorem State.sumRegs_keeps {s0 : State} {s : State} (a1 : Placement) (h : s0.Keeps s) :
    s0.Keeps (State.sumRegs s a1) := by
  unfold State.sumRegs
  extract_lets v0 v1 v2 v3
  have h4 : s0.Keeps v0 := by
    unfold v0
    apply State.Keeps.foldl
    · exact h
    · intro t5 x6 h7
      apply State.setFld_keeps
      apply State.setFld_keeps
      exact h7
  have h8 : s0.Keeps v1 := by
    unfold v1
    apply State.setFld_keeps
    exact h4
  have h9 : s0.Keeps v2 := by
    unfold v2
    apply State.Keeps.foldl
    · exact h8
    · intro t10 x11 h12
      extract_lets v13 v14
      apply State.setReg_keeps
      exact h12
  have h15 : s0.Keeps v3 := by
    unfold v3
    apply State.roleRegs_keeps
    exact h9
  split
  extract_lets v16
  have h17 : s0.Keeps v16 := by
    unfold v16
    apply State.setReg_keeps
    apply State.setReg_keeps
    exact h15
  apply State.setFlag_keeps
  exact h17

theorem State.plcLog_keeps {s0 : State} {s : State} (a1 : List Byte) (h : s0.Keeps s) :
    s0.Keeps (State.plcLog s a1) := by
  unfold State.plcLog
  extract_lets v0 v1
  apply State.Keeps.ite
  · exact h
  · apply State.Keeps.ite
    · apply State.count31_keeps
      exact h
    · apply State.setFld_keeps
      apply State.post_keeps
      exact h

theorem State.applyPools_keeps {s0 : State} {s : State} (a1 : Tbl PoolReg) (h : s0.Keeps s) :
    s0.Keeps (State.applyPools s a1) := by
  unfold State.applyPools
  extract_lets v0 v1
  have h2 : s0.Keeps v1 := by
    unfold v1
    refine State.Keeps.upd ?_ rfl rfl
    exact h
  apply State.Keeps.foldl
  · exact h2
  · intro t3 x4 h5
    extract_lets v6
    apply State.Keeps.ite
    · apply State.poolGo_keeps
      apply State.setPool_keeps
      exact h5
    · exact h5

theorem State.swapRoles_keeps {s0 : State} {s : State} (a1 : List Nat) (a2 : List Nat) (h : s0.Keeps s) :
    s0.Keeps (State.swapRoles s a1 a2) := by
  unfold State.swapRoles
  extract_lets v0 v1
  have h2 : s0.Keeps v0 := by
    unfold v0
    apply State.Keeps.foldl
    · exact h
    · intro t3 x4 h5
      apply State.setFlag_keeps
      apply State.setFld_keeps
      exact h5
  refine State.Keeps.upd ?_ rfl rfl
  exact h2

theorem State.publish_keeps {s0 : State} {s : State} (a1 : Nat) (a2 : Nat) (h : s0.Keeps s) :
    s0.Keeps (State.publish s a1 a2) := by
  unfold State.publish
  split
  · exact h
  · extract_lets v0 v1 v2 v3 v4 v5 v6 v7 v8 v9 v10 v11 v12 v13
    have h14 : s0.Keeps v2 := by
      unfold v2
      refine State.Keeps.upd ?_ rfl rfl
      exact h
    have h15 : s0.Keeps v3 := by
      unfold v3
      apply State.swapRoles_keeps
      apply State.setFlag_keeps
      exact h14
    have h16 : s0.Keeps v4 := by
      unfold v4
      split
      · apply State.applyPools_keeps
        exact h15
      · exact h15
    have h17 : s0.Keeps v6 := by
      unfold v6
      apply State.setFld_keeps
      apply State.setReg_keeps
      exact h16
    have h18 : s0.Keeps v7 := by
      unfold v7
      apply State.setPair_keeps
      exact h17
    have h19 : s0.Keeps v11 := by
      unfold v11
      refine State.Keeps.upd ?_ rfl rfl
      exact h18
    have h20 : s0.Keeps v12 := by
      unfold v12
      apply State.settleLeaving_keeps
      apply State.closeRings_keeps
      apply State.openRings_keeps
      apply State.sumRegs_keeps
      apply State.inRegs_keeps
      apply State.outRegs_keeps
      exact h19
    have h21 : s0.Keeps v13 := by
      unfold v13
      apply State.plcLog_keeps
      exact h20
    apply State.Keeps.ite
    · apply State.settleLeaving_keeps
      exact h16
    · apply State.Keeps.ite
      · apply State.raiseIrq_keeps
        exact h21
      · exact h21

theorem State.startRun_keeps {s0 : State} {s : State} (a1 : Nat) (a2 : Health) (a3 : Placement) (h : s0.Keeps s) :
    s0.Keeps (State.startRun s a1 a2 a3) := by
  unfold State.startRun
  extract_lets v0 v1 v2
  have h3 : s0.Keeps v1 := by
    unfold v1
    apply State.Keeps.ite
    · exact h
    · apply State.log_keeps
      exact h
  split
  split
  extract_lets v4 v5 v6
  have h7 : s0.Keeps v4 := by
    unfold v4
    apply State.refusedRegs_keeps
    rename_i y8 y9 y10 y11
    rw [show y8 = _ from (congrArg Prod.fst y11).symm]
    split
    · apply State.submitPhase_keeps
      rename_i y12 y13 y14 y15 y16
      rw [show y12 = _ from (congrArg Prod.fst y14).symm]
      apply State.Keeps.foldlFst
      · dsimp only
        exact h3
      · intro x17 x18 h19
        apply State.joinNode_keeps
        exact h19
    · dsimp only
      rename_i y20 y21 y22 y23 y24
      rw [show y20 = _ from (congrArg Prod.fst y22).symm]
      apply State.Keeps.foldlFst
      · dsimp only
        exact h3
      · intro x25 x26 h27
        apply State.joinNode_keeps
        exact h27
  apply State.setFlag_keeps
  refine State.Keeps.upd ?_ rfl rfl
  exact h7

theorem State.plcCtrl_keeps {s0 : State} {s : State} (a1 : Word) (h : s0.Keeps s) :
    s0.Keeps (State.plcCtrl s a1) := by
  unfold State.plcCtrl
  extract_lets v0
  apply State.Keeps.ite
  · apply State.plcTrigger_keeps
    refine State.Keeps.upd ?_ rfl rfl
    exact h
  · exact h

theorem State.plcLogCfg_keeps {s0 : State} {s : State} (a1 : Word) (h : s0.Keeps s) :
    s0.Keeps (State.plcLogCfg s a1) := by
  unfold State.plcLogCfg
  extract_lets v0 v1
  have h2 : s0.Keeps v1 := by
    unfold v1
    apply State.plainWrite_keeps
    exact h
  apply State.Keeps.ite
  · apply State.setFld_keeps
    exact h2
  · exact h2

theorem State.setAudit_keeps {s0 : State} {s : State} (a1 : Nat) (a2 : Nat) (h : s0.Keeps s) :
    s0.Keeps (State.setAudit s a1 a2) := by
  unfold State.setAudit
  extract_lets v0 v1 v2
  have h3 : s0.Keeps v1 := by
    unfold v1
    apply State.setFld_keeps
    exact h
  clear_value v0
  split
  · refine State.Keeps.upd ?_ rfl rfl
    exact h3
  · refine State.Keeps.upd ?_ rfl rfl
    exact h3

theorem State.strikeRegs_keeps {s0 : State} {s : State} (h : s0.Keeps s) :
    s0.Keeps (State.strikeRegs s) := by
  unfold State.strikeRegs
  extract_lets v0
  apply State.setFld_keeps
  apply State.setFld_keeps
  exact h

theorem State.auditMismatch_keeps {s0 : State} {s : State} (a1 : Nat) (a2 : Nat) (a3 : Nat) (a4 : Nat) (h : s0.Keeps s) :
    s0.Keeps (State.auditMismatch s a1 a2 a3 a4) := by
  unfold State.auditMismatch
  extract_lets v0 v1 v2 v3 v4
  have h5 : s0.Keeps v0 := by
    unfold v0
    apply State.count31_keeps
    exact h
  have h6 : s0.Keeps v3 := by
    unfold v3
    refine State.Keeps.upd ?_ rfl rfl
    exact h5
  have h7 : s0.Keeps v4 := by
    unfold v4
    apply State.setFld_keeps
    apply State.setFld_keeps
    apply State.setFld_keeps
    exact h6
  split
  · apply State.log_keeps
    apply State.roleRegs_keeps
    exact h7
  · apply State.Keeps.ite
    · apply State.log_keeps
      exact h5
    · apply State.Keeps.ite
      · apply State.plcTrigger_keeps
        refine State.Keeps.upd ?_ rfl rfl
        exact h5
      · exact h5

theorem State.auditCompare_keeps {s0 : State} {s : State} (a1 : Bool) (h : s0.Keeps s) :
    s0.Keeps (State.auditCompare s a1) := by
  unfold State.auditCompare
  split
  · exact h
  · extract_lets v0 v1 v2 v3
    have h4 : s0.Keeps v0 := by
      unfold v0
      apply State.setFld_keeps
      apply State.count48_keeps
      exact h
    have h5 : s0.Keeps v2 := by
      unfold v2
      refine State.Keeps.upd ?_ rfl rfl
      exact h4
    have h6 : s0.Keeps v3 := by
      unfold v3
      apply State.Keeps.ite
      · apply State.auditMismatch_keeps
        exact h5
      · exact h5
    apply State.Keeps.ite
    · apply State.setAudit_keeps
      exact h6
    · exact h6

theorem State.strike_keeps {s0 : State} {s : State} (a1 : Nat) (h : s0.Keeps s) :
    s0.Keeps (State.strike s a1) := by
  unfold State.strike
  extract_lets v0 v1 v2 v3
  have h4 : s0.Keeps v3 := by
    unfold v3
    refine State.Keeps.upd ?_ rfl rfl
    exact h
  apply State.Keeps.ite
  · apply State.strikeRegs_keeps
    exact h4
  · apply State.strikeRegs_keeps
    apply State.plcTrigger_keeps
    apply State.roleRegs_keeps
    apply State.retireSlice_keeps
    exact h4

theorem State.suspectEnd_keeps {s0 : State} {s : State} (h : s0.Keeps s) :
    s0.Keeps (State.suspectEnd s) := by
  unfold State.suspectEnd
  split
  · exact h
  · extract_lets v0 v1 v2 v3
    have h4 : s0.Keeps v1 := by
      unfold v1
      refine State.Keeps.upd ?_ rfl rfl
      exact h
    have h5 : s0.Keeps v2 := by
      unfold v2
      apply State.setFld_keeps
      apply State.setFld_keeps
      apply State.setFld_keeps
      exact h4
    have h6 : s0.Keeps v3 := by
      unfold v3
      apply State.log_keeps
      apply State.roleRegs_keeps
      exact h5
    apply State.Keeps.ite
    · exact h
    · apply State.Keeps.ite
      · apply State.strike_keeps
        exact h6
      · exact h6

theorem State.suspectTick_keeps {s0 : State} {s : State} (h : s0.Keeps s) :
    s0.Keeps (State.suspectTick s) := by
  unfold State.suspectTick
  extract_lets v0
  refine State.Keeps.upd ?_ rfl rfl
  exact h

theorem execAuditCompare_keeps {s0 : State} (a0 : Bool) {s : State} (h : s0.Keeps s) :
    s0.Answers (execAuditCompare a0 s) := by
  unfold execAuditCompare
  apply State.Keeps.next
  apply State.whenUp_keeps
  · exact h
  · intro t0 h1
    apply State.auditCompare_keeps
    exact h1

theorem execSuspectTimeout_keeps {s0 : State} {s : State} (h : s0.Keeps s) :
    s0.Answers (execSuspectTimeout s) := by
  unfold execSuspectTimeout
  apply State.Keeps.next
  apply State.whenUp_keeps
  · exact h
  · intro t0 h1
    apply State.suspectEnd_keeps
    exact h1

theorem execPlcCtrlSubmit_keeps {s0 : State} (a0 : Path) (a1 : Word) {s : State} (h : s0.Keeps s) :
    s0.Answers (execPlcCtrlSubmit a0 a1 s) := by
  unfold execPlcCtrlSubmit
  apply State.Keeps.next
  apply State.guarded_keeps
  · exact h
  · intro t0 h1
    apply State.plcCtrl_keeps
    exact h1

theorem execPlcLogCfgEnable_keeps {s0 : State} (a0 : Path) (a1 : Word) {s : State} (h : s0.Keeps s) :
    s0.Answers (execPlcLogCfgEnable a0 a1 s) := by
  unfold execPlcLogCfgEnable
  apply State.Keeps.next
  apply State.guarded_keeps
  · exact h
  · intro t0 h1
    apply State.plcLogCfg_keeps
    exact h1

end Sys2Proof.Machine
end

