-- ==== Sys2Proof/Laws/KeepsGraze.lean ====
section
/-! SUPPORT. What the operations of Machine/Graze.lean keep (`State.Keeps`), one lemma each. -/

namespace Sys2Proof.Machine

theorem State.grzEnded_keeps {s0 : State} {s : State} (a1 : Nat) (a2 : Nat) (h : s0.Keeps s) :
    s0.Keeps (State.grzEnded s a1 a2) := by
  unfold State.grzEnded
  extract_lets v0
  have h1 : s0.Keeps v0 := by
    unfold v0
    apply State.setFld_keeps
    apply State.setFld_keeps
    exact h
  split
  · apply State.count48_keeps
    exact h1
  · apply State.count31_keeps
    exact h1
  · exact h1

theorem State.grzFinish_keeps {s0 : State} {s : State} (a1 : GrzReq) (a2 : Nat) (a3 : Nat) (a4 : Nat) (a5 : Nat) (a6 : Bool) (h : s0.Keeps s) :
    s0.Keeps (State.grzFinish s a1 a2 a3 a4 a5 a6) := by
  unfold State.grzFinish
  apply State.grzEnded_keeps
  apply State.chBytes_keeps
  apply State.postRec_keeps
  exact h

theorem State.grzEnd_keeps {s0 : State} {s : State} (a1 : Nat) (h : s0.Keeps s) :
    s0.Keeps (State.grzEnd s a1) := by
  unfold State.grzEnd
  split
  · exact h
  · extract_lets v0 v1
    have h2 : s0.Keeps v1 := by
      unfold v1
      refine State.Keeps.upd ?_ rfl rfl
      exact h
    apply State.grzFinish_keeps
    apply State.setFlag_keeps
    exact h2

theorem State.grzSetPi_keeps {s0 : State} {s : State} (a1 : Nat) (h : s0.Keeps s) :
    s0.Keeps (State.grzSetPi s a1) := by
  unfold State.grzSetPi
  apply State.setFld_keeps
  apply State.setFld_keeps
  apply State.setFld_keeps
  exact h

theorem State.grzPiRej_keeps {s0 : State} {s : State} (h : s0.Keeps s) :
    s0.Keeps (State.grzPiRej s) := by
  unfold State.grzPiRej
  apply State.setFlag_keeps
  apply State.count31_keeps
  exact h

theorem State.grzSubRej_keeps {s0 : State} {s : State} (h : s0.Keeps s) :
    s0.Keeps (State.grzSubRej s) := by
  unfold State.grzSubRej
  apply State.setFlag_keeps
  apply State.count31_keeps
  exact h

theorem State.grzPi_keeps {s0 : State} {s : State} (a1 : Word) (h : s0.Keeps s) :
    s0.Keeps (State.grzPi s a1) := by
  unfold State.grzPi
  extract_lets v0 v1
  apply State.Keeps.ite
  · apply State.grzPiRej_keeps
    exact h
  · apply State.Keeps.ite
    · apply State.Keeps.ite
      · apply State.tableFull_keeps
        apply State.grzPiRej_keeps
        exact h
      · apply State.grzPiRej_keeps
        exact h
    · apply State.grzSetPi_keeps
      exact h

theorem State.grzSubmit_keeps {s0 : State} {s : State} (a1 : Path) (a2 : Word) (h : s0.Keeps s) :
    s0.Keeps (State.grzSubmit s a1 a2) := by
  unfold State.grzSubmit
  extract_lets v0 v1 v2 v3 v4
  have h5 : s0.Keeps v2 := by
    unfold v2
    apply State.Keeps.foldl
    · exact h
    · intro t6 x7 h8
      apply State.setReg_keeps
      exact h8
  have h9 : s0.Keeps v4 := by
    unfold v4
    refine State.Keeps.upd ?_ rfl rfl
    exact h5
  apply State.Keeps.ite
  · exact h
  · apply State.Keeps.ite
    · apply State.grzSubRej_keeps
      exact h
    · apply State.Keeps.ite
      · apply State.tableFull_keeps
        apply State.grzSubRej_keeps
        exact h
      · apply State.grzSetPi_keeps
        exact h9

theorem State.grzPop_keeps {s0 : State} {s : State} (h : s0.Keeps s) :
    s0.Keeps (State.grzPop s) := by
  unfold State.grzPop
  extract_lets v0 v1
  have h2 : s0.Keeps v1 := by
    unfold v1
    apply State.setFld_keeps
    apply State.setFld_keeps
    exact h
  apply State.setFld_keeps
  exact h2

theorem State.grzEndPending_keeps {s0 : State} {s : State} (st n : Nat) (h : s0.Keeps s) :
    s0.Keeps (State.grzEndPending st n s) := by
  induction n generalizing s with
  | zero => exact h
  | succ n ih =>
    unfold State.grzEndPending
    split
    · exact h
    · exact ih (State.grzFinish_keeps _ _ _ _ _ _ (State.grzPop_keeps h))

theorem State.grzAbortAll_keeps {s0 : State} {s : State} (h : s0.Keeps s) :
    s0.Keeps (State.grzAbortAll s) := by
  unfold State.grzAbortAll
  apply State.grzEndPending_keeps
  apply State.grzEnd_keeps
  exact h

theorem State.grzDrop_keeps {s0 : State} {s : State} (h : s0.Keeps s) :
    s0.Keeps (State.grzDrop s) := by
  unfold State.grzDrop
  extract_lets v0 v1 v2
  have h3 : s0.Keeps v1 := by
    unfold v1
    apply State.setFld_keeps
    apply State.setFld_keeps
    apply State.setFld_keeps
    exact h
  apply State.setFlag_keeps
  refine State.Keeps.upd ?_ rfl rfl
  exact h3

theorem State.grzCtrl_keeps {s0 : State} {s : State} (a1 : Word) (h : s0.Keeps s) :
    s0.Keeps (State.grzCtrl s a1) := by
  unfold State.grzCtrl
  extract_lets v0 v1
  have h2 : s0.Keeps v1 := by
    unfold v1
    apply State.Keeps.ite
    · exact h
    · apply State.Keeps.ite
      · apply State.setFlag_keeps
        exact h
      · apply State.setFlag_keeps
        exact h
  apply State.Keeps.ite
  · apply State.grzAbortAll_keeps
    exact h2
  · exact h2

theorem State.grzRefill_keeps {s0 : State} {s : State} (h : s0.Keeps s) :
    s0.Keeps (State.grzRefill s) := by
  unfold State.grzRefill
  extract_lets v0 v1
  refine State.Keeps.upd ?_ rfl rfl
  exact h

theorem State.grzTake_keeps {s0 : State} {s : State} (h : s0.Keeps s) :
    s0.Keeps (State.grzTake s) := by
  unfold State.grzTake
  extract_lets v0 v1 v2 v3 v4
  have h5 : s0.Keeps v3 := by
    unfold v3
    apply State.grzPop_keeps
    exact h
  apply State.Keeps.ite
  · exact h
  · apply State.Keeps.ite
    · apply State.grzFinish_keeps
      exact h5
    · apply State.Keeps.ite
      · apply State.grzFinish_keeps
        exact h5
      · split
        · apply State.grzFinish_keeps
          exact h5
        · extract_lets v6
          apply State.Keeps.ite
          · apply State.grzFinish_keeps
            exact h5
          · split
            · apply State.grzFinish_keeps
              exact h5
            · extract_lets v7 v8
              have h9 : s0.Keeps v8 := by
                unfold v8
                apply State.setFlag_keeps
                refine State.Keeps.upd ?_ rfl rfl
                exact h5
              apply State.Keeps.ite
              · apply State.grzEnd_keeps
                exact h9
              · exact h9

theorem State.grzStage4_keeps {s0 : State} {s : State} (a1 : GrzServe) (a2 : GrzReq) (a3 : Geo) (a4 : Nat) (h : s0.Keeps s) :
    s0.Keeps (State.grzStage4 s a1 a2 a3 a4) := by
  unfold State.grzStage4
  split
  extract_lets v0 v1
  apply State.Keeps.foldl
  · exact h
  · intro t2 x3 h4
    extract_lets v5 v6
    have h7 : s0.Keeps v6 := by
      unfold v6
      apply State.count48_keeps
      exact h4
    apply State.Keeps.ite
    · apply State.count31_keeps
      exact h7
    · exact h7

theorem State.grzLine_keeps {s0 : State} {s : State} (a1 : GrzServe) (a2 : Nat) (h : s0.Keeps s) :
    s0.Keeps (State.grzLine s a1 a2) := by
  unfold State.grzLine
  extract_lets v0 v1 v2 v3 v4 v5 v6
  have h7 : s0.Keeps v6 := by
    unfold v6
    apply State.Keeps.ite
    · apply State.count31_keeps
      exact h
    · exact h
  split
  · exact h
  · split
    extract_lets v8 v9 v10 v11 v12 v13
    have h14 : s0.Keeps v11 := by
      unfold v11
      apply State.post_keeps
      apply State.grzStage4_keeps
      exact h7
    have h15 : s0.Keeps v12 := by
      unfold v12
      apply State.count48_keeps
      apply State.chBytes_keeps
      exact h14
    refine State.Keeps.upd ?_ rfl rfl
    exact h15

theorem State.grzWrite_keeps {s0 : State} {s : State} (n : Nat) (h : s0.Keeps s) : s0.Keeps (State.grzWrite n s) := by
  induction n generalizing s with
  | zero => exact h
  | succ n ih =>
    unfold State.grzWrite
    split
    · exact h
    · extract_lets r g
      split
      · exact State.grzEnd_keeps _ h
      · split
        · exact ih (State.grzLine_keeps _ _ h)
        · exact h

theorem State.grzMove_keeps {s0 : State} {s : State} (h : s0.Keeps s) :
    s0.Keeps (State.grzMove s) := by
  unfold State.grzMove
  split
  · exact h
  · apply State.Keeps.ite
    · exact h
    · split
      · extract_lets v0
        refine State.Keeps.upd ?_ rfl rfl
        exact h
      · apply State.grzEnd_keeps
        exact h

theorem State.grzRead_keeps {s0 : State} {s : State} (a1 : GrzServe) (a2 : Bool) (h : s0.Keeps s) :
    s0.Keeps (State.grzRead s a1 a2) := by
  unfold State.grzRead
  extract_lets v0 v1 v2 v3 v4 v5
  have h6 : s0.Keeps v2 := by
    unfold v2
    apply State.onQueue_keeps
    · exact h
    · intro t7 h8
      exact h8
  have h9 : s0.Keeps v4 := by
    unfold v4
    apply State.count48_keeps
    apply State.count48_keeps
    exact h6
  split
  · apply State.grzEnd_keeps
    exact h6
  · extract_lets v10
    apply State.Keeps.ite
    · apply State.grzEnd_keeps
      apply State.uncorrectable_keeps
      exact h6
    · refine State.Keeps.upd ?_ rfl rfl
      exact h9

theorem State.grzBarred_keeps {s0 : State} {s : State} (h : s0.Keeps s) :
    s0.Keeps (State.grzBarred s) := by
  unfold State.grzBarred
  split
  · exact h
  · apply State.Keeps.ite
    · exact h
    · apply State.Keeps.ite
      · apply State.grzEnd_keeps
        exact h
      · apply State.Keeps.ite
        · apply State.grzEnd_keeps
          exact h
        · exact h

theorem State.grzStep_keeps {s0 : State} {s : State} (a1 : Nat) (a2 : Bool) (h : s0.Keeps s) :
    s0.Keeps (State.grzStep s a1 a2) := by
  unfold State.grzStep
  extract_lets v0 v1
  have h2 : s0.Keeps v0 := by
    unfold v0
    apply State.grzBarred_keeps
    apply State.grzWrite_keeps
    apply State.grzMove_keeps
    exact h
  split
  · exact h2
  · extract_lets v3 v4 v5 v6
    apply State.Keeps.ite
    · exact h2
    · apply State.grzWrite_keeps
      apply State.grzRead_keeps
      apply State.count31_keeps
      refine State.Keeps.upd ?_ rfl rfl
      exact h2

theorem State.grzCfg_keeps {s0 : State} {s : State} (a1 : Nat) (a2 : Word) (h : s0.Keeps s) :
    s0.Keeps (State.grzCfg s a1 a2) := by
  unfold State.grzCfg
  extract_lets v0 v1 v2 v3
  have h4 : s0.Keeps v0 := by
    unfold v0
    apply State.plainWrite_keeps
    exact h
  apply State.Keeps.ite
  · apply State.imageReject_keeps
    exact h
  · exact h4

theorem execGrzPiWrite_keeps {s0 : State} (a0 : Path) (a1 : Word) {s : State} (h : s0.Keeps s) :
    s0.Answers (execGrzPiWrite a0 a1 s) := by
  unfold execGrzPiWrite
  apply State.Keeps.next
  apply State.guarded_keeps
  · exact h
  · intro t0 h1
    apply State.grzPi_keeps
    exact h1

theorem execGrzSubmit_keeps {s0 : State} (a0 : Path) (a1 : Word) {s : State} (h : s0.Keeps s) :
    s0.Answers (execGrzSubmit a0 a1 s) := by
  unfold execGrzSubmit
  apply State.Keeps.next
  apply State.guarded_keeps
  · exact h
  · intro t0 h1
    apply State.grzSubmit_keeps
    exact h1

theorem execGrzRingChange_keeps {s0 : State} (a0 : Path) (a1 : Word) {s : State} (h : s0.Keeps s) :
    s0.Answers (execGrzRingChange a0 a1 s) := by
  unfold execGrzRingChange
  apply State.Keeps.next
  apply State.guarded_keeps
  · exact h
  · intro t0 h1
    apply State.grzCtrl_keeps
    exact h1

theorem execAbortAll_keeps {s0 : State} (a0 : Path) (a1 : Word) {s : State} (h : s0.Keeps s) :
    s0.Answers (execAbortAll a0 a1 s) := by
  unfold execAbortAll
  apply State.Keeps.next
  apply State.guarded_keeps
  · exact h
  · intro t0 h1
    apply State.grzCtrl_keeps
    exact h1

theorem execGrazeTake_keeps {s0 : State} {s : State} (h : s0.Keeps s) :
    s0.Answers (execGrazeTake s) := by
  unfold execGrazeTake
  apply State.Keeps.next
  apply State.whenUp_keeps
  · exact h
  · intro t0 h1
    apply State.grzTake_keeps
    exact h1

theorem execGrazeLineRead_keeps {s0 : State} (a0 : Nat) (a1 : Bool) {s : State} (h : s0.Keeps s) :
    s0.Answers (execGrazeLineRead a0 a1 s) := by
  unfold execGrazeLineRead
  apply State.Keeps.next
  apply State.whenUp_keeps
  · exact h
  · intro t0 h1
    apply State.grzStep_keeps
    exact h1

end Sys2Proof.Machine
end

