-- ==== Sys2Proof/Laws/KeepsEndpoint.lean ====
section
/-! SUPPORT. What the operations of Machine/Endpoint.lean keep (`State.Keeps`), one lemma each. -/

namespace Sys2Proof.Machine

theorem State.chHostStop_keeps {s0 : State} {s : State} (a1 : Nat) (h : s0.Keeps s) :
    s0.Keeps (State.chHostStop s a1) := by
  unfold State.chHostStop
  extract_lets v0 v1 v2 v3
  have h4 : s0.Keeps v0 := by
    unfold v0
    apply State.chDiscard_keeps
    exact h
  have h5 : s0.Keeps v3 := by
    unfold v3
    split
    · apply State.Keeps.ite
      · apply State.count31_keeps
        exact h4
      · exact h4
    · exact h4
  apply State.Keeps.ite
  · exact h
  · apply State.setChState_keeps
    apply State.setChan_keeps
    exact h5

theorem State.poolRewind_keeps {s0 : State} {s : State} (a1 : Nat) (h : s0.Keeps s) :
    s0.Keeps (State.poolRewind s a1) := by
  unfold State.poolRewind
  extract_lets v0 v1
  apply State.setPool_keeps
  exact h

theorem State.dropLines_keeps {s0 : State} {s : State} (h : s0.Keeps s) :
    s0.Keeps (State.dropLines s) := by
  unfold State.dropLines
  extract_lets v0 v1
  apply State.Keeps.foldl
  · refine State.Keeps.upd ?_ rfl rfl
    exact h
  · intro t2 x3 h4
    split
    · apply State.lineFailed_keeps
      apply State.Keeps.ite
      · apply State.count31_keeps
        exact h4
      · exact h4
    · exact h4

theorem State.dropBufs_keeps {s0 : State} {s : State} (a1 : Bool) (h : s0.Keeps s) :
    s0.Keeps (State.dropBufs s a1) := by
  unfold State.dropBufs
  extract_lets v0 v1
  refine State.Keeps.upd ?_ rfl rfl
  exact h

theorem State.grzHostStop_keeps {s0 : State} {s : State} (h : s0.Keeps s) :
    s0.Keeps (State.grzHostStop s) := by
  unfold State.grzHostStop
  split
  · exact h
  · extract_lets v0 v1
    apply State.grzEnded_keeps
    apply State.setFlag_keeps
    refine State.Keeps.upd ?_ rfl rfl
    exact h

theorem State.masterStop_keeps {s0 : State} {s : State} (h : s0.Keeps s) :
    s0.Keeps (State.masterStop s) := by
  unfold State.masterStop
  extract_lets v0 v1 v2 v3
  have h4 : s0.Keeps v0 := by
    unfold v0
    apply State.Keeps.foldl
    · exact h
    · intro t5 x6 h7
      apply State.chHostStop_keeps
      exact h7
  have h8 : s0.Keeps v2 := by
    unfold v2
    refine State.Keeps.upd ?_ rfl rfl
    exact h4
  have h9 : s0.Keeps v3 := by
    unfold v3
    apply State.Keeps.foldl
    · exact h8
    · intro t10 x11 h12
      apply State.poolRewind_keeps
      exact h12
  apply State.grzHostStop_keeps
  apply State.dropBufs_keeps
  apply State.dropLines_keeps
  exact h9

theorem State.hostStopBuf_keeps {s0 : State} {s : State} (a1 : HerdBuf × Nat × Bool) (h : s0.Keeps s) :
    s0.Keeps (State.hostStopBuf s a1) := by
  unfold State.hostStopBuf
  extract_lets v0
  apply State.bufRecord_keeps
  apply State.drawn_keeps
  apply State.chBytes_keeps
  apply State.writeBack_keeps
  exact h

theorem State.masterGo_keeps {s0 : State} {s : State} (h : s0.Keeps s) :
    s0.Keeps (State.masterGo s) := by
  unfold State.masterGo
  extract_lets v0 v1 v2 v3 v4 v5 v6 v7 v8
  have h9 : s0.Keeps v2 := by
    unfold v2
    refine State.Keeps.upd ?_ rfl rfl
    exact h
  have h10 : s0.Keeps v3 := by
    unfold v3
    apply State.Keeps.foldl
    · exact h9
    · intro t11 x12 h13
      apply State.hostStopBuf_keeps
      exact h13
  have h14 : s0.Keeps v5 := by
    unfold v5
    apply State.Keeps.foldl
    · exact h10
    · intro t15 x16 h17
      extract_lets v18 v19
      apply State.Keeps.foldl
      · apply State.setChan_keeps
        exact h17
      · intro t20 x21 h22
        apply State.chReport_keeps
        exact h22
  have h23 : s0.Keeps v6 := by
    unfold v6
    apply State.Keeps.foldl
    · exact h14
    · intro t24 x25 h26
      extract_lets v27
      apply State.Keeps.ite
      · apply State.chRecord_keeps
        apply State.setChan_keeps
        exact h26
      · exact h26
  have h28 : s0.Keeps v8 := by
    unfold v8
    split
    · apply State.postRec_keeps
      refine State.Keeps.upd ?_ rfl rfl
      exact h23
    · exact h23
  apply State.Keeps.ite
  · exact h
  · apply State.kick_keeps
    apply State.flushIrq_keeps
    exact h28

theorem State.setBme_keeps {s0 : State} {s : State} (a1 : Bool) (h : s0.Keeps s) :
    s0.Keeps (State.setBme s a1) := by
  unfold State.setBme
  extract_lets v0 v1 v2
  have h3 : s0.Keeps v2 := by
    unfold v2
    refine State.Keeps.upd ?_ rfl rfl
    exact h
  apply State.Keeps.ite
  · apply State.masterStop_keeps
    exact h3
  · apply State.Keeps.ite
    · apply State.masterGo_keeps
      exact h3
    · exact h3

theorem State.setD3_keeps {s0 : State} {s : State} (a1 : Bool) (h : s0.Keeps s) :
    s0.Keeps (State.setD3 s a1) := by
  unfold State.setD3
  extract_lets v0 v1 v2 v3 v4
  have h5 : s0.Keeps v2 := by
    unfold v2
    refine State.Keeps.upd ?_ rfl rfl
    exact h
  have h6 : s0.Keeps v4 := by
    unfold v4
    apply State.Keeps.ite
    · apply State.setFld_keeps
      exact h5
    · exact h5
  apply State.Keeps.ite
  · exact h
  · apply State.Keeps.ite
    · apply State.masterStop_keeps
      exact h6
    · apply State.Keeps.ite
      · apply State.masterGo_keeps
        exact h6
      · exact h6

theorem State.resetRegs_keeps {s0 : State} {s : State} (lo hi : Nat) (h : s0.Keeps s) : s0.Keeps (s.resetRegs lo hi) :=
  State.setRegs_keeps h (tblWf_filter _ _ _)

theorem State.resetRings_keeps {s0 : State} {s : State} (h : s0.Keeps s) :
    s0.Keeps (State.resetRings s) := by
  unfold State.resetRings
  extract_lets v0 v1 v2 v3 v4 v5 v6 v7 v8 v9
  have h10 : s0.Keeps v1 := by
    unfold v1
    apply State.resetRegs_keeps
    exact h
  have h11 : s0.Keeps v2 := by
    unfold v2
    apply State.Keeps.foldl
    · exact h10
    · intro t12 x13 h14
      apply State.setFlag_keeps
      exact h14
  have h15 : s0.Keeps v4 := by
    unfold v4
    apply State.Keeps.foldl
    · exact h11
    · intro t16 x17 h18
      apply State.setFlag_keeps
      exact h18
  have h19 : s0.Keeps v5 := by
    unfold v5
    apply State.Keeps.foldl
    · exact h15
    · intro t20 x21 h22
      apply State.setFld_keeps
      apply State.setReg_keeps
      apply State.setReg_keeps
      exact h22
  have h23 : s0.Keeps v8 := by
    unfold v8
    refine State.Keeps.upd ?_ rfl rfl
    exact h19
  have h24 : s0.Keeps v9 := by
    unfold v9
    apply State.setReg_keeps
    apply State.setReg_keeps
    apply State.setReg_keeps
    exact h23
  apply State.setFlag_keeps
  exact h24

theorem State.resetGraze_keeps {s0 : State} {s : State} (h : s0.Keeps s) :
    s0.Keeps (State.resetGraze s) := by
  unfold State.resetGraze
  extract_lets v0
  have h1 : s0.Keeps v0 := by
    unfold v0
    apply State.setFlag_keeps
    apply State.grzDrop_keeps
    exact h
  apply State.setFld_keeps
  apply State.setReg_keeps
  apply State.setReg_keeps
  exact h1

theorem State.epResetAll_keeps {s0 : State} {s : State} (a1 : Bool) (h : s0.Keeps s) :
    s0.Keeps (State.epResetAll s a1) := by
  unfold State.epResetAll
  extract_lets v0 v1 v2 v3 v4 v5 v6
  have h7 : s0.Keeps v1 := by
    unfold v1
    apply State.Keeps.ite
    · apply State.emit_keeps
      exact h
    · exact h
  have h8 : s0.Keeps v2 := by
    unfold v2
    apply State.resetRings_keeps
    apply State.resetGraze_keeps
    apply State.dropBufs_keeps
    apply State.dropLines_keeps
    exact h7
  have h9 : s0.Keeps v3 := by
    unfold v3
    apply State.resetRegs_keeps
    exact h8
  have h10 : s0.Keeps v4 := by
    unfold v4
    apply State.setFlag_keeps
    apply State.setFld_keeps
    exact h9
  have h11 : s0.Keeps v5 := by
    unfold v5
    apply State.resetRegs_keeps
    exact h10
  refine State.Keeps.upd ?_ rfl rfl
  exact h11

theorem State.restartBeat_keeps {s0 : State} {s : State} (h : s0.Keeps s) :
    s0.Keeps (State.restartBeat s) := by
  unfold State.restartBeat
  extract_lets v0
  refine State.Keeps.upd ?_ rfl rfl
  exact h

theorem State.flr_keeps {s0 : State} {s : State} (h : s0.Keeps s) :
    s0.Keeps (State.flr s) := by
  unfold State.flr
  extract_lets v0 v1
  have h2 : s0.Keeps v0 := by
    unfold v0
    apply State.epResetAll_keeps
    exact h
  refine State.Keeps.upd ?_ rfl rfl
  exact h2

theorem State.flrDone_keeps {s0 : State} {s : State} (h : s0.Keeps s) :
    s0.Keeps (State.flrDone s) := by
  unfold State.flrDone
  extract_lets v0
  apply State.Keeps.ite
  · apply State.restartBeat_keeps
    refine State.Keeps.upd ?_ rfl rfl
    exact h
  · exact h

theorem State.linkDown_keeps {s0 : State} {s : State} (h : s0.Keeps s) :
    s0.Keeps (State.linkDown s) := by
  unfold State.linkDown
  extract_lets v0 v1 v2 v3
  have h4 : s0.Keeps v1 := by
    unfold v1
    apply State.Keeps.ite
    · refine State.Keeps.upd ?_ rfl rfl
      exact h
    · exact h
  have h5 : s0.Keeps v2 := by
    unfold v2
    apply State.Keeps.ite
    · apply State.count31_keeps
      exact h4
    · exact h4
  have h6 : s0.Keeps v3 := by
    unfold v3
    apply State.setFld_keeps
    apply State.setFlag_keeps
    exact h5
  apply State.epResetAll_keeps
  exact h6

theorem State.linkUp_keeps {s0 : State} {s : State} (a1 : Nat) (a2 : Nat) (a3 : Bool) (h : s0.Keeps s) :
    s0.Keeps (State.linkUp s a1 a2 a3) := by
  unfold State.linkUp
  extract_lets v0 v1 v2 v3
  have h4 : s0.Keeps v1 := by
    unfold v1
    refine State.Keeps.upd ?_ rfl rfl
    exact h
  have h5 : s0.Keeps v2 := by
    unfold v2
    apply State.setFlag_keeps
    apply State.setFld_keeps
    apply State.setFlag_keeps
    exact h4
  have h6 : s0.Keeps v3 := by
    unfold v3
    apply State.setFld_keeps
    apply State.setFld_keeps
    apply State.setFld_keeps
    exact h5
  apply State.Keeps.ite
  · exact h
  · apply State.syncInta_keeps
    apply State.settleWake_keeps
    apply State.restartBeat_keeps
    exact h6

theorem State.linkRetrain_keeps {s0 : State} {s : State} (a1 : Nat) (a2 : Nat) (a3 : Bool) (h : s0.Keeps s) :
    s0.Keeps (State.linkRetrain s a1 a2 a3) := by
  unfold State.linkRetrain
  extract_lets v0
  have h1 : s0.Keeps v0 := by
    unfold v0
    apply State.setFlag_keeps
    apply State.setFld_keeps
    exact h
  apply State.Keeps.ite
  · exact h
  · apply State.settleWake_keeps
    apply State.setFld_keeps
    apply State.setFld_keeps
    apply State.setFld_keeps
    exact h1

theorem State.l0p_keeps {s0 : State} {s : State} (a1 : Nat) (h : s0.Keeps s) :
    s0.Keeps (State.l0p s a1) := by
  unfold State.l0p
  apply State.Keeps.ite
  · exact h
  · apply State.setFld_keeps
    apply State.setFld_keeps
    exact h

theorem State.aspmEntry_keeps {s0 : State} {s : State} (h : s0.Keeps s) :
    s0.Keeps (State.aspmEntry s) := by
  unfold State.aspmEntry
  extract_lets v0
  apply State.Keeps.ite
  · apply State.setFld_keeps
    exact h
  · exact h

theorem State.pmCtrl_keeps {s0 : State} {s : State} (a1 : Word) (h : s0.Keeps s) :
    s0.Keeps (State.pmCtrl s a1) := by
  unfold State.pmCtrl
  apply State.Keeps.ite
  · apply State.wakeHost_keeps
    exact h
  · exact h

theorem State.irqPendW1c_keeps {s0 : State} {s : State} (a1 : Nat) (a2 : Word) (h : s0.Keeps s) :
    s0.Keeps (State.irqPendW1c s a1 a2) := by
  unfold State.irqPendW1c
  extract_lets v0
  apply State.syncInta_keeps
  refine State.Keeps.upd ?_ rfl rfl
  exact h

theorem State.attApply_keeps {s0 : State} {s : State} (h : s0.Keeps s) :
    s0.Keeps (State.attApply s) := by
  unfold State.attApply
  split
  · apply State.setFld_keeps
    apply State.setFlag_keeps
    exact h
  · extract_lets v0 v1 v2 v3
    have h4 : s0.Keeps v1 := by
      unfold v1
      apply State.Keeps.foldl
      · exact h
      · intro t5 x6 h7
        apply State.setReg_keeps
        apply State.setReg_keeps
        exact h7
    have h8 : s0.Keeps v2 := by
      unfold v2
      apply State.setFld_keeps
      exact h4
    refine State.Keeps.upd ?_ rfl rfl
    exact h8

theorem State.attCommit_keeps {s0 : State} {s : State} (a1 : Word) (h : s0.Keeps s) :
    s0.Keeps (State.attCommit s a1) := by
  unfold State.attCommit
  apply State.Keeps.ite
  · exact h
  · apply State.Keeps.ite
    · apply State.setFlag_keeps
      exact h
    · split
      · apply State.setFld_keeps
        apply State.setFlag_keeps
        exact h
      · extract_lets v0
        apply State.Keeps.ite
        · apply State.setFlag_keeps
          refine State.Keeps.upd ?_ rfl rfl
          exact h
        · apply State.attApply_keeps
          exact h

theorem State.attRelease_keeps {s0 : State} {s : State} (h : s0.Keeps s) :
    s0.Keeps (State.attRelease s) := by
  unfold State.attRelease
  extract_lets v0 v1 v2
  have h3 : s0.Keeps v2 := by
    unfold v2
    refine State.Keeps.upd ?_ rfl rfl
    exact h
  apply State.Keeps.ite
  · apply State.attApply_keeps
    apply State.setFlag_keeps
    exact h3
  · exact h3

theorem State.bar2Write_keeps {s0 : State} {s : State} (a1 : Nat) (a2 : Word) (h : s0.Keeps s) :
    s0.Keeps (State.bar2Write s a1 a2) := by
  unfold State.bar2Write
  extract_lets v0 v1
  apply State.Keeps.ite
  · refine State.Keeps.upd ?_ rfl rfl
    exact h
  · exact h

theorem State.bar2_keeps {s0 : State} {s : State} (a1 : BarRequest) (h : s0.Keeps s) :
    s0.Keeps (State.bar2 s a1) := by
  unfold State.bar2
  extract_lets v0 v1
  have h2 : s0.Keeps v1 := by
    unfold v1
    apply State.bufErr_keeps
    apply State.exitL1_keeps
    exact h
  apply State.Keeps.ite
  · apply State.barUr_keeps
    exact h2
  · apply State.Keeps.ite
    · exact h2
    · apply State.Keeps.ite
      · apply State.barUr_keeps
        exact h2
      · apply State.Keeps.ite
        · apply State.Keeps.ite
          · apply State.poisonIn_keeps
            exact h2
          · apply State.flushIrq_keeps
            apply State.Keeps.foldl
            · exact h2
            · intro t3 x4 h5
              apply State.bar2Write_keeps
              exact h5
        · apply State.emit_keeps
          exact h2

theorem State.bar4_keeps {s0 : State} {s : State} (a1 : BarRequest) (a2 : Bool) (h : s0.Keeps s) :
    s0.Keeps (State.bar4 s a1 a2) := by
  unfold State.bar4
  extract_lets v0 v1 v2
  have h3 : s0.Keeps v1 := by
    unfold v1
    apply State.bufErr_keeps
    apply State.exitL1_keeps
    exact h
  have h4 : s0.Keeps v2 := by
    unfold v2
    apply State.aer_keeps
    apply State.count31_keeps
    exact h3
  apply State.Keeps.ite
  · apply State.barUr_keeps
    exact h3
  · apply State.Keeps.ite
    · exact h3
    · split
      · apply State.Keeps.ite
        · exact h4
        · apply State.emit_keeps
          exact h4
      · apply State.Keeps.ite
        · apply State.intWrite_keeps
          apply State.Keeps.ite
          · apply State.aer_keeps
            exact h3
          · exact h3
        · split
          apply State.emit_keeps
          exact h3

theorem State.unsupported_keeps {s0 : State} {s : State} (a1 : Bool) (a2 : Bool) (a3 : List Word) (h : s0.Keeps s) :
    s0.Keeps (State.unsupported s a1 a2 a3) := by
  unfold State.unsupported
  apply State.Keeps.ite
  · exact h
  · apply State.barUr_keeps
    exact h

theorem State.marginCmd_keeps {s0 : State} {s : State} (a1 : Nat) (a2 : Word) (h : s0.Keeps s) :
    s0.Keeps (State.marginCmd s a1 a2) := by
  unfold State.marginCmd
  extract_lets v0 v1 v2 v3 v4 v5 v6
  have h7 : s0.Keeps v5 := by
    unfold v5
    apply State.Keeps.ite
    · apply State.drawn_keeps
      exact h
    · exact h
  refine State.Keeps.upd ?_ rfl rfl
  exact h7

theorem State.cfgSet_keeps {s0 : State} {s : State} (a1 : Nat) (a2 : Word) (a3 : Word) (h : s0.Keeps s) :
    s0.Keeps (State.cfgSet s a1 a2 a3) := by
  unfold State.cfgSet
  extract_lets v0 v1 v2 v3 v4 v5 v6
  have h7 : s0.Keeps v1 := by
    unfold v1
    refine State.Keeps.upd ?_ rfl rfl
    exact h
  have h8 : s0.Keeps v3 := by
    unfold v3
    refine State.Keeps.upd ?_ rfl rfl
    exact h
  have h9 : s0.Keeps v4 := by
    unfold v4
    refine State.Keeps.upd ?_ rfl rfl
    exact h
  split
  · apply State.syncInta_keeps
    apply State.setBme_keeps
    exact h7
  · refine State.Keeps.upd ?_ rfl rfl
    exact h
  · refine State.Keeps.upd ?_ rfl rfl
    exact h
  · refine State.Keeps.upd ?_ rfl rfl
    exact h
  · refine State.Keeps.upd ?_ rfl rfl
    exact h
  · refine State.Keeps.upd ?_ rfl rfl
    exact h
  · refine State.Keeps.upd ?_ rfl rfl
    exact h
  · refine State.Keeps.upd ?_ rfl rfl
    exact h
  · refine State.Keeps.upd ?_ rfl rfl
    exact h
  · split
    · apply State.settleWake_keeps
      apply State.setD3_keeps
      exact h8
    · apply State.setD3_keeps
      exact h8
    · exact h8
  · apply State.syncInta_keeps
    refine State.Keeps.upd ?_ rfl rfl
    exact h
  · refine State.Keeps.upd ?_ rfl rfl
    exact h
  · refine State.Keeps.upd ?_ rfl rfl
    exact h
  · refine State.Keeps.upd ?_ rfl rfl
    exact h
  · apply State.flushIrq_keeps
    refine State.Keeps.upd ?_ rfl rfl
    exact h
  · apply State.Keeps.ite
    · apply State.flr_keeps
      exact h9
    · exact h9
  · refine State.Keeps.upd ?_ rfl rfl
    exact h
  · refine State.Keeps.upd ?_ rfl rfl
    exact h
  · apply State.flushIrq_keeps
    refine State.Keeps.upd ?_ rfl rfl
    exact h
  · refine State.Keeps.upd ?_ rfl rfl
    exact h
  · refine State.Keeps.upd ?_ rfl rfl
    exact h
  · refine State.Keeps.upd ?_ rfl rfl
    exact h
  · refine State.Keeps.upd ?_ rfl rfl
    exact h
  · refine State.Keeps.upd ?_ rfl rfl
    exact h
  · refine State.Keeps.upd ?_ rfl rfl
    exact h
  · refine State.Keeps.upd ?_ rfl rfl
    exact h
  · apply State.Keeps.ite
    · apply State.marginCmd_keeps
      exact h
    · exact h

theorem State.cfgWrite_keeps {s0 : State} {s : State} (a1 : Nat) (a2 : Word) (a3 : Nat) (h : s0.Keeps s) :
    s0.Keeps (State.cfgWrite s a1 a2 a3) := by
  unfold State.cfgWrite
  extract_lets v0 v1
  have h2 : s0.Keeps v0 := by
    unfold v0
    apply State.exitL1_keeps
    exact h
  apply State.Keeps.ite
  · exact h
  · apply State.Keeps.ite
    · apply State.Keeps.ite
      · apply State.emit_keeps
        exact h
      · exact h
    · apply State.Keeps.ite
      · apply State.emit_keeps
        apply State.exitL1_keeps
        exact h
      · apply State.cfgSet_keeps
        exact h2

theorem execHepIrqPendClear_keeps {s0 : State} (a0 : Path) (a1 : Fin 42) (a2 : Word) {s : State} (h : s0.Keeps s) :
    s0.Answers (execHepIrqPendClear a0 a1 a2 s) := by
  unfold execHepIrqPendClear
  apply State.Keeps.next
  apply State.guarded_keeps
  · exact h
  · intro t0 h1
    apply State.irqPendW1c_keeps
    exact h1

theorem execUnsupportedRequest_keeps {s0 : State} (a0 : Bool) (a1 : Bool) (a2 : List Word) {s : State} (h : s0.Keeps s) :
    s0.Answers (execUnsupportedRequest a0 a1 a2 s) := by
  unfold execUnsupportedRequest
  apply State.Keeps.next
  apply State.Keeps.ite
  · apply State.unsupported_keeps
    exact h
  · exact h

theorem execBar2Request_keeps {s0 : State} (a0 : BarRequest) {s : State} (h : s0.Keeps s) :
    s0.Answers (execBar2Request a0 s) := by
  unfold execBar2Request
  apply State.Keeps.next
  apply State.Keeps.ite
  · apply State.bar2_keeps
    exact h
  · exact h

theorem execBar4Request_keeps {s0 : State} (a0 : BarRequest) (a1 : Bool) {s : State} (h : s0.Keeps s) :
    s0.Answers (execBar4Request a0 a1 s) := by
  unfold execBar4Request
  apply State.Keeps.next
  apply State.Keeps.ite
  · apply State.bar4_keeps
    exact h
  · exact h

theorem execHepAttCommit_keeps {s0 : State} (a0 : Path) (a1 : Word) {s : State} (h : s0.Keeps s) :
    s0.Answers (execHepAttCommit a0 a1 s) := by
  unfold execHepAttCommit
  apply State.Keeps.next
  apply State.guarded_keeps
  · exact h
  · intro t0 h1
    apply State.attCommit_keeps
    exact h1

theorem execAttOldGenerationRelease_keeps {s0 : State} {s : State} (h : s0.Keeps s) :
    s0.Answers (execAttOldGenerationRelease s) := by
  unfold execAttOldGenerationRelease
  apply State.Keeps.next
  apply State.whenUp_keeps
  · exact h
  · intro t0 h1
    apply State.attRelease_keeps
    exact h1

theorem execBusMasterEnableClear_keeps {s0 : State} {s : State} (h : s0.Keeps s) :
    s0.Answers (execBusMasterEnableClear s) := by
  unfold execBusMasterEnableClear
  apply State.Keeps.next
  apply State.cfgWrite_keeps
  exact h

theorem execBusMasterEnableSet_keeps {s0 : State} {s : State} (h : s0.Keeps s) :
    s0.Answers (execBusMasterEnableSet s) := by
  unfold execBusMasterEnableSet
  apply State.Keeps.next
  apply State.cfgWrite_keeps
  exact h

theorem execFunctionLevelReset_keeps {s0 : State} {s : State} (h : s0.Keeps s) :
    s0.Answers (execFunctionLevelReset s) := by
  unfold execFunctionLevelReset
  apply State.Keeps.next
  apply State.cfgWrite_keeps
  exact h

theorem execFlrComplete_keeps {s0 : State} {s : State} (h : s0.Keeps s) :
    s0.Answers (execFlrComplete s) := by
  unfold execFlrComplete
  apply State.Keeps.next
  apply State.whenUp_keeps
  · exact h
  · intro t0 h1
    apply State.flrDone_keeps
    exact h1

theorem execTagQuarantineEnd_keeps {s0 : State} (a0 : Nat) {s : State} (h : s0.Keeps s) :
    s0.Answers (execTagQuarantineEnd a0 s) := by
  unfold execTagQuarantineEnd
  apply State.Keeps.next
  extract_lets v0
  apply State.Keeps.ite
  · apply State.kick_keeps
    refine State.Keeps.upd ?_ rfl rfl
    exact h
  · exact h

theorem execPerstNAssert_keeps {s0 : State} {s : State} (h : s0.Keeps s) :
    s0.Answers (execPerstNAssert s) := by
  unfold execPerstNAssert
  apply State.Keeps.next
  extract_lets v0 v1
  have h2 : s0.Keeps v1 := by
    unfold v1
    refine State.Keeps.upd ?_ rfl rfl
    exact h
  apply State.Keeps.ite
  · apply State.linkDown_keeps
    exact h2
  · exact h2

theorem execHotReset_keeps {s0 : State} {s : State} (h : s0.Keeps s) :
    s0.Answers (execHotReset s) := by
  unfold execHotReset
  apply State.Keeps.next
  apply State.whenUp_keeps
  · exact h
  · intro t0 h1
    apply State.setFld_keeps
    apply State.epResetAll_keeps
    exact h1

theorem execDlDown_keeps {s0 : State} (a0 : List LinkErr) {s : State} (h : s0.Keeps s) :
    s0.Answers (execDlDown a0 s) := by
  unfold execDlDown
  apply State.Keeps.next
  apply State.whenUp_keeps
  · exact h
  · intro t0 h1
    apply State.linkDown_keeps
    apply State.Keeps.foldl
    · exact h1
    · intro t2 x3 h4
      apply State.linkErr_keeps
      exact h4

theorem execDlUp_keeps {s0 : State} (a0 : Fin 5) (a1 : Fin 6) (a2 : Bool) {s : State} (h : s0.Keeps s) :
    s0.Answers (execDlUp a0 a1 a2 s) := by
  unfold execDlUp
  apply State.Keeps.next
  apply State.whenUp_keeps
  · exact h
  · intro t0 h1
    apply State.linkUp_keeps
    exact h1

theorem execHostLinkRetrain_keeps {s0 : State} (a0 : Fin 5) (a1 : Fin 6) (a2 : Bool) (a3 : List LinkErr) {s : State} (h : s0.Keeps s) :
    s0.Answers (execHostLinkRetrain a0 a1 a2 a3 s) := by
  unfold execHostLinkRetrain
  apply State.Keeps.next
  apply State.whenUp_keeps
  · exact h
  · intro t0 h1
    apply State.linkRetrain_keeps
    apply State.Keeps.foldl
    · exact h1
    · intro t2 x3 h4
      apply State.linkErr_keeps
      exact h4

theorem execL0pWidthChange_keeps {s0 : State} (a0 : Fin 5) {s : State} (h : s0.Keeps s) :
    s0.Answers (execL0pWidthChange a0 s) := by
  unfold execL0pWidthChange
  apply State.Keeps.next
  apply State.whenUp_keeps
  · exact h
  · intro t0 h1
    apply State.l0p_keeps
    exact h1

theorem execAspmL1Entry_keeps {s0 : State} {s : State} (h : s0.Keeps s) :
    s0.Answers (execAspmL1Entry s) := by
  unfold execAspmL1Entry
  apply State.Keeps.next
  apply State.whenUp_keeps
  · exact h
  · intro t0 h1
    apply State.aspmEntry_keeps
    exact h1

theorem execPowerStateD3hot_keeps {s0 : State} {s : State} (h : s0.Keeps s) :
    s0.Answers (execPowerStateD3hot s) := by
  unfold execPowerStateD3hot
  apply State.Keeps.next
  apply State.cfgWrite_keeps
  exact h

theorem execPowerStateD0_keeps {s0 : State} {s : State} (h : s0.Keeps s) :
    s0.Answers (execPowerStateD0 s) := by
  unfold execPowerStateD0
  apply State.Keeps.next
  apply State.cfgWrite_keeps
  exact h

theorem execHepPmCtrlWake_keeps {s0 : State} (a0 : Path) (a1 : Word) {s : State} (h : s0.Keeps s) :
    s0.Answers (execHepPmCtrlWake a0 a1 s) := by
  unfold execHepPmCtrlWake
  apply State.Keeps.next
  apply State.guarded_keeps
  · exact h
  · intro t0 h1
    apply State.pmCtrl_keeps
    exact h1

theorem execConfigurationWrite_keeps {s0 : State} (a0 : Fin 4096) (a1 : Word) (a2 : Fin 16) {s : State} (h : s0.Keeps s) :
    s0.Answers (execConfigurationWrite a0 a1 a2 s) := by
  unfold execConfigurationWrite
  apply State.Keeps.next
  apply State.cfgWrite_keeps
  exact h

end Sys2Proof.Machine
end

