-- ==== Sys2Proof/Laws/KeepsLedger.lean ====
section
/-! SUPPORT. What the operations of Machine/Ledger.lean keep (`State.Keeps`), one lemma each. -/

namespace Sys2Proof.Machine

theorem State.ledNote_keeps {s0 : State} {s : State} (a1 : Nat) (a2 : Nat) (h : s0.Keeps s) :
    s0.Keeps (State.ledNote s a1 a2) := by
  unfold State.ledNote
  apply State.Keeps.ite
  · apply State.log_keeps
    exact h
  · exact h

theorem State.eraseSector_keeps {s0 : State} {s : State} (a1 : Nat) (h : s0.Keeps s) :
    s0.Keeps (State.eraseSector s a1) := by
  unfold State.eraseSector
  extract_lets v0 v1 v2 v3
  have h4 : s0.Keeps v2 := by
    unfold v2
    apply State.eraseRange_keeps
    exact h
  apply State.ledNote_keeps
  refine State.Keeps.upd ?_ rfl rfl
  exact h4

theorem State.snapshot_keeps {s0 : State} {s : State} (h : s0.Keeps s) :
    s0.Keeps (State.snapshot s) := by
  unfold State.snapshot
  extract_lets v0 v1 v2 v3 v4 v5
  have h6 : s0.Keeps v2 := by
    unfold v2
    apply State.eraseSector_keeps
    exact h
  have h7 : s0.Keeps v4 := by
    unfold v4
    refine State.Keeps.upd ?_ rfl rfl
    exact h6
  apply State.program_keeps
  exact h7

theorem State.loadLedger_keeps {s0 : State} {s : State} (h : s0.Keeps s) :
    s0.Keeps (State.loadLedger s) := by
  unfold State.loadLedger
  split
  · refine State.Keeps.upd ?_ rfl rfl
    exact h
  · refine State.Keeps.upd ?_ rfl rfl
    exact h

theorem State.calRegs_keeps {s0 : State} {s : State} (h : s0.Keeps s) :
    s0.Keeps (State.calRegs s) := by
  unfold State.calRegs
  apply State.Keeps.foldl
  · exact h
  · intro t0 x1 h2
    extract_lets v3 v4
    apply State.setReg_keeps
    apply State.setPair_keeps
    exact h2

theorem State.openLog_keeps {s0 : State} {s : State} (h : s0.Keeps s) :
    s0.Keeps (State.openLog s) := by
  unfold State.openLog
  extract_lets v0 v1 v2 v3 v4 v5 v6 v7 v8 v9
  have h10 : s0.Keeps v3 := by
    unfold v3
    refine State.Keeps.upd ?_ rfl rfl
    exact h
  have h11 : s0.Keeps v9 := by
    unfold v9
    apply State.program_keeps
    exact h10
  apply State.Keeps.ite
  · exact h10
  · split
    · apply State.program_keeps
      exact h10
    · apply State.log_keeps
      exact h11

theorem State.loadSlot_keeps {s0 : State} {s : State} (a1 : Path) (a2 : Nat) (h : s0.Keeps s) :
    s0.Keeps (State.loadSlot s a1 a2) := by
  unfold State.loadSlot
  extract_lets v0
  apply State.setPath_keeps
  exact h

theorem State.recCursor_keeps {s0 : State} {s : State} (a1 : Path) (a2 : Word) (h : s0.Keeps s) :
    s0.Keeps (State.recCursor s a1 a2) := by
  unfold State.recCursor
  extract_lets v0 v1
  have h2 : s0.Keeps v0 := by
    unfold v0
    apply State.loadSlot_keeps
    exact h
  apply State.setPath_keeps
  exact h2

theorem State.windowLoaded_keeps {s0 : State} {s : State} (a1 : Path) (h : s0.Keeps s) :
    s0.Keeps (State.windowLoaded s a1) := by
  unfold State.windowLoaded
  extract_lets v0 v1
  apply State.Keeps.ite
  · exact h
  · apply State.setPath_keeps
    exact h

theorem State.windowRead_keeps {s0 : State} {s : State} (a1 : Path) (a2 : Nat) (h : s0.Keeps s) :
    s0.Keeps (State.windowRead s a1 a2) := by
  unfold State.windowRead
  extract_lets v0 v1
  have h2 : s0.Keeps v1 := by
    unfold v1
    apply State.answer_keeps
    exact h
  apply State.Keeps.ite
  · apply State.loadSlot_keeps
    exact h2
  · exact h2

theorem State.beginClear_keeps {s0 : State} {s : State} (a1 : Nat) (a2 : Nat) (h : s0.Keeps s) :
    s0.Keeps (State.beginClear s a1 a2) := by
  unfold State.beginClear
  extract_lets v0 v1 v2
  have h3 : s0.Keeps v0 := by
    unfold v0
    apply State.closeRec_keeps
    exact h
  refine State.Keeps.upd ?_ rfl rfl
  exact h3

theorem State.windowsLive_keeps {s0 : State} {s : State} (h : s0.Keeps s) :
    s0.Keeps (State.windowsLive s) := by
  unfold State.windowsLive
  apply State.Keeps.foldl
  · exact h
  · intro t0 x1 h2
    extract_lets v3
    apply State.setPath_keeps
    exact h2

theorem State.endClear_keeps {s0 : State} {s : State} (h : s0.Keeps s) :
    s0.Keeps (State.endClear s) := by
  unfold State.endClear
  split
  · exact h
  · extract_lets v0 v1 v2 v3 v4 v5 v6 v7
    have h8 : s0.Keeps v0 := by
      unfold v0
      apply State.Keeps.foldl
      · exact h
      · intro t9 x10 h11
        apply State.eraseSector_keeps
        exact h11
    have h12 : s0.Keeps v2 := by
      unfold v2
      refine State.Keeps.upd ?_ rfl rfl
      exact h8
    have h13 : s0.Keeps v3 := by
      unfold v3
      apply State.openRec_keeps
      exact h12
    have h14 : s0.Keeps v7 := by
      unfold v7
      refine State.Keeps.upd ?_ rfl rfl
      exact h13
    apply State.ledNote_keeps
    apply State.writeHeld_keeps
    apply State.windowsLive_keeps
    exact h14

theorem State.recCtrl_keeps {s0 : State} {s : State} (a1 : Path) (a2 : Word) (h : s0.Keeps s) :
    s0.Keeps (State.recCtrl s a1 a2) := by
  unfold State.recCtrl
  apply State.Keeps.ite
  · apply State.beginClear_keeps
    exact h
  · exact h

theorem State.tempSecond_keeps {s0 : State} {s : State} (h : s0.Keeps s) : s0.Keeps s.tempSecond := by
  unfold State.tempSecond
  cases s.hottest with
  | none => exact State.ledNote_keeps _ _ ((State.drawn_keeps h).upd rfl rfl)
  | some t => exact State.ledNote_keeps _ _ (h.upd rfl rfl)

theorem State.calCheck_keeps {s0 : State} {s : State} (a1 : Nat) (h : s0.Keeps s) :
    s0.Keeps (State.calCheck s a1) := by
  unfold State.calCheck
  extract_lets v0 v1 v2
  apply State.Keeps.ite
  · apply State.log_keeps
    refine State.Keeps.upd ?_ rfl rfl
    exact h
  · exact h

theorem State.opSecond_keeps {s0 : State} {s : State} (h : s0.Keeps s) :
    s0.Keeps (State.opSecond s) := by
  unfold State.opSecond
  extract_lets v0 v1 v2 v3 v4 v5 v6 v7
  have h8 : s0.Keeps v3 := by
    unfold v3
    refine State.Keeps.upd ?_ rfl rfl
    exact h
  have h9 : s0.Keeps v4 := by
    unfold v4
    apply State.ledNote_keeps
    exact h8
  have h10 : s0.Keeps v5 := by
    unfold v5
    apply State.Keeps.ite
    · apply State.tempSecond_keeps
      exact h9
    · exact h9
  have h11 : s0.Keeps v7 := by
    unfold v7
    apply State.Keeps.ite
    · refine State.Keeps.upd ?_ rfl rfl
      exact h10
    · exact h10
  apply State.Keeps.foldl
  · exact h11
  · intro t12 x13 h14
    apply State.calCheck_keeps
    exact h14

theorem State.ageOne_keeps {s0 : State} {s : State} (a1 : Nat) (h : s0.Keeps s) :
    s0.Keeps (State.ageOne s a1) := by
  unfold State.ageOne
  extract_lets v0 v1 v2 v3 v4 v5 v6 v7 v8
  have h9 : s0.Keeps v1 := by
    unfold v1
    apply State.drawn_keeps
    exact h
  have h10 : s0.Keeps v5 := by
    unfold v5
    refine State.Keeps.upd ?_ rfl rfl
    exact h9
  apply State.Keeps.ite
  · refine State.Keeps.upd ?_ rfl rfl
    exact h10
  · apply State.Keeps.ite
    · exact h10
    · apply State.log_keeps
      refine State.Keeps.upd ?_ rfl rfl
      exact h10

theorem State.ageMeasure_keeps {s0 : State} {s : State} (h : s0.Keeps s) :
    s0.Keeps (State.ageMeasure s) := by
  unfold State.ageMeasure
  apply State.Keeps.foldl
  · exact h
  · intro t0 x1 h2
    apply State.ageOne_keeps
    exact h2

theorem State.calCfg_keeps {s0 : State} {s : State} (a1 : Nat) (a2 : Word) (h : s0.Keeps s) :
    s0.Keeps (State.calCfg s a1 a2) := by
  unfold State.calCfg
  extract_lets v0 v1 v2 v3
  have h4 : s0.Keeps v0 := by
    unfold v0
    apply State.plainWrite_keeps
    exact h
  apply State.Keeps.ite
  · exact h4
  · refine State.Keeps.upd ?_ rfl rfl
    exact h4

theorem execOperatingSecond_keeps {s0 : State} {s : State} (h : s0.Keeps s) :
    s0.Answers (execOperatingSecond s) := by
  unfold execOperatingSecond
  apply State.Keeps.next
  apply State.Keeps.ite
  · exact h
  · apply State.opSecond_keeps
    exact h

theorem execLedgerSnapshot_keeps {s0 : State} {s : State} (h : s0.Keeps s) :
    s0.Answers (execLedgerSnapshot s) := by
  unfold execLedgerSnapshot
  apply State.Keeps.next
  apply State.Keeps.ite
  · apply State.snapshot_keeps
    exact h
  · exact h

theorem execAgeMeasure_keeps {s0 : State} {s : State} (h : s0.Keeps s) :
    s0.Answers (execAgeMeasure s) := by
  unfold execAgeMeasure
  apply State.Keeps.next
  apply State.Keeps.ite
  · apply State.ageMeasure_keeps
    exact h
  · exact h

theorem execLedCalCfgCommit_keeps {s0 : State} (a0 : Path) (a1 : Fin 32) (a2 : Word) {s : State} (h : s0.Keeps s) :
    s0.Answers (execLedCalCfgCommit a0 a1 a2 s) := by
  unfold execLedCalCfgCommit
  apply State.Keeps.next
  apply State.guarded_keeps
  · exact h
  · intro t0 h1
    apply State.calCfg_keeps
    exact h1

theorem execRecCursorWrite_keeps {s0 : State} (a0 : Path) (a1 : Word) {s : State} (h : s0.Keeps s) :
    s0.Answers (execRecCursorWrite a0 a1 s) := by
  unfold execRecCursorWrite
  apply State.Keeps.next
  apply State.guarded_keeps
  · exact h
  · intro t0 h1
    apply State.recCursor_keeps
    exact h1

theorem execRecWindowLoaded_keeps {s0 : State} (a0 : Path) {s : State} (h : s0.Keeps s) :
    s0.Answers (execRecWindowLoaded a0 s) := by
  unfold execRecWindowLoaded
  apply State.Keeps.next
  apply State.Keeps.ite
  · apply State.windowLoaded_keeps
    exact h
  · exact h

theorem execRecWindow7Read_keeps {s0 : State} (a0 : Path) {s : State} (h : s0.Keeps s) :
    s0.Answers (execRecWindow7Read a0 s) := by
  unfold execRecWindow7Read
  apply State.Keeps.next
  apply State.guardedRead_keeps
  · exact h
  · intro t0 h1
    apply State.windowRead_keeps
    exact h1

theorem execLogClearEraseDone_keeps {s0 : State} {s : State} (h : s0.Keeps s) :
    s0.Answers (execLogClearEraseDone s) := by
  unfold execLogClearEraseDone
  apply State.Keeps.next
  apply State.Keeps.ite
  · apply State.endClear_keeps
    exact h
  · exact h

end Sys2Proof.Machine
end

