-- ==== Sys2Proof/Laws/KeepsImage.lean ====
section
/-! SUPPORT. What the operations of Machine/Image.lean keep (`State.Keeps`), one lemma each. -/

namespace Sys2Proof.Machine

theorem State.eachPath_keeps {s0 : State} {s : State} (a1 : PathSt → PathSt) (h : s0.Keeps s) :
    s0.Keeps (State.eachPath s a1) := by
  unfold State.eachPath
  refine State.Keeps.upd ?_ rfl rfl
  exact h

theorem State.putField_keeps {s0 : State} {s : State} (a1 : Nat) (a2 : Word) (a3 : Word) (h : s0.Keeps s) :
    s0.Keeps (State.putField s a1 a2 a3) := by
  unfold State.putField
  extract_lets v0 v1 v2 v3 v4
  apply State.Keeps.ite
  · refine State.Keeps.upd ?_ rfl rfl
    exact h
  · apply State.Keeps.ite
    · refine State.Keeps.upd ?_ rfl rfl
      exact h
    · apply State.Keeps.ite
      · apply State.eachPath_keeps
        exact h
      · apply State.Keeps.ite
        · apply State.Keeps.ite
          · refine State.Keeps.upd ?_ rfl rfl
            exact h
          · exact h
        · apply State.Keeps.ite
          · apply State.eachPath_keeps
            exact h
          · split
            · apply State.eachPath_keeps
              exact h
            · apply State.setReg_keeps
              exact h

theorem State.putFields_keeps {s0 : State} {s : State} (a1 : List (Nat × Word × Word)) (h : s0.Keeps s) :
    s0.Keeps (State.putFields s a1) := by
  unfold State.putFields
  apply State.Keeps.foldl
  · exact h
  · intro t0 x1 h2
    apply State.putField_keeps
    exact h2

theorem State.incFrom_keeps {s0 : State} {s : State} (a1 : Nat) (h : s0.Keeps s) :
    s0.Keeps (State.incFrom s a1) := by
  unfold State.incFrom
  extract_lets v0
  apply State.Keeps.ite
  · exact h
  · refine State.Keeps.upd ?_ rfl rfl
    exact h

theorem State.applyOverlay_keeps {s0 : State} {s : State} (a1 : Nat) (a2 : Nat) (h : s0.Keeps s) :
    s0.Keeps (State.applyOverlay s a1 a2) := by
  unfold State.applyOverlay
  split
  · exact h
  · extract_lets v0
    have h1 : s0.Keeps v0 := by
      unfold v0
      split
      · exact h
      · apply State.putFields_keeps
        exact h
    apply State.incFrom_keeps
    split
    · exact h1
    · apply State.putFields_keeps
      exact h1

theorem State.pairEvent_keeps {s0 : State} {s : State} (a1 : State) (a2 : Nat) (h : s0.Keeps s) :
    s0.Keeps (State.pairEvent s a1 a2) := by
  unfold State.pairEvent
  extract_lets v0 v1 v2
  apply State.Keeps.ite
  · apply State.log_keeps
    exact h
  · exact h

theorem State.imageWrite_keeps {s0 : State} {s : State} (a1 : Nat) (a2 : State → State) (h : s0.Keeps s) (g2 : ∀ t, s0.Keeps t → s0.Keeps (a2 t)) :
    s0.Keeps (State.imageWrite s a1 a2) := by
  unfold State.imageWrite
  extract_lets v0 v1 v2
  have h3 : s0.Keeps v0 := by
    unfold v0
    apply g2
    exact h
  apply State.Keeps.ite
  · apply State.pairEvent_keeps
    apply State.imageReject_keeps
    exact h
  · exact h3

theorem State.setVerified_keeps {s0 : State} {s : State} (a1 : Nat) (a2 : Bool) (h : s0.Keeps s) :
    s0.Keeps (State.setVerified s a1 a2) := by
  unfold State.setVerified
  apply State.Keeps.ite
  · apply State.setFlag_keeps
    exact h
  · apply State.setFlag_keeps
    exact h

theorem State.cfgSel_keeps {s0 : State} {s : State} (a1 : Word) (h : s0.Keeps s) :
    s0.Keeps (State.cfgSel s a1) := by
  unfold State.cfgSel
  extract_lets v0 v1 v2 v3
  have h4 : s0.Keeps v2 := by
    unfold v2
    refine State.Keeps.upd ?_ rfl rfl
    exact h
  have h5 : s0.Keeps v3 := by
    unfold v3
    apply State.plainWrite_keeps
    exact h4
  apply State.Keeps.ite
  · apply State.setFlag_keeps
    exact h
  · apply State.setFld_keeps
    apply State.setFld_keeps
    exact h5

theorem State.flashCmd_keeps {s0 : State} {s : State} (a1 : Nat) (h : s0.Keeps s) :
    s0.Keeps (State.flashCmd s a1) := by
  unfold State.flashCmd
  extract_lets v0 v1 v2 v3 v4
  have h5 : s0.Keeps v1 := by
    unfold v1
    apply State.setFld_keeps
    apply State.setFld_keeps
    exact h
  have h6 : s0.Keeps v3 := by
    unfold v3
    apply State.Keeps.ite
    · apply State.setVerified_keeps
      exact h5
    · exact h5
  apply State.Keeps.ite
  · apply State.setFlag_keeps
    exact h
  · apply State.Keeps.ite
    · apply State.setFld_keeps
      exact h5
    · apply State.setFlag_keeps
      refine State.Keeps.upd ?_ rfl rfl
      exact h6

theorem State.setPage_keeps {s0 : State} {s : State} (a1 : List Byte) (h : s0.Keeps s) :
    s0.Keeps (State.setPage s a1) := by
  unfold State.setPage
  apply State.Keeps.foldl
  · exact h
  · intro t0 x1 h2
    apply State.setReg_keeps
    exact h2

theorem State.flashPut_keeps {s0 : State} {s : State} (a1 : Nat) (a2 : List Byte) (h : s0.Keeps s) :
    s0.Keeps (State.flashPut s a1 a2) := by
  unfold State.flashPut
  apply State.program_keeps
  apply State.eraseRange_keeps
  exact h

theorem State.flashRun_keeps {s0 : State} {s : State} (a1 : Nat) (a2 : Nat) (a3 : List Byte) (h : s0.Keeps s) :
    s0.Keeps (State.flashRun s a1 a2 a3).1 := by
  unfold State.flashRun
  split
  · dsimp only
    apply State.eraseSector_keeps
    exact h
  · dsimp only
    apply State.program_keeps
    exact h
  · dsimp only
    apply State.setPage_keeps
    exact h
  · split
    · dsimp only
      apply State.setVerified_keeps
      exact h
    · dsimp only
      apply State.setFld_keeps
      exact h

theorem State.flashSpoil_keeps {s0 : State} {s : State} (a1 : Nat) (a2 : Nat) (h : s0.Keeps s) :
    s0.Keeps (State.flashSpoil s a1 a2) := by
  unfold State.flashSpoil
  split
  · extract_lets v0
    have h1 : s0.Keeps v0 := by
      unfold v0
      apply State.eraseSector_keeps
      exact h
    apply State.drawnN_keeps
    apply State.flashPut_keeps
    exact h1
  · apply State.drawnN_keeps
    apply State.flashPut_keeps
    exact h
  · apply State.drawnN_keeps
    apply State.setPage_keeps
    exact h
  · exact h

theorem State.flashEnd_keeps {s0 : State} {s : State} (a1 : Bool) (h : s0.Keeps s) :
    s0.Keeps (State.flashEnd s a1) := by
  unfold State.flashEnd
  split
  · exact h
  · extract_lets v0
    split
    apply State.setFld_keeps
    apply State.setFlag_keeps
    refine State.Keeps.upd ?_ rfl rfl
    rename_i y1 y2 y3
    rw [show y1 = _ from (congrArg Prod.fst y3).symm]
    split
    · dsimp only
      apply State.flashSpoil_keeps
      exact h
    · apply State.flashRun_keeps
      exact h

theorem execCfgSelWrite_keeps {s0 : State} (a0 : Path) (a1 : Word) {s : State} (h : s0.Keeps s) :
    s0.Answers (execCfgSelWrite a0 a1 s) := by
  unfold execCfgSelWrite
  apply State.Keeps.next
  apply State.guarded_keeps
  · exact h
  · intro t0 h1
    apply State.cfgSel_keeps
    exact h1

theorem execErase_keeps {s0 : State} (a0 : Path) {s : State} (h : s0.Keeps s) :
    s0.Answers (execErase a0 s) := by
  unfold execErase
  apply State.Keeps.next
  apply State.guarded_keeps
  · exact h
  · intro t0 h1
    apply State.flashCmd_keeps
    exact h1

theorem execProgram_keeps {s0 : State} (a0 : Path) {s : State} (h : s0.Keeps s) :
    s0.Answers (execProgram a0 s) := by
  unfold execProgram
  apply State.Keeps.next
  apply State.guarded_keeps
  · exact h
  · intro t0 h1
    apply State.flashCmd_keeps
    exact h1

theorem execRead_keeps {s0 : State} (a0 : Path) {s : State} (h : s0.Keeps s) :
    s0.Answers (execRead a0 s) := by
  unfold execRead
  apply State.Keeps.next
  apply State.guarded_keeps
  · exact h
  · intro t0 h1
    apply State.flashCmd_keeps
    exact h1

theorem execVerify_keeps {s0 : State} (a0 : Path) {s : State} (h : s0.Keeps s) :
    s0.Answers (execVerify a0 s) := by
  unfold execVerify
  apply State.Keeps.next
  apply State.guarded_keeps
  · exact h
  · intro t0 h1
    apply State.flashCmd_keeps
    exact h1

theorem execFlashCommandDone_keeps {s0 : State} (a0 : Bool) {s : State} (h : s0.Keeps s) :
    s0.Answers (execFlashCommandDone a0 s) := by
  unfold execFlashCommandDone
  apply State.Keeps.next
  apply State.Keeps.ite
  · apply State.flashEnd_keeps
    exact h
  · exact h

end Sys2Proof.Machine
end

