-- ==== Sys2Proof/Laws/KeepsSecurity.lean ====
section
/-! SUPPORT. What the operations of Machine/Security.lean keep (`State.Keeps`), one lemma each. -/

namespace Sys2Proof.Machine

theorem State.beginOp_keeps {s0 : State} {s : State} (a1 : Nat) (a2 : Nat) (a3 : List Byte) (h : s0.Keeps s) :
    s0.Keeps (State.beginOp s a1 a2 a3) := by
  unfold State.beginOp
  extract_lets v0
  apply State.setFld_keeps
  apply State.setFlag_keeps
  refine State.Keeps.upd ?_ rfl rfl
  exact h

theorem State.secOp_keeps {s0 : State} {s : State} (a1 : State → State) (h : s0.Keeps s) (g1 : ∀ t, s0.Keeps t → s0.Keeps (a1 t)) :
    s0.Keeps (State.secOp s a1) := by
  unfold State.secOp
  apply State.Keeps.ite
  · apply State.setFlag_keeps
    exact h
  · apply g1
    exact h

theorem State.endOp_keeps {s0 : State} {s : State} (h : s0.Keeps s) :
    s0.Keeps (State.endOp s) := by
  unfold State.endOp
  split
  · exact h
  · extract_lets v0 v1 v2
    have h3 : s0.Keeps v1 := by
      unfold v1
      refine State.Keeps.upd ?_ rfl rfl
      exact h
    have h4 : s0.Keeps v2 := by
      unfold v2
      apply State.setFld_keeps
      apply State.setFlag_keeps
      exact h3
    apply State.Keeps.ite
    · apply State.log_keeps
      exact h4
    · exact h4

theorem fuse_fold (o : Nat) (l : List (Nat × Byte)) (t : Tbl Byte) (a : Nat) :
    tblGet zeroB t a &&& tblGet zeroB (l.foldl (fun t c => tblSet (fun _ => 0#8) t (o + c.1) (tblGet (fun _ => 0#8) t (o + c.1) ||| c.2)) t) a
      = tblGet zeroB t a := by
  induction l generalizing t with
  | nil => exact BitVec.and_self
  | cons c l ih =>
    refine fuses_trans ?_ (ih _)
    show tblGet zeroB t a &&& tblGet zeroB (tblSet zeroB t (o + c.1) (tblGet zeroB t (o + c.1) ||| c.2)) a = _
    rw [tblGet_set]
    split
    · subst_vars; ext i; simp; intros; simp_all
    · exact BitVec.and_self

theorem State.fuse_keeps {s0 : State} {s : State} (o : Nat) (l : List Byte) (h : s0.Keeps s) : s0.Keeps (s.fuse o l) :=
  h.trans ⟨fun c => ⟨c.regs, c.flash, c.tbl, tblWf_foldl zeroB _ (fun _ _ w => tblWf_set _ _ _ _ w) _ _ c.otp, c.image⟩,
    List.prefix_refl _, rfl, Nat.le_refl _, fun a => fuse_fold o _ _ a⟩

theorem State.setLc_keeps {s0 : State} {s : State} (a1 : Nat) (h : s0.Keeps s) :
    s0.Keeps (State.setLc s a1) := by
  unfold State.setLc
  apply State.fuse_keeps
  exact h

theorem State.otpProg_keeps {s0 : State} {s : State} (a1 : Nat) (a2 : Word) (h : s0.Keeps s) :
    s0.Keeps (State.otpProg s a1 a2).1 := by
  unfold State.otpProg
  extract_lets v0 v1 v2
  split
  · dsimp only
    exact h
  · split
    · split
      · dsimp only
        exact h
      · dsimp only
        apply State.fuse_keeps
        exact h
    · split
      · split
        · dsimp only
          exact h
        · dsimp only
          apply State.fuse_keeps
          exact h
      · split
        · dsimp only
          apply State.fuse_keeps
          exact h
        · dsimp only
          exact h

theorem State.otpGo_keeps {s0 : State} {s : State} (h : s0.Keeps s) :
    s0.Keeps (State.otpGo s) := by
  unfold State.otpGo
  apply State.secOp_keeps
  · exact h
  · intro t0 h1
    split
    apply State.beginOp_keeps
    rename_i y2 y3 y4
    rw [show y2 = _ from (congrArg Prod.fst y4).symm]
    apply State.otpProg_keeps
    exact h1

theorem State.jtagLock_keeps {s0 : State} {s : State} (h : s0.Keeps s) :
    s0.Keeps (State.jtagLock s) := by
  unfold State.jtagLock
  extract_lets v0 v1
  apply State.Keeps.ite
  · exact h
  · refine State.Keeps.upd ?_ rfl rfl
    exact h

theorem State.lcRun_keeps {s0 : State} {s : State} (a1 : Nat) (h : s0.Keeps s) :
    s0.Keeps (State.lcRun s a1).1 := by
  unfold State.lcRun
  split
  · split
    · dsimp only
      exact h
    · dsimp only
      apply State.drawnN_keeps
      apply State.fuse_keeps
      exact h
  · split
    · dsimp only
      apply State.setLc_keeps
      exact h
    · dsimp only
      exact h
  · split
    · dsimp only
      apply State.jtagLock_keeps
      apply State.setLc_keeps
      exact h
    · dsimp only
      exact h
  · dsimp only
    exact h

theorem State.lcCtrl_keeps {s0 : State} {s : State} (a1 : Path) (a2 : Word) (h : s0.Keeps s) :
    s0.Keeps (State.lcCtrl s a1 a2) := by
  unfold State.lcCtrl
  apply State.Keeps.ite
  · apply State.setFld_keeps
    exact h
  · apply State.secOp_keeps
    · exact h
    · intro t0 h1
      split
      apply State.beginOp_keeps
      rename_i y2 y3 y4
      rw [show y2 = _ from (congrArg Prod.fst y4).symm]
      apply State.lcRun_keeps
      exact h1

theorem State.rollCommit_keeps {s0 : State} {s : State} (h : s0.Keeps s) :
    s0.Keeps (State.rollCommit s) := by
  unfold State.rollCommit
  apply State.secOp_keeps
  · exact h
  · intro t0 h1
    split
    · extract_lets v2
      apply State.Keeps.ite
      · apply State.beginOp_keeps
        apply State.fuse_keeps
        exact h1
      · apply State.beginOp_keeps
        exact h1
    · apply State.beginOp_keeps
      exact h1

theorem State.newChallenge_keeps {s0 : State} {s : State} (h : s0.Keeps s) :
    s0.Keeps (State.newChallenge s) := by
  unfold State.newChallenge
  extract_lets v0 v1 v2
  have h3 : s0.Keeps v1 := by
    unfold v1
    apply State.Keeps.foldl
    · apply State.drawnN_keeps
      exact h
    · intro t4 x5 h6
      apply State.setReg_keeps
      exact h6
  apply State.setFlag_keeps
  refine State.Keeps.upd ?_ rfl rfl
  exact h3

theorem State.dropChallenge_keeps {s0 : State} {s : State} (h : s0.Keeps s) :
    s0.Keeps (State.dropChallenge s) := by
  unfold State.dropChallenge
  extract_lets v0
  apply State.setFlag_keeps
  refine State.Keeps.upd ?_ rfl rfl
  exact h

theorem State.openScopes_keeps {s0 : State} {s : State} (a1 : Nat) (h : s0.Keeps s) :
    s0.Keeps (State.openScopes s a1) := by
  unfold State.openScopes
  extract_lets v0
  apply State.log_keeps
  apply State.setFlag_keeps
  apply State.setFld_keeps
  exact h

theorem State.relock_keeps {s0 : State} {s : State} (h : s0.Keeps s) :
    s0.Keeps (State.relock s) := by
  unfold State.relock
  apply State.log_keeps
  apply State.jtagLock_keeps
  apply State.setFlag_keeps
  apply State.setFld_keeps
  exact h

theorem State.tokenAct_keeps {s0 : State} {s : State} (a1 : List Byte) (h : s0.Keeps s) :
    s0.Keeps (State.tokenAct s a1) := by
  unfold State.tokenAct
  split
  · apply State.openScopes_keeps
    exact h
  · apply State.beginClear_keeps
    exact h
  · apply State.setLc_keeps
    exact h
  · apply State.fuse_keeps
    exact h

theorem State.tokenGo_keeps {s0 : State} {s : State} (a1 : Path) (h : s0.Keeps s) :
    s0.Keeps (State.tokenGo s a1) := by
  unfold State.tokenGo
  apply State.Keeps.ite
  · exact h
  · apply State.secOp_keeps
    · exact h
    · intro t0 h1
      extract_lets v2 v3 v4
      have h5 : s0.Keeps v4 := by
        unfold v4
        apply State.Keeps.ite
        · exact h1
        · apply State.dropChallenge_keeps
          exact h1
      apply State.beginOp_keeps
      apply State.Keeps.ite
      · apply State.tokenAct_keeps
        exact h5
      · exact h5

theorem State.tokenRow_keeps {s0 : State} {s : State} (a1 : Path) (a2 : Nat) (h : s0.Keeps s) :
    s0.Keeps (State.tokenRow s a1 a2) := by
  unfold State.tokenRow
  apply State.guarded_keeps
  · exact h
  · intro t0 h1
    apply State.Keeps.ite
    · apply State.tokenGo_keeps
      exact h1
    · exact h1

theorem State.jtag_keeps {s0 : State} {s : State} (a1 : Jtag) (a2 : Bool) (h : s0.Keeps s) :
    s0.Keeps (State.jtag s a1 a2) := by
  unfold State.jtag
  extract_lets v0
  apply State.Keeps.ite
  · refine State.Keeps.upd ?_ rfl rfl
    exact h
  · exact h

theorem execGenDus_keeps {s0 : State} (a0 : Path) (a1 : BitVec 16) {s : State} (h : s0.Keeps s) :
    s0.Answers (execGenDus a0 a1 s) := by
  unfold execGenDus
  apply State.Keeps.next
  apply State.guarded_keeps
  · exact h
  · intro t0 h1
    apply State.lcCtrl_keeps
    exact h1

theorem execProvision_keeps {s0 : State} (a0 : Path) (a1 : BitVec 16) {s : State} (h : s0.Keeps s) :
    s0.Answers (execProvision a0 a1 s) := by
  unfold execProvision
  apply State.Keeps.next
  apply State.guarded_keeps
  · exact h
  · intro t0 h1
    apply State.lcCtrl_keeps
    exact h1

theorem execField_keeps {s0 : State} (a0 : Path) (a1 : BitVec 16) {s : State} (h : s0.Keeps s) :
    s0.Answers (execField a0 a1 s) := by
  unfold execField
  apply State.Keeps.next
  apply State.guarded_keeps
  · exact h
  · intro t0 h1
    apply State.lcCtrl_keeps
    exact h1

theorem execSecOtpProg_keeps {s0 : State} (a0 : Path) {s : State} (h : s0.Keeps s) :
    s0.Answers (execSecOtpProg a0 s) := by
  unfold execSecOtpProg
  apply State.Keeps.next
  apply State.guarded_keeps
  · exact h
  · intro t0 h1
    apply State.otpGo_keeps
    exact h1

theorem execSecRollCtrlCommit_keeps {s0 : State} (a0 : Path) {s : State} (h : s0.Keeps s) :
    s0.Answers (execSecRollCtrlCommit a0 s) := by
  unfold execSecRollCtrlCommit
  apply State.Keeps.next
  apply State.guarded_keeps
  · exact h
  · intro t0 h1
    apply State.rollCommit_keeps
    exact h1

theorem execSecChalCtrlNew_keeps {s0 : State} (a0 : Path) {s : State} (h : s0.Keeps s) :
    s0.Answers (execSecChalCtrlNew a0 s) := by
  unfold execSecChalCtrlNew
  apply State.Keeps.next
  apply State.guarded_keeps
  · exact h
  · intro t0 h1
    apply State.newChallenge_keeps
    exact h1

theorem execChallengeExpire_keeps {s0 : State} {s : State} (h : s0.Keeps s) :
    s0.Answers (execChallengeExpire s) := by
  unfold execChallengeExpire
  apply State.Keeps.next
  apply State.Keeps.ite
  · apply State.dropChallenge_keeps
    exact h
  · exact h

theorem execDebugUnlock_keeps {s0 : State} (a0 : Path) {s : State} (h : s0.Keeps s) :
    s0.Answers (execDebugUnlock a0 s) := by
  unfold execDebugUnlock
  apply State.Keeps.next
  apply State.tokenRow_keeps
  exact h

theorem execLogClear_keeps {s0 : State} (a0 : Path) (a1 : Bool) (a2 : Word) {s : State} (h : s0.Keeps s) :
    s0.Answers (execLogClear a0 a1 a2 s) := by
  unfold execLogClear
  apply State.Keeps.next
  apply State.Keeps.ite
  · apply State.tokenRow_keeps
    exact h
  · apply State.guarded_keeps
    · exact h
    · intro t0 h1
      apply State.recCtrl_keeps
      exact h1

theorem execReturn_keeps {s0 : State} (a0 : Path) {s : State} (h : s0.Keeps s) :
    s0.Answers (execReturn a0 s) := by
  unfold execReturn
  apply State.Keeps.next
  apply State.tokenRow_keeps
  exact h

theorem execRevoke_keeps {s0 : State} (a0 : Path) {s : State} (h : s0.Keeps s) :
    s0.Answers (execRevoke a0 s) := by
  unfold execRevoke
  apply State.Keeps.next
  apply State.tokenRow_keeps
  exact h

theorem execSecDbgCtrlRelock_keeps {s0 : State} (a0 : Path) {s : State} (h : s0.Keeps s) :
    s0.Answers (execSecDbgCtrlRelock a0 s) := by
  unfold execSecDbgCtrlRelock
  apply State.Keeps.next
  apply State.guarded_keeps
  · exact h
  · intro t0 h1
    apply State.relock_keeps
    exact h1

theorem execSecurityOperationDone_keeps {s0 : State} {s : State} (h : s0.Keeps s) :
    s0.Answers (execSecurityOperationDone s) := by
  unfold execSecurityOperationDone
  apply State.Keeps.next
  apply State.Keeps.ite
  · apply State.endOp_keeps
    exact h
  · exact h

theorem execBypass_keeps {s0 : State} {s : State} (h : s0.Keeps s) :
    s0.Answers (execBypass s) := by
  unfold execBypass
  apply State.Keeps.next
  apply State.jtag_keeps
  exact h

theorem execIdcode_keeps {s0 : State} {s : State} (h : s0.Keeps s) :
    s0.Answers (execIdcode s) := by
  unfold execIdcode
  apply State.Keeps.next
  apply State.Keeps.ite
  · apply State.drawn_keeps
    apply State.answer_keeps
    apply State.jtag_keeps
    exact h
  · exact h

theorem execSamplePreload_keeps {s0 : State} {s : State} (h : s0.Keeps s) :
    s0.Answers (execSamplePreload s) := by
  unfold execSamplePreload
  apply State.Keeps.next
  apply State.jtag_keeps
  exact h

theorem execExtest_keeps {s0 : State} {s : State} (h : s0.Keeps s) :
    s0.Answers (execExtest s) := by
  unfold execExtest
  apply State.Keeps.next
  apply State.jtag_keeps
  exact h

theorem execIntest_keeps {s0 : State} {s : State} (h : s0.Keeps s) :
    s0.Answers (execIntest s) := by
  unfold execIntest
  apply State.Keeps.next
  apply State.jtag_keeps
  exact h

theorem execClamp_keeps {s0 : State} {s : State} (h : s0.Keeps s) :
    s0.Answers (execClamp s) := by
  unfold execClamp
  apply State.Keeps.next
  apply State.jtag_keeps
  exact h

theorem execHighz_keeps {s0 : State} {s : State} (h : s0.Keeps s) :
    s0.Answers (execHighz s) := by
  unfold execHighz
  apply State.Keeps.next
  apply State.jtag_keeps
  exact h

theorem execTrace_keeps {s0 : State} {s : State} (h : s0.Keeps s) :
    s0.Answers (execTrace s) := by
  unfold execTrace
  apply State.Keeps.next
  apply State.jtag_keeps
  exact h

end Sys2Proof.Machine
end

