-- ==== Sys2Proof/Laws/KeepsPower.lean ====
section
/-! SUPPORT. What the operations of Machine/Power.lean keep (`State.Keeps`), one lemma each. -/

namespace Sys2Proof.Machine

theorem State.portOff_keeps {s0 : State} {s : State} (a1 : Nat) (h : s0.Keeps s) :
    s0.Keeps (State.portOff s a1) := by
  unfold State.portOff
  extract_lets v0 v1
  have h2 : s0.Keeps v0 := by
    unfold v0
    apply State.setBrup_keeps
    apply State.loseFrom_keeps
    exact h
  apply State.setPort_keeps
  exact h2

theorem State.pwrRegs_keeps {s0 : State} {s : State} (h : s0.Keeps s) :
    s0.Keeps (State.pwrRegs s) := by
  unfold State.pwrRegs
  apply State.setFld_keeps
  apply State.setFld_keeps
  exact h

theorem State.setPc_keeps {s0 : State} {s : State} (a1 : Nat) (a2 : Nat) (h : s0.Keeps s) :
    s0.Keeps (State.setPc s a1 a2) := by
  unfold State.setPc
  extract_lets v0 v1
  have h2 : s0.Keeps v0 := by
    unfold v0
    apply State.setFlag_keeps
    apply State.setFld_keeps
    exact h
  apply State.pwrRegs_keeps
  refine State.Keeps.upd ?_ rfl rfl
  exact h2

theorem State.pcDown_keeps {s0 : State} {s : State} (a1 : Nat) (a2 : Nat) (h : s0.Keeps s) :
    s0.Keeps (State.pcDown s a1 a2) := by
  unfold State.pcDown
  extract_lets v0 v1
  have h2 : s0.Keeps v0 := by
    unfold v0
    apply State.emit_keeps
    apply State.setPc_keeps
    exact h
  apply State.Keeps.ite
  · apply State.setPc_keeps
    exact h
  · apply State.loseFrom_keeps
    refine State.Keeps.upd ?_ rfl rfl
    exact h2

theorem State.pcEnqueue_keeps {s0 : State} {s : State} (a1 : Nat) (h : s0.Keeps s) :
    s0.Keeps (State.pcEnqueue s a1) := by
  unfold State.pcEnqueue
  extract_lets v0 v1
  have h2 : s0.Keeps v1 := by
    unfold v1
    refine State.Keeps.upd ?_ rfl rfl
    exact h
  apply State.Keeps.ite
  · apply State.setPc_keeps
    exact h2
  · exact h

theorem State.pcNote_keeps {s0 : State} {s : State} (a1 : Nat) (a2 : Nat) (h : s0.Keeps s) :
    s0.Keeps (State.pcNote s a1 a2) := by
  unfold State.pcNote
  apply State.log_keeps
  apply State.count31_keeps
  apply State.setFld_keeps
  exact h

theorem State.pcFault_keeps {s0 : State} {s : State} (a1 : Nat) (a2 : Nat) (a3 : Bool) (h : s0.Keeps s) :
    s0.Keeps (State.pcFault s a1 a2 a3) := by
  unfold State.pcFault
  extract_lets v0 v1 v2
  have h3 : s0.Keeps v0 := by
    unfold v0
    apply State.pcNote_keeps
    exact h
  apply State.Keeps.ite
  · apply State.setFld_keeps
    apply State.pcDown_keeps
    exact h3
  · apply State.Keeps.ite
    · apply State.pcDown_keeps
      exact h3
    · apply State.Keeps.ite
      · apply State.pcDown_keeps
        exact h3
      · apply State.setFld_keeps
        apply State.pcDown_keeps
        exact h3

theorem State.pcTrip_keeps {s0 : State} {s : State} (a1 : Nat) (a2 : Nat) (a3 : Bool) (h : s0.Keeps s) :
    s0.Keeps (State.pcTrip s a1 a2 a3) := by
  unfold State.pcTrip
  extract_lets v0 v1
  have h2 : s0.Keeps v0 := by
    unfold v0
    apply State.pcDown_keeps
    exact h
  refine State.Keeps.upd ?_ rfl rfl
  exact h2

theorem State.pcSettle_keeps {s0 : State} {s : State} (h : s0.Keeps s) :
    s0.Keeps (State.pcSettle s) := by
  unfold State.pcSettle
  extract_lets v0 v1
  have h2 : s0.Keeps v0 := by
    unfold v0
    apply State.Keeps.foldl
    · exact h
    · intro t3 x4 h5
      apply State.Keeps.ite
      · apply State.pcFault_keeps
        exact h5
      · apply State.pcNote_keeps
        exact h5
  refine State.Keeps.upd ?_ rfl rfl
  exact h2

theorem State.softBegin_keeps {s0 : State} {s : State} (h : s0.Keeps s) :
    s0.Keeps (State.softBegin s) := by
  unfold State.softBegin
  split
  · exact h
  · extract_lets v0 v1 v2 v3 v4 v5
    have h6 : s0.Keeps v4 := by
      unfold v4
      refine State.Keeps.upd ?_ rfl rfl
      exact h
    have h7 : s0.Keeps v5 := by
      unfold v5
      apply State.emit_keeps
      apply State.setPc_keeps
      exact h6
    apply State.Keeps.ite
    · exact h
    · apply State.ledNote_keeps
      exact h7

theorem State.softEnd_keeps {s0 : State} {s : State} (a1 : Nat) (a2 : Nat) (h : s0.Keeps s) :
    s0.Keeps (State.softEnd s a1 a2) := by
  unfold State.softEnd
  extract_lets v0
  have h1 : s0.Keeps v0 := by
    unfold v0
    apply State.setFld_keeps
    exact h
  apply State.Keeps.ite
  · exact h
  · apply State.Keeps.ite
    · apply State.setPc_keeps
      exact h1
    · apply State.pcTrip_keeps
      exact h1

theorem State.ocCheck_keeps {s0 : State} {s : State} (a1 : Nat) (a2 : Nat) (h : s0.Keeps s) :
    s0.Keeps (State.ocCheck s a1 a2) := by
  unfold State.ocCheck
  extract_lets v0 v1 v2
  have h3 : s0.Keeps v2 := by
    unfold v2
    refine State.Keeps.upd ?_ rfl rfl
    exact h
  apply State.Keeps.ite
  · exact h
  · apply State.Keeps.ite
    · apply State.pcFault_keeps
      exact h3
    · exact h3

theorem State.openCheck_keeps {s0 : State} {s : State} (a1 : Nat) (a2 : Nat) (h : s0.Keeps s) :
    s0.Keeps (State.openCheck s a1 a2) := by
  unfold State.openCheck
  extract_lets v0 v1 v2 v3 v4
  have h5 : s0.Keeps v2 := by
    unfold v2
    refine State.Keeps.upd ?_ rfl rfl
    exact h
  have h6 : s0.Keeps v4 := by
    unfold v4
    refine State.Keeps.upd ?_ rfl rfl
    exact h
  apply State.Keeps.ite
  · exact h
  · apply State.Keeps.ite
    · apply State.Keeps.ite
      · apply State.log_keeps
        apply State.setFlag_keeps
        exact h5
      · exact h5
    · apply State.Keeps.ite
      · exact h6
      · apply State.Keeps.ite
        · apply State.pcFault_keeps
          exact h6
        · apply State.setFlag_keeps
          apply State.pcNote_keeps
          exact h6

theorem State.vinCheck_keeps {s0 : State} {s : State} (a1 : Nat) (h : s0.Keeps s) :
    s0.Keeps (State.vinCheck s a1) := by
  unfold State.vinCheck
  extract_lets v0 v1 v2 v3 v4 v5 v6
  have h7 : s0.Keeps v0 := by
    unfold v0
    apply State.setFld_keeps
    exact h
  have h8 : s0.Keeps v4 := by
    unfold v4
    refine State.Keeps.upd ?_ rfl rfl
    exact h7
  have h9 : s0.Keeps v5 := by
    unfold v5
    apply State.Keeps.ite
    · apply State.log_keeps
      apply State.setFlag_keeps
      exact h8
    · exact h8
  have h10 : s0.Keeps v6 := by
    unfold v6
    apply State.setFlag_keeps
    exact h9
  apply State.Keeps.ite
  · exact h9
  · apply State.Keeps.foldl
    · exact h10
    · intro t11 x12 h13
      apply State.Keeps.ite
      · apply State.pcFault_keeps
        exact h13
      · exact h13

theorem State.pcSample_keeps {s0 : State} {s : State} (a1 : Nat) (a2 : Nat) (a3 : Nat) (h : s0.Keeps s) :
    s0.Keeps (State.pcSample s a1 a2 a3) := by
  unfold State.pcSample
  extract_lets v0
  have h1 : s0.Keeps v0 := by
    unfold v0
    apply State.setReg_keeps
    exact h
  apply State.openCheck_keeps
  apply State.ocCheck_keeps
  exact h1

theorem State.pocSample_keeps {s0 : State} {s : State} (a1 : Nat) (a2 : List (BitVec 10 × BitVec 10)) (h : s0.Keeps s) :
    s0.Keeps (State.pocSample s a1 a2) := by
  unfold State.pocSample
  extract_lets v0 v1
  have h2 : s0.Keeps v0 := by
    unfold v0
    apply State.Keeps.foldl
    · apply State.vinCheck_keeps
      apply State.pcSettle_keeps
      exact h
    · intro t3 x4 h5
      apply State.pcSample_keeps
      exact h5
  refine State.Keeps.upd ?_ rfl rfl
  exact h2

theorem State.vinRelease_keeps {s0 : State} {s : State} (h : s0.Keeps s) :
    s0.Keeps (State.vinRelease s) := by
  unfold State.vinRelease
  extract_lets v0
  have h1 : s0.Keeps v0 := by
    unfold v0
    apply State.setFlag_keeps
    exact h
  apply State.Keeps.ite
  · exact h
  · apply State.Keeps.foldl
    · exact h1
    · intro t2 x3 h4
      apply State.Keeps.ite
      · apply State.pcEnqueue_keeps
        apply State.setPc_keeps
        exact h4
      · exact h4

theorem State.retryEnd_keeps {s0 : State} {s : State} (a1 : Nat) (h : s0.Keeps s) :
    s0.Keeps (State.retryEnd s a1) := by
  unfold State.retryEnd
  apply State.Keeps.ite
  · exact h
  · apply State.pcEnqueue_keeps
    apply State.setPc_keeps
    exact h

theorem State.retriesClear_keeps {s0 : State} {s : State} (a1 : Nat) (h : s0.Keeps s) :
    s0.Keeps (State.retriesClear s a1) := by
  unfold State.retriesClear
  apply State.Keeps.ite
  · apply State.setFld_keeps
    exact h
  · exact h

theorem State.pcCtrl_keeps {s0 : State} {s : State} (a1 : Nat) (a2 : Word) (h : s0.Keeps s) :
    s0.Keeps (State.pcCtrl s a1 a2) := by
  unfold State.pcCtrl
  extract_lets v0 v1 v2 v3 v4 v5 v6 v7
  have h8 : s0.Keeps v0 := by
    unfold v0
    apply State.plainWrite_keeps
    exact h
  have h9 : s0.Keeps v3 := by
    unfold v3
    refine State.Keeps.upd ?_ rfl rfl
    exact h8
  have h10 : s0.Keeps v4 := by
    unfold v4
    apply State.setFld_keeps
    exact h9
  have h11 : s0.Keeps v5 := by
    unfold v5
    apply State.Keeps.ite
    · apply State.Keeps.ite
      · apply State.setPc_keeps
        exact h10
      · exact h10
    · exact h8
  have h12 : s0.Keeps v7 := by
    unfold v7
    refine State.Keeps.upd ?_ rfl rfl
    exact h11
  apply State.Keeps.ite
  · apply State.Keeps.ite
    · exact h12
    · apply State.pcDown_keeps
      exact h12
  · apply State.Keeps.ite
    · apply State.pcEnqueue_keeps
      exact h11
    · exact h11

theorem State.pcWait_keeps {s0 : State} {s : State} (a1 : Nat) (a2 : Nat) (h : s0.Keeps s) :
    s0.Keeps (State.pcWait s a1 a2) := by
  unfold State.pcWait
  extract_lets v0
  refine State.Keeps.upd ?_ rfl rfl
  exact h

theorem State.pcMode_keeps {s0 : State} {s : State} (a1 : Nat) (h : s0.Keeps s) :
    s0.Keeps (State.pcMode s a1) := by
  unfold State.pcMode
  extract_lets v0 v1 v2
  have h3 : s0.Keeps v2 := by
    unfold v2
    refine State.Keeps.upd ?_ rfl rfl
    exact h
  apply State.Keeps.ite
  · apply State.Keeps.ite
    · exact h3
    · apply State.pcDown_keeps
      exact h3
  · apply State.Keeps.ite
    · apply State.pcWait_keeps
      exact h
    · exact h

theorem State.groupOn_keeps {s0 : State} {s : State} (a1 : Nat) (h : s0.Keeps s) :
    s0.Keeps (State.groupOn s a1) := by
  unfold State.groupOn
  split
  · exact h
  · extract_lets v0 v1 v2
    apply State.Keeps.foldl
    · refine State.Keeps.upd ?_ rfl rfl
      exact h
    · intro t3 x4 h5
      apply State.pcEnqueue_keeps
      exact h5

theorem State.bootEnd_keeps {s0 : State} {s : State} (a1 : Nat) (h : s0.Keeps s) :
    s0.Keeps (State.bootEnd s a1) := by
  unfold State.bootEnd
  extract_lets v0 v1
  have h2 : s0.Keeps v1 := by
    unfold v1
    refine State.Keeps.upd ?_ rfl rfl
    exact h
  apply State.Keeps.ite
  · apply State.Keeps.ite
    · apply State.discover_keeps
      exact h2
    · exact h2
  · exact h

theorem State.psEn_keeps {s0 : State} {s : State} (a1 : Nat) (a2 : Bool) (h : s0.Keeps s) :
    s0.Keeps (State.psEn s a1 a2) := by
  unfold State.psEn
  apply State.emit_keeps
  exact h

theorem State.gatesOff_keeps {s0 : State} {s : State} (h : s0.Keeps s) :
    s0.Keeps (State.gatesOff s) := by
  unfold State.gatesOff
  extract_lets v0 v1
  have h2 : s0.Keeps v0 := by
    unfold v0
    apply State.Keeps.foldl
    · exact h
    · intro t3 x4 h5
      apply State.Keeps.ite
      · apply State.emit_keeps
        exact h5
      · exact h5
  refine State.Keeps.upd ?_ rfl rfl
  exact h2

theorem State.powerDown_keeps {s0 : State} {s : State} (a1 : Phase) (h : s0.Keeps s) :
    s0.Keeps (State.powerDown s a1) := by
  unfold State.powerDown
  extract_lets v0 v1 v2 v3 v4
  have h5 : s0.Keeps v0 := by
    unfold v0
    apply State.closeRec_keeps
    exact h
  have h6 : s0.Keeps v1 := by
    unfold v1
    apply State.Keeps.ite
    · apply State.Keeps.ite
      · exact h5
      · apply State.snapshot_keeps
        exact h5
    · exact h
  have h7 : s0.Keeps v3 := by
    unfold v3
    apply State.Keeps.foldl
    · apply State.gatesOff_keeps
      exact h6
    · intro t8 x9 h10
      apply State.psEn_keeps
      exact h10
  apply State.setFld_keeps
  refine State.Keeps.upd ?_ rfl rfl
  exact h7

theorem State.railFault_keeps {s0 : State} {s : State} (a1 : Nat) (a2 : Nat) (h : s0.Keeps s) :
    s0.Keeps (State.railFault s a1 a2) := by
  unfold State.railFault
  extract_lets v0 v1 v2
  have h3 : s0.Keeps v0 := by
    unfold v0
    apply State.setFld_keeps
    apply State.setFld_keeps
    exact h
  have h4 : s0.Keeps v1 := by
    unfold v1
    apply State.powerDown_keeps
    exact h3
  apply State.log_keeps
  refine State.Keeps.upd ?_ rfl rfl
  exact h4

theorem State.railSample_keeps {s0 : State} {s : State} (a1 : Nat) (a2 : Nat) (h : s0.Keeps s) :
    s0.Keeps (State.railSample s a1 a2) := by
  unfold State.railSample
  extract_lets v0 v1 v2 v3 v4 v5 v6
  have h7 : s0.Keeps v0 := by
    unfold v0
    apply State.setFld_keeps
    exact h
  have h8 : s0.Keeps v4 := by
    unfold v4
    refine State.Keeps.upd ?_ rfl rfl
    exact h7
  have h9 : s0.Keeps v6 := by
    unfold v6
    apply State.Keeps.ite
    · apply State.log_keeps
      apply State.setFld_keeps
      exact h8
    · exact h8
  apply State.Keeps.ite
  · exact h
  · apply State.Keeps.ite
    · apply State.railFault_keeps
      exact h9
    · exact h9

theorem State.dieSample_keeps {s0 : State} {s : State} (a1 : Nat) (a2 : Int) (a3 : Bool) (h : s0.Keeps s) :
    s0.Keeps (State.dieSample s a1 a2 a3) := by
  unfold State.dieSample
  extract_lets v0 v1 v2 v3 v4 v5 v6 v7 v8 v9
  have h10 : s0.Keeps v1 := by
    unfold v1
    refine State.Keeps.upd ?_ rfl rfl
    exact h
  have h11 : s0.Keeps v2 := by
    unfold v2
    apply State.Keeps.foldl
    · exact h10
    · intro t12 x13 h14
      apply State.Keeps.ite
      · apply State.bandChange_keeps
        exact h14
      · exact h14
  have h15 : s0.Keeps v6 := by
    unfold v6
    refine State.Keeps.upd ?_ rfl rfl
    exact h11
  have h16 : s0.Keeps v7 := by
    unfold v7
    apply State.Keeps.ite
    · apply State.log_keeps
      exact h15
    · exact h15
  have h17 : s0.Keeps v8 := by
    unfold v8
    apply State.powerDown_keeps
    exact h16
  apply State.Keeps.ite
  · apply State.log_keeps
    refine State.Keeps.upd ?_ rfl rfl
    exact h17
  · exact h16

theorem execPsPgFall_keeps {s0 : State} (a0 : Fin 6) {s : State} (h : s0.Keeps s) :
    s0.Answers (execPsPgFall a0 s) := by
  unfold execPsPgFall
  apply State.Keeps.next
  apply State.Keeps.ite
  · apply State.railFault_keeps
    exact h
  · exact h

theorem execPsPgTimeout_keeps {s0 : State} {s : State} (h : s0.Keeps s) :
    s0.Answers (execPsPgTimeout s) := by
  unfold execPsPgTimeout
  apply State.Keeps.next
  apply State.Keeps.ite
  · apply State.railFault_keeps
    exact h
  · exact h

theorem execRailSample_keeps {s0 : State} (a0 : List (BitVec 12)) {s : State} (h : s0.Keeps s) :
    s0.Answers (execRailSample a0 s) := by
  unfold execRailSample
  apply State.Keeps.next
  apply State.Keeps.foldl
  · exact h
  · intro t0 x1 h2
    apply State.railSample_keeps
    exact h2

theorem State.bothFaults_keeps {s0 : State} {s : State} (h : s0.Keeps s) :
    s0.Keeps (State.bothFaults s) := by
  unfold State.bothFaults
  extract_lets v0
  apply State.log_keeps
  refine State.Keeps.upd ?_ rfl rfl
  exact h

theorem execDieTempSample_keeps {s0 : State} (a0 : Fin 4) (a1 : Int) (a2 : Bool) {s : State} (h : s0.Keeps s) :
    s0.Answers (execDieTempSample a0 a1 a2 s) := by
  unfold execDieTempSample
  apply State.Keeps.next
  apply State.Keeps.ite
  · apply State.dieSample_keeps
    exact h
  · apply State.Keeps.ite
    · apply State.bothFaults_keeps
      exact h
    · exact h

theorem execPocSample_keeps {s0 : State} (a0 : BitVec 10) (a1 : List (BitVec 10 × BitVec 10)) {s : State} (h : s0.Keeps s) :
    s0.Answers (execPocSample a0 a1 s) := by
  unfold execPocSample
  apply State.Keeps.next
  apply State.Keeps.ite
  · apply State.pocSample_keeps
    exact h
  · exact h

theorem execShortComparator_keeps {s0 : State} (a0 : Fin 64) {s : State} (h : s0.Keeps s) :
    s0.Answers (execShortComparator a0 s) := by
  unfold execShortComparator
  apply State.Keeps.next
  apply State.Keeps.ite
  · apply State.pcTrip_keeps
    exact h
  · exact h

theorem execSoftstartBegin_keeps {s0 : State} {s : State} (h : s0.Keeps s) :
    s0.Answers (execSoftstartBegin s) := by
  unfold execSoftstartBegin
  apply State.Keeps.next
  apply State.timer_keeps
  · exact h
  · intro t0 h1
    apply State.softBegin_keeps
    exact h1

theorem execSoftstartEnd_keeps {s0 : State} (a0 : Fin 64) (a1 : BitVec 10) {s : State} (h : s0.Keeps s) :
    s0.Answers (execSoftstartEnd a0 a1 s) := by
  unfold execSoftstartEnd
  apply State.Keeps.next
  apply State.whenUp_keeps
  · exact h
  · intro t0 h1
    apply State.softEnd_keeps
    exact h1

theorem execRetryWaitEnd_keeps {s0 : State} (a0 : Fin 64) {s : State} (h : s0.Keeps s) :
    s0.Answers (execRetryWaitEnd a0 s) := by
  unfold execRetryWaitEnd
  apply State.Keeps.next
  apply State.timer_keeps
  · exact h
  · intro t0 h1
    apply State.retryEnd_keeps
    exact h1

theorem execRetriesClear_keeps {s0 : State} (a0 : Fin 64) {s : State} (h : s0.Keeps s) :
    s0.Answers (execRetriesClear a0 s) := by
  unfold execRetriesClear
  apply State.Keeps.next
  apply State.timer_keeps
  · exact h
  · intro t0 h1
    apply State.retriesClear_keeps
    exact h1

theorem execVinOvRelease_keeps {s0 : State} {s : State} (h : s0.Keeps s) :
    s0.Answers (execVinOvRelease s) := by
  unfold execVinOvRelease
  apply State.Keeps.next
  apply State.timer_keeps
  · exact h
  · intro t0 h1
    apply State.vinRelease_keeps
    exact h1

theorem execForceOff_keeps {s0 : State} (a0 : Path) (a1 : Fin 64) (a2 : Bool) {s : State} (h : s0.Keeps s) :
    s0.Answers (execForceOff a0 a1 a2 s) := by
  unfold execForceOff
  apply State.Keeps.next
  apply State.guarded_keeps
  · exact h
  · intro t0 h1
    apply State.pcCtrl_keeps
    exact h1

theorem execClr_keeps {s0 : State} (a0 : Path) (a1 : Fin 64) (a2 : Word) {s : State} (h : s0.Keeps s) :
    s0.Answers (execClr a0 a1 a2 s) := by
  unfold execClr
  apply State.Keeps.next
  apply State.guarded_keeps
  · exact h
  · intro t0 h1
    apply State.pcCtrl_keeps
    exact h1

theorem execPocGroupOn_keeps {s0 : State} (a0 : Fin 16) {s : State} (h : s0.Keeps s) :
    s0.Answers (execPocGroupOn a0 s) := by
  unfold execPocGroupOn
  apply State.Keeps.next
  apply State.timer_keeps
  · exact h
  · intro t0 h1
    apply State.groupOn_keeps
    exact h1

theorem execDiscoveryStart_keeps {s0 : State} (a0 : Fin 64) {s : State} (h : s0.Keeps s) :
    s0.Answers (execDiscoveryStart a0 s) := by
  unfold execDiscoveryStart
  apply State.Keeps.next
  apply State.timer_keeps
  · exact h
  · intro t0 h1
    apply State.bootEnd_keeps
    exact h1

theorem State.replayPower_keeps {s0 : State} {s : State} (a1 : Instr) (h : s0.Keeps s) :
    s0.Keeps (State.replayPower s a1) := by
  unfold State.replayPower
  split
  · apply State.softBegin_keeps
    exact h
  · apply State.retryEnd_keeps
    exact h
  · apply State.retriesClear_keeps
    exact h
  · apply State.vinRelease_keeps
    exact h
  · apply State.groupOn_keeps
    exact h
  · apply State.bootEnd_keeps
    exact h
  · apply State.replayAny_keeps
    exact h

end Sys2Proof.Machine
end

