-- ==== Sys2Proof/Laws/KeepsStarts.lean ====
section
/-! SUPPORT. What the operations of Machine/Starts.lean keep (`State.Keeps`), one lemma each. -/

namespace Sys2Proof.Machine

theorem State.pinsLow_keeps {s0 : State} {s : State} (h : s0.Keeps s) :
    s0.Keeps (State.pinsLow s) := by
  unfold State.pinsLow
  extract_lets v0
  have h1 : s0.Keeps v0 := by
    unfold v0
    apply State.Keeps.foldl
    · exact h
    · intro t2 x3 h4
      apply State.Keeps.ite
      · apply State.emit_keeps
        exact h4
      · exact h4
  apply State.Keeps.ite
  · apply State.emit_keeps
    exact h1
  · exact h1

theorem State.pinsRest_keeps {s0 : State} {s : State} (h : s0.Keeps s) :
    s0.Keeps (State.pinsRest s) := by
  unfold State.pinsRest
  extract_lets v0
  have h1 : s0.Keeps v0 := by
    unfold v0
    apply State.Keeps.foldl
    · exact h
    · intro t2 x3 h4
      apply State.drivePin_keeps
      exact h4
  apply State.Keeps.ite
  · apply State.emit_keeps
    exact h1
  · exact h1

theorem State.pinsAs_keeps {s0 : State} {s : State} (a1 : State) (h : s0.Keeps s) :
    s0.Keeps (State.pinsAs s a1) := by
  unfold State.pinsAs
  apply State.Keeps.foldl
  · exact h
  · intro t0 x1 h2
    apply State.setFlag_keeps
    exact h2

theorem State.flashCut_keeps {s0 : State} {s : State} (h : s0.Keeps s) :
    s0.Keeps (State.flashCut s) := by
  unfold State.flashCut
  apply State.Keeps.ite
  · apply State.flashEnd_keeps
    exact h
  · exact h

theorem State.coreClear_keeps {s0 : State} {s : State} (k : Nat) (h : s0.Keeps s) : s0.Keeps (s.coreClear k) := by
  refine h.trans ⟨fun c => ⟨tblWf_filter _ _ _ c.regs, c.flash, rfl, c.otp, ?_⟩, List.prefix_refl _, rfl, Nat.le_refl _,
    fun _ => BitVec.and_self⟩
  intro im hi
  by_cases hk : k = 2
  · refine c.image im ?_; simpa [State.coreClear, hk] using hi
  · simp [State.coreClear, hk] at hi

theorem State.coreReset_keeps {s0 : State} {s : State} (a1 : Nat) (h : s0.Keeps s) :
    s0.Keeps (State.coreReset s a1) := by
  unfold State.coreReset
  extract_lets v0 v1 v2
  have h3 : s0.Keeps v0 := by
    unfold v0
    apply State.flashCut_keeps
    exact h
  have h4 : s0.Keeps v1 := by
    unfold v1
    apply State.Keeps.ite
    · apply State.pinsRest_keeps
      exact h3
    · apply State.pinsLow_keeps
      exact h3
  have h5 : s0.Keeps v2 := by
    unfold v2
    apply State.coreClear_keeps
    exact h4
  apply State.Keeps.ite
  · apply State.pinsAs_keeps
    exact h5
  · exact h5

theorem State.beginStart_keeps {s0 : State} {s : State} (a1 : Nat) (h : s0.Keeps s) :
    s0.Keeps (State.beginStart s a1) := by
  unfold State.beginStart
  extract_lets v0 v1
  have h2 : s0.Keeps v0 := by
    unfold v0
    apply State.setFld_keeps
    apply State.coreReset_keeps
    exact h
  apply State.psEn_keeps
  refine State.Keeps.upd ?_ rfl rfl
  exact h2

theorem State.refuge_keeps {s0 : State} {s : State} (n : Nat) (h : s0.Keeps s) : s0.Keeps (s.refuge n) := by
  unfold State.refuge
  extract_lets t u v w
  have hu : s0.Keeps u := State.Keeps.foldl (State.pinsLow_keeps (State.gatesOff_keeps h)) (fun _ _ h => State.setFlag_keeps _ _ h) _
  clear_value u
  refine State.writeHeld_keeps (State.setFld_keeps _ _ (State.setFld_keeps _ _ (State.setFlag_keeps _ _ (State.resetRegs_keeps _ _ ?_))))
  exact hu.trans ⟨fun c => ⟨c.regs, c.flash, c.tbl, c.otp, fun _ e => nomatch (show none = some _ from e)⟩, List.prefix_refl _, rfl,
    Nat.le_refl _, fun _ => BitVec.and_self⟩

theorem State.startFail_keeps {s0 : State} {s : State} (a1 : Nat) (a2 : Nat) (a3 : Nat) (h : s0.Keeps s) :
    s0.Keeps (State.startFail s a1 a2 a3) := by
  unfold State.startFail
  extract_lets v0 v1 v2 v3 v4 v5
  have h6 : s0.Keeps v0 := by
    unfold v0
    apply State.setFld_keeps
    exact h
  have h7 : s0.Keeps v1 := by
    unfold v1
    apply State.setFld_keeps
    apply State.setFld_keeps
    apply State.setFld_keeps
    exact h6
  have h8 : s0.Keeps v2 := by
    unfold v2
    apply State.log_keeps
    exact h7
  have h9 : s0.Keeps v4 := by
    unfold v4
    apply State.powerDown_keeps
    exact h8
  apply State.Keeps.ite
  · apply State.refuge_keeps
    exact h8
  · refine State.Keeps.upd ?_ rfl rfl
    exact h9

theorem State.openRecords_keeps {s0 : State} {s : State} (a1 : Bool) (h : s0.Keeps s) :
    s0.Keeps (State.openRecords s a1) := by
  unfold State.openRecords
  extract_lets v0 v1 v2 v3 v4 v5 v6 v7
  have h8 : s0.Keeps v0 := by
    unfold v0
    apply State.openLog_keeps
    exact h
  have h9 : s0.Keeps v1 := by
    unfold v1
    apply State.loadLedger_keeps
    exact h8
  have h10 : s0.Keeps v3 := by
    unfold v3
    refine State.Keeps.upd ?_ rfl rfl
    exact h9
  have h11 : s0.Keeps v4 := by
    unfold v4
    apply State.Keeps.ite
    · exact h8
    · apply State.Keeps.ite
      · exact h10
      · apply State.log_keeps
        exact h10
  have h12 : s0.Keeps v7 := by
    unfold v7
    apply State.Keeps.ite
    · apply State.ledNote_keeps
      refine State.Keeps.upd ?_ rfl rfl
      exact h11
    · exact h11
  apply State.Keeps.ite
  · exact h
  · apply State.calRegs_keeps
    exact h12

theorem State.otpSense_keeps {s0 : State} {s : State} (a1 : Bool) (h : s0.Keeps s) :
    s0.Keeps (State.otpSense s a1) := by
  unfold State.otpSense
  extract_lets v0 v1
  have h2 : s0.Keeps v1 := by
    unfold v1
    refine State.Keeps.upd ?_ rfl rfl
    exact h
  apply State.Keeps.ite
  · apply State.setFlag_keeps
    exact h
  · apply State.Keeps.ite
    · exact h2
    · apply State.setFlag_keeps
      exact h2

theorem State.bist_keeps {s0 : State} {s : State} (h : s0.Keeps s) :
    s0.Keeps (State.bist s) := by
  unfold State.bist
  extract_lets v0 v1
  have h2 : s0.Keeps v0 := by
    unfold v0
    apply State.Keeps.foldl
    · exact h
    · intro t3 x4 h5
      extract_lets v6 v7 v8
      have h9 : s0.Keeps v8 := by
        unfold v8
        refine State.Keeps.upd ?_ rfl rfl
        exact h5
      apply State.setFld_keeps
      apply State.setFld_keeps
      exact h9
  refine State.Keeps.upd ?_ rfl rfl
  exact h2

theorem State.sliceRoles_keeps {s0 : State} {s : State} (h : s0.Keeps s) :
    s0.Keeps (State.sliceRoles s) := by
  unfold State.sliceRoles
  extract_lets v0 v1 v2
  have h3 : s0.Keeps v2 := by
    unfold v2
    apply State.Keeps.foldl
    · exact h
    · intro t4 x5 h6
      apply State.setFld_keeps
      exact h6
  apply State.roleRegs_keeps
  exact h3

theorem State.imageFail_keeps {s0 : State} {s : State} (a1 : Nat) (a2 : Nat × Nat) (h : s0.Keeps s) :
    s0.Keeps (State.imageFail s a1 a2) := by
  unfold State.imageFail
  extract_lets v0 v1
  have h2 : s0.Keeps v0 := by
    unfold v0
    apply State.setFld_keeps
    apply State.setFld_keeps
    exact h
  have h3 : s0.Keeps v1 := by
    unfold v1
    apply State.log_keeps
    apply State.setFld_keeps
    exact h2
  apply State.startFail_keeps
  exact h3

theorem State.applyImage_keeps {s0 : State} {s : State} (a1 : Image) (a2 : Nat) (a3 : Bool) (h : s0.Keeps s) :
    s0.Keeps (State.applyImage s a1 a2 a3) := by
  unfold State.applyImage
  extract_lets v0 v1
  have h2 : s0.Keeps v0 := by
    unfold v0
    apply State.Keeps.foldl
    · exact h
    · intro t3 x4 h5
      apply State.Keeps.ite
      · exact h5
      · apply State.putField_keeps
        exact h5
  apply State.incFrom_keeps
  apply State.putFields_keeps
  exact h2

theorem State.liveAll_keeps {s0 : State} {s : State} (h : s0.Keeps s) :
    s0.Keeps (State.liveAll s) := by
  unfold State.liveAll
  apply State.Keeps.foldl
  · exact h
  · intro t0 x1 h2
    extract_lets v3 v4 v5
    have h6 : s0.Keeps v4 := by
      unfold v4
      apply State.setStr_keeps
      exact h2
    have h7 : s0.Keeps v5 := by
      unfold v5
      apply State.Keeps.foldl
      · exact h6
      · intro t8 x9 h10
        apply State.setReg_keeps
        exact h10
    apply State.setFld_keeps
    exact h7

theorem State.imageRegs_keeps {s0 : State} {s : State} (a1 : Image) (a2 : Bool) (h : s0.Keeps s) :
    s0.Keeps (State.imageRegs s a1 a2) := by
  unfold State.imageRegs
  extract_lets v0 v1 v2
  have h3 : s0.Keeps v2 := by
    unfold v2
    apply State.setReg_keeps
    apply State.setReg_keeps
    apply State.setReg_keeps
    exact h
  apply State.Keeps.foldl
  · exact h3
  · intro t4 x5 h6
    apply State.setReg_keeps
    exact h6

theorem State.startTime_keeps {s0 : State} {s : State} (a1 : Bool) (h : s0.Keeps s) :
    s0.Keeps (State.startTime s a1) := by
  unfold State.startTime
  extract_lets v0 v1 v2
  refine State.Keeps.upd ?_ rfl rfl
  exact h

theorem State.imageChans_keeps {s0 : State} {s : State} (h : s0.Keeps s) :
    s0.Keeps (State.imageChans s) := by
  unfold State.imageChans
  apply State.Keeps.foldl
  · exact h
  · intro t0 x1 h2
    apply State.Keeps.ite
    · apply State.setChState_keeps
      exact h2
    · exact h2

theorem baseWords_canon (l : List Setting) : tblWf regReset (baseWords l) = true :=
  tblWf_foldl _ _ (fun _ _ w => tblWf_set _ _ _ _ w) _ _ rfl

theorem baseTables_canon (l : List ImgRec) : tblWf zeroB (baseTables l) = true := by
  refine tblWf_foldl _ _ (fun t r w => ?_) _ _ rfl
  split
  · exact tblStore_canon _ _ _ w
  · exact w

theorem Parsed.image_canon (p : Parsed) (b : Nat) : (p.image b).canon := ⟨baseWords_canon _, baseTables_canon _⟩

theorem State.step11_keeps {s0 : State} {s : State} (k : Nat) (im : Image) (bad : List Nat) (want src : Nat) (re : Bool)
    (hi : s0.Canon → im.canon) (h : s0.Keeps s) : s0.Keeps (s.step11 k im bad want src re) := by
  unfold State.step11
  split
  extract_lets v0 v1 v2 v3 v4 v5 v6 v7 v8 v9
  have h0 : s0.Keeps v0 := State.imageRegs_keeps _ _ (State.applyImage_keeps _ _ _ h)
  clear_value v0
  have h3 : s0.Keeps v3 := by
    refine ⟨fun c => ?_, h0.sent, h0.pending, h0.free, h0.otp⟩
    have c0 := h0.canon c
    exact ⟨c0.regs, c0.flash, (hi c).2, c0.otp, fun i e => (Option.some.inj e) ▸ hi c⟩
  clear_value v3
  have h4 : s0.Keeps v4 := State.setFld_keeps _ _ (State.setFld_keeps _ _ (State.setFld_keeps _ _ h3))
  clear_value v4
  have h5 : s0.Keeps v5 := State.Keeps.ite h4 (State.log_keeps _ _ _ h4)
  clear_value v5
  have h6 : s0.Keeps v6 := State.imageChans_keeps (State.liveAll_keeps (State.startTime_keeps _ h5))
  clear_value v6
  have h7 : s0.Keeps v7 := State.Keeps.foldl h6 (fun _ _ h => State.drivePin_keeps _ _ _ h) _
  clear_value v7
  have h9 : s0.Keeps v9 := State.grzRefill_keeps (State.Keeps.upd h7 rfl rfl)
  clear_value v9
  exact h9.upd rfl rfl

theorem except_bind {ε α β : Type} {x : Except ε α} {f : α → Except ε β} {y : β} (e : (x >>= f) = .ok y) :
    ∃ a, x = .ok a ∧ f a = .ok y := by
  cases x with
  | error _ => cases e
  | ok a => exact ⟨a, rfl, e⟩

theorem State.checkImage_canon {s : State} {b : Nat} {k : Bool} {p : Parsed} {im : Image}
    (e : s.checkImage b k = .ok (p, im)) : im.canon := by
  unfold State.checkImage at e
  obtain ⟨q, _, e⟩ := except_bind e
  obtain ⟨_, _, e⟩ := except_bind e
  obtain ⟨_, _, e⟩ := except_bind e
  obtain ⟨_, _, e⟩ := except_bind e
  cases e
  exact Parsed.image_canon _ _

theorem State.validate_canon {s : State} {b : Nat} {k : Bool} {bad : List Nat} {im : Image}
    (e : s.validate b k = .ok (im, bad)) : im.canon := by
  unfold State.validate at e
  obtain ⟨q, hq, e⟩ := except_bind e
  obtain ⟨_, _, e⟩ := except_bind e
  obtain ⟨_, _, e⟩ := except_bind e
  cases e
  exact State.checkImage_canon hq

theorem State.obtain_canon {s : State} {k b : Nat} {bad : List Nat} {im : Image}
    (e : s.obtain k b = .ok (im, bad)) (h : ∀ i, s.image = some i → i.canon) : im.canon := by
  unfold State.obtain at e
  split at e
  · rename_i hi
    obtain ⟨_, _, e⟩ := except_bind e
    split at e
    · cases e; exact h _ hi
    · obtain ⟨_, _, e⟩ := except_bind e
      cases e; exact h _ hi
  · exact State.validate_canon e

theorem State.copyRegs_keeps {s0 : State} {s : State} (a1 : State) (a2 : List Nat) (h : s0.Keeps s) :
    s0.Keeps (State.copyRegs s a1 a2) := by
  unfold State.copyRegs
  apply State.Keeps.foldl
  · exact h
  · intro t0 x1 h2
    apply State.setReg_keeps
    exact h2

theorem State.keepNode_keeps {s0 : State} {s : State} (a1 : State) (a2 : Nat) (h : s0.Keeps s) :
    s0.Keeps (State.keepNode s a1 a2) := by
  unfold State.keepNode
  split
  · extract_lets v0
    apply State.setFld_keeps
    apply State.setSess_keeps
    exact h
  · extract_lets v1 v2
    have h3 : s0.Keeps v1 := by
      unfold v1
      apply State.setReg_keeps
      exact h
    have h4 : s0.Keeps v2 := by
      unfold v2
      apply State.Keeps.ite
      · apply State.setFld_keeps
        exact h3
      · exact h3
    apply State.Keeps.ite
    · exact h4
    · apply State.wantSession_keeps
      exact h4

theorem State.keepLinks_keeps {s0 : State} {s : State} (a1 : State) (a2 : List Nat) (h : s0.Keeps s) :
    s0.Keeps (State.keepLinks s a1 a2) := by
  unfold State.keepLinks
  extract_lets v0 v1 v2 v3
  have h4 : s0.Keeps v0 := by
    unfold v0
    apply State.Keeps.foldl
    · exact h
    · intro t5 x6 h7
      extract_lets v8 v9 v10 v11 v12 v13 v14
      have h15 : s0.Keeps v8 := by
        unfold v8
        apply State.copyRegs_keeps
        exact h7
      have h16 : s0.Keeps v10 := by
        unfold v10
        apply State.setPort_keeps
        exact h15
      have h17 : s0.Keeps v12 := by
        unfold v12
        apply State.setTx_keeps
        apply State.setRx_keeps
        exact h16
      have h18 : s0.Keeps v13 := by
        unfold v13
        apply State.setSensor_keeps
        exact h17
      apply State.Keeps.ite
      · apply State.setBond_keeps
        exact h18
      · exact h18
  have h19 : s0.Keeps v2 := by
    unfold v2
    refine State.Keeps.upd ?_ rfl rfl
    exact h4
  have h20 : s0.Keeps v3 := by
    unfold v3
    apply State.Keeps.foldl
    · exact h19
    · intro t21 x22 h23
      apply State.keepNode_keeps
      exact h23
  apply State.setFlag_keeps
  exact h20

theorem State.keepPower_keeps {s0 : State} {s : State} (a1 : State) (h : s0.Keeps s) :
    s0.Keeps (State.keepPower s a1) := by
  unfold State.keepPower
  extract_lets v0 v1 v2 v3 v4
  have h5 : s0.Keeps v1 := by
    unfold v1
    apply State.Keeps.foldl
    · exact h
    · intro t6 x7 h8
      apply State.Keeps.ite
      · apply State.copyRegs_keeps
        exact h8
      · apply State.setReg_keeps
        exact h8
  have h9 : s0.Keeps v2 := by
    unfold v2
    apply State.copyRegs_keeps
    exact h5
  have h10 : s0.Keeps v4 := by
    unfold v4
    refine State.Keeps.upd ?_ rfl rfl
    exact h9
  apply State.pwrRegs_keeps
  apply State.Keeps.foldl
  · exact h10
  · intro t11 x12 h13
    apply State.Keeps.ite
    · exact h13
    · apply State.pcDown_keeps
      exact h13

theorem State.keepHost_keeps {s0 : State} {s : State} (a1 : State) (h : s0.Keeps s) :
    s0.Keeps (State.keepHost s a1) := by
  unfold State.keepHost
  extract_lets v0 v1 v2
  have h3 : s0.Keeps v0 := by
    unfold v0
    apply State.copyRegs_keeps
    exact h
  refine State.Keeps.upd ?_ rfl rfl
  exact h3

theorem State.startTx_keeps {s0 : State} {s : State} (a1 : Nat) (h : s0.Keeps s) :
    s0.Keeps (State.startTx s a1) := by
  unfold State.startTx
  extract_lets v0
  apply State.loadEq_keeps
  apply State.setTx_keeps
  exact h

theorem State.findSystem_keeps {s0 : State} {s : State} (a1 : List Nat) (h : s0.Keeps s) :
    s0.Keeps (State.findSystem s a1) := by
  unfold State.findSystem
  extract_lets v0
  have h1 : s0.Keeps v0 := by
    unfold v0
    apply State.Keeps.foldl
    · exact h
    · intro t2 x3 h4
      split
      · apply State.Keeps.ite
        · apply State.pcWait_keeps
          exact h4
        · exact h4
      · exact h4
  apply State.Keeps.foldl
  · exact h1
  · intro t5 x6 h7
    extract_lets v8 v9
    have h10 : s0.Keeps v8 := by
      unfold v8
      apply State.startTx_keeps
      exact h7
    apply State.Keeps.ite
    · exact h7
    · apply State.Keeps.ite
      · apply State.discover_keeps
        exact h10
      · exact h10

theorem State.planFirst_keeps {s0 : State} {s : State} (h : s0.Keeps s) :
    s0.Keeps (State.planFirst s) := by
  unfold State.planFirst
  extract_lets v0
  apply State.planAhead_keeps
  refine State.Keeps.upd ?_ rfl rfl
  exact h

theorem State.limpHeld_keeps {s0 : State} {s : State} (h : s0.Keeps s) :
    s0.Keeps (State.limpHeld s) := by
  unfold State.limpHeld
  extract_lets v0
  apply State.Keeps.ite
  · refine State.Keeps.upd ?_ rfl rfl
    exact h
  · exact h

theorem State.endStart_keeps {s0 : State} {s : State} (a1 : Nat) (h : s0.Keeps s) :
    s0.Keeps (State.endStart s a1) := by
  unfold State.endStart
  extract_lets v0 v1 v2
  have h3 : s0.Keeps v0 := by
    unfold v0
    apply State.setFld_keeps
    apply State.setFlag_keeps
    exact h
  have h4 : s0.Keeps v1 := by
    unfold v1
    apply State.planFirst_keeps
    apply State.limpHeld_keeps
    exact h3
  have h5 : s0.Keeps v2 := by
    unfold v2
    apply State.Keeps.ite
    · apply State.ageMeasure_keeps
      exact h4
    · exact h4
  apply State.Keeps.ite
  · apply State.snapshot_keeps
    exact h5
  · exact h5

theorem State.flashReset_keeps {s0 : State} {s : State} (h : s0.Keeps s) :
    s0.Keeps (State.flashReset s) := by
  unfold State.flashReset
  apply State.emit_keeps
  apply State.emit_keeps
  exact h

theorem State.runStart_keeps {s0 : State} {s : State} (a1 : State) (a2 : Nat) (h : s0.Keeps s) :
    s0.Keeps (State.runStart s a1 a2) := by
  unfold State.runStart
  extract_lets v0 vr v1 v2 v3 v4
  have hr : s0.Keeps vr := by
    unfold vr
    apply State.otpSense_keeps
    apply State.openRecords_keeps
    exact h
  have h5 : s0.Keeps v1 := by
    unfold v1
    apply State.Keeps.ite
    · exact hr
    · apply State.flashReset_keeps
      exact hr
  have h6 : s0.Keeps v4 := by
    unfold v4
    apply State.Keeps.ite
    · apply State.setFlag_keeps
      exact h5
    · apply State.bist_keeps
      exact h5
  apply State.Keeps.ite
  · apply State.refuge_keeps
    exact h5
  · apply State.Keeps.ite
    · apply State.startFail_keeps
      exact h5
    · apply State.Keeps.ite
      · apply State.startFail_keeps
        exact h6
      · split
        · apply State.refuge_keeps
          exact h6
        · extract_lets v7 v8 v9
          have h10 : s0.Keeps v9 := by
            unfold v9
            apply State.setFlag_keeps
            apply State.setFlag_keeps
            exact h6
          split
          · apply State.imageFail_keeps
            exact h6
          · split
            extract_lets v11 v12 v13 v14
            have h15 : s0.Keeps v11 := by
              unfold v11
              apply State.writeHeld_keeps
              apply State.step11_keeps
              · exact fun c => State.obtain_canon (by assumption) (h6.canon c).image
              · apply State.sliceRoles_keeps
                exact h10
            have h17 : s0.Keeps v13 := by
              unfold v13
              apply State.Keeps.ite
              · apply State.keepLinks_keeps
                apply State.keepPower_keeps
                apply State.keepHost_keeps
                exact h15
              · exact h15
            have h18 : s0.Keeps v14 := by
              unfold v14
              apply State.Keeps.ite
              · apply State.setFld_keeps
                exact h17
              · apply State.Keeps.ite
                · apply State.setFld_keeps
                  exact h17
                · exact h17
            apply State.endStart_keeps
            apply State.findSystem_keeps
            exact h18

end Sys2Proof.Machine
end

