-- ==== Sys2Proof/Laws/KeepsTunnel.lean ====
section
/-! SUPPORT. What the operations of Machine/Tunnel.lean keep (`State.Keeps`), one lemma each. -/

namespace Sys2Proof.Machine

theorem State.setBuf_keeps {s0 : State} {s : State} (a1 : Nat → Nat) (a2 : List Byte) (h : s0.Keeps s) :
    s0.Keeps (State.setBuf s a1 a2) := by
  unfold State.setBuf
  apply State.Keeps.foldl
  · exact h
  · intro t0 x1 h2
    extract_lets v3 v4
    apply State.setReg_keeps
    exact h2

theorem State.lwSend_keeps {s0 : State} {s : State} (a1 : Nat) (h : s0.Keeps s) :
    s0.Keeps (State.lwSend s a1) := by
  unfold State.lwSend
  extract_lets v0
  apply State.emit_keeps
  exact h

theorem State.lwEnd_keeps {s0 : State} {s : State} (a1 : Nat) (a2 : Nat) (a3 : Nat) (h : s0.Keeps s) :
    s0.Keeps (State.lwEnd s a1 a2 a3) := by
  unfold State.lwEnd
  apply State.setFld_keeps
  apply State.setFld_keeps
  apply State.setFld_keeps
  exact h

theorem State.lwCmd_keeps {s0 : State} {s : State} (a1 : Nat) (a2 : Word) (h : s0.Keeps s) :
    s0.Keeps (State.lwCmd s a1 a2) := by
  unfold State.lwCmd
  extract_lets v0 v1 v2 v3 v4
  have h5 : s0.Keeps v0 := by
    unfold v0
    apply State.plainWrite_keeps
    exact h
  have h6 : s0.Keeps v2 := by
    unfold v2
    refine State.Keeps.upd ?_ rfl rfl
    exact h5
  have h7 : s0.Keeps v3 := by
    unfold v3
    apply State.setFld_keeps
    apply State.lwEnd_keeps
    exact h6
  have h8 : s0.Keeps v4 := by
    unfold v4
    apply State.setFld_keeps
    exact h7
  apply State.Keeps.ite
  · apply State.plainWrite_keeps
    exact h
  · apply State.Keeps.ite
    · apply State.setFlag_keeps
      exact h
    · apply State.Keeps.ite
      · apply State.lwEnd_keeps
        exact h7
      · apply State.Keeps.ite
        · exact h8
        · apply State.lwSend_keeps
          exact h8

theorem State.lwFreed_keeps {s0 : State} {s : State} (a1 : Nat) (h : s0.Keeps s) :
    s0.Keeps (State.lwFreed s a1) := by
  unfold State.lwFreed
  extract_lets v0
  apply State.Keeps.ite
  · apply State.lwSend_keeps
    refine State.Keeps.upd ?_ rfl rfl
    exact h
  · exact h

theorem State.lwDone_keeps {s0 : State} {s : State} (a1 : Nat) (a2 : Nat) (a3 : Nat) (a4 : List Byte) (a5 : Bool) (h : s0.Keeps s) :
    s0.Keeps (State.lwDone s a1 a2 a3 a4 a5) := by
  unfold State.lwDone
  extract_lets v0 v1 v2 v3
  have h4 : s0.Keeps v0 := by
    unfold v0
    apply State.lwFreed_keeps
    exact h
  have h5 : s0.Keeps v1 := by
    unfold v1
    apply State.Keeps.ite
    · apply State.setFlag_keeps
      exact h4
    · exact h4
  have h6 : s0.Keeps v3 := by
    unfold v3
    apply State.Keeps.ite
    · apply State.setBuf_keeps
      exact h5
    · exact h5
  apply State.Keeps.ite
  · exact h
  · apply State.lwEnd_keeps
    exact h6

theorem State.lwArbitration_keeps {s0 : State} {s : State} (a1 : Nat) (h : s0.Keeps s) :
    s0.Keeps (State.lwArbitration s a1) := by
  unfold State.lwArbitration
  extract_lets v0 v1
  have h2 : s0.Keeps v0 := by
    unfold v0
    apply State.count31_keeps
    apply State.lwFreed_keeps
    exact h
  apply State.Keeps.ite
  · exact h
  · apply State.Keeps.ite
    · apply State.lwSend_keeps
      apply State.setFld_keeps
      exact h2
    · apply State.lwEnd_keeps
      exact h2

theorem State.lwStretch_keeps {s0 : State} {s : State} (a1 : Nat) (a2 : Nat) (a3 : Bool) (h : s0.Keeps s) :
    s0.Keeps (State.lwStretch s a1 a2 a3) := by
  unfold State.lwStretch
  extract_lets v0
  have h1 : s0.Keeps v0 := by
    unfold v0
    apply State.lwEnd_keeps
    apply State.count31_keeps
    apply State.lwFreed_keeps
    exact h
  apply State.Keeps.ite
  · exact h
  · apply State.Keeps.ite
    · apply State.setFlag_keeps
      exact h1
    · exact h1

theorem State.lwStuck_keeps {s0 : State} {s : State} (a1 : Nat) (h : s0.Keeps s) :
    s0.Keeps (State.lwStuck s a1) := by
  unfold State.lwStuck
  extract_lets v0 v1 v2
  have h3 : s0.Keeps v1 := by
    unfold v1
    apply State.setFld_keeps
    apply State.setFld_keeps
    exact h
  apply State.Keeps.ite
  · refine State.Keeps.upd ?_ rfl rfl
    exact h3
  · exact h

theorem State.tunSend_keeps {s0 : State} {s : State} (a1 : Nat) (h : s0.Keeps s) :
    s0.Keeps (State.tunSend s a1) := by
  unfold State.tunSend
  extract_lets v0 v1 v2 v3 v4 v5 v6 v7 v8
  have h9 : s0.Keeps v4 := by
    unfold v4
    refine State.Keeps.upd ?_ rfl rfl
    exact h
  have h10 : s0.Keeps v5 := by
    unfold v5
    apply State.setFld_keeps
    apply State.setFld_keeps
    exact h9
  apply State.sendCtl_keeps
  exact h10

theorem State.tunPump_keeps {s0 : State} {s : State} (h : s0.Keeps s) :
    s0.Keeps (State.tunPump s) := by
  unfold State.tunPump
  extract_lets v0 v1
  apply State.Keeps.ite
  · exact h
  · apply State.Keeps.foldl
    · refine State.Keeps.upd ?_ rfl rfl
      exact h
    · intro t2 x3 h4
      extract_lets v5
      apply State.Keeps.ite
      · apply State.tunSend_keeps
        refine State.Keeps.upd ?_ rfl rfl
        exact h4
      · exact h4

theorem State.tunDone_keeps {s0 : State} {s : State} (a1 : Nat) (a2 : Nat) (a3 : Nat) (h : s0.Keeps s) :
    s0.Keeps (State.tunDone s a1 a2 a3) := by
  unfold State.tunDone
  apply State.setFld_keeps
  apply State.setFld_keeps
  apply State.setFld_keeps
  exact h

theorem State.tunCmd_keeps {s0 : State} {s : State} (a1 : Nat) (a2 : Word) (h : s0.Keeps s) :
    s0.Keeps (State.tunCmd s a1 a2) := by
  unfold State.tunCmd
  extract_lets v0 v1 v2 v3 v4 v5 v6 v7 v8
  have h9 : s0.Keeps v2 := by
    unfold v2
    apply State.setFlag_keeps
    exact h
  have h10 : s0.Keeps v4 := by
    unfold v4
    apply State.plainWrite_keeps
    exact h
  have h11 : s0.Keeps v6 := by
    unfold v6
    refine State.Keeps.upd ?_ rfl rfl
    exact h10
  have h12 : s0.Keeps v7 := by
    unfold v7
    apply State.setFld_keeps
    apply State.setFld_keeps
    apply State.setFld_keeps
    exact h11
  apply State.Keeps.ite
  · apply State.plainWrite_keeps
    exact h
  · apply State.Keeps.ite
    · apply State.Keeps.ite
      · apply State.tableFull_keeps
        exact h9
      · exact h9
    · apply State.Keeps.ite
      · apply State.tunDone_keeps
        exact h11
      · apply State.Keeps.ite
        · apply State.tunDone_keeps
          exact h11
        · apply State.tunPump_keeps
          refine State.Keeps.upd ?_ rfl rfl
          exact h12

theorem State.tunReply_keeps {s0 : State} {s : State} (a1 : Nat) (a2 : Nat) (a3 : Nat) (a4 : Nat) (a5 : List Byte) (h : s0.Keeps s) :
    s0.Keeps (State.tunReply s a1 a2 a3 a4 a5) := by
  unfold State.tunReply
  extract_lets v0 v1 v2
  have h3 : s0.Keeps v1 := by
    unfold v1
    apply State.tunDone_keeps
    exact h
  have h4 : s0.Keeps v2 := by
    unfold v2
    apply State.Keeps.ite
    · apply State.setBuf_keeps
      exact h3
    · apply State.Keeps.ite
      · apply State.setBuf_keeps
        exact h3
      · exact h3
  apply State.Keeps.ite
  · apply State.tunPump_keeps
    exact h4
  · apply State.count31_keeps
    exact h

theorem State.tunTimeout_keeps {s0 : State} {s : State} (a1 : Nat) (h : s0.Keeps s) :
    s0.Keeps (State.tunTimeout s a1) := by
  unfold State.tunTimeout
  extract_lets v0
  apply State.Keeps.ite
  · apply State.tunPump_keeps
    apply State.tunDone_keeps
    exact h
  · exact h

theorem execLwWrite_keeps {s0 : State} (a0 : Path) (a1 : Fin 16) (a2 : Word) {s : State} (h : s0.Keeps s) :
    s0.Answers (execLwWrite a0 a1 a2 s) := by
  unfold execLwWrite
  apply State.Keeps.next
  apply State.guarded_keeps
  · exact h
  · intro t0 h1
    apply State.lwCmd_keeps
    exact h1

theorem execLwRead_keeps {s0 : State} (a0 : Path) (a1 : Fin 16) (a2 : Word) {s : State} (h : s0.Keeps s) :
    s0.Answers (execLwRead a0 a1 a2 s) := by
  unfold execLwRead
  apply State.Keeps.next
  apply State.guarded_keeps
  · exact h
  · intro t0 h1
    apply State.lwCmd_keeps
    exact h1

theorem execLwWriteRead_keeps {s0 : State} (a0 : Path) (a1 : Fin 16) (a2 : Word) {s : State} (h : s0.Keeps s) :
    s0.Answers (execLwWriteRead a0 a1 a2 s) := by
  unfold execLwWriteRead
  apply State.Keeps.next
  apply State.guarded_keeps
  · exact h
  · intro t0 h1
    apply State.lwCmd_keeps
    exact h1

theorem execLwTransactionDone_keeps {s0 : State} (a0 : Fin 16) (a1 : Fin 4) (a2 : Fin 64) (a3 : List Byte) (a4 : Bool) {s : State} (h : s0.Keeps s) :
    s0.Answers (execLwTransactionDone a0 a1 a2 a3 a4 s) := by
  unfold execLwTransactionDone
  apply State.Keeps.next
  apply State.Keeps.ite
  · apply State.lwDone_keeps
    exact h
  · exact h

theorem execLwArbitrationRetry_keeps {s0 : State} (a0 : Fin 16) {s : State} (h : s0.Keeps s) :
    s0.Answers (execLwArbitrationRetry a0 s) := by
  unfold execLwArbitrationRetry
  apply State.Keeps.next
  apply State.Keeps.ite
  · apply State.lwArbitration_keeps
    exact h
  · exact h

theorem execLwStretchTimeout_keeps {s0 : State} (a0 : Fin 16) (a1 : Fin 64) (a2 : Bool) {s : State} (h : s0.Keeps s) :
    s0.Answers (execLwStretchTimeout a0 a1 a2 s) := by
  unfold execLwStretchTimeout
  apply State.Keeps.next
  apply State.Keeps.ite
  · apply State.lwStretch_keeps
    exact h
  · exact h

theorem execLwStuck_keeps {s0 : State} (a0 : Fin 16) {s : State} (h : s0.Keeps s) :
    s0.Answers (execLwStuck a0 s) := by
  unfold execLwStuck
  apply State.Keeps.next
  apply State.Keeps.ite
  · apply State.lwStuck_keeps
    exact h
  · exact h

theorem execTunWrite_keeps {s0 : State} (a0 : Path) (a1 : Fin 64) (a2 : Word) {s : State} (h : s0.Keeps s) :
    s0.Answers (execTunWrite a0 a1 a2 s) := by
  unfold execTunWrite
  apply State.Keeps.next
  apply State.guarded_keeps
  · exact h
  · intro t0 h1
    apply State.tunCmd_keeps
    exact h1

theorem execTunRead_keeps {s0 : State} (a0 : Path) (a1 : Fin 64) (a2 : Word) {s : State} (h : s0.Keeps s) :
    s0.Answers (execTunRead a0 a1 a2 s) := by
  unfold execTunRead
  apply State.Keeps.next
  apply State.guarded_keeps
  · exact h
  · intro t0 h1
    apply State.tunCmd_keeps
    exact h1

theorem execTunWriteRead_keeps {s0 : State} (a0 : Path) (a1 : Fin 64) (a2 : Word) {s : State} (h : s0.Keeps s) :
    s0.Answers (execTunWriteRead a0 a1 a2 s) := by
  unfold execTunWriteRead
  apply State.Keeps.next
  apply State.guarded_keeps
  · exact h
  · intro t0 h1
    apply State.tunCmd_keeps
    exact h1

theorem execCtrlReply_keeps {s0 : State} (a0 : Fin 64) (a1 : Fin 8) (a2 : Byte) (a3 : Fin 6) (a4 : Fin 32) (a5 : List Byte) {s : State} (h : s0.Keeps s) :
    s0.Answers (execCtrlReply a0 a1 a2 a3 a4 a5 s) := by
  unfold execCtrlReply
  apply State.Keeps.next
  apply State.whenUp_keeps
  · exact h
  · intro t0 h1
    apply State.Keeps.ite
    · exact h1
    · apply State.tunReply_keeps
      exact h1

theorem execTunnelTimeout_keeps {s0 : State} (a0 : Fin 64) {s : State} (h : s0.Keeps s) :
    s0.Answers (execTunnelTimeout a0 s) := by
  unfold execTunnelTimeout
  apply State.Keeps.next
  apply State.whenUp_keeps
  · exact h
  · intro t0 h1
    apply State.tunTimeout_keeps
    exact h1

end Sys2Proof.Machine
end

