-- ==== Sys2Proof/Laws/KeepsRestart.lean ====
section
/-! SUPPORT. What the operations of Machine/Restart.lean keep (`State.Keeps`), one lemma each. -/

namespace Sys2Proof.Machine

theorem State.powerUp_keeps {s0 : State} {s : State} (n : Nat) (h : s0.Keeps s) : s0.Keeps (s.powerUp n) := by
  unfold State.powerUp
  refine State.Keeps.ite h (State.beginStart_keeps _ ?_)
  exact h.trans ⟨fun c => ⟨rfl, c.flash, c.tbl, c.otp, c.image⟩, List.prefix_refl _, rfl, Nat.le_refl _,
    fun _ => BitVec.and_self⟩

theorem State.brownOut_keeps {s0 : State} {s : State} (h : s0.Keeps s) :
    s0.Keeps (State.brownOut s) := by
  unfold State.brownOut
  extract_lets v0 v1 v2
  have h3 : s0.Keeps v1 := by
    unfold v1
    apply State.Keeps.foldl
    · apply State.gatesOff_keeps
      exact h
    · intro t4 x5 h6
      apply State.psEn_keeps
      exact h6
  refine State.Keeps.upd ?_ rfl rfl
  exact h3

theorem State.finds_keeps {s0 : State} {s : State} (a1 : Found) (h : s0.Keeps s) :
    s0.Keeps (State.finds s a1) := by
  unfold State.finds
  extract_lets v0
  refine State.Keeps.upd ?_ rfl rfl
  exact h

theorem State.railNext_keeps {s0 : State} {s : State} (a1 : Found) (h : s0.Keeps s) :
    s0.Keeps (State.railNext s a1) := by
  unfold State.railNext
  extract_lets v0 v1 v2 v3 v4
  have h5 : s0.Keeps v1 := by
    unfold v1
    apply State.setFld_keeps
    exact h
  have h6 : s0.Keeps v3 := by
    unfold v3
    refine State.Keeps.upd ?_ rfl rfl
    exact h5
  have h7 : s0.Keeps v4 := by
    unfold v4
    apply State.finds_keeps
    exact h6
  apply State.Keeps.ite
  · exact h
  · apply State.Keeps.ite
    · apply State.psEn_keeps
      exact h6
    · apply State.runStart_keeps
      exact h7

theorem State.wake_keeps {s0 : State} {s : State} (a1 : Bool) (h : s0.Keeps s) :
    s0.Keeps (State.wake s a1) := by
  unfold State.wake
  extract_lets v0 v1
  have h2 : s0.Keeps v0 := by
    unfold v0
    apply State.beginStart_keeps
    exact h
  apply State.Keeps.ite
  · exact h
  · refine State.Keeps.upd ?_ rfl rfl
    exact h2

theorem State.startCold_keeps {s0 : State} {s : State} (h : s0.Keeps s) :
    s0.Keeps (State.startCold s) := by
  unfold State.startCold
  extract_lets v0
  have h1 : s0.Keeps v0 := by
    unfold v0
    apply State.setFld_keeps
    apply State.setFld_keeps
    exact h
  apply State.beginStart_keeps
  apply State.powerDown_keeps
  exact h1

theorem State.endWork_keeps {s0 : State} {s : State} (h : s0.Keeps s) :
    s0.Keeps (State.endWork s) := by
  unfold State.endWork
  extract_lets v0 v1 v2 v3 v4
  have h5 : s0.Keeps v0 := by
    unfold v0
    apply State.Keeps.foldl
    · exact h
    · intro t6 x7 h8
      apply State.closeHerd_keeps
      exact h8
  have h9 : s0.Keeps v1 := by
    unfold v1
    apply State.grzAbortAll_keeps
    exact h5
  have h10 : s0.Keeps v2 := by
    unfold v2
    apply State.Keeps.foldl
    · exact h9
    · intro t11 x12 h13
      apply State.Keeps.ite
      · apply State.chAbort_keeps
        exact h13
      · exact h13
  have h14 : s0.Keeps v3 := by
    unfold v3
    apply State.epResetAll_keeps
    exact h10
  refine State.Keeps.upd ?_ rfl rfl
  exact h14

theorem State.startWarm_keeps {s0 : State} {s : State} (a1 : Found) (h : s0.Keeps s) :
    s0.Keeps (State.startWarm s a1) := by
  unfold State.startWarm
  extract_lets v0 v1 v2 v3
  have h4 : s0.Keeps v0 := by
    unfold v0
    apply State.endWork_keeps
    exact h
  have h5 : s0.Keeps v1 := by
    unfold v1
    apply State.setFld_keeps
    apply State.coreReset_keeps
    exact h4
  have h6 : s0.Keeps v3 := by
    unfold v3
    refine State.Keeps.upd ?_ rfl rfl
    exact h5
  apply State.Keeps.ite
  · exact h
  · apply State.runStart_keeps
    apply State.finds_keeps
    exact h6

theorem State.escalate_keeps {s0 : State} {s : State} (a1 : Found) (h : s0.Keeps s) :
    s0.Keeps (State.escalate s a1) := by
  unfold State.escalate
  extract_lets v0 v1 v2 v3
  have h4 : s0.Keeps v0 := by
    unfold v0
    apply State.setFlag_keeps
    exact h
  have h5 : s0.Keeps v2 := by
    unfold v2
    refine State.Keeps.upd ?_ rfl rfl
    exact h4
  apply State.Keeps.ite
  · exact h5
  · apply State.Keeps.ite
    · apply State.startFail_keeps
      refine State.Keeps.upd ?_ rfl rfl
      exact h5
    · apply State.startWarm_keeps
      exact h5

theorem State.fwRestart_keeps {s0 : State} {s : State} (a1 : Nat) (a2 : Found) (h : s0.Keeps s) :
    s0.Keeps (State.fwRestart s a1 a2) := by
  unfold State.fwRestart
  extract_lets v0 v1 v2 v3 v4 v5 v6
  have h7 : s0.Keeps v1 := by
    unfold v1
    apply State.setFld_keeps
    apply State.setFlag_keeps
    exact h
  have h8 : s0.Keeps v2 := by
    unfold v2
    apply State.countSmall_keeps
    exact h7
  have h9 : s0.Keeps v4 := by
    unfold v4
    refine State.Keeps.upd ?_ rfl rfl
    exact h8
  have h10 : s0.Keeps v5 := by
    unfold v5
    apply State.flashCut_keeps
    exact h9
  apply State.Keeps.ite
  · exact h
  · apply State.Keeps.ite
    · apply State.escalate_keeps
      exact h9
    · refine State.Keeps.upd ?_ rfl rfl
      exact h10

theorem State.fwDone_keeps {s0 : State} {s : State} (h : s0.Keeps s) :
    s0.Keeps (State.fwDone s) := by
  unfold State.fwDone
  extract_lets v0 v1 v2 v3
  have h4 : s0.Keeps v2 := by
    unfold v2
    refine State.Keeps.upd ?_ rfl rfl
    exact h
  have h5 : s0.Keeps v3 := by
    unfold v3
    apply State.Keeps.foldl
    · apply State.setFlag_keeps
      exact h4
    · intro t6 x7 h8
      apply State.replayPower_keeps
      exact h8
  apply State.Keeps.ite
  · exact h
  · apply State.writeHeld_keeps
    apply State.tunPump_keeps
    apply State.Keeps.foldl
    · exact h5
    · intro t9 x10 h11
      apply State.runDue_keeps
      exact h11

theorem State.startCtrl_keeps {s0 : State} {s : State} (a1 : Path) (a2 : Word) (a3 : Found) (h : s0.Keeps s) :
    s0.Keeps (State.startCtrl s a1 a2 a3) := by
  unfold State.startCtrl
  extract_lets v0
  apply State.Keeps.ite
  · apply State.log_keeps
    exact h
  · apply State.Keeps.ite
    · apply State.startCold_keeps
      exact h
    · apply State.Keeps.ite
      · apply State.startWarm_keeps
        exact h
      · apply State.Keeps.ite
        · apply State.fwRestart_keeps
          exact h
        · exact h

theorem State.failClear_keeps {s0 : State} {s : State} (h : s0.Keeps s) :
    s0.Keeps (State.failClear s) := by
  unfold State.failClear
  split
  · exact h
  · extract_lets v0
    apply State.Keeps.ite
    · exact h
    · apply State.setFld_keeps
      refine State.Keeps.upd ?_ rfl rfl
      exact h

theorem State.quorumLimit_keeps {s0 : State} {s : State} (h : s0.Keeps s) :
    s0.Keeps (State.quorumLimit s) := by
  unfold State.quorumLimit
  extract_lets v0
  apply State.Keeps.ite
  · exact h
  · apply State.log_keeps
    apply State.setFlag_keeps
    exact h

theorem State.rcSecond_keeps {s0 : State} {s : State} (h : s0.Keeps s) :
    s0.Keeps (State.rcSecond s) := by
  unfold State.rcSecond
  extract_lets v0 v1
  have h2 : s0.Keeps v1 := by
    unfold v1
    refine State.Keeps.upd ?_ rfl rfl
    exact h
  apply State.Keeps.ite
  · exact h
  · apply State.Keeps.ite
    · apply State.wake_keeps
      apply State.alarmCheck_keeps
      exact h2
    · exact h2

theorem State.perstOff_keeps {s0 : State} {s : State} (h : s0.Keeps s) :
    s0.Keeps (State.perstOff s) := by
  unfold State.perstOff
  extract_lets v0 v1
  have h2 : s0.Keeps v1 := by
    unfold v1
    refine State.Keeps.upd ?_ rfl rfl
    exact h
  apply State.wake_keeps
  exact h2

theorem State.sliceBist_keeps {s0 : State} {s : State} (a1 : Nat) (h : s0.Keeps s) :
    s0.Keeps (State.sliceBist s a1) := by
  unfold State.sliceBist
  extract_lets v0 v1 v2
  have h3 : s0.Keeps v1 := by
    unfold v1
    apply State.setFld_keeps
    exact h
  apply State.Keeps.ite
  · apply State.Keeps.ite
    · refine State.Keeps.upd ?_ rfl rfl
      exact h3
    · exact h3
  · apply State.setFlag_keeps
    exact h

theorem State.sliceBistDone_keeps {s0 : State} {s : State} (a1 : Nat) (a2 : Bool) (h : s0.Keeps s) :
    s0.Keeps (State.sliceBistDone s a1 a2) := by
  unfold State.sliceBistDone
  extract_lets v0
  have h1 : s0.Keeps v0 := by
    unfold v0
    apply State.Keeps.ite
    · apply State.plcTrigger_keeps
      apply State.roleRegs_keeps
      apply State.retireSlice_keeps
      exact h
    · exact h
  apply State.Keeps.ite
  · exact h
  · apply State.Keeps.ite
    · apply State.setFld_keeps
      exact h
    · apply State.setFld_keeps
      exact h1

theorem State.sliceReturn_keeps {s0 : State} {s : State} (a1 : Nat) (h : s0.Keeps s) :
    s0.Keeps (State.sliceReturn s a1) := by
  unfold State.sliceReturn
  extract_lets v0
  apply State.Keeps.ite
  · refine State.Keeps.upd ?_ rfl rfl
    exact h
  · apply State.setFlag_keeps
    exact h

theorem State.sliceSvc_keeps {s0 : State} {s : State} (a1 : Nat) (a2 : Word) (h : s0.Keeps s) :
    s0.Keeps (State.sliceSvc s a1 a2) := by
  unfold State.sliceSvc
  extract_lets v0
  have h1 : s0.Keeps v0 := by
    unfold v0
    apply State.Keeps.ite
    · apply State.sliceBist_keeps
      exact h
    · exact h
  apply State.Keeps.ite
  · apply State.sliceReturn_keeps
    exact h1
  · exact h1

theorem State.returnsNow_keeps {s0 : State} {s : State} (h : s0.Keeps s) :
    s0.Keeps (State.returnsNow s) := by
  unfold State.returnsNow
  extract_lets v0
  apply State.Keeps.foldl
  · refine State.Keeps.upd ?_ rfl rfl
    exact h
  · intro t1 x2 h3
    extract_lets v4 v5 v6 v7 v8
    have h9 : s0.Keeps v5 := by
      unfold v5
      apply State.setFld_keeps
      exact h3
    have h10 : s0.Keeps v6 := by
      unfold v6
      apply State.Keeps.foldl
      · exact h9
      · intro t11 x12 h13
        apply State.setFlag_keeps
        exact h13
    have h14 : s0.Keeps v8 := by
      unfold v8
      refine State.Keeps.upd ?_ rfl rfl
      exact h10
    apply State.log_keeps
    apply State.plcTrigger_keeps
    apply State.strikeRegs_keeps
    apply State.roleRegs_keeps
    apply State.countSmall_keeps
    exact h14

theorem execVddAonPowerUp_keeps {s0 : State} (a0 : Fin 8) {s : State} (h : s0.Keeps s) :
    s0.Answers (execVddAonPowerUp a0 s) := by
  unfold execVddAonPowerUp
  apply State.Keeps.next
  apply State.powerUp_keeps
  exact h

theorem execVddAonBrownOut_keeps {s0 : State} {s : State} (h : s0.Keeps s) :
    s0.Answers (execVddAonBrownOut s) := by
  unfold execVddAonBrownOut
  apply State.Keeps.next
  apply State.brownOut_keeps
  exact h

theorem execRailEnableNext_keeps {s0 : State} (a0 : Found) {s : State} (h : s0.Keeps s) :
    s0.Answers (execRailEnableNext a0 s) := by
  unfold execRailEnableNext
  apply State.Keeps.next
  apply State.railNext_keeps
  exact h

theorem execRailFaultRestart_keeps {s0 : State} {s : State} (h : s0.Keeps s) :
    s0.Answers (execRailFaultRestart s) := by
  unfold execRailFaultRestart
  apply State.Keeps.next
  apply State.Keeps.ite
  · apply State.beginStart_keeps
    exact h
  · exact h

theorem execStartRetry_keeps {s0 : State} {s : State} (h : s0.Keeps s) :
    s0.Answers (execStartRetry s) := by
  unfold execStartRetry
  apply State.Keeps.next
  apply State.Keeps.ite
  · apply State.beginStart_keeps
    exact h
  · exact h

theorem execStartWatchdog_keeps {s0 : State} {s : State} (h : s0.Keeps s) :
    s0.Answers (execStartWatchdog s) := by
  unfold execStartWatchdog
  apply State.Keeps.next
  apply State.Keeps.ite
  · apply State.startFail_keeps
    exact h
  · exact h

theorem execFailCountClear_keeps {s0 : State} {s : State} (h : s0.Keeps s) :
    s0.Answers (execFailCountClear s) := by
  unfold execFailCountClear
  apply State.Keeps.next
  apply State.failClear_keeps
  exact h

theorem execStartWarm_keeps {s0 : State} (a0 : Path) (a1 : BitVec 16) (a2 : Found) {s : State} (h : s0.Keeps s) :
    s0.Answers (execStartWarm a0 a1 a2 s) := by
  unfold execStartWarm
  apply State.Keeps.next
  apply State.guarded_keeps
  · exact h
  · intro t0 h1
    apply State.startCtrl_keeps
    exact h1

theorem execStartCold_keeps {s0 : State} (a0 : Path) (a1 : BitVec 16) (a2 : Bool) {s : State} (h : s0.Keeps s) :
    s0.Answers (execStartCold a0 a1 a2 s) := by
  unfold execStartCold
  apply State.Keeps.next
  apply State.guarded_keeps
  · exact h
  · intro t0 h1
    apply State.startCtrl_keeps
    exact h1

theorem execFwRestart_keeps {s0 : State} (a0 : Path) (a1 : BitVec 16) (a2 : Found) {s : State} (h : s0.Keeps s) :
    s0.Answers (execFwRestart a0 a1 a2 s) := by
  unfold execFwRestart
  apply State.Keeps.next
  apply State.guarded_keeps
  · exact h
  · intro t0 h1
    apply State.startCtrl_keeps
    exact h1

theorem execFwWatchdogExpiry_keeps {s0 : State} (a0 : Found) {s : State} (h : s0.Keeps s) :
    s0.Answers (execFwWatchdogExpiry a0 s) := by
  unfold execFwWatchdogExpiry
  apply State.Keeps.next
  apply State.fwRestart_keeps
  exact h

theorem execFwProcessorFault_keeps {s0 : State} (a0 : Found) {s : State} (h : s0.Keeps s) :
    s0.Answers (execFwProcessorFault a0 s) := by
  unfold execFwProcessorFault
  apply State.Keeps.next
  apply State.fwRestart_keeps
  exact h

theorem execFwRestartDone_keeps {s0 : State} {s : State} (h : s0.Keeps s) :
    s0.Answers (execFwRestartDone s) := by
  unfold execFwRestartDone
  apply State.Keeps.next
  apply State.fwDone_keeps
  exact h

theorem execFwRestartEscalate_keeps {s0 : State} (a0 : Found) {s : State} (h : s0.Keeps s) :
    s0.Answers (execFwRestartEscalate a0 s) := by
  unfold execFwRestartEscalate
  apply State.Keeps.next
  apply State.Keeps.ite
  · apply State.escalate_keeps
    exact h
  · exact h

theorem execQuorumLimit_keeps {s0 : State} {s : State} (h : s0.Keeps s) :
    s0.Answers (execQuorumLimit s) := by
  unfold execQuorumLimit
  apply State.Keeps.next
  apply State.whenUp_keeps
  · exact h
  · intro t0 h1
    apply State.quorumLimit_keeps
    exact h1

theorem execPerstNDeassert_keeps {s0 : State} {s : State} (h : s0.Keeps s) :
    s0.Answers (execPerstNDeassert s) := by
  unfold execPerstNDeassert
  apply State.Keeps.next
  apply State.perstOff_keeps
  exact h

theorem execWakeInAssert_keeps {s0 : State} {s : State} (h : s0.Keeps s) :
    s0.Answers (execWakeInAssert s) := by
  unfold execWakeInAssert
  apply State.Keeps.next
  apply State.wake_keeps
  exact h

theorem execAonRcSecond_keeps {s0 : State} {s : State} (h : s0.Keeps s) :
    s0.Answers (execAonRcSecond s) := by
  unfold execAonRcSecond
  apply State.Keeps.next
  apply State.rcSecond_keeps
  exact h

theorem execSliceBist_keeps {s0 : State} (a0 : Path) (a1 : Fin 34) (a2 : Word) {s : State} (h : s0.Keeps s) :
    s0.Answers (execSliceBist a0 a1 a2 s) := by
  unfold execSliceBist
  apply State.Keeps.next
  apply State.guarded_keeps
  · exact h
  · intro t0 h1
    apply State.sliceSvc_keeps
    exact h1

theorem execSliceBistDone_keeps {s0 : State} (a0 : Fin 34) (a1 : Bool) {s : State} (h : s0.Keeps s) :
    s0.Answers (execSliceBistDone a0 a1 s) := by
  unfold execSliceBistDone
  apply State.Keeps.next
  apply State.whenUp_keeps
  · exact h
  · intro t0 h1
    apply State.sliceBistDone_keeps
    exact h1

theorem execSliceReturn_keeps {s0 : State} (a0 : Path) (a1 : Fin 34) (a2 : Word) {s : State} (h : s0.Keeps s) :
    s0.Answers (execSliceReturn a0 a1 a2 s) := by
  unfold execSliceReturn
  apply State.Keeps.next
  apply State.guarded_keeps
  · exact h
  · intro t0 h1
    apply State.sliceSvc_keeps
    exact h1

end Sys2Proof.Machine
end

