-- ==== Sys2Proof/Laws/KeepsModes.lean ====
section
/-! SUPPORT. What the operations of Machine/Modes.lean keep (`State.Keeps`), one lemma each. -/

namespace Sys2Proof.Machine

theorem State.loopNear_keeps {s0 : State} {s : State} (a1 : Nat) (h : s0.Keeps s) :
    s0.Keeps (State.loopNear s a1) := by
  unfold State.loopNear
  extract_lets v0 v1 v2 v3
  have h4 : s0.Keeps v0 := by
    unfold v0
    apply State.stopTraffic_keeps
    apply State.loseFrom_keeps
    exact h
  have h5 : s0.Keeps v2 := by
    unfold v2
    apply State.setTx_keeps
    exact h4
  have h6 : s0.Keeps v3 := by
    unfold v3
    apply State.setFlag_keeps
    apply State.rxStep_keeps
    apply State.setBrup_keeps
    exact h5
  apply State.setFld_keeps
  exact h6

theorem State.loopFar_keeps {s0 : State} {s : State} (a1 : Nat) (h : s0.Keeps s) :
    s0.Keeps (State.loopFar s a1) := by
  unfold State.loopFar
  extract_lets v0 v1 v2
  have h3 : s0.Keeps v2 := by
    unfold v2
    apply State.setPort_keeps
    exact h
  apply State.sendCtl_keeps
  apply State.setFld_keeps
  exact h3

theorem State.loopStop_keeps {s0 : State} {s : State} (a1 : Nat) (a2 : LoopSt) (h : s0.Keeps s) :
    s0.Keeps (State.loopStop s a1 a2) := by
  unfold State.loopStop
  extract_lets v0 v1 v2 v3 v4
  have h5 : s0.Keeps v1 := by
    unfold v1
    apply State.setFlag_keeps
    apply State.setFlag_keeps
    apply State.setFld_keeps
    exact h
  have h6 : s0.Keeps v3 := by
    unfold v3
    apply State.setPort_keeps
    exact h5
  have h7 : s0.Keeps v4 := by
    unfold v4
    apply State.Keeps.ite
    · apply State.sendCtl_keeps
      exact h6
    · apply State.rxStep_keeps
      exact h6
  apply State.Keeps.ite
  · apply State.engine_keeps
    · exact h7
    · intro t8 h9
      apply State.discover_keeps
      exact h9
  · apply State.setBrup_keeps
    exact h7

theorem State.loopOff_keeps {s0 : State} {s : State} (a1 : Nat) (h : s0.Keeps s) :
    s0.Keeps (State.loopOff s a1) := by
  unfold State.loopOff
  split
  · apply State.loopStop_keeps
    exact h
  · exact h

theorem State.testWrite_keeps {s0 : State} {s : State} (a1 : Nat) (a2 : Word) (h : s0.Keeps s) :
    s0.Keeps (State.testWrite s a1 a2) := by
  unfold State.testWrite
  extract_lets v0 v1
  have h2 : s0.Keeps v0 := by
    unfold v0
    apply State.plainWrite_keeps
    exact h
  apply State.Keeps.ite
  · apply State.plainWrite_keeps
    apply State.loopOff_keeps
    exact h
  · apply State.Keeps.ite
    · apply State.log_keeps
      apply State.setFld_keeps
      exact h2
    · apply State.Keeps.ite
      · apply State.loopFar_keeps
        exact h2
      · apply State.loopNear_keeps
        exact h2

theorem State.leaveService_keeps {s0 : State} {s : State} (h : s0.Keeps s) :
    s0.Keeps (State.leaveService s) := by
  unfold State.leaveService
  apply State.Keeps.foldl
  · exact h
  · intro t0 x1 h2
    extract_lets v3
    have h4 : s0.Keeps v3 := by
      unfold v3
      apply State.Keeps.ite
      · apply State.setFld_keeps
        apply State.loopOff_keeps
        exact h2
      · exact h2
    apply State.Keeps.ite
    · apply State.setFld_keeps
      exact h4
    · exact h4

theorem State.request_keeps {s0 : State} {s : State} (a1 : Nat) (a2 : Nat) (a3 : Nat) (h : s0.Keeps s) :
    s0.Keeps (State.request s a1 a2 a3) := by
  unfold State.request
  extract_lets v0 v1
  refine State.Keeps.upd ?_ rfl rfl
  exact h

theorem State.modeReq_keeps {s0 : State} {s : State} (a1 : Path) (a2 : Nat) (h : s0.Keeps s) :
    s0.Keeps (State.modeReq s a1 a2) := by
  unfold State.modeReq
  extract_lets v0 v1
  have h2 : s0.Keeps v1 := by
    unfold v1
    apply State.setPath_keeps
    exact h
  split
  · apply State.request_keeps
    exact h2
  · apply State.request_keeps
    exact h2
  · apply State.request_keeps
    exact h2

theorem State.modeResult_keeps {s0 : State} {s : State} (a1 : Nat) (a2 : Nat) (h : s0.Keeps s) :
    s0.Keeps (State.modeResult s a1 a2) := by
  unfold State.modeResult
  apply State.raiseIrq_keeps
  apply State.setFld_keeps
  apply State.setFld_keeps
  exact h

theorem State.closeAll_keeps {s0 : State} {s : State} (h : s0.Keeps s) :
    s0.Keeps (State.closeAll s) := by
  unfold State.closeAll
  apply State.Keeps.foldl
  · exact h
  · intro t0 x1 h2
    apply State.closeHerd_keeps
    exact h2

theorem State.abandonHerds_keeps {s0 : State} {s : State} (h : s0.Keeps s) :
    s0.Keeps (State.abandonHerds s) := by
  unfold State.abandonHerds
  extract_lets v0 v1
  have h2 : s0.Keeps v1 := by
    unfold v1
    refine State.Keeps.upd ?_ rfl rfl
    exact h
  apply State.log_keeps
  exact h2

theorem State.portChange_keeps {s0 : State} {s : State} (a1 : List Nat) (a2 : Nat) (h : s0.Keeps s) :
    s0.Keeps (State.portChange s a1 a2) := by
  unfold State.portChange
  extract_lets v0 v1
  have h2 : s0.Keeps v1 := by
    unfold v1
    apply State.startTx_keeps
    exact h
  apply State.Keeps.ite
  · apply State.Keeps.ite
    · exact h
    · apply State.portOff_keeps
      exact h
  · apply State.Keeps.ite
    · exact h
    · apply State.Keeps.ite
      · apply State.discover_keeps
        exact h2
      · exact h2

theorem State.replan_keeps {s0 : State} {s : State} (h : s0.Keeps s) :
    s0.Keeps (State.replan s) := by
  unfold State.replan
  extract_lets v0 v1 v2 v3 v4 v5
  have h6 : s0.Keeps v3 := by
    unfold v3
    refine State.Keeps.upd ?_ rfl rfl
    exact h
  have h7 : s0.Keeps v4 := by
    unfold v4
    apply State.planTriggers_keeps
    exact h6
  apply State.planAhead_keeps
  refine State.Keeps.upd ?_ rfl rfl
  exact h7

theorem State.leaveMode_keeps {s0 : State} {s : State} (a1 : Nat) (a2 : Nat) (a3 : Bool) (h : s0.Keeps s) :
    s0.Keeps (State.leaveMode s a1 a2 a3) := by
  unfold State.leaveMode
  extract_lets v0 v1 v2 v3 v4
  have h5 : s0.Keeps v0 := by
    unfold v0
    apply State.Keeps.ite
    · apply State.leaveService_keeps
      exact h
    · exact h
  have h6 : s0.Keeps v1 := by
    unfold v1
    apply State.setFld_keeps
    apply State.grzDrop_keeps
    apply State.abandonHerds_keeps
    exact h5
  have h7 : s0.Keeps v3 := by
    unfold v3
    apply State.Keeps.ite
    · apply State.closeAll_keeps
      exact h5
    · exact h5
  split
  · apply State.closeAll_keeps
    apply State.grzAbortAll_keeps
    exact h5
  · refine State.Keeps.upd ?_ rfl rfl
    exact h6
  · apply State.Keeps.ite
    · exact h5
    · apply State.closeAll_keeps
      apply State.grzAbortAll_keeps
      exact h5
  · refine State.Keeps.upd ?_ rfl rfl
    exact h7
  · apply State.Keeps.ite
    · apply State.closeAll_keeps
      exact h5
    · exact h5

theorem State.switchTo_keeps {s0 : State} {s : State} (a1 : Bool) (a2 : Nat) (a3 : Nat) (a4 : Health) (a5 : Placement) (h : s0.Keeps s) :
    s0.Keeps (State.switchTo s a1 a2 a3 a4 a5) := by
  unfold State.switchTo
  extract_lets v0 v1 v2 v3 v4 v5 v6 v7 v8 v9
  have h10 : s0.Keeps v2 := by
    unfold v2
    apply State.setFlag_keeps
    apply State.setFld_keeps
    apply State.modeResult_keeps
    exact h
  have h11 : s0.Keeps v3 := by
    unfold v3
    apply State.leaveMode_keeps
    apply State.applyOverlay_keeps
    exact h10
  have h12 : s0.Keeps v4 := by
    unfold v4
    apply State.setFld_keeps
    apply State.setFlag_keeps
    exact h11
  have h13 : s0.Keeps v7 := by
    unfold v7
    refine State.Keeps.upd ?_ rfl rfl
    exact h11
  have h14 : s0.Keeps v8 := by
    unfold v8
    apply State.replan_keeps
    apply State.cmpRegridAll_keeps
    exact h13
  have h15 : s0.Keeps v9 := by
    unfold v9
    apply State.Keeps.foldl
    · apply State.Keeps.foldl
      · exact h14
      · intro t16 x17 h18
        apply State.pcMode_keeps
        exact h18
    · intro t19 x20 h21
      apply State.portChange_keeps
      exact h21
  apply State.Keeps.ite
  · apply State.powerDown_keeps
    apply State.modeResult_keeps
    exact h12
  · apply State.startRun_keeps
    exact h15

theorem State.modeRefuse_keeps {s0 : State} {s : State} (a1 : Nat) (a2 : Nat) (a3 : List Nat) (h : s0.Keeps s) :
    s0.Keeps (State.modeRefuse s a1 a2 a3) := by
  unfold State.modeRefuse
  split
  · apply State.Keeps.ite
    · apply State.plcRefuse_keeps
      exact h
    · exact h
  · exact h

theorem State.modeActOn_keeps {s0 : State} {s : State} (a1 : Bool) (a2 : Nat) (a3 : Nat) (h : s0.Keeps s) :
    s0.Keeps (State.modeActOn s a1 a2 a3) := by
  unfold State.modeActOn
  extract_lets v0 v1
  split
  · apply State.modeRefuse_keeps
    apply State.log_keeps
    apply State.modeResult_keeps
    exact h
  · apply State.switchTo_keeps
    exact h

theorem State.modeBoundary_keeps {s0 : State} {s : State} (h : s0.Keeps s) :
    s0.Keeps (State.modeBoundary s) := by
  unfold State.modeBoundary
  extract_lets v0 v1 v2
  have h3 : s0.Keeps v2 := by
    unfold v2
    refine State.Keeps.upd ?_ rfl rfl
    exact h
  clear_value v0
  split
  · exact h3
  · apply State.modeActOn_keeps
    apply State.Keeps.foldl
    · exact h3
    · intro t4 x5 h6
      apply State.modeResult_keeps
      exact h6

theorem State.switchDone_keeps {s0 : State} {s : State} (h : s0.Keeps s) :
    s0.Keeps (State.switchDone s) := by
  unfold State.switchDone
  split
  · extract_lets v0 v1 v2
    have h3 : s0.Keeps v1 := by
      unfold v1
      refine State.Keeps.upd ?_ rfl rfl
      exact h
    have h4 : s0.Keeps v2 := by
      unfold v2
      apply State.setFlag_keeps
      apply State.setFld_keeps
      exact h3
    apply State.Keeps.ite
    · apply State.modeResult_keeps
      exact h4
    · exact h
  · exact h

theorem State.hostLost_keeps {s0 : State} {s : State} (a1 : Nat) (h : s0.Keeps s) :
    s0.Keeps (State.hostLost s a1) := by
  unfold State.hostLost
  extract_lets v0 v1
  have h2 : s0.Keeps v1 := by
    unfold v1
    refine State.Keeps.upd ?_ rfl rfl
    exact h
  apply State.Keeps.ite
  · exact h2
  · apply State.request_keeps
    exact h2

theorem State.lossLimit_keeps {s0 : State} {s : State} (a1 : Nat) (a2 : Nat) (a3 : Nat) (h : s0.Keeps s) :
    s0.Keeps (State.lossLimit s a1 a2 a3) := by
  unfold State.lossLimit
  apply State.Keeps.ite
  · exact h
  · apply State.hostLost_keeps
    apply State.advance_keeps
    exact h

theorem State.lossNow_keeps {s0 : State} {s : State} (h : s0.Keeps s) :
    s0.Keeps (State.lossNow s) := by
  unfold State.lossNow
  extract_lets v0
  apply State.Keeps.ite
  · refine State.Keeps.upd ?_ rfl rfl
    exact h
  · exact h

theorem State.heartbeat_keeps {s0 : State} {s : State} (h : s0.Keeps s) :
    s0.Keeps (State.heartbeat s) := by
  unfold State.heartbeat
  extract_lets v0 v1 v2 v3
  refine State.Keeps.upd ?_ rfl rfl
  exact h

theorem State.limpPin_keeps {s0 : State} {s : State} (h : s0.Keeps s) :
    s0.Keeps (State.limpPin s) := by
  unfold State.limpPin
  extract_lets v0 v1
  have h2 : s0.Keeps v1 := by
    unfold v1
    refine State.Keeps.upd ?_ rfl rfl
    exact h
  split
  · apply State.wake_keeps
    exact h2
  · apply State.Keeps.ite
    · exact h2
    · apply State.request_keeps
      exact h2
  · exact h2

theorem execGlbModeReqWrite_keeps {s0 : State} (a0 : Path) (a1 : Word) {s : State} (h : s0.Keeps s) :
    s0.Answers (execGlbModeReqWrite a0 a1 s) := by
  unfold execGlbModeReqWrite
  apply State.Keeps.next
  apply State.guarded_keeps
  · exact h
  · intro t0 h1
    apply State.modeReq_keeps
    exact h1

theorem execGlbHeartbeatWrite_keeps {s0 : State} (a0 : Path) {s : State} (h : s0.Keeps s) :
    s0.Answers (execGlbHeartbeatWrite a0 s) := by
  unfold execGlbHeartbeatWrite
  apply State.Keeps.next
  apply State.guarded_keeps
  · exact h
  · intro t0 h1
    apply State.Keeps.ite
    · apply State.heartbeat_keeps
      exact h1
    · exact h1

theorem execLimpNAssert_keeps {s0 : State} {s : State} (h : s0.Keeps s) :
    s0.Answers (execLimpNAssert s) := by
  unfold execLimpNAssert
  apply State.Keeps.next
  apply State.limpPin_keeps
  exact h

theorem execLinkDownLimit_keeps {s0 : State} {s : State} (h : s0.Keeps s) :
    s0.Answers (execLinkDownLimit s) := by
  unfold execLinkDownLimit
  apply State.Keeps.next
  apply State.whenUp_keeps
  · exact h
  · intro t0 h1
    split
    · apply State.lossLimit_keeps
      exact h1
    · exact h1

theorem execHeartbeatLimit_keeps {s0 : State} {s : State} (h : s0.Keeps s) :
    s0.Answers (execHeartbeatLimit s) := by
  unfold execHeartbeatLimit
  apply State.Keeps.next
  apply State.whenUp_keeps
  · exact h
  · intro t0 h1
    apply State.lossLimit_keeps
    exact h1

theorem execLoopNearEndSerial_keeps {s0 : State} (a0 : Path) (a1 : Fin 80) (a2 : Word) {s : State} (h : s0.Keeps s) :
    s0.Answers (execLoopNearEndSerial a0 a1 a2 s) := by
  unfold execLoopNearEndSerial
  apply State.Keeps.next
  apply State.guarded_keeps
  · exact h
  · intro t0 h1
    apply State.testWrite_keeps
    exact h1

theorem execLoopNearEndParallel_keeps {s0 : State} (a0 : Path) (a1 : Fin 80) (a2 : Word) {s : State} (h : s0.Keeps s) :
    s0.Answers (execLoopNearEndParallel a0 a1 a2 s) := by
  unfold execLoopNearEndParallel
  apply State.Keeps.next
  apply State.guarded_keeps
  · exact h
  · intro t0 h1
    apply State.testWrite_keeps
    exact h1

theorem execLoopFarEnd_keeps {s0 : State} (a0 : Path) (a1 : Fin 80) (a2 : Word) {s : State} (h : s0.Keeps s) :
    s0.Answers (execLoopFarEnd a0 a1 a2 s) := by
  unfold execLoopFarEnd
  apply State.Keeps.next
  apply State.guarded_keeps
  · exact h
  · intro t0 h1
    apply State.testWrite_keeps
    exact h1

theorem execLoopEnd_keeps {s0 : State} (a0 : Path) (a1 : Fin 80) (a2 : Word) {s : State} (h : s0.Keeps s) :
    s0.Answers (execLoopEnd a0 a1 a2 s) := by
  unfold execLoopEnd
  apply State.Keeps.next
  apply State.guarded_keeps
  · exact h
  · intro t0 h1
    apply State.testWrite_keeps
    exact h1

end Sys2Proof.Machine
end

