-- ==== Sys2Proof/Laws/KeepsBoundary.lean ====
section
/-! SUPPORT. What the operations of Machine/Boundary.lean keep (`State.Keeps`), one lemma each. -/

namespace Sys2Proof.Machine

theorem State.countBoundary_keeps {s0 : State} {s : State} (h : s0.Keeps s) :
    s0.Keeps (State.countBoundary s) := by
  unfold State.countBoundary
  extract_lets v0 v1 v2 v3 v4
  have h5 : s0.Keeps v1 := by
    unfold v1
    apply State.advance_keeps
    exact h
  refine State.Keeps.upd ?_ rfl rfl
  exact h5

theorem State.linkChange_keeps {s0 : State} {s : State} (h : s0.Keeps s) :
    s0.Keeps (State.linkChange s) := by
  unfold State.linkChange
  extract_lets v0 v1 v2
  apply State.Keeps.ite
  · exact h
  · apply State.Keeps.ite
    · exact h
    · apply State.plcTrigger_keeps
      refine State.Keeps.upd ?_ rfl rfl
      exact h

theorem State.quorumCheck_keeps {s0 : State} {s : State} (h : s0.Keeps s) :
    s0.Keeps (State.quorumCheck s) := by
  unfold State.quorumCheck
  extract_lets v0
  apply State.Keeps.ite
  · exact h
  · apply State.setFlag_keeps
    refine State.Keeps.upd ?_ rfl rfl
    exact h

theorem State.legacyTriggers_keeps {s0 : State} {s : State} (h : s0.Keeps s) :
    s0.Keeps (State.legacyTriggers s) := by
  unfold State.legacyTriggers
  extract_lets v0
  apply State.Keeps.ite
  · refine State.Keeps.upd ?_ rfl rfl
    exact h
  · exact h

theorem State.runBoundary_keeps {s0 : State} {s : State} (a1 : Bool) (h : s0.Keeps s) :
    s0.Keeps (State.runBoundary s a1) := by
  unfold State.runBoundary
  extract_lets v0 v1
  have h2 : s0.Keeps v0 := by
    unfold v0
    apply State.legacyTriggers_keeps
    exact h
  apply State.Keeps.ite
  · exact h2
  · apply State.startRun_keeps
    exact h2

theorem State.closeDue_keeps {s0 : State} {s : State} (h : s0.Keeps s) :
    s0.Keeps (State.closeDue s) := by
  unfold State.closeDue
  apply State.Keeps.foldl
  · exact h
  · intro t0 x1 h2
    apply State.closeHerd_keeps
    exact h2

theorem State.closeOldest_keeps {s0 : State} {s : State} (n : Nat) (h : s0.Keeps s) : s0.Keeps (State.closeOldest n s) := by
  induction n generalizing s with
  | zero => exact h
  | succ n ih =>
    unfold State.closeOldest
    split
    · exact ih (State.closeHerd_keeps _ _ h)
    · exact h

theorem State.openHerd_keeps {s0 : State} {s : State} (h : s0.Keeps s) :
    s0.Keeps (State.openHerd s) := by
  unfold State.openHerd
  extract_lets v0 v1 v2 v3 v4
  have h5 : s0.Keeps v4 := by
    unfold v4
    refine State.Keeps.upd ?_ rfl rfl
    exact h
  apply State.Keeps.ite
  · apply State.takeBufs_keeps
    exact h5
  · exact h5

theorem State.dmaBoundary_keeps {s0 : State} {s : State} (h : s0.Keeps s) :
    s0.Keeps (State.dmaBoundary s) := by
  unfold State.dmaBoundary
  extract_lets v0
  refine State.Keeps.upd ?_ rfl rfl
  exact h

theorem State.forget_keeps {s0 : State} {s : State} (h : s0.Keeps s) :
    s0.Keeps (State.forget s) := by
  unfold State.forget
  extract_lets v0 v1 v2 v3 v4 v5 v6 v7 v8 v9
  have h10 : s0.Keeps v4 := by
    unfold v4
    refine State.Keeps.upd ?_ rfl rfl
    exact h
  have h11 : s0.Keeps v5 := by
    unfold v5
    apply State.Keeps.foldl
    · exact h10
    · intro t12 x13 h14
      apply State.commitLine_keeps
      exact h14
  have h15 : s0.Keeps v6 := by
    unfold v6
    refine State.Keeps.upd ?_ rfl rfl
    exact h11
  have h16 : s0.Keeps v8 := by
    unfold v8
    refine State.Keeps.upd ?_ rfl rfl
    exact h15
  refine State.Keeps.upd ?_ rfl rfl
  exact h16

theorem State.herdBoundary_keeps {s0 : State} {s : State} (a1 : Bool) (h : s0.Keeps s) :
    s0.Keeps (State.herdBoundary s a1) := by
  unfold State.herdBoundary
  extract_lets v0 v1 v2 v3
  have h4 : s0.Keeps v0 := by
    unfold v0
    apply State.Keeps.ite
    · exact h
    · apply State.runBoundary_keeps
      exact h
  have h5 : s0.Keeps v1 := by
    unfold v1
    apply State.planAhead_keeps
    apply State.openHerd_keeps
    apply State.closeOldest_keeps
    exact h4
  have h6 : s0.Keeps v3 := by
    unfold v3
    apply State.dmaBoundary_keeps
    apply State.grzRefill_keeps
    apply State.suspectTick_keeps
    apply State.setAudit_keeps
    exact h5
  apply State.forget_keeps
  apply State.settleHerds_keeps
  exact h6

theorem State.publishEarly_keeps {s0 : State} {s : State} (h : s0.Keeps s) :
    s0.Keeps (State.publishEarly s) := by
  unfold State.publishEarly
  extract_lets v0 v1 v2
  have h3 : s0.Keeps v1 := by
    unfold v1
    apply State.quorumCheck_keeps
    apply State.advance_keeps
    exact h
  apply State.Keeps.ite
  · exact h
  · apply State.publish_keeps
    refine State.Keeps.upd ?_ rfl rfl
    exact h3

theorem State.tickBoundary_keeps {s0 : State} {s : State} (a1 : Bool) (h : s0.Keeps s) :
    s0.Keeps (State.tickBoundary s a1) := by
  unfold State.tickBoundary
  extract_lets v0 v1 v2 v3 v4 v5 v6 v7 v8 v9
  have h10 : s0.Keeps v0 := by
    unfold v0
    apply State.closeDue_keeps
    apply State.paceMoves_keeps
    apply State.countBoundary_keeps
    exact h
  have h11 : s0.Keeps v2 := by
    unfold v2
    apply State.Keeps.ite
    · exact h10
    · apply State.quorumCheck_keeps
      exact h10
  have h12 : s0.Keeps v4 := by
    unfold v4
    apply State.lossNow_keeps
    refine State.Keeps.upd ?_ rfl rfl
    exact h11
  have h13 : s0.Keeps v6 := by
    unfold v6
    apply State.Keeps.ite
    · apply State.publish_keeps
      exact h12
    · exact h12
  have h14 : s0.Keeps v8 := by
    unfold v8
    apply State.linkChange_keeps
    apply State.nodeChanges_keeps
    apply State.returnsNow_keeps
    exact h13
  have h15 : s0.Keeps v9 := by
    unfold v9
    apply State.modeBoundary_keeps
    exact h14
  apply State.Keeps.ite
  · apply State.herdBoundary_keeps
    apply State.switchDone_keeps
    exact h14
  · apply State.Keeps.ite
    · apply State.herdBoundary_keeps
      exact h14
    · apply State.Keeps.ite
      · apply State.herdBoundary_keeps
        exact h15
      · exact h15

theorem execPlacementPublish_keeps {s0 : State} {s : State} (h : s0.Keeps s) :
    s0.Answers (execPlacementPublish s) := by
  unfold execPlacementPublish
  apply State.Keeps.next
  apply State.whenUp_keeps
  · exact h
  · intro t0 h1
    apply State.publishEarly_keeps
    exact h1

theorem execTickBoundary_keeps {s0 : State} (a0 : Bool) {s : State} (h : s0.Keeps s) :
    s0.Answers (execTickBoundary a0 s) := by
  unfold execTickBoundary
  apply State.Keeps.next
  apply State.whenUp_keeps
  · exact h
  · intro t0 h1
    apply State.tickBoundary_keeps
    exact h1

end Sys2Proof.Machine
end

