-- ==== Sys2Proof/Laws/KeepsAccess.lean ====
section
/-! SUPPORT. What the operations of Machine/Access.lean keep (`State.Keeps`), one lemma each. -/

namespace Sys2Proof.Machine

theorem State.latchAll_keeps {s0 : State} {s : State} (a1 : Path) (a2 : List Nat) (h : s0.Keeps s) :
    s0.Keeps (State.latchAll s a1 a2) := by
  unfold State.latchAll
  apply State.Keeps.foldl
  · exact h
  · intro t0 x1 h2
    apply State.latchHi_keeps
    exact h2

theorem State.readReg_keeps {s0 : State} {s : State} (a1 : Path) (a2 : Nat) (a3 : RegRow) (a4 : List Nat) (h : s0.Keeps s) :
    s0.Keeps (State.readReg s a1 a2 a3 a4) := by
  unfold State.readReg
  extract_lets v0 v1 v2
  have h3 : s0.Keeps v0 := by
    unfold v0
    apply State.unsuppress_keeps
    exact h
  have h4 : s0.Keeps v1 := by
    unfold v1
    apply State.Keeps.ite
    · apply State.unsuppress_keeps
      exact h3
    · exact h3
  have h5 : s0.Keeps v2 := by
    unfold v2
    apply State.Keeps.ite
    · apply State.onQueue_keeps
      · exact h4
      · intro t6 h7
        exact h7
    · exact h4
  split
  · apply State.captRead_keeps
    exact h5
  · apply State.windowRead_keeps
    exact h5
  · apply State.Keeps.ite
    · apply State.answer_keeps
      apply State.latchAll_keeps
      exact h5
    · apply State.answer_keeps
      exact h5
  · apply State.Keeps.ite
    · apply State.answer_keeps
      apply State.latchAll_keeps
      exact h5
    · apply State.answer_keeps
      exact h5
  · apply State.answer_keeps
    apply State.latchAll_keeps
    exact h5
  · apply State.answer_keeps
    exact h5
  · apply State.answer_keeps
    exact h5

theorem State.imagePlain_keeps {s0 : State} {s : State} (a1 : Nat) (a2 : Word) (h : s0.Keeps s) :
    s0.Keeps (State.imagePlain s a1 a2) := by
  unfold State.imagePlain
  apply State.imageWrite_keeps
  · exact h
  · intro t0 h1
    apply State.plainWrite_keeps
    exact h1

theorem State.trlCfg_keeps {s0 : State} {s : State} (a1 : Nat) (a2 : Nat) (a3 : Word) (h : s0.Keeps s) :
    s0.Keeps (State.trlCfg s a1 a2 a3) := by
  unfold State.trlCfg
  extract_lets v0 v1
  have h2 : s0.Keeps v0 := by
    unfold v0
    apply State.imagePlain_keeps
    exact h
  have h3 : s0.Keeps v1 := by
    unfold v1
    apply State.startTx_keeps
    exact h2
  apply State.Keeps.ite
  · apply State.portOff_keeps
    apply State.loopOff_keeps
    exact h2
  · apply State.Keeps.ite
    · apply State.Keeps.ite
      · apply State.engine_keeps
        · exact h3
        · intro t4 h5
          apply State.discover_keeps
          exact h5
      · exact h3
    · exact h2

theorem State.strCfg0_keeps {s0 : State} {s : State} (a1 : Nat) (a2 : Word) (h : s0.Keeps s) :
    s0.Keeps (State.strCfg0 s a1 a2) := by
  unfold State.strCfg0
  extract_lets v0 v1 v2
  have h3 : s0.Keeps v1 := by
    unfold v1
    apply State.plainWrite_keeps
    exact h
  apply State.Keeps.ite
  · apply State.setFlag_keeps
    apply State.imageReject_keeps
    exact h
  · apply State.imagePlain_keeps
    exact h

theorem State.brupWrite_keeps {s0 : State} {s : State} (a1 : Path) (a2 : Fin 80) (a3 : Word) (h : s0.Keeps s) :
    s0.Keeps (State.brupWrite s a1 a2 a3) := by
  unfold State.brupWrite
  apply State.Keeps.ite
  · apply State.engine_keeps
    · exact h
    · intro t0 h1
      apply State.brupCtrl_keeps
      exact h1
  · apply State.Keeps.ite
    · apply State.engine_keeps
      · exact h
      · intro t2 h3
        apply State.brupCtrl_keeps
        exact h3
    · exact h

theorem State.glbStat_keeps {s0 : State} {s : State} (a1 : Word) (h : s0.Keeps s) :
    s0.Keeps (State.glbStat s a1) := by
  unfold State.glbStat
  extract_lets v0 v1
  have h2 : s0.Keeps v0 := by
    unfold v0
    apply State.plainWrite_keeps
    exact h
  apply State.Keeps.ite
  · refine State.Keeps.upd ?_ rfl rfl
    exact h2
  · exact h2

theorem State.grzWord_keeps {s0 : State} {s : State} (a1 : Nat) (a2 : Nat) (a3 : Nat) (a4 : Word) (h : s0.Keeps s) :
    s0.Keeps (State.grzWord s a1 a2 a3 a4) := by
  unfold State.grzWord
  extract_lets v0 v1
  have h2 : s0.Keeps v0 := by
    unfold v0
    apply State.plainWrite_keeps
    exact h
  refine State.Keeps.upd ?_ rfl rfl
  exact h2

theorem State.writeNow_keeps {s0 : State} {s : State} (a1 : Path) (a2 : Nat) (a3 : RegRow) (a4 : List Nat) (a5 : Word) (h : s0.Keeps s) :
    s0.Keeps (State.writeNow s a1 a2 a3 a4 a5) := by
  unfold State.writeNow
  extract_lets v0 v1 v2 v3
  split
  · apply State.glbStat_keeps
    exact h
  · apply State.modeReq_keeps
    exact h
  · unfold v1
    apply State.Keeps.ite
    · apply State.heartbeat_keeps
      exact h
    · exact h
  · apply State.alarmCtrl_keeps
    exact h
  · apply State.startCtrl_keeps
    exact h
  · apply State.Keeps.ite
    · apply State.commitInc_keeps
      exact h
    · refine State.Keeps.upd ?_ rfl rfl
      exact h
  · apply State.Keeps.ite
    · apply State.commitAdj_keeps
      exact h
    · refine State.Keeps.upd ?_ rfl rfl
      exact h
  · apply State.ptmCtrl_keeps
    exact h
  · apply State.cmpCtrl_keeps
    exact h
  · apply State.cmpTgtHi_keeps
    exact h
  · apply State.trlCfg_keeps
    exact h
  · apply State.testWrite_keeps
    exact h
  · apply State.eyeCtrl_keeps
    exact h
  · apply State.brupWrite_keeps
    exact h
  · apply State.flushCtrl_keeps
    exact h
  · apply State.lstWmStat_keeps
    exact h
  · apply State.sliceSvc_keeps
    exact h
  · apply State.strCfg0_keeps
    exact h
  · apply State.liveWrite_keeps
    exact h
  · apply State.roiPos_keeps
    exact h
  · apply State.plcCtrl_keeps
    exact h
  · apply State.plcLogCfg_keeps
    exact h
  · apply State.grzCfg_keeps
    exact h
  · apply State.grzCtrl_keeps
    exact h
  · apply State.grzPi_keeps
    exact h
  · apply State.setPath_keeps
    exact h
  · apply State.grzSubmit_keeps
    exact h
  · apply State.grzWord_keeps
    exact h
  · apply State.chWrite_keeps
    · exact h
    · intro t4 h5
      apply State.chCfg_keeps
      exact h5
  · apply State.chWrite_keeps
    · exact h
    · intro t6 h7
      apply State.chCtrl_keeps
      exact h7
  · apply State.chWrite_keeps
    · exact h
    · intro t8 h9
      apply State.chRing_keeps
      exact h9
  · apply State.chWrite_keeps
    · exact h
    · intro t10 h11
      apply State.chPi_keeps
      exact h11
  · apply State.cqCfg_keeps
    exact h
  · apply State.cqBase_keeps
    exact h
  · apply State.cqCi_keeps
    exact h
  · apply State.cqWmStat_keeps
    exact h
  · apply State.poolPi_keeps
    exact h
  · apply State.poolWmStat_keeps
    exact h
  · apply State.pmCtrl_keeps
    exact h
  · apply State.attCommit_keeps
    exact h
  · apply State.syncInta_keeps
    apply State.plainWrite_keeps
    exact h
  · apply State.irqPendW1c_keeps
    exact h
  · apply State.lcCtrl_keeps
    exact h
  · unfold v1
    apply State.Keeps.ite
    · apply State.rollCommit_keeps
      exact h
    · exact h
  · unfold v1
    apply State.Keeps.ite
    · apply State.otpGo_keeps
      exact h
    · exact h
  · unfold v1
    apply State.Keeps.ite
    · apply State.newChallenge_keeps
      exact h
    · exact h
  · unfold v1
    apply State.Keeps.ite
    · apply State.setReg_keeps
      exact h
    · exact h
  · unfold v1
    apply State.Keeps.ite
    · apply State.tokenGo_keeps
      exact h
    · exact h
  · unfold v1
    apply State.Keeps.ite
    · apply State.relock_keeps
      exact h
    · exact h
  · apply State.cfgSel_keeps
    exact h
  · apply State.flashCmd_keeps
    exact h
  · apply State.lwCmd_keeps
    exact h
  · apply State.tunCmd_keeps
    exact h
  · apply State.pcCtrl_keeps
    exact h
  · apply State.recCursor_keeps
    exact h
  · apply State.recCtrl_keeps
    exact h
  · apply State.calCfg_keeps
    exact h
  · apply State.Keeps.ite
    · apply State.imagePlain_keeps
      exact h
    · apply State.plainWrite_keeps
      exact h

theorem State.readAddr_keeps {s0 : State} {s : State} (a1 : Path) (a2 : Nat) (h : s0.Keeps s) :
    s0.Keeps (State.readAddr s a1 a2) := by
  unfold State.readAddr
  extract_lets v0
  apply State.guardedRead_keeps
  · exact h
  · intro t1 h2
    apply State.Keeps.ite
    · apply State.answer_keeps
      exact h2
    · split
      · apply State.readReg_keeps
        exact h2
      · apply State.Keeps.ite
        · apply State.answer_keeps
          exact h2
        · apply State.answer_keeps
          exact h2

theorem State.writeAddr_keeps {s0 : State} {s : State} (a1 : Path) (a2 : Nat) (a3 : Word) (h : s0.Keeps s) :
    s0.Keeps (State.writeAddr s a1 a2 a3) := by
  unfold State.writeAddr
  extract_lets v0
  apply State.Keeps.ite
  · apply State.guarded_keeps
    · exact h
    · intro t1 h2
      apply State.tblWrite_keeps
      exact h2
  · split
    · apply State.guarded_keeps
      · exact h
      · intro t3 h4
        apply State.writeNow_keeps
        exact h4
    · apply State.guarded_keeps
      · exact h
      · intro t5 h6
        apply State.Keeps.ite
        · exact h6
        · apply State.noRegister_keeps
          exact h6

theorem State.writeBytes_keeps {s0 : State} {s : State} (a1 : Path) (a2 : Nat) (a3 : Nat) (a4 : Word) (h : s0.Keeps s) :
    s0.Keeps (State.writeBytes s a1 a2 a3 a4) := by
  unfold State.writeBytes
  extract_lets v0
  apply State.Keeps.ite
  · apply State.writeAddr_keeps
    exact h
  · apply State.guarded_keeps
    · exact h
    · intro t1 h2
      apply State.Keeps.ite
      · apply State.partialWrite_keeps
        exact h2
      · apply State.noRegister_keeps
        exact h2

theorem State.notTaken_keeps {s0 : State} {s : State} (a1 : Path) (a2 : Bool) (h : s0.Keeps s) :
    s0.Keeps (State.notTaken s a1 a2) := by
  unfold State.notTaken
  apply State.Keeps.ite
  · apply State.barUr_keeps
    apply State.drawnN_keeps
    exact h
  · apply State.unreachable_keeps
    exact h

theorem State.writeRegs_keeps {s0 : State} {s : State} (a1 : Path) (a2 : Nat) (a3 : List (BitVec 4 × Word)) (a4 : Bool) (a5 : BufErr) (h : s0.Keeps s) :
    s0.Keeps (State.writeRegs s a1 a2 a3 a4 a5) := by
  unfold State.writeRegs
  extract_lets v0
  have h1 : s0.Keeps v0 := by
    unfold v0
    apply State.Keeps.ite
    · apply State.bufErr_keeps
      apply State.exitL1_keeps
      exact h
    · exact h
  apply State.Keeps.ite
  · exact h1
  · apply State.Keeps.ite
    · apply State.poisonIn_keeps
      apply State.drawnN_keeps
      exact h1
    · apply State.Keeps.foldl
      · exact h1
      · intro t2 x3 h4
        apply State.writeBytes_keeps
        exact h4

theorem State.Keeps.sentFrom {s0 s t : State} (h : s0.Keeps s) (k : s.Keeps t) (r : RecSt) (l : List Out) :
    s0.Keeps { t with recs := r, sent := s.sent ++ l } :=
  h.trans ⟨fun c => ⟨(k.canon c).regs, (k.canon c).flash, (k.canon c).tbl, (k.canon c).otp, (k.canon c).image⟩,
    List.prefix_append _ _, k.pending, k.free, k.otp⟩

theorem State.readBytes_keeps {s0 : State} {s : State} (p : Path) (a : Nat) (be : BitVec 4) (ue : Bool) (h : s0.Keeps s) :
    s0.Keeps (s.readBytes p a be ue) := by
  unfold State.readBytes
  extract_lets t
  have k : s.Keeps t := State.readAddr_keeps _ _ (State.Keeps.refl s)
  clear_value t
  exact State.Keeps.ite (h.trans k) (h.sentFrom k _ _)

theorem State.readRegs_keeps {s0 : State} {s : State} (a1 : Path) (a2 : Nat) (a3 : List (BitVec 4)) (a4 : BufErr) (h : s0.Keeps s) :
    s0.Keeps (State.readRegs s a1 a2 a3 a4) := by
  unfold State.readRegs
  extract_lets v0
  have h1 : s0.Keeps v0 := by
    unfold v0
    apply State.Keeps.ite
    · apply State.bufErr_keeps
      apply State.exitL1_keeps
      exact h
    · exact h
  apply State.Keeps.foldl
  · exact h1
  · intro t2 x3 h4
    apply State.readBytes_keeps
    exact h4

theorem State.readCmd_keeps {s0 : State} {s : State} (a1 : Path) (a2 : Nat) (a3 : List (BitVec 4)) (a4 : BufErr) (h : s0.Keeps s) :
    s0.Keeps (State.readCmd s a1 a2 a3 a4) := by
  unfold State.readCmd
  apply State.Keeps.ite
  · apply State.readRegs_keeps
    exact h
  · apply State.notTaken_keeps
    exact h

theorem State.regacc_keeps {s0 : State} {s : State} (a1 : Nat) (a2 : Option Word) (h : s0.Keeps s) :
    s0.Keeps (State.regacc s a1 a2) := by
  unfold State.regacc
  extract_lets v0
  have h1 : s0.Keeps v0 := by
    unfold v0
    apply State.jtag_keeps
    exact h
  apply State.Keeps.ite
  · exact h
  · apply State.Keeps.ite
    · apply State.Keeps.ite
      · exact h1
      · apply State.answer_keeps
        exact h1
    · split
      · apply State.writeAddr_keeps
        exact h1
      · apply State.readAddr_keeps
        exact h1

theorem execRegisterWrite_keeps {s0 : State} (a0 : Path) (a1 : BitVec 26) (a2 : BitVec 4) (a3 : Word) (a4 : List (BitVec 4 × Word)) (a5 : Bool) (a6 : BufErr) {s : State} (h : s0.Keeps s) :
    s0.Answers (execRegisterWrite a0 a1 a2 a3 a4 a5 a6 s) := by
  unfold execRegisterWrite
  apply State.Keeps.next
  apply State.Keeps.ite
  · apply State.writeRegs_keeps
    exact h
  · apply State.notTaken_keeps
    exact h

theorem execLowWordRead_keeps {s0 : State} (a0 : Path) (a1 : BitVec 26) (a2 : BitVec 4) (a3 : List (BitVec 4)) (a4 : BufErr) {s : State} (h : s0.Keeps s) :
    s0.Answers (execLowWordRead a0 a1 a2 a3 a4 s) := by
  unfold execLowWordRead
  apply State.Keeps.next
  apply State.readCmd_keeps
  exact h

theorem execCounterRead_keeps {s0 : State} (a0 : Path) (a1 : BitVec 26) (a2 : BitVec 4) (a3 : List (BitVec 4)) (a4 : BufErr) {s : State} (h : s0.Keeps s) :
    s0.Answers (execCounterRead a0 a1 a2 a3 a4 s) := by
  unfold execCounterRead
  apply State.Keeps.next
  apply State.readCmd_keeps
  exact h

theorem execRegacc_keeps {s0 : State} (a0 : BitVec 26) (a1 : Option Word) {s : State} (h : s0.Keeps s) :
    s0.Answers (execRegacc a0 a1 s) := by
  unfold execRegacc
  apply State.Keeps.next
  apply State.regacc_keeps
  exact h

end Sys2Proof.Machine
end

