-- ==== Sys2Proof/Laws/KeepsMgmt.lean ====
section
/-! SUPPORT. What the operations of Machine/Mgmt.lean keep (`State.Keeps`), one lemma each. -/

namespace Sys2Proof.Machine

theorem State.mgtLast_keeps {s0 : State} {s : State} (a1 : Nat) (h : s0.Keeps s) :
    s0.Keeps (State.mgtLast s a1) := by
  unfold State.mgtLast
  apply State.setFld_keeps
  exact h

theorem State.mgtNack_keeps {s0 : State} {s : State} (h : s0.Keeps s) :
    s0.Keeps (State.mgtNack s) := by
  unfold State.mgtNack
  apply State.mgtLast_keeps
  apply State.count31_keeps
  exact h

theorem State.mgtPecErr_keeps {s0 : State} {s : State} (h : s0.Keeps s) :
    s0.Keeps (State.mgtPecErr s) := by
  unfold State.mgtPecErr
  apply State.mgtLast_keeps
  apply State.count31_keeps
  apply State.count31_keeps
  exact h

theorem State.mgtAbort_keeps {s0 : State} {s : State} (h : s0.Keeps s) :
    s0.Keeps (State.mgtAbort s) := by
  unfold State.mgtAbort
  apply State.mgtLast_keeps
  apply State.count31_keeps
  exact h

theorem State.mgtTimeout_keeps {s0 : State} {s : State} (h : s0.Keeps s) :
    s0.Keeps (State.mgtTimeout s) := by
  unfold State.mgtTimeout
  apply State.mgtLast_keeps
  apply State.count31_keeps
  exact h

theorem State.mgtShort_keeps {s0 : State} {s : State} (h : s0.Keeps s) :
    s0.Keeps (State.mgtShort s) := by
  unfold State.mgtShort
  apply State.mgtLast_keeps
  apply State.count31_keeps
  exact h

theorem State.mgtGood_keeps {s0 : State} {s : State} (a1 : Nat) (h : s0.Keeps s) :
    s0.Keeps (State.mgtGood s a1) := by
  unfold State.mgtGood
  apply State.mgtLast_keeps
  apply State.count48_keeps
  exact h

theorem State.mgtCommit_keeps {s0 : State} {s : State} (a1 : Nat) (a2 : List Byte) (h : s0.Keeps s) :
    s0.Keeps (State.mgtCommit s a1 a2) := by
  unfold State.mgtCommit
  apply State.Keeps.foldl
  · exact h
  · intro t0 x1 h2
    apply State.writeAddr_keeps
    exact h2

theorem State.mgtFrame_keeps {s0 : State} {s : State} (a1 : List Byte) (h : s0.Keeps s) :
    s0.Keeps (State.mgtFrame s a1) := by
  unfold State.mgtFrame
  extract_lets v0 v1 v2
  have h3 : s0.Keeps v1 := by
    unfold v1
    apply State.Keeps.ite
    · exact h
    · apply State.emit_keeps
      exact h
  split
  · exact h3
  · apply State.mgtNack_keeps
    exact h3
  · apply State.mgtAbort_keeps
    exact h3
  · extract_lets v4 v5
    have h6 : s0.Keeps v5 := by
      unfold v5
      apply State.mgtGood_keeps
      apply State.mgtCommit_keeps
      exact h3
    apply State.Keeps.ite
    · apply State.Keeps.ite
      · apply State.mgtAbort_keeps
        exact h3
      · apply State.mgtNack_keeps
        exact h3
    · apply State.Keeps.ite
      · apply State.mgtAbort_keeps
        exact h3
      · apply State.Keeps.ite
        · apply State.mgtPecErr_keeps
          exact h3
        · apply State.Keeps.ite
          · apply State.mgtNack_keeps
            exact h6
          · exact h6

theorem State.mgtReads_keeps {s0 : State} {s : State} (a1 : Nat) (a2 : Nat) (h : s0.Keeps s) :
    s0.Keeps (State.mgtReads s a1 a2).1 := by
  unfold State.mgtReads
  apply State.Keeps.foldlFst
  · dsimp only
    exact h
  · intro x0 x1 h2
    extract_lets v3
    have h4 : s0.Keeps v3 := by
      unfold v3
      apply State.readAddr_keeps
      exact h2
    dsimp only
    exact h4

theorem State.mgtRead_keeps {s0 : State} {s : State} (a1 : List Byte) (a2 : Byte) (a3 : Nat) (a4 : Bool) (h : s0.Keeps s) :
    s0.Keeps (State.mgtRead s a1 a2 a3 a4) := by
  unfold State.mgtRead
  split
  · extract_lets v0 v1 v2
    have h3 : s0.Keeps v0.1 := by
      unfold v0
      apply State.mgtReads_keeps
      apply State.emit_keeps
      exact h
    have h4 : s0.Keeps v2 := by
      unfold v2
      apply State.emit_keeps
      exact h3
    apply State.Keeps.ite
    · apply State.mgtFrame_keeps
      exact h
    · apply State.Keeps.ite
      · apply State.mgtGood_keeps
        exact h4
      · apply State.Keeps.ite
        · apply State.mgtLast_keeps
          exact h4
        · apply State.mgtShort_keeps
          exact h4
  · apply State.mgtFrame_keeps
    exact h

theorem State.mgtTimeoutNow_keeps {s0 : State} {s : State} (h : s0.Keeps s) :
    s0.Keeps (State.mgtTimeoutNow s) := by
  unfold State.mgtTimeoutNow
  extract_lets v0 v1
  have h2 : s0.Keeps v1 := by
    unfold v1
    refine State.Keeps.upd ?_ rfl rfl
    exact h
  apply State.Keeps.ite
  · exact h
  · apply State.Keeps.ite
    · apply State.mgtTimeout_keeps
      exact h2
    · exact h

theorem State.mgtReset_keeps {s0 : State} {s : State} (a1 : Bool) (h : s0.Keeps s) :
    s0.Keeps (State.mgtReset s a1) := by
  unfold State.mgtReset
  extract_lets v0 v1
  have h2 : s0.Keeps v1 := by
    unfold v1
    refine State.Keeps.upd ?_ rfl rfl
    exact h
  apply State.Keeps.ite
  · exact h
  · apply State.Keeps.ite
    · apply State.mgtAbort_keeps
      exact h2
    · exact h2

theorem State.mgtRelease_keeps {s0 : State} {s : State} (a1 : Nat) (h : s0.Keeps s) :
    s0.Keeps (State.mgtRelease s a1) := by
  unfold State.mgtRelease
  extract_lets v0 v1 v2
  have h3 : s0.Keeps v1 := by
    unfold v1
    refine State.Keeps.upd ?_ rfl rfl
    exact h
  apply State.Keeps.ite
  · exact h
  · apply State.Keeps.ite
    · exact h3
    · refine State.Keeps.upd ?_ rfl rfl
      exact h3

theorem State.mgtWake_keeps {s0 : State} {s : State} (h : s0.Keeps s) :
    s0.Keeps (State.mgtWake s) := by
  unfold State.mgtWake
  extract_lets v0 v1
  have h2 : s0.Keeps v0 := by
    unfold v0
    apply State.wake_keeps
    exact h
  apply State.Keeps.ite
  · exact h
  · apply State.Keeps.ite
    · refine State.Keeps.upd ?_ rfl rfl
      exact h2
    · exact h2

theorem State.mgtStretchEnd_keeps {s0 : State} {s : State} (a1 : Bool) (h : s0.Keeps s) :
    s0.Keeps (State.mgtStretchEnd s a1) := by
  unfold State.mgtStretchEnd
  extract_lets v0 v1
  have h2 : s0.Keeps v1 := by
    unfold v1
    refine State.Keeps.upd ?_ rfl rfl
    exact h
  apply State.Keeps.ite
  · exact h
  · apply State.Keeps.ite
    · exact h2
    · apply State.mgtTimeout_keeps
      exact h2

theorem execMgtWriteFrame_keeps {s0 : State} (a0 : List Byte) {s : State} (h : s0.Keeps s) :
    s0.Answers (execMgtWriteFrame a0 s) := by
  unfold execMgtWriteFrame
  apply State.Keeps.next
  apply State.Keeps.ite
  · apply State.mgtFrame_keeps
    exact h
  · exact h

theorem execMgtReadFrame_keeps {s0 : State} (a0 : List Byte) (a1 : Byte) (a2 : Nat) {s : State} (h : s0.Keeps s) :
    s0.Answers (execMgtReadFrame a0 a1 a2 s) := by
  unfold execMgtReadFrame
  apply State.Keeps.next
  apply State.Keeps.ite
  · apply State.mgtRead_keeps
    exact h
  · exact h

theorem execMgtFrameCutoff_keeps {s0 : State} (a0 : List Byte) (a1 : Option Byte) (a2 : Nat) {s : State} (h : s0.Keeps s) :
    s0.Answers (execMgtFrameCutoff a0 a1 a2 s) := by
  unfold execMgtFrameCutoff
  apply State.Keeps.next
  apply State.Keeps.ite
  · split
    · apply State.mgtRead_keeps
      exact h
    · apply State.mgtFrame_keeps
      exact h
  · exact h

theorem execMgtTimeout_keeps {s0 : State} {s : State} (h : s0.Keeps s) :
    s0.Answers (execMgtTimeout s) := by
  unfold execMgtTimeout
  apply State.Keeps.next
  apply State.mgtTimeoutNow_keeps
  exact h

theorem execMgRstNAssert_keeps {s0 : State} (a0 : Bool) {s : State} (h : s0.Keeps s) :
    s0.Answers (execMgRstNAssert a0 s) := by
  unfold execMgRstNAssert
  apply State.Keeps.next
  apply State.mgtReset_keeps
  exact h

theorem execMgRstNDeassert_keeps {s0 : State} (a0 : Fin 8) {s : State} (h : s0.Keeps s) :
    s0.Answers (execMgRstNDeassert a0 s) := by
  unfold execMgRstNDeassert
  apply State.Keeps.next
  apply State.mgtRelease_keeps
  exact h

theorem execMgtWakeAddressMatch_keeps {s0 : State} {s : State} (h : s0.Keeps s) :
    s0.Answers (execMgtWakeAddressMatch s) := by
  unfold execMgtWakeAddressMatch
  apply State.Keeps.next
  apply State.mgtWake_keeps
  exact h

theorem execMgtWakeStretchEnd_keeps {s0 : State} (a0 : Bool) {s : State} (h : s0.Keeps s) :
    s0.Answers (execMgtWakeStretchEnd a0 s) := by
  unfold execMgtWakeStretchEnd
  apply State.Keeps.next
  apply State.mgtStretchEnd_keeps
  exact h

end Sys2Proof.Machine
end

