-- ==== Sys2Proof/Laws/KeepsStep.lean ====
section
/-! SUPPORT. What the operations of Machine/Step.lean keep (`State.Keeps`), one lemma each. -/

namespace Sys2Proof.Machine

theorem State.idle_keeps {s0 : State} {s : State} (h : s0.Keeps s) :
    s0.Keeps (State.idle s) := by
  unfold State.idle
  apply State.Keeps.ite
  · apply State.paceMoves_keeps
    apply State.timeBase_keeps
    exact h
  · exact h

end Sys2Proof.Machine
end

