-- ==== Sys2Proof/Laws/KeepsAll.lean ====
section
/-! SUPPORT. What every command keeps (`State.Keeps`). -/

namespace Sys2Proof.Machine

/-- Every command keeps what every transition keeps. -/
theorem exec_keeps (i : Instr) (s : State) : s.Answers (exec i s) := by
  have h := State.Keeps.refl s
  cases i with
  | vddAonPowerUp addrPins => exact execVddAonPowerUp_keeps addrPins h
  | startWatchdog => exact execStartWatchdog_keeps h
  | startRetry => exact execStartRetry_keeps h
  | failCountClear => exact execFailCountClear_keeps h
  | vddAonBrownOut => exact execVddAonBrownOut_keeps h
  | startWarm path key found => exact execStartWarm_keeps path key found h
  | startCold path key warm => exact execStartCold_keeps path key warm h
  | fwRestart path key found => exact execFwRestart_keeps path key found h
  | fwWatchdogExpiry found => exact execFwWatchdogExpiry_keeps found h
  | fwProcessorFault found => exact execFwProcessorFault_keeps found h
  | fwRestartDone => exact execFwRestartDone_keeps h
  | fwRestartEscalate found => exact execFwRestartEscalate_keeps found h
  | quorumLimit => exact execQuorumLimit_keeps h
  | pocGroupOn g => exact execPocGroupOn_keeps g h
  | discoveryStart p => exact execDiscoveryStart_keeps p h
  | tickBoundary limpN => exact execTickBoundary_keeps limpN h
  | herdDeadline herd => exact execHerdDeadline_keeps herd h
  | placementPublish => exact execPlacementPublish_keeps h
  | timeIncHiWrite path v => exact execTimeIncHiWrite_keeps path v h
  | timeAdjHiWrite path v => exact execTimeAdjHiWrite_keeps path v h
  | timeAdjApply => exact execTimeAdjApply_keeps h
  | deviceSecond => exact execDeviceSecond_keeps h
  | aonRcSecond => exact execAonRcSecond_keeps h
  | alarmArm path v => exact execAlarmArm_keeps path v h
  | alarmDisarm path v => exact execAlarmDisarm_keeps path v h
  | timeCmpTgtHiWrite path n v => exact execTimeCmpTgtHiWrite_keeps path n v h
  | cmpArm path n v => exact execCmpArm_keeps path n v h
  | cmpModeOff path n v => exact execCmpModeOff_keeps path n v h
  | cmpMatch n => exact execCmpMatch_keeps n h
  | cmpPulseEnd n => exact execCmpPulseEnd_keeps n h
  | captEdge n falling sub held => exact execCaptEdge_keeps n falling sub held h
  | timeCaptFifoLoRead path n => exact execTimeCaptFifoLoRead_keeps path n h
  | ppsInEdge sub => exact execPpsInEdge_keeps sub h
  | lowWordRead path addr be more buf => exact execLowWordRead_keeps path addr be more buf h
  | ptmGo path v => exact execPtmGo_keeps path v h
  | ptmPeriod => exact execPtmPeriod_keeps h
  | ptmResponse rtt turn master => exact execPtmResponse_keeps rtt turn master h
  | ptmTimeout => exact execPtmTimeout_keeps h
  | timeRoundDue na => exact execTimeRoundDue_keeps na h
  | timeReply na seq turnaround age => exact execTimeReply_keeps na seq turnaround age h
  | timeReplyTimeout na => exact execTimeReplyTimeout_keeps na h
  | blockTransmit p => exact execBlockTransmit_keeps p h
  | blockReceive p bits => exact execBlockReceive_keeps p bits h
  | huntTimeout p => exact execHuntTimeout_keeps p h
  | dieTempSample quadrant tempC held => exact execDieTempSample_keeps quadrant tempC held h
  | eyeScanGo path p v => exact execEyeScanGo_keeps path p v h
  | eyePointDone p mism => exact execEyePointDone_keeps p mism h
  | loopNearEndSerial path p v => exact execLoopNearEndSerial_keeps path p v h
  | loopNearEndParallel path p v => exact execLoopNearEndParallel_keeps path p v h
  | loopFarEnd path p v => exact execLoopFarEnd_keeps path p v h
  | loopEnd path p v => exact execLoopEnd_keeps path p v h
  | caps p c => exact execCaps_keeps p c h
  | ack p pos a => exact execAck_keeps p pos a h
  | answerLate p k => exact execAnswerLate_keeps p k h
  | hopStepSwitch p => exact execHopStepSwitch_keeps p h
  | trainPattern p counter => exact execTrainPattern_keeps p counter h
  | trainPeriodEnd p => exact execTrainPeriodEnd_keeps p h
  | trainResult p hop step pass => exact execTrainResult_keeps p hop step pass h
  | pronkSwitchTimeout p => exact execPronkSwitchTimeout_keeps p h
  | glitchWindowExpire p hop => exact execGlitchWindowExpire_keeps p hop h
  | upHoldExpire p hop => exact execUpHoldExpire_keeps p hop h
  | discPollTimer p pos => exact execDiscPollTimer_keeps p pos h
  | reverseStopEnd p => exact execReverseStopEnd_keeps p h
  | rediscoveryTimer p => exact execRediscoveryTimer_keeps p h
  | errDownLost p pos => exact execErrDownLost_keeps p pos h
  | errOverflow p pos detail => exact execErrOverflow_keeps p pos detail h
  | errSensor p pos vc detail => exact execErrSensor_keeps p pos vc detail h
  | errBusStuck p pos => exact execErrBusStuck_keeps p pos h
  | errTrigLate p pos vc => exact execErrTrigLate_keeps p pos vc h
  | errSession p pos detail => exact execErrSession_keeps p pos detail h
  | errTemp p pos detail => exact execErrTemp_keeps p pos detail h
  | errUnknown p pos code detail => exact execErrUnknown_keeps p pos code detail h
  | discQuery p => exact execDiscQuery_keeps p h
  | discAssign p na isids segLen stepCap => exact execDiscAssign_keeps p na isids segLen stepCap h
  | discExtend p pos => exact execDiscExtend_keeps p pos h
  | discCut p pos => exact execDiscCut_keeps p pos h
  | discReset p => exact execDiscReset_keeps p h
  | discPoll p pos => exact execDiscPoll_keeps p pos h
  | trigReceive p pos => exact execTrigReceive_keeps p pos h
  | timeReq p pos seq => exact execTimeReq_keeps p pos seq h
  | timeResult p pos delay => exact execTimeResult_keeps p pos delay h
  | rateSwitch p hops step atSync => exact execRateSwitch_keeps p hops step atSync h
  | rateCommit p => exact execRateCommit_keeps p h
  | rateRevert p => exact execRateRevert_keeps p h
  | trainLoopReq p pos => exact execTrainLoopReq_keeps p pos h
  | trainLoopEnd p pos => exact execTrainLoopEnd_keeps p pos h
  | sessionStart => exact execSessionStart_keeps h
  | keyHello p pos frags => exact execKeyHello_keeps p pos frags h
  | keyCert p pos frags => exact execKeyCert_keeps p pos frags h
  | keyFinish p pos frags => exact execKeyFinish_keeps p pos frags h
  | keyDone p pos frags => exact execKeyDone_keeps p pos frags h
  | keyEnd p pos frags => exact execKeyEnd_keeps p pos frags h
  | sessionRetry n => exact execSessionRetry_keeps n h
  | rekeyDue n => exact execRekeyDue_keeps n h
  | oldKeyExpire n => exact execOldKeyExpire_keeps n h
  | sof p pos b => exact execSof_keeps p pos b h
  | eof p pos b => exact execEof_keeps p pos b h
  | containerReceive p data backlog age => exact execContainerReceive_keeps p data backlog age h
  | lstQCtrlFlush path isid v => exact execLstQCtrlFlush_keeps path isid v h
  | lstQWmStatNoticeClear path isid v => exact execLstQWmStatNoticeClear_keeps path isid v h
  | scrubPass found => exact execScrubPass_keeps found h
  | sliceLineRead isid fixed lost => exact execSliceLineRead_keeps isid fixed lost h
  | auditCompare mismatch => exact execAuditCompare_keeps mismatch h
  | suspectTimeout => exact execSuspectTimeout_keeps h
  | slcStrLiveCommit path isid v => exact execSlcStrLiveCommit_keeps path isid v h
  | roiPosWrite path roi v => exact execRoiPosWrite_keeps path roi v h
  | tableWrite path addr data => exact execTableWrite_keeps path addr data h
  | sliceBist path sl v => exact execSliceBist_keeps path sl v h
  | sliceBistDone sl pass => exact execSliceBistDone_keeps sl pass h
  | sliceReturn path sl v => exact execSliceReturn_keeps path sl v h
  | plcCtrlSubmit path v => exact execPlcCtrlSubmit_keeps path v h
  | plcLogCfgEnable path v => exact execPlcLogCfgEnable_keeps path v h
  | grzPiWrite path v => exact execGrzPiWrite_keeps path v h
  | grzSubmit path v => exact execGrzSubmit_keeps path v h
  | grzRingChange path v => exact execGrzRingChange_keeps path v h
  | abortAll path v => exact execAbortAll_keeps path v h
  | grazeTake => exact execGrazeTake_keeps h
  | grazeLineRead fixed lost => exact execGrazeLineRead_keeps fixed lost h
  | lineCommit ch => exact execLineCommit_keeps ch h
  | dmaChPiWrite path c v => exact execDmaChPiWrite_keeps path c v h
  | dmaPoolPiWrite path p v => exact execDmaPoolPiWrite_keeps path p v h
  | dmaChCfgWrite path c v => exact execDmaChCfgWrite_keeps path c v h
  | h2i c => exact execH2i_keeps c h
  | i2h c ue => exact execI2h_keeps c ue h
  | fillH c => exact execFillH_keeps c h
  | fillI c => exact execFillI_keeps c h
  | compare c ue => exact execCompare_keeps c ue h
  | link c => exact execLink_keeps c h
  | nop c => exact execNop_keeps c h
  | descriptorDone c => exact execDescriptorDone_keeps c h
  | pause path c v => exact execPause_keeps path c v h
  | dmaPaused c => exact execDmaPaused_keeps c h
  | resume path c v => exact execResume_keeps path c v h
  | abort path c v => exact execAbort_keeps path c v h
  | req path c v => exact execReq_keeps path c v h
  | cqCfgEnable path q v => exact execCqCfgEnable_keeps path q v h
  | cqCiWrite path q v => exact execCqCiWrite_keeps path q v h
  | cqWmStatNoticeClear path q v => exact execCqWmStatNoticeClear_keeps path q v h
  | dmaPoolWmStatNoticeClear path p v => exact execDmaPoolWmStatNoticeClear_keeps path p v h
  | hepIrqPendClear path w v => exact execHepIrqPendClear_keeps path w v h
  | completionReceive tag status data poisoned => exact execCompletionReceive_keeps tag status data poisoned h
  | completionTimeout tag => exact execCompletionTimeout_keeps tag h
  | unsupportedRequest posted vdm1 hdr => exact execUnsupportedRequest_keeps posted vdm1 hdr h
  | bar2Request r => exact execBar2Request_keeps r h
  | bar4Request r old => exact execBar4Request_keeps r old h
  | hepAttCommit path v => exact execHepAttCommit_keeps path v h
  | attOldGenerationRelease => exact execAttOldGenerationRelease_keeps h
  | busMasterEnableClear => exact execBusMasterEnableClear_keeps h
  | busMasterEnableSet => exact execBusMasterEnableSet_keeps h
  | functionLevelReset => exact execFunctionLevelReset_keeps h
  | flrComplete => exact execFlrComplete_keeps h
  | tagQuarantineEnd tag => exact execTagQuarantineEnd_keeps tag h
  | perstNAssert => exact execPerstNAssert_keeps h
  | perstNDeassert => exact execPerstNDeassert_keeps h
  | hotReset => exact execHotReset_keeps h
  | dlDown errs => exact execDlDown_keeps errs h
  | dlUp width rate flit => exact execDlUp_keeps width rate flit h
  | hostLinkRetrain width rate flit errs => exact execHostLinkRetrain_keeps width rate flit errs h
  | l0pWidthChange width => exact execL0pWidthChange_keeps width h
  | aspmL1Entry => exact execAspmL1Entry_keeps h
  | powerStateD3hot => exact execPowerStateD3hot_keeps h
  | powerStateD0 => exact execPowerStateD0_keeps h
  | hepPmCtrlWake path v => exact execHepPmCtrlWake_keeps path v h
  | glbHeartbeatWrite path => exact execGlbHeartbeatWrite_keeps path h
  | linkDownLimit => exact execLinkDownLimit_keeps h
  | heartbeatLimit => exact execHeartbeatLimit_keeps h
  | glbModeReqWrite path v => exact execGlbModeReqWrite_keeps path v h
  | limpNAssert => exact execLimpNAssert_keeps h
  | wakeInAssert => exact execWakeInAssert_keeps h
  | cfgSelWrite path v => exact execCfgSelWrite_keeps path v h
  | erase path => exact execErase_keeps path h
  | program path => exact execProgram_keeps path h
  | read path => exact execRead_keeps path h
  | verify path => exact execVerify_keeps path h
  | flashCommandDone late => exact execFlashCommandDone_keeps late h
  | genDus path key => exact execGenDus_keeps path key h
  | provision path key => exact execProvision_keeps path key h
  | field path key => exact execField_keeps path key h
  | secOtpProg path => exact execSecOtpProg_keeps path h
  | secRollCtrlCommit path => exact execSecRollCtrlCommit_keeps path h
  | secChalCtrlNew path => exact execSecChalCtrlNew_keeps path h
  | challengeExpire => exact execChallengeExpire_keeps h
  | debugUnlock path => exact execDebugUnlock_keeps path h
  | logClear path byToken v => exact execLogClear_keeps path byToken v h
  | logClearEraseDone => exact execLogClearEraseDone_keeps h
  | returnPart path => exact execReturn_keeps path h
  | revoke path => exact execRevoke_keeps path h
  | secDbgCtrlRelock path => exact execSecDbgCtrlRelock_keeps path h
  | bypass => exact execBypass_keeps h
  | idcode => exact execIdcode_keeps h
  | samplePreload => exact execSamplePreload_keeps h
  | extest => exact execExtest_keeps h
  | intest => exact execIntest_keeps h
  | clamp => exact execClamp_keeps h
  | highz => exact execHighz_keeps h
  | regacc addr w => exact execRegacc_keeps addr w h
  | trace => exact execTrace_keeps h
  | mgtWriteFrame bytes => exact execMgtWriteFrame_keeps bytes h
  | mgtReadFrame header second taken => exact execMgtReadFrame_keeps header second taken h
  | mgtFrameCutoff bytes second taken => exact execMgtFrameCutoff_keeps bytes second taken h
  | mgtTimeout => exact execMgtTimeout_keeps h
  | mgRstNAssert inFrame => exact execMgRstNAssert_keeps inFrame h
  | mgtWakeAddressMatch => exact execMgtWakeAddressMatch_keeps h
  | mgtWakeStretchEnd ready => exact execMgtWakeStretchEnd_keeps ready h
  | lwWrite path w v => exact execLwWrite_keeps path w v h
  | lwRead path w v => exact execLwRead_keeps path w v h
  | lwWriteRead path w v => exact execLwWriteRead_keeps path w v h
  | lwTransactionDone w result acked data clr => exact execLwTransactionDone_keeps w result acked data clr h
  | lwArbitrationRetry w => exact execLwArbitrationRetry_keeps w h
  | lwStretchTimeout w acked sdaLow => exact execLwStretchTimeout_keeps w acked sdaLow h
  | lwStuck w => exact execLwStuck_keeps w h
  | tunWrite path k v => exact execTunWrite_keeps path k v h
  | tunRead path k v => exact execTunRead_keeps path k v h
  | tunWriteRead path k v => exact execTunWriteRead_keeps path k v h
  | ctrlReply p pos txn status count data => exact execCtrlReply_keeps p pos txn status count data h
  | tunnelTimeout k => exact execTunnelTimeout_keeps k h
  | railEnableNext found => exact execRailEnableNext_keeps found h
  | psPgTimeout => exact execPsPgTimeout_keeps h
  | psPgFall r => exact execPsPgFall_keeps r h
  | railSample mv => exact execRailSample_keeps mv h
  | railFaultRestart => exact execRailFaultRestart_keeps h
  | pocSample vin ch => exact execPocSample_keeps vin ch h
  | shortComparator n => exact execShortComparator_keeps n h
  | softstartBegin => exact execSoftstartBegin_keeps h
  | softstartEnd n v => exact execSoftstartEnd_keeps n v h
  | retryWaitEnd n => exact execRetryWaitEnd_keeps n h
  | retriesClear n => exact execRetriesClear_keeps n h
  | vinOvRelease => exact execVinOvRelease_keeps h
  | forceOff path n off => exact execForceOff_keeps path n off h
  | clr path n v => exact execClr_keeps path n v h
  | trlBrupCtrlRetrain path p v => exact execTrlBrupCtrlRetrain_keeps path p v h
  | trlBrupCtrlRediscover path p v => exact execTrlBrupCtrlRediscover_keeps path p v h
  | operatingSecond => exact execOperatingSecond_keeps h
  | ledgerSnapshot => exact execLedgerSnapshot_keeps h
  | ageMeasure => exact execAgeMeasure_keeps h
  | ledCalCfgCommit path slot v => exact execLedCalCfgCommit_keeps path slot v h
  | recCursorWrite path v => exact execRecCursorWrite_keeps path v h
  | recWindowLoaded path => exact execRecWindowLoaded_keeps path h
  | recWindow7Read path => exact execRecWindow7Read_keeps path h
  | registerWrite path addr be v more poisoned buf => exact execRegisterWrite_keeps path addr be v more poisoned buf h
  | ppsOutPulseEnd => exact execPpsOutPulseEnd_keeps h
  | ref10mInEdge => exact execRef10mInEdge_keeps h
  | configurationWrite ofs v be => exact execConfigurationWrite_keeps ofs v be h
  | counterRead path addr be more buf => exact execCounterRead_keeps path addr be more buf h
  | securityOperationDone => exact execSecurityOperationDone_keeps h
  | mgRstNDeassert pins => exact execMgRstNDeassert_keeps pins h

end Sys2Proof.Machine
end

