-- ==== Sys2Proof/Tests/Slice0.lean ====
section
/-! SUPPORT. Tests: ill-formed commands that the check refuses; one concrete state and operands for every clause of the
obligations, that meet its hypotheses; and small runs whose expected values are the spec's own. -/

namespace Sys2Proof.Tests

open Sys2Proof Sys2Proof.Machine

set_option Elab.async false

/-- A hub that runs, with memory space enabled. -/
def up : State := { State.reset with start := { startReset with phase := .run }, ep := { epReset with mse := true } }

/-- A hub that runs in Service. -/
def svc : State := up.setFld F.GLB_MODE_STAT_CUR_MODE 3

/-- A hub that runs in Drive. -/
def drv : State := up.setFld F.GLB_MODE_STAT_CUR_MODE 1

/-- A hub in a phase of a start. -/
def inPhase (p : Phase) : State := { State.reset with start := { startReset with phase := p } }

/-- An empty image of bank A. -/
def img : Image := ⟨0, false, 0, 4, 1, 1, [], [], [], [], [], [], ⟨10, 0, []⟩⟩

/-- A start that finds nothing wrong. -/
def sound : Found := ⟨true, [], false, [], false, false, false, false, false, [], [], 400⟩

/-- A restart of the firmware in progress. -/
def fwr : State := { up with start := { up.start with fwBusy := true } }

/-! ### Ill-formed commands -/

theorem bad_herd_number : Instr.wf (.herdDeadline (2 ^ 48)) = false := by decide
theorem bad_ptm_turn : Instr.wf (.ptmResponse 3 4 0) = false := by decide
theorem bad_block_bits : Instr.wf (.blockReceive 0 []) = false := by decide
theorem bad_caps_segment : Instr.wf (.caps 0 ⟨0, 0, false, false, 0, 0, 0, 17, 0, 0, 0⟩) = false := by decide
theorem bad_ack_status : Instr.wf (.ack 0 0 ⟨7, 2, 0, 256⟩) = false := by decide
theorem bad_result_step : Instr.wf (.trainResult 0 0 256 true) = false := by decide
theorem bad_assign_streams : Instr.wf (.discAssign 0 0 [none, none, none] 4 3) = false := by decide
theorem bad_assign_isid : Instr.wf (.discAssign 0 0 [none, none, none, some 1024] 4 3) = false := by decide
theorem bad_switch_step : Instr.wf (.rateSwitch 0 1 256 0) = false := by decide
theorem bad_table_empty : Instr.wf (.tableWrite .bar0 tblBase []) = false := by decide
theorem bad_table_end : Instr.wf (.tableWrite .bar0 (2 ^ 26 - 1) [0#8, 0#8]) = false := by decide
theorem bad_key_fragment : Instr.wf (.keyHello 0 0 [⟨0, 1, List.replicate 21 0⟩]) = false := by decide
theorem bad_container : Instr.wf (.containerReceive 0 [] false 0) = false := by decide
theorem bad_scrub_twice : Instr.wf (.scrubPass [⟨0, 1, 0, []⟩, ⟨0, 1, 1, []⟩]) = false := by decide
theorem bad_completion_length : Instr.wf (.completionReceive 0 .sc (List.replicate 4097 0) false) = false := by decide +kernel
theorem bad_quarantine_tag : Instr.wf (.tagQuarantineEnd (2 ^ 14)) = false := by decide
theorem bad_read_data : Instr.wf (.bar4Request ⟨false, 0, 4, [0#8], false, [], .none⟩ false) = false := by decide
theorem bad_completion_tag : Instr.wf (.completionTimeout (2 ^ 14)) = false := by decide
theorem bad_request_header : Instr.wf (.unsupportedRequest true false [0, 0, 0, 0, 0]) = false := by decide
theorem bad_write_length : Instr.wf (.bar2Request ⟨true, 0, 4, [0#8], false, [], .none⟩) = false := by decide
theorem bad_rail_count : Instr.wf (.railSample [0#12]) = false := by decide
theorem bad_poc_count : Instr.wf (.pocSample 0#10 []) = false := by decide
theorem bad_rows_twice : Instr.wf (.railEnableNext { sound with badRows := [(1, 2), (1, 2)] }) = false := by decide
theorem bad_slices_twice : Instr.wf (.startWarm .bar0 0 { sound with badSlices := [1, 1] }) = false := by decide
theorem bad_opens_twice : Instr.wf (.fwRestart .bar0 0 { sound with badOpens := [7, 7] }) = false := by decide
theorem bad_closes_twice : Instr.wf (.fwWatchdogExpiry { sound with badCloses := [7, 7] }) = false := by decide
theorem bad_lead_wire_count : Instr.wf (.lwTransactionDone 0 0 33 [] false) = false := by decide
theorem bad_reply_count : Instr.wf (.ctrlReply 0 0 0 0 2 [0#8]) = false := by decide
theorem bad_write_frame : Instr.wf (.mgtWriteFrame []) = false := by decide
theorem bad_read_frame : Instr.wf (.mgtReadFrame [0#8] 0 0) = false := by decide
theorem bad_cutoff : Instr.wf (.mgtFrameCutoff [] none 0) = false := by decide

/-! ### What meets the hypotheses of the obligations, clause by clause -/

theorem wit_StepRunsFront : ({ up with pending := [.ref10mInEdge] } : State).pending = Instr.ref10mInEdge :: [] := by decide +kernel

theorem wit_IdleStep_off : State.reset.pending = [] ∧ State.reset.core = false := by decide +kernel
theorem wit_IdleStep_up : up.pending = [] ∧ up.core = true ∧ up.time.adj = none ∧ up.time.incNext = none ∧ up.dma.chan = [] := by
  decide +kernel

theorem wit_StepKeeps : step { up with pending := [.ref10mInEdge] } =
    .next { up with time := { up.time with ref10m := 1 } } := by rfl

theorem wit_StartsBegin_power_up : State.reset.start.phase = .off := by decide +kernel
/-- The watchdog watches a start while its rails come up. -/
def watched : State := { inPhase .rails with start := { startReset with phase := .rails, watch := true } }
theorem wit_StartsBegin_watchdog : watched.start.watch = true ∧ (watched.start.phase = .rails ∨ watched.start.phase = .wait) ∧
    watched.start.railsUp < 6 := by decide +kernel
theorem wit_StartsBegin_retry : (inPhase .wait).start.phase = .wait ∧ (inPhase .wait).start.waitFor = 0 := by decide +kernel
/-- Bank A's count is due to be cleared. -/
def counting : State := { up with start := { up.start with clearDue := [0] }, image := some img }
theorem wit_StartsBegin_clear : counting.start.phase ≠ .off ∧ counting.start.clearDue = 0 :: [] := by decide +kernel
theorem wit_StartsBegin_refuge : (inPhase .refuge).Admits .mgmt A.GLB_START_CTRL false ∧ (inPhase .refuge).start.phase = .refuge := by
  decide +kernel
theorem wit_StartsBegin_keyed : up.Admits .bar0 A.GLB_START_CTRL false ∧ up.start.phase = .run := by decide +kernel
theorem wit_StartsBegin_wrong_key : up.Admits .bar0 A.GLB_START_CTRL false ∧ 0x5355#16 ≠ 0x5354#16 := by decide +kernel

theorem wit_FirmwareRestarts_key : up.Admits .bar0 A.GLB_START_CTRL false ∧ up.core = true ∧ up.start.fwBusy = false ∧
    (up.start.fwTimes.filter fun t => decide (up.time.elapsed < t + 10 * tuPerSec)).length < 3 := by decide +kernel
theorem wit_FirmwareRestarts_busy : fwr.start.phase = .run ∧ fwr.start.fwBusy = true ∧ fwr.start.clearDue = [] := by decide +kernel
theorem wit_FirmwareRestarts_escalate : ({ counting with start := { counting.start with fwBusy := true } } : State).start.phase = .run ∧
    ({ counting with start := { counting.start with fwBusy := true } } : State).start.fwBusy = true ∧
    ({ counting with start := { counting.start with fwBusy := true } } : State).start.clearDue ≠ [] ∧
    ({ counting with start := { counting.start with fwBusy := true } } : State).image = some img := by decide +kernel

/-- An open herd. -/
def openHerd : Herd := ⟨1, 0, 100, 0, 1, false, true, [], [], [], []⟩
def herding : State := { drv with herds := [openHerd] }
theorem wit_BoundariesAndHerds_boundary : up.start.phase = .run := by decide +kernel
theorem wit_BoundariesAndHerds_deadline : herding.start.phase = .run ∧ herding.herd 1 = some openHerd ∧ openHerd.closed = false := by
  decide +kernel
def planned : RunSt := ⟨placeNone, 1, none, [], [], true⟩
theorem wit_BoundariesAndHerds_publish : ({ up with plc := { plcReset with run := some planned } } : State).Runs ∧
    ({ up with plc := { plcReset with run := some planned } } : State).plc.run = some planned := by decide +kernel
/-- Channel 5 of group 3 is due at once, channel 6 later. -/
def grouped : State := { up with pwr := { pwrReset with due := [(3, 5), (4, 6)] }, image := some { img with
  poc := ⟨10, 0, [(0, 0), (0, 0), (0, 0), (0x60, 0)]⟩ } }
theorem wit_BoundariesAndHerds_group : grouped.Runs ∧ (∃ c ∈ grouped.pwr.due, grouped.pocGroup c.2 = some (3 : Fin 16).val ∧ c.1 = 3) ∧
    (∀ c ∈ grouped.pwr.due, grouped.pocGroup c.2 = some (3 : Fin 16).val → 3 ≤ c.1) := by decide +kernel
/-- Stream 1023 is a member of the quorum; nothing is placed. -/
def lacking : State := (up.setFld F.GLB_QUORUM_CFG_QUORUM_MS 1).setFlag (F.PLC_OSID_CFG_QUORUM 1023) true
theorem wit_BoundariesAndHerds_quorum : lacking.start.phase = .run ∧ lacking.fld F.GLB_QUORUM_CFG_QUORUM_MS ≠ 0 ∧
    lacking.flag F.GLB_START_STAT_QUORUM_LATE = false ∧ lacking.modes.quorum = false ∧
    (lacking.quorumSet.filter fun o => !lacking.memberPresent o) ≠ [] := by decide +kernel
/-- Port 7 waits for its discovery. -/
def booting : State := { up.setFlag (F.TRL_CFG_EN 7) true with pwr := { pwrReset with boot := [7] } }
theorem wit_BoundariesAndHerds_discovery : booting.Runs ∧ booting.pwr.boot = [(7 : Fin 64).val] ∧ booting.portOn 7 = true ∧
    booting.sensorEnd 7 = false := by decide +kernel

theorem wit_DeviceTime_inc : up.Admits .mgmt A.TIME_INC_HI false ∧
    incOk (fldGet (16#32 : Word) 0 8 * 2 ^ 32 + up.time.incLo.toNat) = true := by decide +kernel
theorem wit_DeviceTime_inc_rejected : up.Admits .mgmt A.TIME_INC_HI false ∧
    incOk (fldGet (17#32 : Word) 0 8 * 2 ^ 32 + up.time.incLo.toNat) = false := by decide +kernel
theorem wit_DeviceTime_adj : up.Admits .bar0 A.TIME_ADJ_HI false ∧ up.time.adj = none := by decide +kernel
def stepping : State := { up with time := { up.time with adj := some (-5, 1) } }
theorem wit_DeviceTime_adj_busy : stepping.Admits .bar0 A.TIME_ADJ_HI false ∧ stepping.time.adj = some (-5, 1) ∧
    stepping.start.phase = .run := by decide +kernel
theorem wit_DeviceTime_second : (up.setFld F.TIME_PPS_CFG_OUT_MS 1).start.phase = .run ∧
    (up.setFld F.TIME_PPS_CFG_OUT_MS 1).fld F.TIME_PPS_CFG_OUT_MS ≠ 0 := by decide +kernel
theorem wit_DeviceTime_rc : (inPhase .standby).start.phase = .standby ∧ (inPhase .wait).start.phase = .wait ∧
    ({ inPhase .standby with aon := { (inPhase .standby).aon with sec := 1 } } : State).alarmDue = false := by decide +kernel
theorem wit_DeviceTime_alarm : up.Admits .jtag A.GLB_AON_ALARM_CTRL false ∧ bitOn 4#32 3 = false ∧ bitOn 4#32 0 = false := by
  decide +kernel

/-- Compare unit 63 in SHOT mode with target 1. -/
def shot : State := (up.setFld (F.TIME_CMP_CTRL_MODE 63) 1).plainWrite (A.TIME_CMP_TGT_LO 63) 1
theorem wit_CompareUnits_target : shot.Admits .bar0 (A.TIME_CMP_TGT_HI 63) (shot.cmpReserved 63) ∧
    (shot.plainWrite (A.TIME_CMP_TGT_HI 63) 0).fld (F.TIME_CMP_CTRL_MODE 63) = 1 ∧
    0 < sdiff ((shot.plainWrite (A.TIME_CMP_TGT_HI 63) 0).pair (A.TIME_CMP_TGT_LO 63) 16) (st48 shot.now) := by decide +kernel
/-- Compare unit n in a mode. -/
def comparing (n mode : Nat) : State := up.setFld (F.TIME_CMP_CTRL_MODE n) mode
theorem wit_CompareUnits_other : (comparing 63 3).Admits .bar0 (A.TIME_CMP_TGT_HI 63) ((comparing 63 3).cmpReserved 63) ∧
    (((comparing 63 3).reached .bar0).plainWrite (A.TIME_CMP_TGT_HI 63) 0).fld (F.TIME_CMP_CTRL_MODE 63) = 3 := by decide +kernel
theorem wit_CompareUnits_ctrl : up.Admits .bar0 (A.TIME_CMP_CTRL 0) (up.cmpReserved 0) ∧
    (((up.reached .bar0).plainWrite (A.TIME_CMP_CTRL 0) (1#32 ||| 0x10000#32)).pinFollow 0 ((up.reached .bar0).pinIdle 0)).fld
      (F.TIME_CMP_CTRL_MODE 0) ≠ 0 := by decide +kernel
theorem wit_CompareUnits_future : 0 < sdiff (shot.pair (A.TIME_CMP_TGT_LO 63) 16) (st48 shot.now) ∧
    shot.fld (F.TIME_CMP_CTRL_MODE 63) = 1 ∧ shot.fld (F.TIME_CMP_CTRL_MODE 63) ≠ 2 := by decide +kernel
theorem wit_CompareUnits_past : sdiff ((comparing 63 2).pair (A.TIME_CMP_TGT_LO 63) 16) (st48 (comparing 63 2).now) ≤ 0 ∧
    (comparing 63 2).fld (F.TIME_CMP_CTRL_MODE 63) = 2 ∧ (comparing 63 3).fld (F.TIME_CMP_CTRL_MODE 63) = 3 ∧
    0 < ((comparing 63 2).setReg (A.TIME_CMP_PERIOD_LO 63) 1600#32).cmpPeriod 63 := by decide +kernel
def armed : State := { shot.setCmp 63 (some ⟨1, 0⟩) with time := { shot.time with cmp := [(63, ⟨1, 0⟩)], pulseEnd := [(63, 9)] } }
theorem wit_CompareUnits_match : armed.start.phase = .run ∧ armed.cmpTarget 63 = some ⟨1, 0⟩ ∧
    tblOpt armed.time.pulseEnd 63 = some 9 := by decide +kernel

/-- Capture unit 31 takes both edges; its FIFO holds n entries. -/
def capturing (n : Nat) : State := (up.setFld (F.TIME_CAPT_CFG_EDGE 31) 3).setCapt 31 (List.replicate n ⟨5, true⟩)
theorem wit_CapturesAndLatches_store : (capturing 7).start.phase = .run ∧ (31 : Fin 32).val ∉ (capturing 7).time.captShort ∧
    (capturing 7).fld (F.TIME_CAPT_CFG_FILT 31) = 0 ∧ 64 * (capturing 7).fld (F.TIME_CAPT_CFG_FILT 31) ≤ 32 ∧
    (capturing 7).fld (F.TIME_CAPT_CFG_EDGE 31) = 3 ∧ ((capturing 7).captFifo 31).length < 8 := by decide +kernel
theorem wit_CapturesAndLatches_full : (capturing 8).start.phase = .run ∧ (31 : Fin 32).val ∉ (capturing 8).time.captShort ∧
    64 * (capturing 8).fld (F.TIME_CAPT_CFG_FILT 31) ≤ 32 ∧ (capturing 8).fld (F.TIME_CAPT_CFG_EDGE 31) = 3 ∧
    8 ≤ ((capturing 8).captFifo 31).length := by decide +kernel
theorem wit_CapturesAndLatches_pop : (capturing 1).AdmitsRead .bar0 (A.TIME_CAPT_FIFO_LO 31) ∧
    (capturing 1).captFifo 31 = ⟨5, true⟩ :: [] ∧ (capturing 0).captFifo 31 = [] := by decide +kernel
/-- What a named read asks of an address: a register of that half with no reading of its own. -/
def readable (a : Nat) (h : Half) : Bool := !inTbl a 4 && match rowAt a with
  | some (r, _) => r.half == h && !([RegTag.captFifo, .recWindow, .timeNow, .ptmSet, .lstStat].contains r.tag)
  | none => false
theorem wit_CapturesAndLatches_reads : up.mode ≠ 6 ∧ up.AdmitsRead .bar0 (wordAddr (BitVec.ofNat 26 A.TIME_PPS_CAP_LO)) ∧
    readable (wordAddr (BitVec.ofNat 26 A.TIME_PPS_CAP_LO)) .lo = true ∧ up.AdmitsRead .bar0 (wordAddr (BitVec.ofNat 26 A.HEP_BAR_UR)) ∧
    readable (wordAddr (BitVec.ofNat 26 A.HEP_BAR_UR)) .none = true := by decide +kernel

def ptmOn : State := { up.setFld F.TIME_PTM_CTRL_PERIOD_MS 1 with ep := { up.ep with ptmEn := true } }
theorem wit_PtmAndRounds_go : ptmOn.Admits .bar0 A.TIME_PTM_CTRL false ∧ ptmOn.start.phase = .run ∧
    ptmOn.fld F.TIME_PTM_CTRL_PERIOD_MS ≠ 0 ∧ ptmOn.ep.ptmEn = true ∧ ptmOn.fld F.TIME_PTM_STAT_STATE ≠ 1 := by decide +kernel
def ptmOut (rtt : Option Nat) : State := { up.setFld F.TIME_PTM_STAT_STATE 1 with time := { up.time with ptmT1 := some 0, ptmRtt := rtt } }
theorem wit_PtmAndRounds_answer : (ptmOut none).start.phase = .run ∧ (ptmOut none).time.ptmT1 = some 0 ∧
    (ptmOut none).fld F.TIME_PTM_STAT_STATE = 1 ∧ (ptmOut none).time.ptmRtt = none ∧ (ptmOut (some 64)).time.ptmT1 = some 0 ∧
    (ptmOut (some 64)).fld F.TIME_PTM_STAT_STATE = 1 ∧ (ptmOut (some 64)).time.ptmRtt = some 64 := by decide +kernel
def noded : State := up.setFlag (F.NODE_ENT_PRESENT 511) true
theorem wit_PtmAndRounds_due : noded.Runs ∧ noded.flag (F.NODE_ENT_PRESENT 511) = true ∧ noded.round 511 = none := by decide +kernel
/-- A round on its last permitted attempt but one, with six round trips. -/
def lastTrip : DelayRound := ⟨31, [1, 2, 3, 4, 5, 6], some 0⟩
theorem wit_PtmAndRounds_reply : (noded.setRound 511 (some lastTrip)).Runs ∧
    (noded.setRound 511 (some lastTrip)).round 511 = some lastTrip ∧ lastTrip.t1 = some 0 ∧ lastTrip.attempts = (31#8).toNat ∧
    lastTrip.attempts < 32 ∧ lastTrip.trips.length < 7 := by decide +kernel
/-- The same round with its seventh round trip, and at its last attempt. -/
def fullTrip : DelayRound := ⟨31, [1, 2, 3, 4, 5, 6, 7], some 0⟩
def spentTrip : DelayRound := ⟨32, [1, 2, 3, 4, 5, 6, 7], some 0⟩
theorem wit_PtmAndRounds_last : (noded.setRound 511 (some fullTrip)).Runs ∧
    (noded.setRound 511 (some fullTrip)).round 511 = some fullTrip ∧ fullTrip.t1 = some 0 ∧ fullTrip.attempts = (31#8).toNat ∧
    fullTrip.trips.length = 7 ∧ (noded.setRound 511 (some spentTrip)).round 511 = some spentTrip ∧ spentTrip.trips.length < 8 ∧
    32 ≤ spentTrip.attempts := by decide +kernel

/-- The hub end of port 63, the last camera port. -/
def hubEnd : State := up.setFlag (F.TRL_CFG_EN 63) true

/-- The sensor end of port 63. -/
def senEnd : State := (up.setFlag (F.TRL_CFG_EN 63) true).setFlag (F.TRL_CFG_ROLE 63) true

theorem wit_BlocksAndBands_transmit : hubEnd.start.phase = .run ∧ hubEnd.portOn 63 = true ∧ (hubEnd.port 63).stopped = false ∧
    (hubEnd.tx 63).blk = 0 ∧ (hubEnd.port 63).loop = none ∧ hubEnd.nearLoop 63 = 0 := by decide +kernel
theorem wit_BlocksAndBands_bit : ((hubEnd.setRx 63 { hubEnd.rx 63 with run := 24 }).rx 63).run = 24 := by decide +kernel
theorem wit_BlocksAndBands_hunt : hubEnd.Runs ∧ hubEnd.portOn 63 = true ∧ hubEnd.flag (F.TRL_STAT_LOCK 63) = false ∧
    hubEnd.sensorEnd 63 = false ∧ hubEnd.hopUp 63 0 = false := by decide +kernel
/-- Hop 0 of port 63 was up, at step 0. -/
def hopGone : State := (hubEnd.setReg (A.TRL_HOP_STEP 63) 0xFF000000#32).setFld (F.TRL_STAT_STEP 63) 0
theorem wit_BlocksAndBands_gone : hopGone.Runs ∧ hopGone.portOn 63 = true ∧ hopGone.flag (F.TRL_STAT_LOCK 63) = false ∧
    hopGone.sensorEnd 63 = false ∧ hopGone.hopUp 63 0 = true ∧ hopGone.fld (F.TRL_STAT_STEP 63) = 0 := by decide +kernel
theorem wit_BlocksAndBands_sensor : senEnd.Runs ∧ senEnd.portOn 63 = true ∧
    senEnd.flag (F.TRL_STAT_LOCK 63) = false ∧ senEnd.sensorEnd 63 = true := by decide +kernel
theorem wit_BlocksAndBands_sample : up.core = true ∧ (135 : Int) ≤ 135 ∧ (135 : Int) < 136 := by decide +kernel
theorem wit_BlocksAndBands_both : (({ up with start := { up.start with phase := .wait, waitFor := 1 } } : State).start.phase) = .wait ∧
    ({ up with start := { up.start with phase := .wait, waitFor := 1 } } : State).start.waitFor = 1 := ⟨rfl, rfl⟩

theorem wit_EyesAndLoops_go : svc.Admits .bar0 (A.TRL_EYE_CTRL 79) true ∧
    svc.fld (F.TRL_EYE_STAT_STATE 79) ≠ 1 := by decide +kernel
/-- An eye scan at its last phase but one. -/
def scanning : State := (up.setFld (F.TRL_EYE_STAT_STATE 79) 1).setFld (F.TRL_EYE_STAT_PH_NEXT 79) 126
theorem wit_EyesAndLoops_point : scanning.start.phase = .run ∧ scanning.fld (F.TRL_EYE_STAT_STATE 79) = 1 ∧
    scanning.fld (F.TRL_EYE_STAT_PH_NEXT 79) ≠ 127 := by decide +kernel
/-- Port 0 in Service, its table holds step 0, and nothing is placed. -/
def loopable : State := (List.range 3).foldl (fun s b => s.setFlag (F.TRL_EQ_LO_VALID 0 (eqIndex 0 b)) true)
  (svc.setFld (F.TRL_BRUP_STAT_NODES 0) 8)
theorem wit_EyesAndLoops_near : loopable.Admits .bar0 (A.TRL_TEST 0) true ∧
    ((loopable.reached .bar0).plainWrite (A.TRL_TEST 0) (0#32 &&& ~~~ 3#32 ||| 1#32)).loopRefused 0 = false ∧
    ((loopable.reached .bar0).plainWrite (A.TRL_TEST 0) (0#32 &&& ~~~ 3#32 ||| 2#32)).loopRefused 0 = false ∧
    ((loopable.reached .bar0).plainWrite (A.TRL_TEST 0) (0#32 ||| 3#32)).loopRefused 0 = false := by decide +kernel
theorem wit_EyesAndLoops_refused : svc.Admits .bar0 (A.TRL_TEST 63) true ∧
    ((svc.reached .bar0).plainWrite (A.TRL_TEST 63) (0#32 ||| 3#32)).loopRefused 63 = true := by decide +kernel
theorem wit_EyesAndLoops_off : ((up.setPort 79 { portReset 79 with loop := some ⟨3, 7, true, true⟩ }).port 79).loop =
    some ⟨3, 7, true, true⟩ := by decide +kernel

/-- A port whose engine waits for an answer, with the last resend but one spent. -/
def asking (p : Nat) (w : Await) : State := up.setPort p { portReset p with waits := [⟨w, [[1#8]], 2⟩] }
theorem wit_BringUpAnswers_caps : (asking 63 .query).Runs ∧ (asking 63 .query).awaits 63 .query = true ∧ isLane 63 = false ∧
    (asking 79 .query).Runs ∧ (asking 79 .query).awaits 79 .query = true ∧ isLane 79 = true ∧
    (⟨1, 0, false, false, 0, 0, 0, 4, 0x21#8, 0, 0⟩ : Caps).rev = 0x21#8 ∧
    (⟨1, 0, false, false, 0, 0, 0, 4, 0x20#8, 0, 0⟩ : Caps).rev ≠ 0x21#8 := by decide +kernel
theorem wit_BringUpAnswers_ack : (asking 0 .extend).Runs ∧ (asking 0 .extend).awaits 0 .extend = true ∧
    (asking 79 .commit).Runs ∧ (asking 79 .commit).awaits 79 .commit = true := by decide +kernel
/-- A far-end loop asked of the node at position 7. -/
def loopAsked : State := up.setPort 63 { portReset 63 with loop := some ⟨3, 7, true, false⟩ }
theorem wit_BringUpAnswers_acks : (asking 63 .assign).awaits 63 .assign = true ∧ (asking 63 .cut).awaits 63 .cut = true ∧
    (asking 63 .revert).awaits 63 .revert = true ∧ loopAsked.Runs ∧ (loopAsked.port 63).loop = some ⟨3, 7, true, false⟩ ∧
    (⟨3, 7, true, false⟩ : LoopSt).asked = true ∧ (⟨3, 7, true, false⟩ : LoopSt).pos = (7 : Fin 8).val := by decide +kernel
theorem wit_BringUpAnswers_late : (asking 0 .extend).Runs ∧
    ((asking 0 .extend).port 0).waits[0]? = some ⟨.extend, [[1#8]], 2⟩ ∧ (⟨.extend, [[1#8]], 2⟩ : Waiting).resends < 3 := by
  decide +kernel
/-- The same wait with its last resend spent. -/
def spent : State := up.setPort 0 { portReset 0 with waits := [⟨.extend, [[1#8]], 3⟩] }
theorem wit_BringUpAnswers_failed : spent.Runs ∧ (spent.port 0).waits[0]? = some ⟨.extend, [[1#8]], 3⟩ ∧
    (⟨.extend, [[1#8]], 3⟩ : Waiting).resends = 3 ∧
    (∀ n, (⟨.extend, [[1#8]], 3⟩ : Waiting).what ≠ .keyHello n ∧ (⟨.extend, [[1#8]], 3⟩ : Waiting).what ≠ .keyFinish n) := by
  refine ⟨by decide +kernel, by decide +kernel, rfl, fun n => ⟨?_, ?_⟩⟩ <;> intro h <;> cases h

/-- A pronk of hop 0. -/
def pronk (switched : Bool) (last : Option Nat) : Pronk := ⟨0, 3, 1, 5, switched, [], [], 0, false, last, false, none⟩
def pronking (p : Nat) (k : Pronk) : State :=
  (up.setFlag (F.TRL_STAT_SCR_SYNC p) true).setPort p { portReset p with pronk := some k }
theorem wit_Pronking_switch : (pronking 63 (pronk false none)).start.phase = .run ∧
    (pronking 63 (pronk false none)).sensorEnd 63 = false ∧
    ((pronking 63 (pronk false none)).port 63).pronk = some (pronk false none) ∧ (pronk false none).switched = false := by
  decide +kernel
theorem wit_Pronking_sched : ((senEnd.setSensor 63 { sensorReset 63 with sched := some (9, 3) }).sensor 63).sched = some (9, 3) ∧
    senEnd.start.phase = .run ∧ senEnd.sensorEnd 63 = true := by decide +kernel
theorem wit_Pronking_first : ((pronking 63 (pronk true none)).port 63).pronk = some (pronk true none) ∧
    (pronk true none).switched = true ∧ (pronking 63 (pronk true none)).flag (F.TRL_STAT_SCR_SYNC 63) = true ∧
    (pronk true none).lastCtr = none ∧ (pronking 63 (pronk true none)).Runs := by decide +kernel
theorem wit_Pronking_gap : ((pronking 63 (pronk true (some 0xFFFFFFFF))).port 63).pronk = some (pronk true (some 0xFFFFFFFF)) ∧
    (pronk true (some 0xFFFFFFFF)).switched = true ∧ (pronking 63 (pronk true (some 0xFFFFFFFF))).flag (F.TRL_STAT_SCR_SYNC 63) = true := by
  decide +kernel
theorem wit_Pronking_result : bitsOf (pronk true none).hops 0 1 = 1 ∧ 0 ∉ (pronk true none).seen ∧ (pronk true none).switched = true ∧
    (pronk true none).failed = [] ∧ ({ pronk true none with failed := [0] } : Pronk).failed ≠ [] ∧
    hopMask ({ pronk true none with seen := [0] } : Pronk).seen = (pronk true none).hops := by decide +kernel
theorem wit_Pronking_training : (senEnd.setSensor 63 { sensorReset 63 with training := true }).Runs ∧
    ((senEnd.setSensor 63 { sensorReset 63 with training := true }).sensor 63).training = true ∧
    (senEnd.setSensor 63 { sensorReset 63 with training := true }).sensorEnd 63 = true := by decide +kernel
theorem wit_Pronking_timeout : (pronking 64 (pronk true none)).Runs ∧ (pronk true none).switched = true ∧
    (pronking 64 (pronk true none)).sensorEnd 64 = false ∧ isLane 64 = true ∧
    ((pronking 64 (pronk true none)).port 64).pronk = some (pronk true none) := by decide +kernel
theorem wit_Pronking_glitch : (up.setReg (A.TRL_HOP_STEP 63) 0xFF000000#32).Runs ∧
    (up.setReg (A.TRL_HOP_STEP 63) 0xFF000000#32).hopUp 63 7 = true ∧
    ((up.setReg (A.TRL_HOP_STEP 63) 0xFF000000#32).port 63).pronk = none ∧ (7 : Fin 8).val ≠ 0 := by decide +kernel

def fallenHop : State := (up.setFld (F.TRL_BRUP_CFG_UP_HOLD_S 79) 1).setPort 79 { portReset 79 with fallen := [7] }
theorem wit_ChainTimers_hold : fallenHop.Runs ∧ (7 : Fin 8).val ∈ (fallenHop.port 79).fallen ∧
    fallenHop.fld (F.TRL_BRUP_CFG_UP_HOLD_S 79) ≠ 0 ∧ (fallenHop.port 79).pronk = none := by decide +kernel
theorem wit_ChainTimers_pronk : 7 ∈ ((fallenHop.setPort 79 { fallenHop.port 79 with pronk := some (pronk true none) }).port 79).fallen ∧
    (fallenHop.setPort 79 { fallenHop.port 79 with pronk := some (pronk true none) }).Runs ∧
    (fallenHop.setPort 79 { fallenHop.port 79 with pronk := some (pronk true none) }).fld (F.TRL_BRUP_CFG_UP_HOLD_S 79) ≠ 0 ∧
    ((fallenHop.setPort 79 { fallenHop.port 79 with pronk := some (pronk true none) }).port 79).pronk ≠ none := by decide +kernel
def polled (n : Nat) : State := (up.setFlag (F.NODE_ENT_PRESENT 511) true).setPort 63 { portReset 63 with polls := [(7, n)] }
theorem wit_ChainTimers_poll : (polled 2).Runs ∧ isLane 63 = false ∧ (polled 2).flag (F.NODE_ENT_PRESENT (nodeAddr 63 7)) = true ∧
    tblGet zeroN ((polled 2).port 63).polls 7 < 3 ∧ (polled 3).flag (F.NODE_ENT_PRESENT (nodeAddr 63 7)) = true ∧
    3 ≤ tblGet zeroN ((polled 3).port 63).polls 7 := by decide +kernel
/-- A trunk with eight virtual nodes behind lane 15, the last not answering. -/
def polledLane : State := (up.setFld (F.TRL_BRUP_STAT_NODES 79) 8).setPort 79 { portReset 79 with polls := [(7, 3)] }
theorem wit_ChainTimers_pollLane : polledLane.Runs ∧ isLane 79 = true ∧ (7 : Fin 8).val < polledLane.fld (F.TRL_BRUP_STAT_NODES 79) ∧
    3 ≤ tblGet zeroN (polledLane.port 79).polls 7 := by decide +kernel
theorem wit_ChainTimers_stop : (up.setPort 79 { portReset 79 with stopped := true }).start.phase = .run ∧
    ((up.setPort 79 { portReset 79 with stopped := true }).port 79).stopped = true := by decide +kernel
/-- A port whose engine tries again; lanes 0, 12 and 15 are enabled. -/
def trying (p : Nat) : State := (((up.setFlag (F.TRL_CFG_EN 64) true).setFlag (F.TRL_CFG_EN 76) true).setFlag (F.TRL_CFG_EN 79) true).setPort p
  { portReset p with redisc := true }
theorem wit_ChainTimers_lane : (trying 79).Runs ∧ ((trying 79).port 79).redisc = true ∧ ((trying 79).port 79).stopped = false ∧
    (trying 79).awaits 79 .query = false ∧ (trying 79).awaits 79 .extend = false ∧ (trying 79).discovers 79 = false := by decide +kernel
theorem wit_ChainTimers_again : (trying 63).Runs ∧ ((trying 63).port 63).redisc = true ∧ ((trying 63).port 63).stopped = false ∧
    (trying 63).awaits 63 .query = false ∧ (trying 63).awaits 63 .extend = false ∧ (trying 63).discovers 63 = true ∧
    (trying 64).discovers 64 = true ∧ ((trying 63).port 63).pos = 0 ∧
    (((trying 63).setPort 63 { (trying 63).port 63 with pos := 7 }).port 63).pos ≠ 0 := by decide +kernel

/-- Stream 1023 comes from VC 3 of node 511. -/
def streamed : State := (up.setFld (F.ING_ENT0_NA 1023) 511).setFld (F.ING_ENT0_VC 1023) 3
    |>.setFlag (F.ING_ENT0_VALID 1023) true
/-- A session of node 511 in force. -/
def session : SessSt := { sessReset with sid := 7, key := [1#8] }
def sessioned : State := (up.setSess 511 session).setFld (F.SEC_NODE_STAT_STATE 511) 2
theorem wit_NodeReports_any : up.start.phase = .run := by decide +kernel
/-- Node 510 is present. -/
def nodeBefore : State := up.setFlag (F.NODE_ENT_PRESENT 510) true
theorem wit_NodeReports_link : nodeBefore.start.phase = .run ∧ nodeBefore.flag (F.NODE_ENT_PRESENT (nodeAddr 63 6)) = true ∧
    (6 : Fin 8).val < 7 := by decide +kernel
theorem wit_NodeReports_slot : 63 < 64 ∧ (((noded.setFld (F.TUN_STAT_STATE 63) 2) : State).fld (F.TUN_STAT_STATE 63) = 2) := by
  decide +kernel
theorem wit_NodeReports_lane : up.start.phase = .run ∧ isLane 79 = true := by decide +kernel
/-- Node 511 is present, and its stream placed. -/
def reporting : State := streamed.setFlag (F.NODE_ENT_PRESENT 511) true
theorem wit_NodeReports_sensor : reporting.start.phase = .run ∧ (((reporting.log 118 (reporting.nodeSrc 63 7) (det 4 0)).naAt 63 7).bind
    fun na => (reporting.log 118 (reporting.nodeSrc 63 7) (det 4 0)).entryOf na 3) = some 1023 ∧
    (((reporting.log 118 (reporting.nodeSrc 63 7) (det 4 0)).naAt 63 7).bind
    fun na => (reporting.log 118 (reporting.nodeSrc 63 7) (det 4 0)).entryOf na 2) = none := by
  decide +kernel
theorem wit_NodeReports_session : sessioned.start.phase = .run ∧ tblOpt sessioned.link.sess (keyNode 63 7) = some session := by
  decide +kernel

/-- A sensor end with n virtual nodes. -/
def sensing (n : Nat) : State := senEnd.setSensor 63 { sensorReset 63 with
  nodes := List.replicate n ⟨5, [], 4, 3, 0⟩, looping := true, loopPos := 7, training := true }
theorem wit_SensorDiscovery_query : (sensing 7).SensorUp 63 ∧ ((sensing 7).sensor (sensorPort 63)).nodes.length < 8 := by
  decide +kernel
theorem wit_SensorDiscovery_node : (sensing 8).SensorUp 63 ∧ (7 : Fin 8).val < ((sensing 8).sensor (sensorPort 63)).nodes.length := by
  decide +kernel
theorem wit_SensorRates_result : (sensing 8).SensorUp 63 ∧
    ((sensing 8).sensor (sensorPort 63)).nodes[(7 : Fin 8).val]? = some ⟨5, [], 4, 3, 0⟩ := by decide +kernel
theorem wit_SensorRates_switch : (sensing 8).SensorUp 63 ∧ (sensing 8).switchOk 63 (0x80#8).toNat 3 = true := by decide +kernel
theorem wit_SensorRates_commit : (sensing 8).SensorUp 63 ∧ ((sensing 8).sensor 63).training = true ∧
    ((sensing 8).sensor 63).looping = true ∧ ((sensing 8).sensor 63).loopPos = (7 : Fin 8).val := by decide +kernel

def queued : State := { up with link := { linkReset with keyQueue := [511] } }
theorem wit_KeyExchange_start : queued.Runs ∧ queued.link.sess.countP (fun c => c.2.engine) < 4 ∧
    (queued.nextKeyNode.map fun x => (x.1, x.2.1)) = some (511, false) ∧ 511 < 516 := by decide +kernel
/-- A hello of session 7. -/
def hello : List KeyFrag := [⟨0, 2, 1#8 :: 7#8 :: List.replicate 18 0⟩, ⟨1, 2, List.replicate 14 0⟩]
theorem wit_KeyExchange_hello : keyMessage hello = some (1#8 :: 7#8 :: List.replicate 32 0) ∧
    (1#8 :: 7#8 :: List.replicate 32 0#8).length = 34 ∧ up.lc ≠ 3 := by decide +kernel
/-- A done of session 7 that confirms it. -/
def doneFrags : List KeyFrag := [⟨0, 1, 1#8 :: 7#8 :: confirm "node" [] []⟩]
def exchanged : State := (asking 63 (.keyFinish 511)).setSess 511 { sessReset with sid := 7 }
theorem wit_KeyExchange_done : exchanged.Runs ∧ keyMessage doneFrags = some (1#8 :: 7#8 :: confirm "node" [] []) ∧
    exchanged.awaits (State.keyPort exchanged (keyNode 63 7)) (.keyFinish (keyNode 63 7)) = true ∧
    keyFor (exchanged.sess (keyNode 63 7)).sid (1#8 :: 7#8 :: confirm "node" [] []) = true ∧
    (1#8 :: 7#8 :: confirm "node" [] []).drop 2 =
      confirm "node" (exchanged.sess (keyNode 63 7)).kConf (exchanged.sess (keyNode 63 7)).th := by decide +kernel
/-- A sensor end with a session at position 7. -/
def senKeyed : State := senEnd.setSensor 63 { sensorReset 63 with sess := [(7, ⟨7, [], [], [], 0, [], [], []⟩)] }
theorem wit_KeyExchange_end : senKeyed.SensorUp 63 ∧ keyMessage [⟨0, 1, [1#8, 7#8]⟩] = some [1#8, 7#8] ∧
    tblOpt (senKeyed.sensor (sensorPort 63)).sess 7 = some ⟨7, [], [], [], 0, [], [], []⟩ ∧
    keyFor (⟨7, [], [], [], 0, [], [], []⟩ : NodeSess).sid [1#8, 7#8] = true := by decide +kernel
theorem wit_KeyExchange_retry : (sessioned.setFld (F.SEC_NODE_STAT_REASON 511) 1).Runs ∧
    ((sessioned.setFld (F.SEC_NODE_STAT_REASON 511) 1).sess 511).engine = false ∧
    ((sessioned.setFld (F.SEC_NODE_STAT_REASON 511) 1).sess 511).hello = [] ∧
    ((sessioned.setFld (F.SEC_NODE_STAT_REASON 511) 1).sess 511).key ≠ [] ∧
    (sessioned.setFld (F.SEC_NODE_STAT_REASON 511) 1).fld (F.SEC_NODE_STAT_REASON 511) ≠ 0 := by decide +kernel
theorem wit_KeyExchange_due : sessioned.start.phase = .run ∧ sessioned.fld (F.SEC_NODE_STAT_STATE 511) = 2 := by decide +kernel

/-- Stream 1023 placed: its node is assigned, its delay known, its ring holds a page, herd 255 is open with its layout. -/
def placement : Placement := { ins := [(1023, ⟨[0], [0], 0, none, 0, 0⟩)], outs := [], chans := [] }
def sofUp : State :=
  let s := ((streamed.setFlag (F.TRL_CFG_EN 63) true).setFlag (F.NODE_ENT_PRESENT 511) true).setFlag (F.TIME_NODE_DLY_VALID 511) true
  let s := s.setStr 1023 { strReset 1023 with q := { (strReset 1023).q with ring := [0] } }
  { s with
    time := { s.time with hist := [⟨0, 255, 30⟩] }
    herds := [{ openHerd with num := 255 }]
    plc := { s.plc with layouts := [(0, placement)] } }
def sofBlock (herd : Byte) : SofBlock := ⟨3, 0x2A#6, 9#32, BitVec.ofNat 16 (sofUp.strLines 1023),
  BitVec.ofNat 16 (sofUp.fld (F.ING_ENT1_WIDTH 1023)), herd, 0#32, 0⟩
/-- The node's delay is not known. -/
def undelayed : State := sofUp.setFlag (F.TIME_NODE_DLY_VALID 511) false
/-- A frame of the stream has come in the herd already. -/
def again : State := sofUp.setStr 1023 ((sofUp.str 1023).addCount 255)
theorem wit_FramesArrive_sof : sofUp.HubUp 63 ∧ sofUp.naAt 63 7 = some 511 ∧
    sofUp.entryOf 511 (sofBlock 255).vc = some 1023 ∧ sofUp.fld (F.ING_ENT0_NA 1023) = 511 ∧ (sofUp.str 1023).q.ok = true ∧
    sofUp.flag (F.TIME_NODE_DLY_VALID 511) = true ∧
    (sofBlock 255).width.toNat = sofUp.fld (F.ING_ENT1_WIDTH 1023) ∧ (sofBlock 255).lines.toNat = sofUp.strLines 1023 ∧
    sofUp.matchHerd (sofBlock 255).herd.toNat = some 255 ∧ sofUp.memberOf 1023 255 = true ∧ (sofUp.str 1023).q.ring ≠ [] ∧
    (sofUp.str 1023).countOf 255 < (sofUp.streamRatio 1023).frames := by decide +kernel
theorem wit_FramesArrive_overrun : again.HubUp 63 ∧ again.naAt 63 7 = some 511 ∧ again.entryOf 511 3 = some 1023 ∧
    again.fld (F.ING_ENT0_NA 1023) = 511 ∧ (again.str 1023).q.ok = true ∧ again.flag (F.TIME_NODE_DLY_VALID 511) = true ∧
    (sofBlock 255).width.toNat = again.fld (F.ING_ENT1_WIDTH 1023) ∧ (sofBlock 255).lines.toNat = again.strLines 1023 ∧
    again.matchHerd 255 = some 255 ∧ (again.streamRatio 1023).frames ≤ (again.str 1023).countOf 255 := by decide +kernel
theorem wit_FramesArrive_reject : (sofUp.matchHerd (sofBlock 254).herd.toNat).isNone = true ∧
    (sofBlock 255).width.toNat + 1 ≠ sofUp.fld (F.ING_ENT1_WIDTH 1023) ∧
    undelayed.HubUp 63 ∧ undelayed.naAt 63 7 = some 511 ∧ undelayed.entryOf 511 3 = some 1023 ∧
    undelayed.fld (F.ING_ENT0_NA 1023) = 511 ∧ (undelayed.str 1023).q.ok = true ∧
    isLane 63 = false ∧ undelayed.flag (F.TIME_NODE_DLY_VALID 511) = false := by decide +kernel
/-- The frame that the SOF opens; one that was rejected. -/
def framed : State := sofUp.acceptSof (sessIx 63 511) 1023 255 (sofBlock 255)
def refusedFrame : State := sofUp.rejectSof 1023 9
theorem wit_FramesArrive_eof : framed.HubUp 63 ∧ framed.naAt 63 7 = some 511 ∧
    framed.entryOf 511 3 = some 1023 ∧ (framed.str 1023).rejected ≠ some (9#32).toNat ∧
    (framed.str 1023).openFrame.map (·.frame) = some (9#32).toNat := by decide +kernel
theorem wit_FramesArrive_eofNone : sofUp.HubUp 63 ∧ sofUp.naAt 63 7 = some 511 ∧ sofUp.entryOf 511 3 = some 1023 ∧
    (sofUp.str 1023).rejected ≠ some (9#32).toNat ∧ (sofUp.str 1023).openFrame.isNone = true ∧ refusedFrame.HubUp 63 ∧
    refusedFrame.naAt 63 7 = some 511 ∧ refusedFrame.entryOf 511 3 = some 1023 ∧
    (refusedFrame.str 1023).rejected = some (9#32).toNat := by decide +kernel
theorem wit_FramesArrive_noEntry : sofUp.HubUp 63 ∧ ((sofUp.naAt 63 7).bind fun na => sofUp.entryOf na 2) = none ∧
    ((sofUp.naAt 63 6).bind fun na => sofUp.entryOf na 3) = none := by decide +kernel
/-- A container of one byte: TYPE C, LEN 1, its header check. -/
def header : List Byte := [0xC0#8, 0, 0, 0, 0, 0, 0, 0, 0, 0, 0, 0, 1, 0]
def box : List Byte := (header ++ [BitVec.ofNat 8 (crc8 header), 0]) ++ List.replicate 16 0
theorem wit_FramesArrive_container : sofUp.HubUp 63 ∧ headerOk (box.take 16) = true ∧ (sofUp.port 63).hunt = false ∧
    box.length = 32 * segBlocks (ofLe ((box.drop 12).take 2)) ((box.getD 0 0).toNat.testBit 2) := by decide +kernel
theorem wit_FramesArrive_bad : headerOk ((List.replicate 32 0#8).take 16) = false ∧ List.replicate 32 0#8 ≠ [] ∧
    (List.replicate 32 0#8).length ≤ 32 ∧ (sofUp.port 63).hunt = false := by decide +kernel

theorem wit_LineStore_writes : up.Admits .bar0 (A.LST_Q_CTRL 1023) false ∧ up.Admits .bar0 (A.LST_Q_WM_STAT 1023) false := by
  decide +kernel
theorem wit_LineStore_scrub : up.start.phase = .run ∧ (⟨63, 1535, 1, [15]⟩ : RowErr).lost ≠ [] ∧
    (⟨63, 1535, 0, []⟩ : RowErr).lost = [] ∧ (⟨63, 1535, 0, []⟩ : RowErr).fixed < max 1 (up.fld F.LST_SCRUB_CFG_ROW_CE_LIM) := by
  decide +kernel
def lostLine : QLine := ⟨0, 0, 9, 0, 0, 0, 255, 0, 0x2A, [], [], true, false⟩
def stored : State := up.setStr 1023 { strReset 1023 with q := { (strReset 1023).q with lines := [lostLine], ring := [0] } }
theorem wit_LineStore_read : stored.start.phase = .run ∧ (stored.str (stored.pickStream 1023)).q.ok = true ∧
    (stored.str 1023).q.unread = some lostLine ∧ lostLine.ue = true := by decide +kernel

/-- The audit of slice 5 by slice 33 has drawn line 7 of stream 9; slice 33 alone is suspected. -/
def auditing : State := { up with plc := { plcReset with
  audit := some ⟨33, 5, 2, 7, 1, [], some (9, 7)⟩, suspect := some (33, 0, 0, false) } }
theorem wit_SlicesAndTables_audit : auditing.start.phase = .run ∧
    (auditing.plc.audit.bind fun a => a.line) = some (9, 7) ∧ auditing.mode ≠ 3 ∧
    ((({ (auditing.count48 A.PLC_AUDIT_CNT_LO 1).setFld F.PLC_AUDIT_STAT_TARGET 5 with
      plc := { ((auditing.count48 A.PLC_AUDIT_CNT_LO 1).setFld F.PLC_AUDIT_STAT_TARGET 5).plc with audit := none } } : State).auditMismatch
        33 5 9 7).mode ≠ 3) ∧
    auditing.plc.suspect = some (33, 0, 0, false) ∧ auditing.plc.confirmed.contains 33 = false ∧
    auditing.plc.leaving.contains 33 = false := by decide +kernel
theorem wit_SlicesAndTables_live : up.Admits .bar0 (A.SLC_STR_LIVE 1023) false ∧ up.Admits .bar0 (A.ROI_POS 4095) false ∧
    (up.reached .bar0).roiFits 4095 (fldGet 0#32 0 15) (fldGet 0#32 16 15) = true ∧
    (up.reached .bar0).roiFits 4095 (fldGet 1#32 0 15) (fldGet 1#32 16 15) = false := by decide +kernel
theorem wit_SlicesAndTables_table : svc.Admits .bar0 tblBase false ∧ inTbl (tblBase + 60) 4 = true ∧ (tblBase + 60) % 4 = 0 ∧
    [1#8, 2, 3, 4].length % 4 = 0 ∧ [1#8, 2, 3, 4] ≠ [] ∧ (tblBase + 60) % 64 + [1#8, 2, 3, 4].length ≤ 64 ∧
    (svc.reached .bar0).blockShut ((svc.reached .bar0).tblPart (tblBase + 60 - tblBase) [1#8, 2, 3, 4] false 0)
      ((tblBase + 60 - tblBase) / 64) = false ∧ up.Admits .bar0 tblBase false ∧
    (up.reached .bar0).blockShut ((up.reached .bar0).tblPart (tblBase + 60 - tblBase) [1#8, 2, 3, 4] false 0)
      ((tblBase + 60 - tblBase) / 64) = true := by decide +kernel
theorem wit_SlicesAndTables_bist : (svc.setFld (F.SLC_STAT_STATE 33) 1).Admits .bar0 (A.SLC_SVC_CTRL 33) true ∧
    bitOn 1#32 1 = false ∧ (svc.setFld (F.SLC_STAT_STATE 33) 1).fld (F.SLC_STAT_STATE 33) = 1 ∧
    (svc.setFld (F.SLC_STAT_STATE 33) 1).plc.audit = none ∧ (svc.setFld (F.SLC_STAT_STATE 33) 2).Admits .bar0 (A.SLC_SVC_CTRL 33) true ∧
    (svc.setFld (F.SLC_STAT_STATE 33) 2).fld (F.SLC_STAT_STATE 33) ≠ 1 ∧
    (svc.setFld (F.SLC_STAT_STATE 33) 2).fld (F.SLC_STAT_STATE 33) ≠ 4 := by decide +kernel
/-- A slice's built-in test runs, the slice in a state. -/
def testing (st : Nat) : State := (up.setFld (F.SLC_STAT_STATE 33) st).setFld (F.SLC_SVC_STAT_STATE 33) 1
theorem wit_SlicesAndTables_done : (testing 1).start.phase = .run ∧ (testing 1).fld (F.SLC_SVC_STAT_STATE 33) = 1 ∧
    (testing 1).fld (F.SLC_STAT_STATE 33) = 1 ∧ (testing 4).start.phase = .run ∧ (testing 4).fld (F.SLC_SVC_STAT_STATE 33) = 1 ∧
    (testing 4).fld (F.SLC_STAT_STATE 33) ≠ 1 := by decide +kernel
def retired (st : Nat) : State := (svc.setFld (F.SLC_STAT_STATE 33) 4).setFld (F.SLC_SVC_STAT_STATE 33) st
theorem wit_SlicesAndTables_return : (retired 2).Admits .bar0 (A.SLC_SVC_CTRL 33) true ∧ bitOn 2#32 0 = false ∧
    (retired 2).fld (F.SLC_STAT_STATE 33) = 4 ∧ (retired 2).fld (F.SLC_SVC_STAT_STATE 33) = 2 ∧
    (retired 2).flag (F.SLC_SVC_STAT_LOCK 33) = false ∧ (retired 3).Admits .bar0 (A.SLC_SVC_CTRL 33) true ∧
    (retired 3).fld (F.SLC_SVC_STAT_STATE 33) ≠ 2 := by decide +kernel

theorem wit_PlacementAndGraze_placement : up.Admits .bar0 A.PLC_CTRL false ∧ up.Admits .bar0 A.PLC_LOG_CFG false ∧
    up.flag F.PLC_LOG_CFG_EN = false ∧ ((up.reached .bar0).plainWrite A.PLC_LOG_CFG (0 ||| 1#32)).flag F.PLC_LOG_CFG_EN = true := by
  decide +kernel
/-- The host's ring; as many entries pending. -/
def ringed (n : Nat) : State := (up.setFlag F.GRZ_CTRL_RING true).setFld F.GRZ_STAT_PENDING n
theorem wit_PlacementAndGraze_pi : (ringed 0).Admits .bar0 A.GRZ_PI false ∧ (ringed 0).flag F.GRZ_CTRL_RING = true ∧
    (fldGet 256#32 0 9 + 512 - (ringed 0).grzCiNum) % 512 ≤ 256 ∧
    (ringed 0).grzPending ≤ (fldGet 256#32 0 9 + 512 - (ringed 0).grzCiNum) % 512 ∧
    256 < (fldGet 257#32 0 9 + 512 - (ringed 0).grzCiNum) % 512 ∧ up.Admits .bar0 A.GRZ_PI false ∧
    up.flag F.GRZ_CTRL_RING = false := by decide +kernel
theorem wit_PlacementAndGraze_back : (ringed 256).Admits .bar0 A.GRZ_PI false ∧ (ringed 256).flag F.GRZ_CTRL_RING = true ∧
    (fldGet 255#32 0 9 + 512 - (ringed 256).grzCiNum) % 512 ≤ 256 ∧
    (fldGet 255#32 0 9 + 512 - (ringed 256).grzCiNum) % 512 < (ringed 256).grzPending := by
  decide +kernel
/-- The hub's ring; as many entries pending. -/
def submitting (n : Nat) : State := (up.setFlag F.GRZ_CTRL_RING false).setFld F.GRZ_STAT_PENDING n
theorem wit_PlacementAndGraze_submit : (submitting 255).Admits .bar0 A.GRZ_SUBMIT false ∧ (submitting 255).flag F.GRZ_CTRL_RING = false ∧
    (submitting 255).grzPending < 256 ∧ (submitting 256).Admits .bar0 A.GRZ_SUBMIT false ∧
    (submitting 256).flag F.GRZ_CTRL_RING = false ∧ 256 ≤ (submitting 256).grzPending ∧ (ringed 0).Admits .bar0 A.GRZ_SUBMIT false := by
  decide +kernel
theorem wit_PlacementAndGraze_ring : up.Admits .bar0 A.GRZ_CTRL false ∧ bitOn 0#32 1 = false ∧ up.grzPending = 0 ∧
    up.grz.serve = none ∧ bitOn 0#32 0 = up.flag F.GRZ_CTRL_RING ∧ (submitting 1).Admits .bar0 A.GRZ_CTRL false ∧
    (submitting 1).grzPending ≠ 0 := by decide +kernel
/-- A request for pixels (0,0) to (1,1) of stream 1023's frame of herd 0, packed in 16-bit words, into one page at 4096. -/
def crop : GrzReq := [0xFF#8, 3, 0, 0, 0, 0, 0, 0, 0, 0, 0, 0, 2, 0, 2, 0, 0, 0, 0x20, 0, 0, 0, 1, 0, 0, 0x10, 0, 0, 0, 0, 0, 0]
/-- Its frame, kept. -/
def keptFrame : FrameRec := {
  id := 4, frame := 9, ses := 511, key := [], herd := 0, sub := 0, sofTs := 0, live := ⟨[], 0, []⟩,
  commits := 0, shares := [33], first := 0, last := none, stored := 0, lastEmb := none, embs := 0, cut := false, ended := true,
  bad := false, inTime := true, retained := true, failed := [], lastFailed := [], ctx := [], emitted := [], stats := [],
  statSent := [], s4 := 0, routed := [], unsent := [], done := true }
/-- A hub in Drive that masters; one entry of the graze ring waits, which is not valid. -/
def taking : State := (({ drv with ep := { drv.ep with bme := true } } : State).setFlag
  F.HEP_LINK_STAT_DL_UP true).setFld F.GRZ_STAT_PENDING 1
/-- The entry is `crop`, grazing is enabled with budgets left, stream 1023 retains frames of 8×8 pixels and slice 33 serves. -/
def takes : State :=
  let s := ((List.range 8).foldl (fun s w => s.setReg (A.GRZ_Q 0 w) (BitVec.ofNat 32 (ofLe ((crop.drop (4 * w)).take 4)))) taking)
  let s := ((s.setFlag F.GRZ_CFG_EN true).setFlag (F.ING_ENT0_VALID 1023) true).setFlag (F.ING_ENT0_RETAIN 1023) true
  let s := ((s.setFld (F.ING_ENT1_WIDTH 1023) 8).setFld (F.ING_ENT1_LINES 1023) 8).setFld (F.SLC_STAT_STATE 33) 2
  let s := ((s.setReg A.GRZ_BUDGET_CYC 65535).setReg A.GRZ_BUDGET_LST 65535).setReg A.GRZ_BUDGET_HOST 65535
  s.setStr 1023 { strReset 1023 with frames := [keptFrame] }
theorem wit_PlacementAndGraze_take : taking.start.phase = .run ∧ taking.grzServes = true ∧ taking.grz.serve = none ∧
    taking.grzPending ≠ 0 ∧
    taking.grzPop.grzValid (taking.grzEntry (taking.fld F.GRZ_CI_IDX)) (taking.grzPoisoned (taking.fld F.GRZ_CI_IDX)) = false := by
  decide +kernel
theorem wit_PlacementAndGraze_serve : takes.start.phase = .run ∧ takes.grzServes = true ∧ takes.grz.serve = none ∧
    takes.grzPending ≠ 0 ∧ takes.fld F.GRZ_CI_IDX = 0 ∧ takes.grzEntry 0 = crop ∧
    takes.grzPop.grzValid crop (takes.grzPoisoned 0) = true ∧ takes.grzPop.grzTooLong crop = false ∧
    takes.grzPop.grzTooDear crop = false ∧ takes.grzPop.grzMatch crop = .inl keptFrame ∧
    takes.grzPop.grzSlice crop = some 33 ∧ GrzReq.outH crop ≠ 0 := by decide +kernel
/-- A graze request with budgets left, served by slice 33. -/
def served : State := { takes with
  grz := { grzReset with serve := some ⟨crop, 4, 0, 33, 0, 0, 0, 0, []⟩, cyc := 1000000, lst := 1000000, host := 1000000 } }
theorem wit_PlacementAndGraze_read : served.start.phase = .run ∧ (match (State.grzWrite 16384 served.grzMove).grzBarred.grz.serve with
    | some v => decide (v.next ≤ GrzReq.needs v.req ((State.grzWrite 16384 served.grzMove).grzBarred.grzGeo v.req) v.done) &&
      decide (((State.grzWrite 16384 served.grzMove).grzBarred.grzCharge v.req).1 ≤ (State.grzWrite 16384 served.grzMove).grzBarred.grz.cyc) &&
      decide (((State.grzWrite 16384 served.grzMove).grzBarred.grzCharge v.req).2.1 ≤ (State.grzWrite 16384 served.grzMove).grzBarred.grz.lst) &&
      decide (((State.grzWrite 16384 served.grzMove).grzBarred.grzCharge v.req).2.2 ≤ (State.grzWrite 16384 served.grzMove).grzBarred.grz.host)
    | none => false) = true := by decide +kernel

/-- Channel 254 enabled, in a state, with a ring of 16 entries. -/
def chanUp (st : Nat) : State := ((up.setFld F.PLC_CFG_DC_NUM 8).setFlag (F.DMA_CH_CFG_EN 254) true).setChState 254 st
def desc (op addr aux len : Nat) : Desc := ⟨0, 0, leBytes 8 addr ++ leBytes 8 aux ++ leBytes 4 len ++ leBytes 1 op ++ List.replicate 11 0⟩
/-- One entry of it is pending. -/
def chanOne : State := (chanUp chRun).setFld (F.DMA_CH_PI_IDX 254) 1
theorem wit_ChannelRings_pi : (chanUp chRun).Admits .bar0 (A.DMA_CH_PI 254) false ∧ ((chanUp chRun).reached .bar0).hostBarred 254 = false ∧
    (chanUp chRun).flag (F.DMA_CH_CFG_EN 254) = true ∧
    2 ^ (chanUp chRun).chLog2 254 <
      idxDist ((chanUp chRun).chLog2 254) (fldGet 0x10001#32 0 17) ((chanUp chRun).fld (F.DMA_CH_CI_IDX 254)) ∧
    idxDist ((chanUp chRun).chLog2 254) (fldGet 1#32 0 17) ((chanUp chRun).fld (F.DMA_CH_CI_IDX 254)) ≤ 2 ^ (chanUp chRun).chLog2 254 ∧
    (chanUp chRun).chPending 254 ≤ idxDist ((chanUp chRun).chLog2 254) (fldGet 1#32 0 17) ((chanUp chRun).fld (F.DMA_CH_CI_IDX 254)) ∧
    chanOne.Admits .bar0 (A.DMA_CH_PI 254) false ∧ (chanOne.reached .bar0).hostBarred 254 = false ∧
    chanOne.flag (F.DMA_CH_CFG_EN 254) = true ∧
    idxDist (chanOne.chLog2 254) (fldGet 0#32 0 17) (chanOne.fld (F.DMA_CH_CI_IDX 254)) < chanOne.chPending 254 := by decide +kernel
/-- The channel is software's and not enabled. -/
def chanOff : State := up.setFld F.PLC_CFG_DC_NUM 8
theorem wit_ChannelRings_cfg : chanOff.Admits .bar0 (A.DMA_CH_CFG 254) false ∧ chanOff.Admits .bar0 (A.DMA_CH_PI 254) false ∧
    chanOff.hostBarred 254 = false ∧
    chanOff.flag (F.DMA_CH_CFG_EN 254) = false ∧ bitOn 1#32 0 = true ∧ (chanUp chRun).Admits .bar0 (A.DMA_CH_CFG 254) false ∧
    (chanUp chRun).flag (F.DMA_CH_CFG_EN 254) = true ∧ bitOn 0#32 0 = false ∧ (chanUp chRun).chState 254 = chRun ∧
    (chanUp chIdle).chState 254 = chIdle ∧ (chanUp chStopped).chState 254 = chStopped ∧ (chanUp chHalted).chState 254 = chHalted := by
  decide +kernel
def headed (d : Desc) : State := (chanUp chRun).setChan 254 { chanReset 254 with head := some d }
theorem wit_ChannelRings_begin : (headed (desc 1 64 0x2100000 64)).start.phase = .run ∧
    ((headed (desc 1 64 0x2100000 64)).chan 254).head = some (desc 1 64 0x2100000 64) ∧ (headed (desc 1 64 0x2100000 64)).chGoes 254 = true ∧
    (headed (desc 1 64 0x2100000 64)).chCause (desc 1 64 0x2100000 64) = 0 ∧ (desc 1 64 0x2100000 64).op = 1 ∧
    (headed (desc 2 64 0x2100000 64)).chCause (desc 2 64 0x2100000 64) = 0 ∧ (desc 2 64 0x2100000 64).op = 2 ∧
    (headed (desc 3 64 0 64)).chCause (desc 3 64 0 64) = 0 ∧ (desc 3 64 0 64).op = 3 ∧
    (headed (desc 4 0x2100000 5 64)).chCause (desc 4 0x2100000 5 64) = 0 ∧ (desc 4 0x2100000 5 64).op = 4 ∧
    (headed (desc 5 64 0x2100000 64)).chCause (desc 5 64 0x2100000 64) = 0 ∧ (desc 5 64 0x2100000 64).op = 5 ∧
    (headed (desc 7 0 0 0)).chCause (desc 7 0 0 0) = 0 ∧ (desc 7 0 0 0).op = 7 := by decide +kernel
theorem wit_ChannelRings_link : (headed (desc 6 32 0 0)).chCause (desc 6 32 0 0) = 0 ∧ (desc 6 32 0 0).op = 6 ∧
    (headed (desc 6 32 0 0)).fld (F.DMA_CH_STAT_LINKS 254) < 16 ∧
    16 ≤ ((headed (desc 6 32 0 0)).setFld (F.DMA_CH_STAT_LINKS 254) 16).fld (F.DMA_CH_STAT_LINKS 254) ∧
    ((headed (desc 6 32 0 0)).setFld (F.DMA_CH_STAT_LINKS 254) 16).chGoes 254 = true := by decide +kernel
/-- The heads whose address or length fails the check of their kind. -/
theorem wit_ChannelRings_bad : (headed (desc 1 64 0 64)).chGoes 254 = true ∧
    ((headed (desc 1 64 0 64)).chan 254).head = some (desc 1 64 0 64) ∧ [desc 1 64 0 64, desc 2 64 0 64, desc 3 64 0 0, desc 4 0 0 64,
      desc 5 64 0 64, desc 6 1 0 0].all (fun d => (headed d).chCause d != 0) = true ∧
    [desc 1 64 0 64, desc 2 64 0 64, desc 3 64 0 0, desc 4 0 0 64, desc 5 64 0 64, desc 6 1 0 0].map (·.op) = [1, 2, 3, 4, 5, 6] := by
  decide +kernel
def ending : State := (chanUp chRun).setChan 254 { chanReset 254 with
  cur := some ⟨desc 7 0 0 0, 0, 0, 0, [], none, none, none, none, some (0, 0)⟩ }
theorem wit_ChannelRings_done : ending.start.phase = .run ∧
    ((ending.chan 254).cur.map fun r => r.ended) = some (some (0, 0)) ∧ ending.chGoes 254 = true := by decide +kernel

theorem wit_ChannelControl : (chanUp chRun).Admits .bar0 (A.DMA_CH_CTRL 254) false ∧ (chanUp chRun).hostBarred 254 = false ∧
    0#32 &&& 0xF#32 = 0#32 ∧ (chanUp chRun).chGoes 254 = true ∧ (chanUp chPaused).chGoes 254 = false ∧
    (chanUp chPaused).Admits .bar0 (A.DMA_CH_CTRL 254) false ∧ (chanUp chRun).flag (F.DMA_CH_CFG_PACE 254) = false ∧ (chanUp chPaused).chState 254 = chPaused ∧
    ((chanUp chRun).setFlag (F.DMA_CH_CFG_PACE 254) true).Admits .bar0 (A.DMA_CH_CTRL 254) false ∧
    ((chanUp chRun).setFlag (F.DMA_CH_CFG_PACE 254) true).flag (F.DMA_CH_CFG_PACE 254) = true ∧
    (chanUp chRun).chState 254 = chRun ∧ ((chanUp chRun).chan 254).cur = none := by decide +kernel
theorem wit_ChannelControl_paused : (chanUp chPausing).start.phase = .run ∧ (chanUp chPausing).chState 254 = chPausing ∧
    (chanUp chPausing).chReads 254 = 0 ∧ (chanUp chPausing).chFetches 254 = 0 := by decide +kernel
theorem wit_ChannelControl_req : ((chanUp chRun).setFld (F.DMA_CH_STAT_REQ_PEND 254) 254).fld (F.DMA_CH_STAT_REQ_PEND 254) < 255 ∧
    255 ≤ ((chanUp chRun).setFld (F.DMA_CH_STAT_REQ_PEND 254) 255).fld (F.DMA_CH_STAT_REQ_PEND 254) := by decide +kernel

theorem wit_PoolsQueuesInterrupts_pool : up.Admits .bar0 (A.DMA_POOL_PI 63) false ∧
    2 ^ up.poolLog2 63 < idxDist (up.poolLog2 63) (fldGet 0x10001#32 0 17) (up.fld (F.DMA_POOL_CI_IDX 63)) ∧
    idxDist (up.poolLog2 63) (fldGet 0x10000#32 0 17) (up.fld (F.DMA_POOL_CI_IDX 63)) ≤ 2 ^ up.poolLog2 63 ∧
    idxDist (up.poolLog2 63) (up.fld (F.DMA_POOL_PI_IDX 63)) (up.fld (F.DMA_POOL_CI_IDX 63)) ≤
      idxDist (up.poolLog2 63) (fldGet 0x10000#32 0 17) (up.fld (F.DMA_POOL_CI_IDX 63)) := by decide +kernel
/-- One entry of the pool is pending. -/
def poolOne : State := up.setFld (F.DMA_POOL_PI_IDX 63) 1
theorem wit_PoolsQueuesInterrupts_back : poolOne.Admits .bar0 (A.DMA_POOL_PI 63) false ∧
    idxDist (poolOne.poolLog2 63) (fldGet 0#32 0 17) (poolOne.fld (F.DMA_POOL_CI_IDX 63)) <
      idxDist (poolOne.poolLog2 63) (poolOne.fld (F.DMA_POOL_PI_IDX 63)) (poolOne.fld (F.DMA_POOL_CI_IDX 63)) := by decide +kernel
theorem wit_PoolsQueuesInterrupts_enable : up.Admits .bar0 (A.CQ_CFG 63) false ∧ up.flag (F.CQ_CFG_EN 63) = false ∧
    ((up.reached .bar0).plainWrite (A.CQ_CFG 63) (0 ||| 1#32)).flag (F.CQ_CFG_EN 63) = true ∧
    (up.setFlag (F.CQ_CFG_EN 63) true).Admits .bar0 (A.CQ_CFG 63) false ∧ (up.setFlag (F.CQ_CFG_EN 63) true).flag (F.CQ_CFG_EN 63) = true ∧
    (((up.setFlag (F.CQ_CFG_EN 63) true).reached .bar0).plainWrite (A.CQ_CFG 63) (0 ||| 1#32)).flag (F.CQ_CFG_EN 63) = true := by
  decide +kernel
/-- Queue 63 holds three records; its consumer stands at one. -/
def filled : State := (up.setFld (F.CQ_PI_IDX 63) 3).setFld (F.CQ_CI_IDX 63) 1
theorem wit_PoolsQueuesInterrupts_ci : filled.Admits .bar0 (A.CQ_CI 63) false ∧
    2 ^ filled.cqLog2 63 < idxDist (filled.cqLog2 63) (filled.fld (F.CQ_PI_IDX 63)) (fldGet 4#32 0 17) ∧
    tblGet zeroN filled.dma.cqLag 63 < idxDist (filled.cqLog2 63) (filled.fld (F.CQ_PI_IDX 63)) (fldGet 4#32 0 17) ∧
    filled.flag (F.CQ_CFG_IRQ_EN 63) = false ∧
    idxDist (filled.cqLog2 63) (filled.fld (F.CQ_PI_IDX 63)) (fldGet 3#32 0 17) ≤ 2 ^ filled.cqLog2 63 ∧
    idxDist (filled.cqLog2 63) (filled.fld (F.CQ_PI_IDX 63)) (fldGet 3#32 0 17) ≤
      idxDist (filled.cqLog2 63) (filled.fld (F.CQ_PI_IDX 63)) (filled.fld (F.CQ_HEAD_IDX 63)) := by decide +kernel
/-- Twenty records in queue 63's ring of sixteen; nothing consumed. -/
def lapped : State := ((up.setFld (F.CQ_PI_IDX 63) 0x10004).setFld (F.CQ_HEAD_IDX 63) 4).setCqLag 63 20
theorem wit_PoolsQueuesInterrupts_behind : lapped.Admits .bar0 (A.CQ_CI 63) false ∧
    lapped.flag (F.CQ_CFG_IRQ_EN 63) = false ∧
    idxDist (lapped.cqLog2 63) (lapped.fld (F.CQ_PI_IDX 63)) (fldGet 3#32 0 17) ≤ tblGet zeroN lapped.dma.cqLag 63 ∧
    idxDist (lapped.cqLog2 63) (lapped.fld (F.CQ_PI_IDX 63)) (lapped.fld (F.CQ_HEAD_IDX 63)) <
      idxDist (lapped.cqLog2 63) (lapped.fld (F.CQ_PI_IDX 63)) (fldGet 3#32 0 17) := by decide +kernel
theorem wit_PoolsQueuesInterrupts_clear : up.Admits .bar0 (A.CQ_WM_STAT 63) false ∧ up.Admits .bar0 (A.DMA_POOL_WM_STAT 63) false ∧
    up.Admits .bar0 (A.HEP_IRQ_PEND 41) false := by decide +kernel

/-- Tag 9 outstanding for channel 254's data; tag 10 in quarantine. -/
def tagged : State := { up with hep := { up.hep with tags := [⟨9, .data 254 0 64, false⟩], quar := [10] } }
/-- Tag 11 outstanding for a reader that is gone. -/
def discarded : State := { tagged with hep := { tagged.hep with tags := [⟨11, .data 254 0 64, true⟩] } }
theorem wit_HostTraffic_tag : tagged.start.phase = .run ∧
    tagged.hep.tags.find? (fun t => t.tag == 9) = some ⟨9, .data 254 0 64, false⟩ ∧
    (⟨9, .data 254 0 64, false⟩ : TagSt).discard = false ∧ tagged.hep.tags.find? (fun t => t.tag == 10) = none ∧
    10 ∈ tagged.hep.quar ∧ tagged.hep.tags.find? (fun t => t.tag == 767) = none ∧ discarded.start.phase = .run ∧
    discarded.hep.tags.find? (fun t => t.tag == 11) = some ⟨11, .data 254 0 64, true⟩ := by decide +kernel
/-- Memory space is not enabled. -/
def unopened : State := { up with ep := epReset }
def barReq (write poisoned : Bool) (ofs : Nat) (buf : BufErr) : BarRequest :=
  ⟨write, ofs, 4, if write then [1#8, 0, 0, 0] else [], poisoned, [], buf⟩
theorem wit_HostTraffic_bar2 : up.barAnswers = true ∧ (up.exitL1.bufErr .none).barOpen = true ∧
    (up.exitL1.bufErr .corrected).barOpen = true ∧ (up.exitL1.bufErr .uncorrectable).barOpen = true ∧ unopened.barAnswers = true ∧
    (unopened.exitL1.bufErr .none).barOpen = false ∧ (barReq true false 32764 .uncorrectable).buf = .uncorrectable ∧
    (barReq true true 32764 .corrected).buf ≠ .uncorrectable ∧ (barReq true false 32764 .none).data.length = 4 ∧
    (barReq true false 32764 .none).data = leBytes 4 (1#32).toNat ∧ (barReq true false 32764 .none).ofs = 4 * 8191 := by decide +kernel
/-- Window 63 maps one page of table memory for reads and writes. -/
def mapped : State := (up.setReg (A.HEP_ATT_ACT_CTL 63) 0x17#32).setReg (A.HEP_ATT_ACT_BASE 63) 0x2100000#32
theorem wit_HostTraffic_bar4 : mapped.barAnswers = true ∧ (mapped.exitL1.bufErr .none).barOpen = true ∧
    (mapped.exitL1.bufErr .none).attLookup false false (63 * 2 ^ 24 + 4092) 4 = some (0x2100000 + 4092) ∧
    (mapped.exitL1.bufErr .none).attLookup false false (63 * 2 ^ 24 + 4093) 4 = none ∧
    (mapped.exitL1.bufErr .corrected).attLookup false true (63 * 2 ^ 24 + 4092) 4 = some (0x2100000 + 4092) ∧
    (barReq true true (63 * 2 ^ 24 + 4092) .corrected).data.length = 4 := by decide +kernel
def outLine : OutLine := ⟨5, 0, 0, 0, 1, 0, 9, 0, 0, 0, 0, [], [1#8]⟩
def outForm : OutForm := ⟨0, 0, false, 2, 2, 64, 0, false, 1, 0⟩
def committing : State := { up with
  data := { up.data with outq := [outLine] }
  herds := [openHerd]
  plc := { up.plc with layouts := [(0, { placeNone with outs := [(5, ⟨1, 0, some 255, none, 0, 0, false, outForm⟩)] })] } }
theorem wit_HostTraffic_line : committing.start.phase = .run ∧ committing.nextLine 255 = some outLine := by decide +kernel

/-- An old generation of the map is still in use. -/
def attOld : State := { up with hep := { up.hep with attOld := some [] } }
theorem wit_AddressMap_commit : up.Admits .bar0 A.HEP_ATT_COMMIT false ∧ (up.reached .bar0).flag F.HEP_ATT_STAT_BUSY = false ∧
    (List.range 64).find? (up.reached .bar0).attBad = none ∧ (up.reached .bar0).hep.attOld = none ∧
    attOld.Admits .bar0 A.HEP_ATT_COMMIT false ∧ (attOld.reached .bar0).flag F.HEP_ATT_STAT_BUSY = false ∧
    (List.range 64).find? (attOld.reached .bar0).attBad = none ∧ (attOld.reached .bar0).hep.attOld = some [] := by decide +kernel
theorem wit_AddressMap_bad : (up.setReg (A.HEP_ATT_SH_CTL 63) 1#32).Admits .bar0 A.HEP_ATT_COMMIT false ∧
    ((up.setReg (A.HEP_ATT_SH_CTL 63) 1#32).reached .bar0).flag F.HEP_ATT_STAT_BUSY = false ∧
    (List.range 64).find? ((up.setReg (A.HEP_ATT_SH_CTL 63) 1#32).reached .bar0).attBad = some 63 := by decide +kernel
def attBusy : State := { up.setFlag F.HEP_ATT_STAT_BUSY true with hep := { up.hep with attOld := some [], attWait := true } }
theorem wit_AddressMap_busy : attBusy.Admits .bar0 A.HEP_ATT_COMMIT false ∧ attBusy.flag F.HEP_ATT_STAT_BUSY = true ∧
    attBusy.start.phase = .run ∧ attBusy.hep.attWait = true ∧ up.hep.attWait = false := by decide +kernel

theorem wit_EndpointResets_config : up.start.phase = .run ∧ up.hep.perst = false ∧ up.hep.flrBusy = false := by decide +kernel
theorem wit_EndpointResets_flr : ({ up with hep := { up.hep with flrBusy := true } } : State).start.phase = .run ∧
    ({ up with hep := { up.hep with flrBusy := true } } : State).hep.flrBusy = true := by decide +kernel
theorem wit_EndpointResets_pins : up.start.phase = .run ∧ up.start.phase ≠ .standby ∧ (inPhase .standby).start.phase ≠ .run ∧
    767 ∈ ({ up with hep := { up.hep with quar := [767] } } : State).hep.quar := by decide +kernel

/-- The host link up at x16 with flits. -/
def linked : State := ((up.setFlag F.HEP_LINK_STAT_DL_UP true).setFlag F.HEP_LINK_STAT_FLIT true).setFld F.HEP_LINK_STAT_WIDTH 4
theorem wit_HostLinkStates_width : linked.start.phase = .run ∧ linked.flag F.HEP_LINK_STAT_DL_UP = true ∧
    linked.flag F.HEP_LINK_STAT_FLIT = true ∧ (4 : Fin 5).val ≤ linked.fld F.HEP_LINK_STAT_WIDTH := by decide +kernel
def idleLink : State := (({ linked with ep := { linked.ep with aspmL1 := true } } : State).setFld F.HEP_LINK_CFG_L1_IDLE_US 1).setFld
  F.HEP_LINK_STAT_LSTATE 0
theorem wit_HostLinkStates_l1 : idleLink.start.phase = .run ∧ idleLink.ep.aspmL1 = true ∧ idleLink.fld F.HEP_LINK_CFG_L1_IDLE_US ≠ 0 ∧
    idleLink.fld F.HEP_LINK_STAT_LSTATE = 0 ∧ idleLink.hep.tags = [] ∧
    (∀ h ∈ idleLink.herds, h.closed = true ∨ h.bufs = []) ∧
    (idleLink.setFld F.HEP_LINK_STAT_LSTATE 1).fld F.HEP_LINK_STAT_LSTATE = 1 ∧ linked.ep.aspmL1 = false ∧ linked.start.phase = .run ∧
    tagged.hep.tags ≠ [] := by decide +kernel
theorem wit_HostLinkStates_wake : up.Admits .mgmt A.HEP_PM_CTRL false := by decide +kernel

theorem wit_ModeRequests_writes : up.Admits .bar0 A.GLB_HEARTBEAT false ∧ up.Admits .bar0 A.GLB_MODE_REQ false ∧
    up.Admits .mgmt A.GLB_MODE_REQ false := by decide +kernel
def lonely : State := ({ drv with hep := { drv.hep with downSince := some 0 } } : State).setFld F.GLB_LIMP_CFG_LINK_MS 1
  |>.setFld F.GLB_LIMP_CFG_HB_MS 1
theorem wit_ModeRequests_limits : lonely.start.phase = .run ∧ lonely.hep.downSince = some 0 ∧
    lonely.fld F.GLB_LIMP_CFG_LINK_MS ≠ 0 ∧ lonely.fld F.GLB_LIMP_CFG_HB_MS ≠ 0 ∧ lonely.mode ≠ 0 ∧ lonely.mode ≠ 2 ∧
    lonely.mode ≠ 3 ∧ up.mode = 0 ∧ (up.setFld F.GLB_MODE_STAT_CUR_MODE 2).mode = 2 ∧ svc.mode = 3 ∧
    (drv.setFld F.GLB_LIMP_CFG_HB_MS 0).fld F.GLB_LIMP_CFG_HB_MS = 0 := by decide +kernel
theorem wit_ModeRequests_pins : drv.start.phase = .run ∧ drv.planMode ≠ 7 ∧ (drv.setFld F.GLB_MODE_STAT_CUR_MODE 7).planMode = 7 ∧
    (inPhase .standby).start.phase = .standby ∧ drv.start.phase ≠ .standby := by
  decide +kernel
theorem wit_ModeRequests_bank : (up.setFlag F.CFG_FL_STAT_VER_B_OK true).Admits .bar0 A.CFG_SEL false ∧
    ((up.setFlag F.CFG_FL_STAT_VER_B_OK true).reached .bar0).verified (fldGet 1#32 0 1) = true ∧
    up.Admits .bar0 A.CFG_SEL false ∧ (up.reached .bar0).verified (fldGet 1#32 0 1) = false := by
  decide +kernel

/-- The last page and sector of bank B; a page of bank A whose image is in force. -/
def flashUp : State := up.setFld F.CFG_FL_ADDR_ADDR 0xFFF000
def shutPage : State := ({ up with image := some img } : State).setFld F.CFG_FL_ADDR_ADDR 0x7FF000
theorem wit_FlashCommands_begin : flashUp.Admits .bar0 A.CFG_FL_CMD false ∧ (flashUp.reached .bar0).flag F.CFG_FL_STAT_BUSY = false ∧
    (flashUp.reached .bar0).fld F.CFG_FL_ADDR_ADDR = 0xFFF000 ∧ (0xFFF000 : Nat) % 4096 = 0 ∧
    (flashUp.reached .bar0).flashShut 0xFFF000 = false ∧ (up.setFld F.CFG_FL_ADDR_ADDR 255).Admits .mgmt A.CFG_FL_CMD false ∧
    (up.setFld F.CFG_FL_ADDR_ADDR 255).flag F.CFG_FL_STAT_BUSY = false ∧
    (up.setFld F.CFG_FL_ADDR_ADDR 255).fld F.CFG_FL_ADDR_ADDR % 256 ≠ 0 ∧
    (up.setFld F.CFG_FL_ADDR_ADDR 255).fld F.CFG_FL_ADDR_ADDR % 4096 ≠ 0 ∧
    shutPage.Admits .mgmt A.CFG_FL_CMD false ∧ shutPage.flag F.CFG_FL_STAT_BUSY = false ∧ shutPage.flashShut 0x7FF000 = true ∧
    shutPage.fld F.CFG_FL_ADDR_ADDR = 0x7FF000 := by decide +kernel
def flashing (cmd : Nat) : State := { up.setFld F.CFG_FL_STAT_LAST_CMD cmd with flCmd := some (0x7FFF00, List.replicate 256 0#8) }
theorem wit_FlashCommands_end : (flashing 1).core = true ∧ (flashing 1).start.fwBusy = false ∧
    (flashing 1).flCmd = some (0x7FFF00, List.replicate 256 0#8) ∧ (flashing 1).fld F.CFG_FL_STAT_LAST_CMD = 1 ∧
    (flashing 2).core = true ∧ (flashing 2).start.fwBusy = false ∧
    (flashing 2).fld F.CFG_FL_STAT_LAST_CMD = 2 ∧ (flashing 3).core = true ∧ (flashing 3).start.fwBusy = false ∧
    (flashing 3).fld F.CFG_FL_STAT_LAST_CMD = 3 ∧ ((flashing 1).setFlag F.CFG_FL_STAT_BUSY true).Admits .mgmt A.CFG_FL_CMD false ∧
    (((flashing 1).setFlag F.CFG_FL_STAT_BUSY true).reached .mgmt).flag F.CFG_FL_STAT_BUSY = true := by decide +kernel

/-- Four keys of use IMAGE and TOKEN are present; the device secret is burnt. -/
def provisioned (lc : Byte) : State := { up with sec := { secReset with otp := tblSet zeroB [(0x10, 1#8), (0x20, 1#8), (0x120, 0x43#8), (0x121, 0x43#8)] 0 lc } }
theorem wit_LifeCycle_dus : up.Admits .mgmt A.SEC_LC_CTRL false ∧ Path.mgmt ≠ .bar0 ∧ up.flag F.SEC_OP_STAT_BUSY = false ∧
    up.dusOk = false := by decide +kernel
theorem wit_LifeCycle_provision : (provisioned 0).Admits .mgmt A.SEC_LC_CTRL false ∧ (provisioned 0).flag F.SEC_OP_STAT_BUSY = false ∧
    (provisioned 0).lc = 0 ∧ (provisioned 0).dusOk = true ∧ (provisioned 0).uidOk = true ∧
    (provisioned 0).keysLeft 4 = true ∧ (provisioned 1).Admits .mgmt A.SEC_LC_CTRL false ∧
    (provisioned 1).flag F.SEC_OP_STAT_BUSY = false ∧ (provisioned 1).lc = 1 ∧ (provisioned 1).keysLeft 4 = true ∧
    (provisioned 1).lc ≠ 0 ∧ (provisioned 0).lc ≠ 1 ∧ up.Admits .bar0 A.SEC_LC_CTRL false ∧ (0x4C42#16 ≠ 0x4C43#16) := by
  decide +kernel
/-- The image in force was composed by a cold start. -/
def coldImaged : State := { up with image := some img, sec := { secReset with coldImage := true } }
/-- An operation runs. -/
def opBusy : State := up.setFlag F.SEC_OP_STAT_BUSY true
theorem wit_LifeCycle_commit : coldImaged.Admits .bar0 A.SEC_ROLL_CTRL false ∧
    (coldImaged.reached .bar0).flag F.SEC_OP_STAT_BUSY = false ∧ (coldImaged.reached .bar0).image = some img ∧
    (coldImaged.reached .bar0).sec.coldImage = true ∧ (coldImaged.reached .bar0).start.clearDue = [] ∧
    ({ up with image := some img } : State).Admits .mgmt A.SEC_ROLL_CTRL false ∧
    ({ up with image := some img } : State).flag F.SEC_OP_STAT_BUSY = false ∧
    ({ up with image := some img } : State).sec.coldImage = false ∧
    up.Admits .mgmt A.SEC_OTP_PROG false ∧ up.flag F.SEC_OP_STAT_BUSY = false ∧ opBusy.Admits .mgmt A.SEC_OTP_PROG false ∧
    opBusy.flag F.SEC_OP_STAT_BUSY = true := by decide +kernel
theorem wit_LifeCycle_done : ({ up with sec := { secReset with op := some (1, 1, []) } } : State).core = true ∧
    ({ up with sec := { secReset with op := some (1, 1, []) } } : State).sec.op = some (1, 1, []) ∧ (1 : Nat) ≠ 3 := by decide +kernel

theorem wit_TokensAndLog_new : up.Admits .bar0 A.SEC_CHAL_CTRL false ∧ up.Admits .bar0 A.SEC_DBG_CTRL false := by decide +kernel
theorem wit_TokensAndLog_expire : ({ up with sec := { secReset with chalAt := some 0 } } : State).core = true ∧
    ({ up with sec := { secReset with chalAt := some 0 } } : State).sec.chalAt = some 0 := by decide +kernel
theorem wit_TokensAndLog_clear : (provisioned 4).Admits .mgmt A.REC_CTRL false ∧ (provisioned 4).lc = 3 ∧
    fldGet 0x434C0000#32 16 16 = 0x434C ∧ (provisioned 4).recs.clear = none := by decide +kernel
theorem wit_TokensAndLog_refused : up.Admits .jtag A.SEC_TOK_CTRL false ∧ up.flag F.SEC_OP_STAT_BUSY = false ∧
    up.Admits .bar0 A.SEC_TOK_CTRL false := by decide +kernel
theorem wit_TokensAndLog_done : ({ up with recs := { recReset with clear := some ⟨1, 2, 1, 255⟩ } } : State).core = true ∧
    ({ up with recs := { recReset with clear := some ⟨1, 2, 1, 255⟩ } } : State).start.fwBusy = false ∧
    ({ up with recs := { recReset with clear := some ⟨1, 2, 1, 255⟩ } } : State).recs.clear = some ⟨1, 2, 1, 255⟩ := by decide +kernel

/-- In the field, with scopes 0 and 2 open. -/
def scopesOpen : State := (provisioned 2).setFld F.SEC_STAT_DBG_SCOPE 5
theorem wit_JtagInstructions : up.core = true ∧ up.lc ≠ 2 ∧ (provisioned 2).lc = 2 ∧ (provisioned 2).core = true ∧
    ((provisioned 2).fld F.SEC_STAT_DBG_SCOPE).testBit 0 = false ∧ ((provisioned 2).fld F.SEC_STAT_DBG_SCOPE).testBit 2 = false ∧
    scopesOpen.core = true ∧ (scopesOpen.fld F.SEC_STAT_DBG_SCOPE).testBit 0 = true ∧ (scopesOpen.fld F.SEC_STAT_DBG_SCOPE).testBit 2 = true ∧
    (up.jtag .regacc true).regaccOpen (wordAddr (BitVec.ofNat 26 (A.SEC_CHAL 0))) = true ∧
    ((provisioned 2).jtag .regacc true).regaccOpen (wordAddr 4) = false := by decide +kernel

/-- A write frame of one word to register `a`, with `n` data bytes: address W, command, address, length. -/
def frame (cmd : Byte) (a n : Nat) (data : List Byte) : List Byte := BitVec.ofNat 8 up.mgtAddrW :: cmd :: leBytes 4 a ++ leBytes 1 n ++ data
theorem wit_ManagementFrames_write : up.mgtListens = true ∧ up.mgtHead (frame 0xB1 0x100 4 [1#8, 2, 3, 4]) = .ok 1 false 0x100 4 ∧
    ((frame 0xB1 0x100 4 [1#8, 2, 3, 4]).drop 7).length = 4 := by decide +kernel
theorem wit_ManagementFrames_foreign : up.mgtHead [] = .foreign ∧
    up.mgtHead [BitVec.ofNat 8 (up.mgtAddrW + 2)] = .foreign := by decide +kernel
theorem wit_ManagementFrames_pec : up.mgtHead (frame 0xB5 0x100 4 [1#8, 2, 3, 4, 0]) = .ok 1 true 0x100 4 ∧
    ((frame 0xB5 0x100 4 [1#8, 2, 3, 4, 0]).drop 7).length = 4 + 1 ∧
    byteAt ((frame 0xB5 0x100 4 [1#8, 2, 3, 4, 0]).drop 7) 4 ≠ crc8 ((frame 0xB5 0x100 4 [1#8, 2, 3, 4, 0]).take (7 + 4)) := by
  decide +kernel
theorem wit_ManagementFrames_cutoff : up.mgtHead (frame 0xB1 0x100 4 [1#8, 2, 3]) = .ok 1 false 0x100 4 ∧
    ((frame 0xB1 0x100 4 [1#8, 2, 3]).drop 7).length < 4 ∧ up.mgtListens = true := by decide +kernel
theorem wit_ManagementFrames_read : up.mgtListens = true ∧ up.mgtHead (frame 0xB2 0x100 4 []) = .ok 2 false 0x100 4 ∧
    (frame 0xB2 0x100 4 []).length = 7 ∧ (BitVec.ofNat 8 (up.mgtAddrW + 1)).toNat = up.mgtAddrW + 1 ∧ 4 ≤ 4 ∧ 3 < 4 := by decide +kernel
theorem wit_ManagementFrames_pins : up.bus.rst = false ∧ up.bus.stretch = false ∧ up.reachable .mgmt = true ∧
    ({ up with bus := { busReset with rst := true } } : State).bus.rst = true ∧ up.start.phase ≠ .off ∧
    ({ inPhase .off with bus := { busReset with rst := true } } : State).bus.rst = true ∧ (inPhase .off).start.phase = .off := by
  decide +kernel
theorem wit_ManagementFrames_wake : (inPhase .standby).bus.rst = false ∧ (inPhase .standby).start.phase = .standby ∧
    ({ up with bus := { busReset with stretch := true } } : State).bus.stretch = true := by decide +kernel

/-- Local port 15 enabled, in a state. -/
def leadWire (st : Nat) : State := (up.setFlag (F.LW_CFG_EN 15) true).setFld (F.LW_STAT_STATE 15) st
theorem wit_LeadWirePorts_go : (leadWire 2).Admits .bar0 (A.LW_CMD 15) false ∧ (leadWire 2).fld (F.LW_STAT_STATE 15) ≠ 1 ∧
    (leadWire 2).flag (F.LW_CFG_EN 15) = true ∧ (leadWire 2).bus.stuck = [] := by decide +kernel
theorem wit_LeadWirePorts_refused : (leadWire 1).Admits .bar0 (A.LW_CMD 15) false ∧
    ((leadWire 1).fld (F.LW_STAT_STATE 15) = 1 ∨ (leadWire 1).flag (F.LW_CFG_EN 15) = false) ∧ up.Admits .bar0 (A.LW_CMD 15) false ∧
    up.flag (F.LW_CFG_EN 15) = false := by decide +kernel
/-- The transaction that runs reads. -/
def leadRead : State := { leadWire 1 with bus := { (leadWire 1).bus with lwCmd := [(15, 0x100#32)] } }
theorem wit_LeadWirePorts_done : (leadWire 1).core = true ∧ (leadWire 1).fld (F.LW_STAT_STATE 15) = 1 ∧
    15 ∉ (leadWire 1).bus.stuck ∧ (3 : Fin 4).val ≠ 0 ∧ ((leadWire 1).lwFreed 15).lwOp 15 = 0 ∧ leadRead.core = true ∧
    leadRead.fld (F.LW_STAT_STATE 15) = 1 ∧ (leadRead.lwFreed 15).lwOp 15 ≠ 0 := by decide +kernel
/-- A transaction that waits on a recovery of its bus. -/
def recovering : State := { leadWire 1 with bus := { (leadWire 1).bus with stuck := [15] } }
theorem wit_LeadWirePorts_freed : recovering.core = true ∧ recovering.fld (F.LW_STAT_STATE 15) = 1 ∧ 15 ∈ recovering.bus.stuck := by
  decide +kernel
def contending (lim : Nat) : State := ((leadWire 1).setFlag (F.LW_CFG_MULTI 15) true).setFld (F.LW_CFG_RETRY_LIM 15) lim
theorem wit_LeadWirePorts_lost : (contending 0).core = true ∧ (contending 0).fld (F.LW_STAT_STATE 15) = 1 ∧
    (contending 0).flag (F.LW_CFG_MULTI 15) = true ∧
    (((contending 0).lwFreed 15).count31 (A.LW_ARB_LOST 15) 1).fld (F.LW_CFG_RETRY_LIM 15) ≤
      (((contending 0).lwFreed 15).count31 (A.LW_ARB_LOST 15) 1).fld (F.LW_STAT_RETRIES 15) := by decide +kernel
theorem wit_LeadWirePorts_again : (contending 1).core = true ∧ (contending 1).fld (F.LW_STAT_STATE 15) = 1 ∧
    (contending 1).flag (F.LW_CFG_MULTI 15) = true ∧
    (((contending 1).lwFreed 15).count31 (A.LW_ARB_LOST 15) 1).fld (F.LW_STAT_RETRIES 15) <
      (((contending 1).lwFreed 15).count31 (A.LW_ARB_LOST 15) 1).fld (F.LW_CFG_RETRY_LIM 15) := by decide +kernel
theorem wit_LeadWirePorts_stuck : ((leadWire 2).setFld (F.LW_STAT_RESULT 15) 4).core = true ∧
    ((leadWire 2).setFld (F.LW_STAT_RESULT 15) 4).fld (F.LW_STAT_STATE 15) = 2 ∧
    ((leadWire 2).setFld (F.LW_STAT_RESULT 15) 4).fld (F.LW_STAT_RESULT 15) = 4 := by decide +kernel

/-- Slot 63 in a state, its last command for node 511, its number 255. -/
def slotted (st : Nat) : State := { ((noded.setFld (F.TUN_STAT_STATE 63) st).setFld (F.TUN_STAT_TXN 63) 255) with
  bus := { busReset with tunCmd := [(63, 511#32)] } }
theorem wit_TunnelSlots_refused : (slotted 1).Admits .bar0 (A.TUN_CMD 63) false ∧
    ((slotted 1).fld (F.TUN_STAT_STATE 63) = 1 ∨ (slotted 1).fld (F.TUN_STAT_STATE 63) = 2) ∧
    ((slotted 2).fld (F.TUN_STAT_STATE 63) = 1 ∨ (slotted 2).fld (F.TUN_STAT_STATE 63) = 2) ∧
    (∃ j, j < 64 ∧ (slotted 1).fld (F.TUN_STAT_STATE j) ≠ 1 ∧ (slotted 1).fld (F.TUN_STAT_STATE j) ≠ 2) := by decide +kernel
/-- Every slot is in use. -/
def allBusy : State := (List.range 64).foldl (fun s j => s.setFld (F.TUN_STAT_STATE j) 2) up
theorem wit_TunnelSlots_full : allBusy.Admits .bar0 (A.TUN_CMD 63) false ∧
    (∀ j, j < 64 → allBusy.fld (F.TUN_STAT_STATE j) = 1 ∨ allBusy.fld (F.TUN_STAT_STATE j) = 2) := by decide +kernel
/-- What a command word with the most bytes to write and to read leaves. -/
def tunWord : Word := BitVec.ofNat 32 (511 + 16 * 2 ^ 18 + 16 * 2 ^ 23)
def tunTold (st : Nat) : State :=
  let s := (slotted st).reached .bar0
  { s.plainWrite (A.TUN_CMD 63) (goOp tunWord 9 2) with
    bus := { s.bus with tunCmd := tblSet (fun _ => 0#32) s.bus.tunCmd 63 (goOp tunWord 9 2) } }
/-- The node has gone. -/
def tunGone : State :=
  let s := ((slotted 0).setFlag (F.NODE_ENT_PRESENT 511) false).reached .bar0
  { s.plainWrite (A.TUN_CMD 63) (goOp tunWord 9 2) with
    bus := { s.bus with tunCmd := tblSet (fun _ => 0#32) s.bus.tunCmd 63 (goOp tunWord 9 2) } }
theorem wit_TunnelSlots_go : (slotted 3).Admits .bar0 (A.TUN_CMD 63) false ∧ ((slotted 3).reached .bar0).fld (F.TUN_STAT_STATE 63) = 3 ∧
    ((slotted 0).reached .bar0).fld (F.TUN_STAT_STATE 63) = 0 ∧
    fldGet tunWord 18 5 ≤ 16 ∧ fldGet tunWord 23 5 ≤ 16 ∧ (tunTold 3).flag (F.NODE_ENT_PRESENT ((tunTold 3).tunNa 63)) = true ∧
    ((slotted 0).setFlag (F.NODE_ENT_PRESENT 511) false).Admits .bar0 (A.TUN_CMD 63) false ∧
    (((slotted 0).setFlag (F.NODE_ENT_PRESENT 511) false).reached .bar0).fld (F.TUN_STAT_STATE 63) = 0 ∧
    tunGone.flag (F.NODE_ENT_PRESENT (tunGone.tunNa 63)) = false ∧ 16 < fldGet (BitVec.ofNat 32 (17 * 2 ^ 18)) 18 5 ∧
    16 < fldGet (BitVec.ofNat 32 (17 * 2 ^ 23)) 23 5 := by decide +kernel
theorem wit_TunnelSlots_reply : (slotted 2).Runs ∧ (slotted 2).fld (F.TUN_STAT_STATE ((255#8).toNat % 64)) = 2 ∧
    (slotted 2).tunNa ((255#8).toNat % 64) = nodeAddr 63 7 ∧ (slotted 2).fld (F.TUN_STAT_TXN ((255#8).toNat % 64)) = (255#8).toNat ∧
    (5 : Fin 6).val ≠ 0 ∧ (5 : Fin 6).val ≠ 2 ∧ (slotted 2).fld (F.TUN_STAT_TXN ((191#8).toNat % 64)) ≠ (191#8).toNat ∧
    (slotted 2).start.phase = .run ∧ (0 : Fin 6).val = 0 ∧ (2 : Fin 6).val = 2 ∧ (slotted 1).fld (F.TUN_STAT_STATE 63) ≠ 2 := by
  decide +kernel

/-- Rails come up; as many are. -/
def rising (n : Nat) : State := { inPhase .rails with start := { (inPhase .rails).start with railsUp := n } }
theorem wit_Rails_next : (rising 4).start.phase = .rails ∧ (rising 4).start.railsUp = 4 ∧ (4 : Nat) < 5 ∧
    (rising 5).start.phase = .rails ∧ (rising 5).start.railsUp = 5 := by
  decide +kernel
theorem wit_Rails_fault : up.railEnabled 5 = true ∧
    ({ inPhase .wait with start := { (inPhase .wait).start with waitFor := 1 } } : State).start.phase = .wait ∧
    ({ inPhase .wait with start := { (inPhase .wait).start with waitFor := 1 } } : State).start.waitFor ≠ 0 := by decide +kernel
theorem wit_Rails_sample : (5 : Nat) < 6 ∧ up.railOn 5 = true ∧ railOutside 5 (railNominal 5) 5 = false ∧
    railOutside 5 (railNominal 5) 10 = false := by decide +kernel

def powering (st : Nat) : State := up.setFld (F.PWR_PC_STAT_STATE 63) st
theorem wit_LinePower_short : (powering pcSoft).start.phase = .run ∧ ((powering pcSoft).pc 63 = pcSoft ∨ (powering pcSoft).pc 63 = pcOn) ∧
    ((powering pcOn).pc 63 = pcSoft ∨ (powering pcOn).pc 63 = pcOn) := by decide +kernel
/-- Channel 63 is due for a soft start; the image's inrush is the channel's own limit. -/
def lining : State := { up with pwr := { pwrReset with queue := [63] }, image := some { img with poc := ⟨up.pcLimit 63, 0, []⟩ } }
theorem wit_LinePower_begin : lining.Runs ∧ lining.pwr.queue = 63 :: [] ∧ lining.flag F.PWR_GLB_VIN_OV = false ∧
    lining.pcBudget + lining.pcLimit 63 ≤ (lining.image.map fun im => im.poc.inrush).getD 0 ∧
    (lining.setFlag F.PWR_GLB_VIN_OV true).Runs ∧ (lining.setFlag F.PWR_GLB_VIN_OV true).pwr.queue = 63 :: [] ∧
    (lining.setFlag F.PWR_GLB_VIN_OV true).flag F.PWR_GLB_VIN_OV = true ∧
    ({ lining with image := none } : State).Runs ∧
    ((none : Option Image).map fun im => im.poc.inrush).getD 0 < ({ lining with image := none } : State).pcBudget +
      ({ lining with image := none } : State).pcLimit 63 := by decide +kernel
/-- The input's last measurement. -/
def fed : State := (powering pcSoft).setFld F.PWR_GLB_VIN 100
theorem wit_LinePower_end : fed.start.phase = .run ∧ fed.pc 63 = pcSoft ∧
    9 * (fed.setFld (F.PWR_PC_MEAS_V 63) 90).fld F.PWR_GLB_VIN ≤ 10 * (90#10).toNat ∧
    10 * (89#10).toNat < 9 * (fed.setFld (F.PWR_PC_MEAS_V 63) 89).fld F.PWR_GLB_VIN := by decide +kernel
theorem wit_LinePower_retry : (powering pcRetry).Runs ∧ (powering pcRetry).pc 63 = pcRetry ∧
    (powering pcRetry).fld (F.PWR_PC_STAT_FAULT 63) ≠ 4 ∧ (powering pcRetry).pcTripped 63 = false ∧ (powering pcOn).Runs ∧
    (powering pcOn).pc 63 = pcOn := by decide +kernel
theorem wit_LinePower_release : (up.setFlag F.PWR_GLB_VIN_OV true).Runs ∧ (up.setFlag F.PWR_GLB_VIN_OV true).flag F.PWR_GLB_VIN_OV = true := by
  decide +kernel
/-- A write of FORCE_OFF and one of CLR to the channel in a state. -/
def forced (st : Nat) (v : Word) : State := ((powering st).reached .bar0).plainWrite (A.PWR_PC_CTRL 63) v
theorem wit_LinePower_force : (powering pcOn).Admits .bar0 (A.PWR_PC_CTRL 63) false ∧ (powering pcOff).Admits .bar0 (A.PWR_PC_CTRL 63) false ∧
    (powering pcLatched).Admits .bar0 (A.PWR_PC_CTRL 63) false ∧
    (forced pcOn 1#32).flag (F.PWR_PC_CTRL_FORCE_OFF 63) = true ∧ (forced pcLatched 1#32).flag (F.PWR_PC_CTRL_FORCE_OFF 63) = true ∧
    (forced pcOn 0#32).flag (F.PWR_PC_CTRL_FORCE_OFF 63) = false ∧ (forced pcOn 0#32).pc 63 ≠ pcOff ∧
    (forced pcOff 0#32).flag (F.PWR_PC_CTRL_FORCE_OFF 63) = false ∧ (forced pcOff 0#32).pc 63 = pcOff ∧
    (∀ c ∈ (forced pcOff 0#32).pwr.due, c.2 ≠ 63) := by decide +kernel
theorem wit_LinePower_clr : (forced pcOn (0 ||| 2#32)).flag (F.PWR_PC_CTRL_FORCE_OFF 63) = false ∧ (forced pcOn (0 ||| 2#32)).pc 63 ≠ pcLatched ∧
    (forced pcOn (0 ||| 2#32)).pc 63 ≠ pcOff ∧ (forced pcLatched (0 ||| 2#32)).flag (F.PWR_PC_CTRL_FORCE_OFF 63) = false ∧
    (forced pcLatched (0 ||| 2#32)).pc 63 = pcLatched := by decide +kernel

theorem wit_BringUpAndLedger_idle : hubEnd.Admits .bar0 (A.TRL_BRUP_CTRL 63) false ∧ (hubEnd.reached .bar0).Runs ∧
    (hubEnd.reached .bar0).brupBusy 63 = false ∧ (hubEnd.reached .bar0).portOn 63 = true ∧ bitOn 1#32 1 = false ∧
    (hubEnd.setFld (F.TRL_BRUP_STAT_STATE 63) 5).Admits .bar0 (A.TRL_BRUP_CTRL 63) false ∧
    ((hubEnd.setFld (F.TRL_BRUP_STAT_STATE 63) 5).reached .bar0).Runs ∧
    ((hubEnd.setFld (F.TRL_BRUP_STAT_STATE 63) 5).reached .bar0).brupBusy 63 = true ∧ up.Admits .bar0 (A.TRL_BRUP_CTRL 63) false ∧
    (up.reached .bar0).Runs ∧ (up.reached .bar0).brupBusy 63 = false ∧ (up.reached .bar0).portOn 63 = false := by decide +kernel
def snapping : State := { up with led := { ledZero with pend := true, opsec := 60 } }
theorem wit_BringUpAndLedger_due : snapping.core = true ∧ snapping.start.fwBusy = false ∧ snapping.snapDue = true ∧
    up.core = true ∧ up.start.fwBusy = false ∧ up.snapDue = false ∧
    up.start.phase ≠ .off ∧ up.Admits .bar0 (A.LED_CAL_CFG 31) false := by decide +kernel

/-- BAR 0's window is being loaded. -/
def loadingWindow : State := { up with pBar0 := { pathReset with ready := false, loading := true } }
theorem wit_RecordsAndAccesses_window : up.Admits .bar0 A.REC_CURSOR false ∧ loadingWindow.core = true ∧
    (loadingWindow.path .bar0).loading = true ∧ up.core = true ∧ (up.path .bar0).loading = false ∧
    up.AdmitsRead .bar0 (A.REC_WINDOW 7) ∧ (up.path .bar0).autoInc = false := by decide +kernel
theorem wit_RecordsAndAccesses_write : up.takes .bar0 (wordAddr 0x40) 16 = true ∧ up.reachable .bar0 = true ∧
    64 < wordAddr 0x40 % 64 + 4 * 17 ∧ wordAddr 0x40 % 64 + 4 * 16 ≤ 64 := by decide +kernel
theorem wit_RecordsAndAccesses_partial : up.Admits .bar0 (up.native (wordAddr 4)) false ∧ (14#4 : BitVec 4) ≠ 15#4 ∧
    (rowAt (up.native (wordAddr 4))).isSome = true := by decide +kernel
theorem wit_RecordsAndAccesses_pins : ({ up with time := { up.time with ppsOut := some 5 } } : State).start.phase = .run ∧
    ({ up with time := { up.time with ppsOut := some 5 } } : State).time.ppsOut = some 5 ∧ up.hep.perst = false ∧
    up.hep.flrBusy = false ∧ ({ up with hep := { up.hep with flrBusy := true } } : State).start.phase = .run ∧
    ({ up with hep := { up.hep with flrBusy := true } } : State).hep.perst = false ∧
    ({ up with hep := { up.hep with flrBusy := true } } : State).hep.flrBusy = true := by decide +kernel

theorem wit_AccessTypes : ([⟨0, 1, .rw, 0⟩, ⟨1, 31, .ro, 0⟩] : List FieldRow).Pairwise
      (fun f g => f.lo + f.w ≤ g.lo ∨ g.lo + g.w ≤ f.lo) ∧
    (∀ f ∈ ([⟨0, 1, .rw, 0⟩, ⟨1, 31, .ro, 0⟩] : List FieldRow), f.lo + f.w ≤ 32) := by decide +kernel
theorem wit_PlainWriteFrame : (0x100 : Nat) ≠ A.GLB_STAT := by decide +kernel
theorem wit_CountersSaturate : A.GLB_BE_REJ ≠ A.HEP_LINK_STAT ∧
    fldGet ((up.setReg A.GLB_BE_REJ 0x7FFFFFFF#32).reg A.GLB_BE_REJ) 0 31 = 0x7FFFFFFF ∧
    fldGet ((up.setReg A.GLB_BE_REJ 0x7FFFFFFD#32).reg A.GLB_BE_REJ) 0 31 + 1 < 0x7FFFFFFF := by decide +kernel
theorem wit_LedgerCounters : (0xFFFFFFFF : Nat) ≤ 0xFFFFFFFF ∧ 0xFFFFFFFE + 1 = 0xFFFFFFFF ∧ 0xFFFFFFFF + 1 ≠ 0xFFFFFFFF := by
  decide
theorem wit_NodeAddresses : (7 : Nat) < 8 ∧ nodeAddr 63 7 = nodeAddr 63 7 := by decide +kernel
theorem wit_StoresAreContents : tblWf regReset [(4, 1#32)] = true ∧ tblWf erased [(4, 0#8)] = true ∧ tblWf zeroB [(4, 1#8)] = true := by
  decide +kernel
theorem wit_RefusedAccesses_owned : up.mode ≠ 3 ∧ up.mode ≠ 6 ∧ inTbl (wordAddr 0x110) 4 = false ∧ up.reachable .bar0 = true ∧
    up.serves (wordAddr 0x110) = true ∧ ((rowAt (wordAddr 0x110)).map fun r => up.imageOwned r.1 r.2) = some true := by decide +kernel
theorem wit_RefusedAccesses_none : up.mode ≠ 6 ∧ up.AdmitsRead .bar0 (wordAddr 0xFFC) ∧ inTbl (wordAddr 0xFFC) 4 = false ∧
    up.Admits .bar0 (wordAddr 0xFFC) false ∧ svc.Admits .bar0 (wordAddr 0xFFC) false ∧ svc.mode = 3 ∧
    rowAt (wordAddr 0xFFC) = none := by decide +kernel
theorem wit_PathsApart : Path.mgmt ≠ .bar0 ∧
    exec (.counterRead .bar0 8 15 [] .none) up = .next ({ up with sent := [.readData .bar0 0] } : State) := ⟨by decide, rfl⟩
theorem wit_BarsClosed : unopened.start.phase = .run ∧ unopened.ep.mse = false ∧ unopened.hep.perst = false ∧
    unopened.hep.flrBusy = false ∧
    fldGet ((up.setReg A.HEP_BAR_UR 0x7FFFFFFD#32).reg A.HEP_BAR_UR) 0 31 < 0x7FFFFFFE := by decide +kernel
theorem wit_GridOrder : 0 < up.time.rate := by decide +kernel

/-- Tokens in key slot 0, whose private key is 1, and a hub in the field that holds its hash and the challenge. -/
def tokKey : List Byte := p384.encode p384.base
def tokenOf (cmd arg sigS : Nat) : List Byte := leBytes 4 0x4B544441 ++ leBytes 1 cmd ++ leBytes 1 0 ++ leBytes 2 arg ++ leBytes 8 1 ++
  List.replicate 48 0 ++ tokKey ++ List.replicate 15 0 ++ beBytes 48 p384.gx ++ beBytes 48 sigS
def tokened (t : List Byte) : State :=
  let s := (List.range 68).foldl (fun s j => s.setReg (A.SEC_TOK_BUF j) (BitVec.ofNat 32 (ofLe ((t.drop (4 * j)).take 4)))) up
  { s with sec := { secReset with
    chalAt := some 0
    otp := [(0, 2#8), (0x10, 1#8)] ++ (List.range 48).map (fun i => (0x60 + i, (beBytes 48
      0x8c4f262412b7f9ed867606705a130de5212fd048fbaf8c3842f4a240f4b45ba0c90f82194ccdda3ed89c96b0afe1d51d).getD i 0))
      ++ [(0x120, 0x42#8), (0x121, 0x43#8)] } }
def tok_debug : State := tokened (tokenOf 1 0
  0x526a1eb43a253d39a4af09d048f31d9960823541fdb3e933185954107dd1591d016749a355992d2f263f8237d7f203c3)
theorem wit_TokensAndLog_tok_debug : tok_debug.Admits .mgmt A.SEC_TOK_CTRL false ∧ tok_debug.flag F.SEC_OP_STAT_BUSY = false ∧
    tok_debug.tokenCheck .mgmt tok_debug.token = 1 ∧ leAt tok_debug.token 4 1 = 1 := by decide +kernel
def tok_clear : State := tokened (tokenOf 2 0
  0xe60e7f942f8b668dd474340a75367f34589a5bf896b49ce1aa33ddee4d511447dd8e31dc8192b9e53240e9bb29f384e4)
theorem wit_TokensAndLog_tok_clear : tok_clear.Admits .mgmt A.SEC_TOK_CTRL false ∧ tok_clear.flag F.SEC_OP_STAT_BUSY = false ∧
    tok_clear.tokenCheck .mgmt tok_clear.token = 1 ∧ leAt tok_clear.token 4 1 = 2 := by decide +kernel
def tok_return : State := tokened (tokenOf 3 0
  0x6ef9740c4e1255974a91c40ac090b04bd4dcda22167365e8dc0f4f4d1b159025fb064ee3cc60cafb6e9b7850dc14ba78)
theorem wit_TokensAndLog_tok_return : tok_return.Admits .mgmt A.SEC_TOK_CTRL false ∧ tok_return.flag F.SEC_OP_STAT_BUSY = false ∧
    tok_return.tokenCheck .mgmt tok_return.token = 1 ∧ leAt tok_return.token 4 1 = 3 := by decide +kernel
def tok_revoke : State := tokened (tokenOf 4 2
  0xfcfb1b764f45b293ee0217a74503e8932ae25d4e75009f6175ae95778d7e98ed59c8549cbed7ce0cb9ad9bb1f5a65167)
theorem wit_TokensAndLog_tok_revoke : tok_revoke.Admits .mgmt A.SEC_TOK_CTRL false ∧ tok_revoke.flag F.SEC_OP_STAT_BUSY = false ∧
    tok_revoke.tokenCheck .mgmt tok_revoke.token = 1 ∧ leAt tok_revoke.token 4 1 = 4 := by decide +kernel
/-- The same token once its challenge has expired, the same by JTAG, where only DEBUG_UNLOCK is taken, and one of no format. -/
def tok_old : State := { tok_revoke with sec := { tok_revoke.sec with chalAt := none } }
def tok_bad : State := tok_clear.setReg (A.SEC_TOK_BUF 0) 0#32
theorem wit_TokensAndLog_tok_bad : tok_old.Admits .mgmt A.SEC_TOK_CTRL false ∧ tok_old.flag F.SEC_OP_STAT_BUSY = false ∧
    leAt tok_old.token 4 1 = 4 ∧ tok_old.tokenCheck .mgmt tok_old.token = 4 ∧ tok_return.Admits .jtag A.SEC_TOK_CTRL false ∧
    tok_return.tokenCheck .jtag tok_return.token = 2 ∧ tok_bad.Admits .mgmt A.SEC_TOK_CTRL false ∧
    tok_bad.flag F.SEC_OP_STAT_BUSY = false ∧ leAt tok_bad.token 4 1 = 2 ∧ tok_bad.tokenCheck .mgmt tok_bad.token = 3 := by
  decide +kernel

/-- Fragments of a KEY message. -/
def fragsOf (m : List Byte) : List KeyFrag :=
  (List.range (ceilDiv m.length 20)).map fun i => ⟨i, ceilDiv m.length 20, (m.drop (20 * i)).take 20⟩
/-- A sensor end whose session 7 at position 7 has the ephemeral key 1, and a FINISH whose ephemeral key is 1 too. -/
def finishing : NodeSess := ⟨7, 1#8 :: 7#8 :: List.replicate 32 0, [2#8], List.replicate 32 3, 1, [], [], []⟩
def senFinish : State := senEnd.setSensor 63 { sensorReset 63 with sess := [(7, finishing)] }
def finishKeys : List Byte := sessionKeys (finishing.hello.drop 2) finishing.nonce (beBytes 32 p256.gx) (senFinish.virtualUid 7)
  ((((senFinish.sensor (sensorPort 63)).nodes[7]?).map (·.na)).getD 0) 7
def finishMsg : List Byte := 1#8 :: 7#8 :: (p256.encode p256.base ++ beBytes 16 0xa4fa2466baf8caa89dbdd460c5657bbf)
theorem wit_KeyExchange_finish_session : senFinish.SensorUp 63 ∧ keyMessage (fragsOf finishMsg) = some finishMsg ∧
    tblOpt (senFinish.sensor (sensorPort 63)).sess 7 = some finishing ∧ keyFor finishing.sid finishMsg = true ∧
    finishMsg.length = 83 ∧ (finishMsg.drop 2).take 65 = p256.encode p256.base := by decide +kernel
theorem wit_KeyExchange_finish_shared : p256.shared finishing.eph (p256.encode p256.base) = some (beBytes 32 p256.gx) := by
  decide +kernel
theorem wit_KeyExchange_finish_confirm : finishMsg.drop 67 = confirm "hub" (finishKeys.drop 32)
    (sha256 (finishing.hello ++ finishing.cert ++ (finishMsg.drop 2).take 65)) := by decide +kernel

/-- A DER element, a leaf certificate of node 511 under the root whose private key is 1, and a CERT message with it. -/
def der (tag : Byte) (l : List Byte) : List Byte :=
  tag :: (if l.length < 128 then leBytes 1 l.length else 0x82#8 :: beBytes 2 l.length) ++ l
def leafTbs : List Byte := der 0x30 (der 0xA0 (der 2 [2]) ++ der 2 [1] ++ der 0x30 (der 6 oidEcdsaSha256) ++ der 0x30 [] ++ der 0x30 [] ++
  der 0x30 (der 0x31 (der 0x30 (der 6 oidSerial ++ der 0x13 (hex16 0)))) ++
  der 0x30 (der 0x30 (der 6 oidEcKey ++ der 6 oidP256) ++ der 3 (0#8 :: p256.encode p256.base)) ++
  der 0xA3 (der 0x30 (der 0x30 (der 6 oidKeyUsage ++ der 4 (der 3 [7, 0x80])))))
def leafCert (sig : List Byte) : List Byte := der 0x30 (leafTbs ++ der 0x30 (der 6 oidEcdsaSha256) ++
  der 3 (0#8 :: der 0x30 (der 2 (sig.take 32) ++ der 2 (sig.drop 32))))
def certHead (sig : List Byte) : List Byte := [1#8, 7#8, 1#8] ++ p256.encode p256.base ++ leBytes 2 (leafCert sig).length ++ leafCert sig ++
  p256.encode p256.base ++ List.replicate 32 3#8
def certMsg : List Byte :=
  let h := certHead (beBytes 32 p256.gx ++ beBytes 32 0x57b24e4dcbc863927d8aa34edbb07fa3788fcb5c9bfece6ac24c6d833a86df22)
  h ++ beBytes 32 p256.gx ++ beBytes 32 0xcd31bb1a9f0b14d08140df4a0f28817c16b93ecb84640400591da60964637c6a
/-- A hub that waits for node 511's CERT; its root stands under ID 5. -/
def certWait : State := { (asking 63 (.keyHello 511)).setSess 511 { sessReset with sid := 7, hello := 1#8 :: 7#8 :: List.replicate 32 0 } with
  image := some { img with roots := [(5, sha256 (p256.encode p256.base))] } }
theorem wit_KeyExchange_cert : certWait.Runs ∧ (511 : Nat) = keyNode 63 7 ∧
    certWait.awaits (certWait.keyPort 511) (.keyHello 511) = true ∧ keyMessage (fragsOf certMsg) = some certMsg ∧
    keyFor (certWait.sess 511).sid certMsg = true := by decide +kernel
theorem wit_KeyExchange_cert_passes : (match (certWait.answered (certWait.keyPort 511) (.keyHello 511)).certCheck 511
    (certWait.sess 511).hello certMsg with | .ok (root, _, uid) => (root, uid) | .error r => (99, r)) = (5, 0) := by decide +kernel
theorem wit_KeyExchange_cert_fails : keyMessage [⟨0, 1, [1, 7]⟩] = some [1, 7] ∧ keyFor (certWait.sess 511).sid [1, 7] = true ∧
    (match (certWait.answered (certWait.keyPort 511) (.keyHello 511)).certCheck 511 (certWait.sess 511).hello [1, 7] with
      | .error r => r == 1 | _ => false) = true ∧
    keyMessage [⟨1, 2, [0]⟩] = none ∧ keyOther (certWait.sess 511).sid [⟨1, 2, [0]⟩] = false := by decide +kernel
theorem wit_KeyExchange_done_wrong : keyMessage [⟨0, 1, [1, 7]⟩] = some [1, 7] ∧ keyFor (exchanged.sess (keyNode 63 7)).sid [1, 7] = true ∧
    ([1#8, 7#8] : List Byte).drop 2 ≠ confirm "node" (exchanged.sess (keyNode 63 7)).kConf (exchanged.sess (keyNode 63 7)).th := by
  decide +kernel
/-- Node 511's session failed before any was established. -/
def sessionless : State := (up.setFld (F.SEC_NODE_STAT_STATE 511) 3).setFld (F.SEC_NODE_STAT_REASON 511) 1
theorem wit_KeyExchange_retry_first : sessionless.Runs ∧ (sessionless.sess 511).engine = false ∧ (sessionless.sess 511).hello = [] ∧
    (sessionless.sess 511).key = [] ∧ sessionless.fld (F.SEC_NODE_STAT_REASON 511) ≠ 0 ∧
    sessionless.fld (F.SEC_NODE_STAT_STATE 511) = 3 := by decide +kernel

/-! ### The spec's own worked examples -/

/-- R3: CP13/5 is NA 109. -/
theorem test_node_address : nodeAddr 13 5 = 109 := by decide +kernel

/-- Chapter 02: slowing device time by 12.5 ppm. -/
theorem test_time_inc : (match exec (.timeIncHiWrite .bar0 0xF#32) { up with time := { up.time with incLo := 0xFFF2E48F#32 } } with
    | .next t => t.time.incNext | _ => none) = some 0xFFFF2E48F := by decide +kernel

/-- Chapter 14: PEC over a mode request runs 05, 19, 4F, ED, 8D, AA, 43, C9, 71, 50, B7. -/
def modeFrame : List Byte := [0xB4, 0xB5, 0x00, 0x01, 0x00, 0x00, 0x04, 0x01, 0x00, 0x00, 0x00]
theorem test_pec : (List.range 11).map (fun i => crc8 (modeFrame.take (i + 1))) =
    [0x05, 0x19, 0x4F, 0xED, 0x8D, 0xAA, 0x43, 0xC9, 0x71, 0x50, 0xB7] := by decide +kernel

/-- Chapter 14: with MG_ADDR 010 the port answers that frame; the request is the management port's; PEC B6 is refused. -/
def pins2 : State := { up with start := { up.start with addrPins := 2 } }
theorem test_mode_frame : (match exec (.mgtWriteFrame (modeFrame ++ [0xB7#8])) pins2 with
    | .next t => t.modes.reqs.map (fun r => (r.1, r.2.2)) | _ => []) = [(2, 1)] := by decide +kernel
theorem test_mode_frame_bad : (match exec (.mgtWriteFrame (modeFrame ++ [0xB6#8])) pins2 with
    | .next t => (t.modes.reqs.length, fldGet (t.reg A.MGT_PEC_ERR) 0 31) | _ => (9, 9)) = (0, 1) := by decide +kernel

/-- Chapter 04: containers of a RAW24 and a RAW12 line. -/
theorem test_segments : segBlocks 16384 false = 513 ∧ segBlocks 16384 true = 513 ∧ segBlocks 5760 true = 181 ∧ segBlocks 2880 true = 91 ∧
    lineBytes 0x27 16384 = 49152 ∧ lineBytes 0x2C 3840 = 5760 := by decide +kernel

/-- Chapter 05: the low byte 18H matches herd 5400 of 5398 to 5401, and SOF_TS is 999593650. -/
theorem test_herd_match : ({ up with time := { up.time with hist := [⟨4, 5401, 30⟩, ⟨3, 5400, 30⟩, ⟨2, 5399, 30⟩, ⟨1, 5398, 30⟩] } } : State).matchHerd 0x18 =
    some 5400 := by decide +kernel
theorem test_sof_ts : (up.setReg (A.ING_ENT2 212) 400000#32).sofTs 212 1000000000 6350 = 999593650 := by decide +kernel

/-- Chapter 06: a RAW12 pixel through the stages: unpacked, shaded, scaled. -/
theorem test_unpack : unpackGroup 0x2C 0x90 0 = 2304 := by decide +kernel
def shadeMem : Tbl Byte := [(0xA80 + (8 * 33 + 8) * 2 + 1, 0x14#8), (0xA80 + (8 * 33 + 9) * 2, 0x80#8), (0xA80 + (8 * 33 + 9) * 2 + 1, 0x14#8)]
def rawGeo : Geo := ⟨3840, 2160, 0x2C, false, true, true, true, true, true, false, 3, 12, 0, 0, 0, 0, 131072, 131072, [1048576], [4096], false,
  shadeMem, [], 0, 2160⟩
theorem test_shade_gain : rawGeo.shadeGain 1000 540 = 5163 := by decide +kernel
theorem test_shade : gain412 (2304 * 2 ^ 12 - 1048576) 5163 = 10573824 := by decide +kernel
theorem test_scale_size : rawGeo.outW = 1920 ∧ rawGeo.outH = 1080 ∧ lineCycles 3840 = 1936 ∧ polyPos 131072 250 = (500, 32) := by decide +kernel
theorem test_line_memory : rawGeo.memBytes 0 = 116224 := by decide +kernel

/-- Chapter 18: three addresses. -/
theorem test_addresses : A.TRL_HCRC_ERR (64 + 4 + 3) = 0x305844 ∧ A.HEP_IRQ_MAP 329 = 0x1440524 ∧ regReset 0x1440524 = 0x00010149#32 ∧
    rowAt 0x408000 = none := by decide +kernel

/-- Chapter 01: Drive at 30 Hz switches to Park at 5 Hz: the points after 0.4 s and 0.4333 s of a second. -/
theorem test_grid : gridAfter 0 30 6400000000 = 6933333333 ∧ gridAfter 0 5 6933333333 = 9600000000 := by decide +kernel

/-- Chapter 16: the words of a record of CP21's loss of lock. -/
def logging : State := { (drv.setFld F.REC_CFG_RATE_MAX 64) with
  led := { ledZero with recSeq := 9874, opsec := 41933466, pwrcyc := 1517 }, recs := { recReset with next := 1203 } }
theorem test_record : ((logging.log 78 21 []).recs.openRec.map fun r => (r.slot, r.bytes.take 16)) =
    some (1203, leBytes 4 0x2692 ++ leBytes 4 0x027FDA9A ++ leBytes 4 0x4E0005ED ++ leBytes 4 0x150) := by decide +kernel
theorem test_record_repeat : (((logging.log 78 21 []).log 78 21 []).recs.openRec.map fun r => (r.slot, r.rep)) = some (1203, 1) := by
  decide +kernel
end Sys2Proof.Tests
end

section
/-! Arrivals: what leaving L1 leaves alone, and that an access which has arrived arrives once (R279). -/

namespace Sys2Proof.Machine

/-! ### Leaving L1 -/

/-- Leaving L1 writes registers, may release WAKE_N, and records that; it changes nothing else. -/
theorem State.exitL1_eq (s : State) : ∃ regs w sent,
    s.exitL1 = { s with regs := regs, hep := { s.hep with wakeN := w }, sent := sent } := by
  unfold State.exitL1 State.settleWake
  split
  · split <;> exact ⟨_, _, _, rfl⟩
  · exact ⟨_, _, _, rfl⟩

@[simp] theorem State.exitL1_recs (s : State) : s.exitL1.recs = s.recs := by
  obtain ⟨_, _, _, h⟩ := s.exitL1_eq; rw [h]

@[simp] theorem State.exitL1_flash (s : State) : s.exitL1.flash = s.flash := by
  obtain ⟨_, _, _, h⟩ := s.exitL1_eq; rw [h]

@[simp] theorem State.exitL1_ep (s : State) : s.exitL1.ep = s.ep := by
  obtain ⟨_, _, _, h⟩ := s.exitL1_eq; rw [h]

@[simp] theorem State.exitL1_freeCtr (s : State) : s.exitL1.freeCtr = s.freeCtr := by
  obtain ⟨_, _, _, h⟩ := s.exitL1_eq; rw [h]

@[simp] theorem State.exitL1_path (s : State) (p : Path) : s.exitL1.path p = s.path p := by
  cases p
  · exact s.exitL1_pBar0
  · exact s.exitL1_pMgmt
  · exact s.exitL1_pJtag

@[simp] theorem State.settleWake_fld (s : State) (f : Fld) : s.settleWake.fld f = s.fld f := by
  unfold State.settleWake; split <;> rfl

/-- A link that has left L1 is no longer in it. -/
theorem State.exitL1_exitL1 (s : State) : s.exitL1.exitL1 = s.exitL1 := by
  by_cases h : (s.fld F.HEP_LINK_STAT_LSTATE == 2 && !s.ep.d3) = true
  · have hl : s.exitL1.fld F.HEP_LINK_STAT_LSTATE = 0 := by
      rw [State.exitL1, if_pos h, State.settleWake_fld, State.fld_setFld_other _ _ _ _ (by decide),
        State.fld_setFld_same _ _ _ (by decide)]
      rfl
    rw [State.exitL1.eq_1 s.exitL1, hl]; rfl
  · have e : s.exitL1 = s := by rw [State.exitL1, if_neg h]
    rw [e, e]

/-! ### An access that has arrived -/

section
variable (s : State) (p : Path)

@[simp] theorem State.reached_bar0 : s.reached .bar0 = s.exitL1 := rfl

theorem State.reached_of_ne_bar0 {s : State} {p : Path} (h : p ≠ .bar0) : s.reached p = s := if_neg h

@[simp] theorem State.reached_reached : (s.reached p).reached p = s.reached p := by
  cases p
  · exact s.exitL1_exitL1
  · rfl
  · rfl

@[simp] theorem State.reached_time : (s.reached p).time = s.time := (s.reached_logOnly p).time
@[simp] theorem State.reached_data : (s.reached p).data = s.data := (s.reached_logOnly p).data
@[simp] theorem State.reached_start : (s.reached p).start = s.start := (s.reached_logOnly p).start

@[simp] theorem State.reached_path (q : Path) : (s.reached p).path q = s.path q := by
  unfold State.reached; split <;> simp

@[simp] theorem State.reached_recs : (s.reached p).recs = s.recs := by
  unfold State.reached; split <;> simp

@[simp] theorem State.reached_flash : (s.reached p).flash = s.flash := by
  unfold State.reached; split <;> simp

@[simp] theorem State.reached_mode : (s.reached p).mode = s.mode :=
  (s.reached_logOnly p).fld F.GLB_MODE_STAT_CUR_MODE (by decide)

@[simp] theorem State.reached_native (a : Nat) : (s.reached p).native a = s.native a := by
  unfold State.native; rw [State.reached_mode]

@[simp] theorem State.reached_serves (a : Nat) : (s.reached p).serves a = s.serves a := by
  unfold State.serves; rw [State.reached_start]

@[simp] theorem State.reached_reachable (q : Path) : (s.reached p).reachable q = s.reachable q := by
  have h := s.reached_logOnly p
  unfold State.reachable
  rw [h.start, h.ep_mse, h.ep_d3, h.hep_flrBusy, h.hep_perst, h.bus]

@[simp] theorem State.reached_imageOwned (r : RegRow) (ix : List Nat) : (s.reached p).imageOwned r ix = s.imageOwned r ix := by
  have h : (s.reached p).pair A.TIME_CMP_RSV_LO 32 = s.pair A.TIME_CMP_RSV_LO 32 := by
    unfold State.pair
    rw [(s.reached_logOnly p).reg (by decide), (s.reached_logOnly p).reg (by decide)]
  unfold State.imageOwned State.cmpReserved
  rw [h]

end

/-- BAR0 reaches the map of a running hub alone, and a running hub serves every address: so an access that is not served has
changed nothing by arriving. -/
theorem State.reached_of_not_serves {s : State} {p : Path} {a : Nat} (h : s.reachable p = true) (hs : s.serves a = false) :
    s.reached p = s := by
  apply State.reached_of_ne_bar0
  rintro rfl
  unfold State.reachable at h
  unfold State.serves at hs
  split at h <;> simp_all

/-- An access that has arrived is guarded as it was when it came. -/
theorem State.guarded_reached {s : State} {p : Path} (h : s.reachable p = true) (a : Nat) (image : Bool) (act : State → State) :
    (s.reached p).guarded p a image act = s.guarded p a image act := by
  cases hs : s.serves a with
  | true => simp [State.guarded, h, hs]
  | false => rw [State.reached_of_not_serves h hs]

theorem State.guardedRead_reached {s : State} {p : Path} (h : s.reachable p = true) (a : Nat) (act : State → State) :
    (s.reached p).guardedRead p a act = s.guardedRead p a act := by
  cases hs : s.serves a with
  | true => simp [State.guardedRead, h, hs]
  | false => rw [State.reached_of_not_serves h hs]

/-! ### Commands of one register -/

theorem wordAddr_inBlock (p : Path) (a : BitVec 26) : inBlock p (wordAddr a) 1 = true := by
  have h : wordAddr a % 64 + 4 * 1 ≤ 64 := by unfold wordAddr; omega
  simp only [inBlock, h, decide_true, Bool.or_true]

theorem State.takes_one (s : State) (p : Path) (a : BitVec 26) : s.takes p (wordAddr a) 1 = s.reachable p := by
  rw [State.takes, wordAddr_inBlock, Bool.and_true]

theorem State.notTaken_unreachable {s : State} {p : Path} (h : s.reachable p = false) (posted : Bool) :
    s.notTaken p posted = s.unreachable p posted := by simp [State.notTaken, h]

/-- A request that no buffer has lost and that is not poisoned writes its registers one by one. -/
theorem State.writeRegs_eq (s : State) (p : Path) (a : Nat) (l : List (BitVec 4 × Word)) : s.writeRegs p a l false .none =
    l.zipIdx.foldl (fun t c => t.writeBytes p (a + 4 * c.2) c.1.1.toNat c.1.2) (s.reached p) := by
  simp [State.writeRegs, State.bufErr, State.reached]

/-- A request that is taken writes its registers. -/
theorem exec_registerWrite_takes {s : State} {p : Path} {a : BitVec 26} {more : List (BitVec 4 × Word)}
    (h : s.takes p (wordAddr a) (more.length + 1) = true) (be : BitVec 4) (v : Word) (ep : Bool) (buf : BufErr) :
    exec (.registerWrite p a be v more ep buf) s = .next (s.writeRegs p (wordAddr a) ((be, v) :: more) ep buf) := by
  show execRegisterWrite p a be v more ep buf s = _
  rw [execRegisterWrite, if_pos h]

/-- A write of one register on a path that reaches the map. -/
theorem exec_registerWrite_one {s : State} {p : Path} (h : s.reachable p = true) (a : BitVec 26) (be : BitVec 4) (v : Word) :
    exec (.registerWrite p a be v [] false .none) s = .next ((s.reached p).writeBytes p (wordAddr a) be.toNat v) := by
  rw [exec_registerWrite_takes ((s.takes_one p a).trans h), State.writeRegs_eq]
  rfl

theorem exec_registerWrite_word {s : State} {p : Path} (h : s.reachable p = true) (a : BitVec 26) (v : Word) :
    exec (.registerWrite p a 15 v [] false .none) s = .next ((s.reached p).writeAddr p (wordAddr a) v) := by
  rw [exec_registerWrite_one h]; rfl

/-- A read of one register on a path that reaches the map. -/
theorem State.readCmd_one {s : State} {p : Path} (h : s.reachable p = true) (a : BitVec 26) (be : BitVec 4) :
    s.readCmd p (wordAddr a) [be] .none = (s.reached p).readBytes p (wordAddr a) be false := by
  have hu : (BufErr.none == BufErr.uncorrectable) = false := rfl
  simp [State.readCmd, State.takes_one, h, State.readRegs, State.bufErr, State.reached, hu]

theorem exec_counterRead_one {s : State} {p : Path} (h : s.reachable p = true) (a : BitVec 26) (be : BitVec 4) :
    exec (.counterRead p a be [] .none) s = .next ((s.reached p).readBytes p (wordAddr a) be false) :=
  congrArg Host.Outcome.next (State.readCmd_one h a be)

theorem exec_lowWordRead_one {s : State} {p : Path} (h : s.reachable p = true) (a : BitVec 26) (be : BitVec 4) :
    exec (.lowWordRead p a be [] .none) s = .next ((s.reached p).readBytes p (wordAddr a) be false) :=
  congrArg Host.Outcome.next (State.readCmd_one h a be)

/-- A read of every byte is a read of the register. -/
theorem State.readBytes_whole (s : State) (p : Path) (a : Nat) {be : BitVec 4} (h : be = 15#4) :
    s.readBytes p a be false = s.readAddr p a := by subst h; rfl

/-- A read of some bytes has the side effects of the register's read (R9), but for suppression bits where no byte is asked for
(R408). -/
theorem State.readBytes_part (s : State) (p : Path) (a : Nat) {be : BitVec 4} (h : be ≠ 15#4) :
    s.readBytes p a be false = { s.readAddr p a with
      recs := s.recs.stillHeld (s.readAddr p a).recs be
      sent := s.sent ++ ((s.readAddr p a).sent.drop s.sent.length).map (Out.part be false) } := by
  simp [State.readBytes, h]

theorem State.native_of_not_legacy {s : State} (h : s.mode ≠ 6) (a : Nat) : s.native a = a := by simp [State.native, h]

/-- A write of a whole register where an address names one (R10, R11). -/
theorem State.writeAddr_row {s : State} {p : Path} {a n : Nat} {r : RegRow} {ix : List Nat} (hr : s.reachable p = true)
    (hn : s.native n = a) (ht : inTbl a 4 = false) (h : rowAt a = some (r, ix)) (v : Word) :
    (s.reached p).writeAddr p n v = s.guarded p a (s.imageOwned r ix) fun s => s.writeNow p a r ix v := by
  unfold State.writeAddr
  simp only [State.reached_native, hn, ht, h, State.reached_imageOwned, State.guarded_reached hr, Bool.false_eq_true, if_false]

/-- A read where an address names a register. -/
theorem State.readAddr_row {s : State} {p : Path} {a : Nat} {r : RegRow} {ix : List Nat} (hm : s.mode ≠ 6)
    (hr : s.AdmitsRead p a) (ht : inTbl a 4 = false) (h : rowAt a = some (r, ix)) :
    (s.reached p).readAddr p a = (s.reached p).readReg p a r ix := by
  unfold State.readAddr
  simp only [State.reached_native, State.native_of_not_legacy hm, State.guardedRead_reached hr.1, State.guardedRead_admits hr,
    ht, h, Bool.false_eq_true, if_false]

end Sys2Proof.Machine
end

section
/-! Words written by the access types of their fields (R8, R10), and the small statements of chapter 00. -/

namespace Sys2Proof.Machine

/-! ### Fields, bit by bit -/

/-- Bit `k` lies in a field. -/
def FieldRow.Has (f : FieldRow) (k : Nat) : Prop := f.lo ≤ k ∧ k < f.lo + f.w

theorem FieldRow.not_has_iff (f : FieldRow) (k : Nat) : ¬ f.Has k ↔ k < f.lo ∨ f.lo + f.w ≤ k := by
  unfold FieldRow.Has; omega

/-- A write to a field leaves every bit outside it. -/
theorem FieldRow.write_bit_outside (f : FieldRow) (old v : Word) {k : Nat} (h : ¬ f.Has k) :
    (f.write old v).getLsbD k = old.getLsbD k := by
  have hm : (fldMask f.lo f.w).getLsbD k = false := by
    rw [fldMask_bit]
    rcases (f.not_has_iff k).1 h with h | h
    · simp [Nat.not_le.2 h]
    · simp [Nat.not_lt.2 h]
  by_cases hk : k < 32
  · unfold FieldRow.write w1c
    cases f.acc <;> simp [-BitVec.getLsbD_eq_getElem, hm, hk]
  · rw [BitVec.getLsbD_of_ge _ _ (by omega), BitVec.getLsbD_of_ge _ _ (by omega)]

/-- An RW field takes its bits of the word written. -/
theorem FieldRow.write_bit_rw {f : FieldRow} (ha : f.acc = .rw) (hw : f.lo + f.w ≤ 32) (old v : Word) {k : Nat}
    (h : f.Has k) : (f.write old v).getLsbD k = v.getLsbD k := by
  obtain ⟨hlo, hhi⟩ := h
  have hk : k < 32 := by omega
  have hm : (fldMask f.lo f.w).getLsbD k = true := by rw [fldMask_bit]; simp [hk, hlo, hhi]
  simp [-BitVec.getLsbD_eq_getElem, FieldRow.write, ha, hm, hk]

/-- An RO, WO or W1S field holds nothing that a write changes. -/
theorem FieldRow.write_of_held {f : FieldRow} (ha : f.acc = .ro ∨ f.acc = .wo ∨ f.acc = .w1s) (old v : Word) :
    f.write old v = old := by
  rcases ha with h | h | h <;> simp [FieldRow.write, h]

/-! ### Registers, bit by bit -/

theorem writeFields_cons (f : FieldRow) (fs : List FieldRow) (old v : Word) :
    writeFields (f :: fs) old v = writeFields fs (f.write old v) v := rfl

/-- A bit outside every field keeps what it held. -/
theorem writeFields_bit_outside {fs : List FieldRow} {k : Nat} (h : ∀ f ∈ fs, ¬ f.Has k) (old v : Word) :
    (writeFields fs old v).getLsbD k = old.getLsbD k := by
  induction fs generalizing old with
  | nil => rfl
  | cons f fs ih =>
    obtain ⟨hf, hfs⟩ := List.forall_mem_cons.1 h
    rw [writeFields_cons, ih hfs, f.write_bit_outside old v hf]

/-- A bit of one of the fields, none of which overlap, becomes what that field's write makes of it, whatever the word held
elsewhere. -/
theorem writeFields_bit_of_mem {fs : List FieldRow} (hd : fs.Pairwise fun f g => f.lo + f.w ≤ g.lo ∨ g.lo + g.w ≤ f.lo)
    {f : FieldRow} (hf : f ∈ fs) {k : Nat} (hk : f.Has k) (old v : Word) :
    ∃ w : Word, w.getLsbD k = old.getLsbD k ∧ (writeFields fs old v).getLsbD k = (f.write w v).getLsbD k := by
  induction fs generalizing old with
  | nil => cases hf
  | cons g fs ih =>
    obtain ⟨hg, hfs⟩ := List.pairwise_cons.1 hd
    rw [writeFields_cons]
    rcases List.mem_cons.1 hf with rfl | hf
    · refine ⟨old, rfl, writeFields_bit_outside (fun h hh => ?_) _ v⟩
      rw [FieldRow.not_has_iff]
      have := hg h hh
      unfold FieldRow.Has at hk
      omega
    · have hgk : ¬ g.Has k := by
        rw [FieldRow.not_has_iff]
        have := hg f hf
        unfold FieldRow.Has at hk
        omega
      obtain ⟨w, hw, e⟩ := ih hfs hf (g.write old v)
      exact ⟨w, hw.trans (g.write_bit_outside old v hgk), e⟩

/-- Two words with the same bits in a field hold the same there. -/
theorem fldGet_congr {r r' : Word} {lo w : Nat} (h : ∀ k, lo ≤ k → k < lo + w → r.getLsbD k = r'.getLsbD k) :
    fldGet r lo w = fldGet r' lo w := by
  unfold fldGet
  congr 1
  apply BitVec.eq_of_getLsbD_eq
  intro i hi
  rw [BitVec.getLsbD_extractLsb', BitVec.getLsbD_extractLsb', h (lo + i) (by omega) (by omega)]

/-- Settles O45, bit by bit: each bit of a field is written by that field alone. -/
theorem accessTypes : Obligations.AccessTypes := by
  unfold Obligations.AccessTypes
  intro fs old v hd hw
  refine ⟨fun f hf => ⟨fun ha => fldGet_congr fun k h1 h2 => ?_, fun ha => fldGet_congr fun k h1 h2 => ?_⟩, fun k h => ?_⟩
  · obtain ⟨w, -, e⟩ := writeFields_bit_of_mem hd hf ⟨h1, h2⟩ old v
    rw [e, FieldRow.write_bit_rw ha (hw f hf) w v ⟨h1, h2⟩]
  · obtain ⟨w, hk, e⟩ := writeFields_bit_of_mem hd hf ⟨h1, h2⟩ old v
    rw [e, FieldRow.write_of_held ha, hk]
  · exact writeFields_bit_outside (fun f hf => (f.not_has_iff k).2 (h f hf)) old v

/-- Settles O46, by whether the address holds a register: if it does, the write stores that register's word, and if it does
not, nothing is stored. -/
theorem plainWriteFrame : Obligations.PlainWriteFrame := by
  unfold Obligations.PlainWriteFrame
  intro s a v
  unfold State.plainWrite
  split
  · exact ⟨_, rfl, fun b hb => s.reg_setReg_other _ (Ne.symm hb)⟩
  · exact ⟨s.regs, rfl, fun _ _ => rfl⟩

/-- Settles O51: positions run from 0 to 7, so an address divides by 8 in one way. -/
theorem nodeAddresses : Obligations.NodeAddresses := by
  unfold Obligations.NodeAddresses nodeAddr
  exact ⟨fun _ _ => rfl, fun c p c' p' hp hp' h => by omega⟩

end Sys2Proof.Machine
end

section
/-! A register write and the command named for the register are one (R6, R10). -/

namespace Sys2Proof.Machine

/-- What of a register's row decides how a whole-word write of it goes: its tag, its half, who owns it. -/
def rowKind (a : Nat) : Option (RegTag × Half × Bool) := (rowAt a).map fun c => (c.1.tag, c.1.half, c.1.image)

theorem rowKind_eq_some {a : Nat} {tag : RegTag} {half : Half} {image : Bool} (h : rowKind a = some (tag, half, image)) :
    ∃ r ix, rowAt a = some (r, ix) ∧ r.tag = tag ∧ r.half = half ∧ r.image = image := by
  obtain ⟨⟨r, ix⟩, hr, e⟩ := Option.map_eq_some_iff.1 h
  obtain ⟨rfl, rfl, rfl⟩ : r.tag = tag ∧ r.half = half ∧ r.image = image := by simpa using e
  exact ⟨r, ix, hr, rfl, rfl, rfl⟩

/-- A register that no compare unit holds is owned by the image where its row says so. -/
theorem State.imageOwned_of_tag {r : RegRow} (h : r.tag ∉ [RegTag.cmpCtrl, .cmpTgtHi, .cmpUnit]) (s : State) (ix : List Nat) :
    s.imageOwned r ix = r.image := by
  unfold State.imageOwned
  split <;> simp_all

/-- Below the table window an address names what it names in every mode. -/
theorem State.native_of_lt (s : State) {a : Nat} (h : a < tblBase) : s.native a = a := by
  have hl : ¬ legBase ≤ a := Nat.not_le.2 (Nat.lt_trans h (by decide))
  simp [State.native, inLeg, hl]

theorem inTbl_of_lt {a : Nat} (h : a < tblBase) (n : Nat) : inTbl a n = false := by simp [inTbl, Nat.not_le.2 h]

/-- `a` is the address of a register that software owns in every state, with this tag and half. -/
abbrev SoftwareRow (a : Nat) (tag : RegTag) (half : Half) : Prop := wordAddr (BitVec.ofNat 26 a) = a ∧ a < tblBase ∧
  rowKind a = some (tag, half, false) ∧ tag ∉ [RegTag.cmpCtrl, .cmpTgtHi, .cmpUnit]

/-- A whole-word write of a register that software owns is that register's write under the guard of its address; a path that
does not reach the map answers both alike. -/
theorem exec_registerWrite_row {a : Nat} {tag : RegTag} {half : Half} (hrow : SoftwareRow a tag half) {p : Path} {v : Word}
    {act : State → State}
    (hact : ∀ (t : State) (r : RegRow) (ix : List Nat), r.tag = tag → r.half = half → t.writeNow p a r ix v = act t) (s : State) :
    exec (.registerWrite p (BitVec.ofNat 26 a) 15 v [] false .none) s = .next (s.guarded p a false act) := by
  obtain ⟨hb, hlt, hk, ho⟩ := hrow
  obtain ⟨r, ix, hr, ht, hh, hi⟩ := rowKind_eq_some hk
  have hact : (fun t => t.writeNow p a r ix v) = act := funext fun t => hact t r ix ht hh
  cases hrch : s.reachable p with
  | true =>
    rw [exec_registerWrite_word hrch, hb, State.writeAddr_row hrch (s.native_of_lt hlt) (inTbl_of_lt hlt 4) hr,
      State.imageOwned_of_tag (ht ▸ ho), hi, hact]
  | false =>
    show execRegisterWrite p _ 15 v [] false .none s = _
    rw [execRegisterWrite, List.length_nil, Nat.zero_add, State.takes_one, hrch, State.notTaken_unreachable hrch,
      State.guarded, hrch]
    rfl

/-- Settles O54: each register's row sends its write to the operation that its command runs. -/
theorem writesAgree : Obligations.WritesAgree := by
  unfold Obligations.WritesAgree
  intro s p v
  refine ⟨exec_registerWrite_row (tag := .modeReq) (half := .none) (by decide +kernel) ?_ s,
    exec_registerWrite_row (tag := .timeInc) (half := .hi) (by decide +kernel) ?_ s,
    exec_registerWrite_row (tag := .timeAdj) (half := .hi) (by decide +kernel) ?_ s,
    exec_registerWrite_row (tag := .plcCtrl) (half := .none) (by decide +kernel) ?_ s,
    exec_registerWrite_row (tag := .grzPi) (half := .none) (by decide +kernel) ?_ s,
    exec_registerWrite_row (tag := .grzSubmit) (half := .none) (by decide +kernel) ?_ s,
    exec_registerWrite_row (tag := .grzCtrl) (half := .none) (by decide +kernel) ?_ s,
    exec_registerWrite_row (tag := .attCommit) (half := .none) (by decide +kernel) ?_ s,
    exec_registerWrite_row (tag := .pmCtrl) (half := .none) (by decide +kernel) ?_ s,
    exec_registerWrite_row (tag := .cfgSel) (half := .none) (by decide +kernel) ?_ s,
    exec_registerWrite_row (tag := .recCursor) (half := .none) (by decide +kernel) ?_ s⟩
  all_goals
    intro t r ix ht hh
    simp only [State.writeNow, ht, hh, if_true]

end Sys2Proof.Machine
end

section
/-! Refused accesses: image-owned registers outside Service, addresses that hold no register (R8, R11). -/

namespace Sys2Proof.Machine

/-! ### What the refusals write -/

theorem State.flag_congr {s t : State} (f : Fld) (h : t.reg f.addr = s.reg f.addr) : t.flag f = s.flag f := by
  unfold State.flag State.fld; rw [h]

/-- A refused image-owned write sets IOW_REJ and writes no other register but the link's state. -/
theorem State.imageReject_reg (s : State) (a : Nat) {b : Nat} (h : b ≠ A.HEP_LINK_STAT) :
    (s.imageReject a).reg b = (s.setFlag F.GLB_STAT_IOW_REJ true).reg b := by
  unfold State.imageReject
  extract_lets t
  split
  · rfl
  · rw [State.log_reg _ _ _ _ h]; rfl

/-- A refused reserved write sets RSV_WR and writes no other register but the link's state. -/
theorem State.reservedWrite_reg (s : State) (p : Path) {b : Nat} (h : b ≠ A.HEP_LINK_STAT) :
    (s.reservedWrite p).reg b = (s.setFlag F.GLB_STAT_RSV_WR true).reg b := by
  unfold State.reservedWrite
  extract_lets t x
  split
  · rfl
  · rw [State.log_reg _ _ _ _ h, State.reg, State.setPath_regs]; rfl

theorem State.imageReject_iowRej (s : State) (a : Nat) : (s.imageReject a).flag F.GLB_STAT_IOW_REJ = true := by
  rw [State.flag_congr _ (s.imageReject_reg a (by decide))]
  exact State.flag_setFlag_same _ _ _ (by decide) rfl

theorem State.imageReject_reg_other (s : State) (a : Nat) {b : Nat} (hb : b ≠ A.GLB_STAT) (h : b ≠ A.HEP_LINK_STAT) :
    (s.imageReject a).reg b = s.reg b := by
  rw [s.imageReject_reg a h]; exact State.reg_setFld_other _ _ _ (Ne.symm hb)

/-- A write to no register sets RSV_WR. -/
theorem State.noRegister_rsvWr (s : State) (p : Path) (a : Nat) : (s.noRegister p a).flag F.GLB_STAT_RSV_WR = true := by
  have h : (s.reservedWrite p).flag F.GLB_STAT_RSV_WR = true := by
    rw [State.flag_congr _ (s.reservedWrite_reg p (by decide))]
    exact State.flag_setFlag_same _ _ _ (by decide) rfl
  unfold State.noRegister
  extract_lets t
  split
  · rw [State.flag_congr _ (t.imageReject_reg a (by decide))]
    exact (State.flag_setFld_other _ _ _ _ (by decide)).trans h
  · exact h

/-- In Service it sets IOW_REJ as well. -/
theorem State.noRegister_iowRej {s : State} (h : s.mode = 3) (p : Path) (a : Nat) :
    (s.noRegister p a).flag F.GLB_STAT_IOW_REJ = true := by
  rw [State.noRegister, if_pos h]; exact State.imageReject_iowRej _ _

theorem State.noRegister_reg_other (s : State) (p : Path) (a : Nat) {b : Nat} (hb : b ≠ A.GLB_STAT) (h : b ≠ A.HEP_LINK_STAT) :
    (s.noRegister p a).reg b = s.reg b := by
  have e : (s.reservedWrite p).reg b = s.reg b := by
    rw [s.reservedWrite_reg p h]; exact State.reg_setFld_other _ _ _ (Ne.symm hb)
  unfold State.noRegister
  extract_lets t
  split
  · exact (t.imageReject_reg_other a hb h).trans e
  · exact e

/-! ### Accesses to addresses without a register -/

/-- A write to an address that holds no register is refused (R8). -/
theorem State.writeAddr_none {s : State} {p : Path} {a : Nat} (hm : s.mode ≠ 6) (hr : s.Admits p a false)
    (ht : inTbl a 4 = false) (h : rowAt a = none) (v : Word) : (s.reached p).writeAddr p a v = (s.reached p).noRegister p a := by
  unfold State.writeAddr
  simp [State.native_of_not_legacy hm, State.guarded_reached hr.1, State.guarded_admits hr, ht, h, hm]

/-- A read of an address that holds no register answers 0 (R8). -/
theorem State.readAddr_none {s : State} {p : Path} {a : Nat} (hm : s.mode ≠ 6) (hr : s.AdmitsRead p a)
    (ht : inTbl a 4 = false) (h : rowAt a = none) : (s.reached p).readAddr p a = (s.reached p).answer p 0#32 := by
  unfold State.readAddr
  simp [State.native_of_not_legacy hm, State.guardedRead_reached hr.1, State.guardedRead_admits hr, ht, h, hm]

/-- Settles O55: by the guard each access passes, and what the refusals write. -/
theorem refusedAccesses : Obligations.RefusedAccesses := by
  unfold Obligations.RefusedAccesses
  refine ⟨?owned, ?written, ?read⟩
  case owned =>
    intro s u p a v r ix h3 h6 ht hr hs hrow hi hu
    have hexec : exec (.registerWrite p a 15 v [] false .none) s = .next u := by
      rw [exec_registerWrite_word hr, State.writeAddr_row hr (State.native_of_not_legacy h6 _) ht hrow, hi,
        State.guarded_image hr hs h3, hu]
    subst hu
    exact ⟨hexec, State.imageReject_iowRej _ _, fun b hb hl =>
      (State.imageReject_reg_other _ _ hb hl).trans ((s.reached_logOnly p).reg hl)⟩
  case written =>
    intro s p a v h6 hr ht hrow
    refine ⟨(s.reached p).noRegister p (wordAddr a), ?_, State.noRegister_rsvWr _ _ _, fun h3 => ?_, fun b hb hl => ?_⟩
    · rw [exec_registerWrite_word hr.1, State.writeAddr_none h6 hr ht hrow]
    · exact State.noRegister_iowRej (by rw [State.reached_mode, h3]) _ _
    · exact (State.noRegister_reg_other _ _ _ hb hl).trans ((s.reached_logOnly p).reg hl)
  case read =>
    intro s p a h6 hr ht hrow
    rw [exec_counterRead_one hr.1, State.readBytes_whole (be := 15) _ _ _ rfl, State.readAddr_none h6 hr ht hrow]

end Sys2Proof.Machine
end

section
/-! Record windows, register accesses and configuration accesses (R9, R10, R56, R257, R274, R285, R286, R392, R408). -/

namespace Sys2Proof.Machine

/-! ### Record windows -/

@[simp] theorem State.reached_windowWords (s : State) (p q : Path) : (s.reached p).windowWords q = s.windowWords q := by
  unfold State.windowWords State.slotWords State.slotBytes State.flashRead State.flashByte
  simp only [State.reached_path, State.reached_recs, State.reached_flash]

@[simp] theorem State.answer_path (s : State) (p q : Path) (v : Word) : (s.answer p v).path q = s.path q := by cases q <;> rfl

/-! ### Register accesses -/

/-- A write of a part of a register that is there is discarded and counted (R9). -/
theorem State.writeBytes_part {s : State} {p : Path} {a : Nat} (hr : s.Admits p (s.native a) false) {be : Nat} (hbe : be ≠ 15)
    (h : (rowAt (s.native a)).isSome = true) (v : Word) :
    (s.reached p).writeBytes p a be v = (s.reached p).partialWrite := by
  unfold State.writeBytes
  simp only [State.reached_native, if_neg hbe, State.guarded_reached hr.1, State.guarded_admits hr, h, Bool.true_or, if_true]

@[simp] theorem State.exitL1_tlpHdr (s : State) : s.exitL1.tlpHdr = s.tlpHdr := by
  unfold State.tlpHdr; rw [State.exitL1_freeCtr]

/-- A request through BAR0 that crosses a 64-byte block is an unsupported one (R257). -/
theorem exec_registerWrite_across {s : State} (h : s.reachable .bar0 = true) (a : BitVec 26) (be : BitVec 4) (v : Word)
    (more : List (BitVec 4 × Word)) (ep : Bool) (buf : BufErr) (hb : 64 < wordAddr a % 64 + 4 * (more.length + 1)) :
    exec (.registerWrite .bar0 a be v more ep buf) s = .next ((s.drawnN 4).barUr true s.tlpHdr) := by
  have ht : s.takes .bar0 (wordAddr a) (more.length + 1) = false := by
    simp [State.takes, inBlock, Nat.not_le.2 hb]
  show execRegisterWrite .bar0 a be v more ep buf s = _
  simp [execRegisterWrite, ht, State.notTaken, h]

theorem beMask_all : beMask 15 = BitVec.allOnes 32 := by decide

/-- A configuration write of a whole dword that the endpoint takes. -/
theorem State.cfgWrite_dword {s : State} (hp : s.start.phase = .run) (h : s.hep.perst = false) (hf : s.hep.flrBusy = false)
    (o : Nat) (v : Word) : s.cfgWrite o v 15 = s.exitL1.cfgSet (o / 4 * 4) v v := by
  have hold (w : Word) : (w &&& ~~~ beMask 15) ||| v = v := by rw [beMask_all, BitVec.not_allOnes, BitVec.and_zero, BitVec.zero_or]
  have hnew : v &&& beMask 15 = v := by rw [beMask_all, BitVec.and_allOnes]
  simp only [State.cfgWrite, h, hf, State.up, hp, hnew, hold]
  rfl

/-- One that meets a function-level reset is answered with retry status (R274). -/
theorem State.cfgWrite_flr {s : State} (hp : s.start.phase = .run) (h : s.hep.perst = false) (hf : s.hep.flrBusy = true)
    (o : Nat) (v : Word) (be : Nat) : s.cfgWrite o v be = s.exitL1.emit .retryStatus := by
  simp [State.cfgWrite, h, hf, State.up, hp]

/-- Settles O44, one command at a time. -/
theorem recordsAndAccesses : Obligations.RecordsAndAccesses := by
  unfold Obligations.RecordsAndAccesses
  refine ⟨?cursor, ?loaded, ?window7, ?writes, ?word, ?part, ?bar0, ?reads, ?ppsOut, ?ref10m, ?config⟩
  case cursor =>
    intro s p v hr
    refine ⟨(s.reached p).recCursor p v, congrArg Host.Outcome.next (State.guarded_admits hr _), ?_⟩
    simp [State.recCursor, State.loadSlot]
  case loaded =>
    intro s p hc
    have hexec : exec (.recWindowLoaded p) s = .next (s.windowLoaded p) := by
      show execRecWindowLoaded p s = _
      rw [execRecWindowLoaded, if_pos hc]
    refine ⟨fun hl => ⟨_, hexec, ?_⟩, fun hl => ?_⟩
    · simp [State.windowLoaded, hl]
    · rw [hexec]; simp [State.windowLoaded, hl]
  case window7 =>
    intro s u p hr hu
    show execRecWindow7Read p s = _
    rw [execRecWindow7Read, State.guardedRead_admits hr, hu]
    simp [State.windowRead]
  case writes =>
    intro s p a be v more ht
    rw [exec_registerWrite_takes ht, State.writeRegs_eq]
  case word => exact fun s p a v hr => exec_registerWrite_word hr a v
  case part =>
    intro s r p a be v hr ha hbe hrow
    have hne : be.toNat ≠ 15 := fun h => hbe (BitVec.eq_of_toNat_eq h)
    rw [exec_registerWrite_one ha.1, State.writeBytes_part ha hne hrow, hr]
    rfl
  case bar0 =>
    intro s a be v more ep buf hr
    refine ⟨exec_registerWrite_across hr a be v more ep buf, fun hb => ?_⟩
    have ht : s.takes .bar0 (wordAddr a) (more.length + 1) = true := by simp [State.takes, inBlock, hr, hb]
    rw [exec_registerWrite_takes ht, exec_registerWrite_takes ht]
    constructor
    · simp [State.writeRegs]
    · simp [State.writeRegs, State.bufErr]
  case reads =>
    intro s t p a be hr ht
    refine ⟨fun hbe => ?_, fun hbe i hi => ?_⟩
    · rw [exec_counterRead_one hr, exec_lowWordRead_one hr, State.readBytes_whole _ _ _ hbe, ht]
      exact ⟨rfl, rfl⟩
    · have hexec : exec i s = .next ((s.reached p).readBytes p (wordAddr a) be false) := by
        simp only [List.mem_cons, List.not_mem_nil, or_false] at hi
        rcases hi with rfl | rfl
        · exact exec_counterRead_one hr a be
        · exact exec_lowWordRead_one hr a be
      rw [hexec, State.readBytes_part _ _ _ hbe, ht]
  case ppsOut =>
    intro s t hp ht
    show execPpsOutPulseEnd s = _
    rw [execPpsOutPulseEnd, State.whenUp_up hp, State.ppsOutEnd, ht]
  case ref10m =>
    intro s hp
    show execRef10mInEdge s = _
    rw [execRef10mInEdge, State.whenUp_up hp]
  case config =>
    intro s v hp h
    refine ⟨fun hf => ?_, fun hf o be => congrArg Host.Outcome.next (State.cfgWrite_flr hp h hf _ _ _)⟩
    show Host.Outcome.next (s.cfgWrite 0x5C v 15) = _
    rw [State.cfgWrite_dword hp h hf, ← s.exitL1_ep]
    rfl

end Sys2Proof.Machine
end

section
/-! Captures, FIFO pops, reference edges and latched reads (R7, R9, R55, R56). -/

namespace Sys2Proof.Machine

/-! ### Captures -/

@[simp] theorem State.captFifo_setCapt (s : State) (n : Nat) (q : List CaptEnt) : (s.setCapt n q).captFifo n = q :=
  tblGet_set_same _ _ _ _

@[simp] theorem State.reached_captFifo (s : State) (p : Path) (n : Nat) : (s.reached p).captFifo n = s.captFifo n := by
  unfold State.captFifo; rw [State.reached_time]

@[simp] theorem State.raiseIrq_captFifo (s : State) (i n : Nat) : (s.raiseIrq i).captFifo n = s.captFifo n := by
  unfold State.captFifo; rw [State.raiseIrq_time]

/-- An edge of a selected kind whose level the filter takes, with no short level before it, is accepted (R55). -/
theorem State.captEdge_takes {s : State} {n held : Nat} (hn : n ∉ s.time.captShort)
    (h0 : s.fld (F.TIME_CAPT_CFG_FILT n) = 0 → 32 ≤ held) (hf : 64 * s.fld (F.TIME_CAPT_CFG_FILT n) ≤ held) (falling : Bool)
    (sub : Nat) : s.captEdge n falling sub held = s.captAccept n falling sub := by
  have hlong : ¬ (s.fld (F.TIME_CAPT_CFG_FILT n) = 0 ∧ held < 32) := fun h => by have := h0 h.1; omega
  have htakes : s.captTakes n held = true := by
    unfold State.captTakes
    extract_lets f
    split
    · simp [h0 (by assumption)]
    · exact decide_eq_true hf
  simp only [State.captEdge, if_neg hn, if_neg hlong, htakes, if_true]

/-- What accepting an edge of a selected kind does, where the FIFO has room and where it is full. -/
theorem State.captAccept_selected {s : State} {n : Nat} {falling : Bool}
    (he : s.fld (F.TIME_CAPT_CFG_EDGE n) = (if falling then 2 else 1) ∨ s.fld (F.TIME_CAPT_CFG_EDGE n) = 3) (sub : Nat) :
    s.captAccept n falling sub = if 8 ≤ (s.captFifo n).length then s.count31 (A.TIME_CAPT_LOST n) 1 else
      let t := s.setCapt n (s.captFifo n ++ [⟨st48 (s.now + sub), falling⟩])
      if t.flag (F.TIME_CAPT_CFG_IRQ_EN n) ∧ s.captFifo n = [] then t.raiseIrq (256 + n) else t := by
  have hsel : s.fld (F.TIME_CAPT_CFG_EDGE n) = 3 ∨ (s.fld (F.TIME_CAPT_CFG_EDGE n) = 1 ∧ !falling) ∨
      (s.fld (F.TIME_CAPT_CFG_EDGE n) = 2 ∧ falling) := by
    rcases he with he | he
    · cases falling
      · exact .inr (.inl ⟨he, rfl⟩)
      · exact .inr (.inr ⟨he, rfl⟩)
    · exact .inl he
  rw [State.captAccept, if_pos hsel]

/-- A pop of a FIFO answers its oldest entry, and of an empty one 0 (R55). -/
theorem exec_timeCaptFifoLoRead {s : State} {p : Path} {n : Fin 32} (h : s.AdmitsRead p (A.TIME_CAPT_FIFO_LO n)) :
    exec (.timeCaptFifoLoRead p n) s = .next ((s.reached p).captRead p n) :=
  congrArg Host.Outcome.next (State.guardedRead_admits h _)

/-! ### Latched reads -/

/-- Registers whose reads do more than answer them and latch their high word. -/
abbrev ownReads : List RegTag := [.captFifo, .recWindow, .timeNow, .ptmSet, .lstStat]

/-- A read of a low word answers it and latches the high word (R7). -/
theorem State.readReg_lo {r : RegRow} (hh : r.half = .lo) (ht : r.tag ∉ ownReads) (s : State) (p : Path) (a : Nat)
    (ix : List Nat) : s.readReg p a r ix = ((s.unsuppress a).latchAll p [a + 4]).answer p ((s.unsuppress a).readNow p a r ix) := by
  unfold State.readReg
  split <;> simp_all

/-- A read of a register of one word answers it (R7). -/
theorem State.readReg_none {r : RegRow} (hh : r.half = .none) (ht : r.tag ∉ ownReads) (s : State) (p : Path) (a : Nat)
    (ix : List Nat) : s.readReg p a r ix = (s.unsuppress a).answer p ((s.unsuppress a).readNow p a r ix) := by
  unfold State.readReg
  split <;> simp_all

theorem State.latched_latchHi (s : State) (p : Path) (a : Nat) (v : Word) : (s.latchHi p a v).latched p a = v := by
  simp [State.latched, State.latchHi]

@[simp] theorem State.latched_answer (s : State) (p q : Path) (v : Word) (a : Nat) : (s.answer p v).latched q a = s.latched q a := by
  unfold State.latched; rw [State.answer_path]

/-- What a read of some bytes answers where the register's read answers one word after what was sent before: those bytes
alone (R9). Its suppression bits aside, the rest is as the register's read leaves it. -/
theorem State.readBytes_answer {s t : State} {p : Path} {a : Nat} {v : Word} (h : s.readAddr p a = t.answer p v)
    (hs : t.sent = s.sent) (be : BitVec 4) : ∃ recs, s.readBytes p a be false = { t with
      recs := recs
      sent := t.sent ++ [if be = 15#4 then .readData p v else .readPart p be (v &&& beMask be.toNat) false] } := by
  by_cases hb : be = 15#4
  · exact ⟨t.recs, by rw [State.readBytes_whole _ _ _ hb, h, if_pos hb]; rfl⟩
  · have hnew : (t.answer p v).sent.drop s.sent.length = [.readData p v] := by rw [State.answer_sent, hs, List.drop_left]
    refine ⟨s.recs.stillHeld t.recs be, ?_⟩
    rw [State.readBytes_part _ _ _ hb, h, hnew, if_neg hb, hs]
    rfl

/-- Settles O11, one command at a time. -/
theorem capturesAndLatches : Obligations.CapturesAndLatches := by
  unfold Obligations.CapturesAndLatches
  refine ⟨?edge, ?pop, ?pps, ?low, ?one⟩
  case edge =>
    intro s n falling sub held hp hn h0 hf he
    have hexec : exec (.captEdge n falling sub held) s = .next (s.captAccept n falling sub) := by
      show execCaptEdge n falling sub held s = _
      rw [execCaptEdge, State.whenUp_up hp, State.captEdge_takes hn h0 hf]
    rw [hexec, State.captAccept_selected he]
    refine ⟨fun hl => ?_, fun hl => by rw [if_pos hl]⟩
    rw [if_neg (Nat.not_le.2 hl)]
    extract_lets t
    have ht : t.captFifo n = s.captFifo n ++ [⟨st48 (s.now + sub), falling⟩] ∧ t.data = s.data ∧ t.herds = s.herds :=
      ⟨State.captFifo_setCapt _ _ _, rfl, rfl⟩
    refine ⟨_, rfl, ?_⟩
    split
    · simpa only [State.raiseIrq_captFifo, State.raiseIrq_data, State.raiseIrq_herds] using ht
    · exact ht
  case pop =>
    intro s u p n hr hu
    rw [exec_timeCaptFifoLoRead hr, ← hu]
    have hq : u.captFifo n = s.captFifo n := by rw [hu, State.reached_captFifo]
    refine ⟨fun e q h => ?_, fun h => ?_⟩
    · rw [State.captRead, hq, h]
    · rw [State.captRead, hq, h]
  case pps =>
    intro s sub hp
    show execPpsInEdge sub s = _
    rw [execPpsInEdge, State.whenUp_up hp]
    rfl
  case low =>
    intro s u p a r ix hm hr ht hrow hh htag hu
    refine ⟨_, exec_lowWordRead_one hr.1 a 15, ?_⟩
    rw [State.readBytes_whole (be := 15) _ _ _ rfl, State.readAddr_row hm hr ht hrow, State.readReg_lo hh htag, ← hu]
    have hd : u.data = s.data := by rw [hu]; exact s.reached_data p
    have htm : u.time = s.time := by rw [hu]; exact s.reached_time p
    refine ⟨by simp [State.latchAll], ?_, by simp [State.latchAll], by simp [State.latchAll, hd], by simp [State.latchAll, htm]⟩
    rw [State.latched_answer]
    exact State.latched_latchHi _ _ _ _
  case one =>
    intro s u p a be r ix hm hr ht hrow hh htag hu
    have hread : (s.reached p).readAddr p (wordAddr a) = u.answer p (u.readNow p (wordAddr a) r ix) := by
      rw [State.readAddr_row hm hr ht hrow, State.readReg_none hh htag, ← hu]
    have hsent : u.sent = (s.reached p).sent := by rw [hu]; rfl
    obtain ⟨recs, e⟩ := State.readBytes_answer hread hsent be
    refine ⟨_, exec_counterRead_one hr.1 a be, ?_⟩
    rw [e]
    subst hu
    exact ⟨rfl, rfl, s.reached_data p, s.reached_time p⟩

end Sys2Proof.Machine
end

section
/-! Eye scans and test loops: what their writes leave in a receiver's registers and in a port's transmitter (R88, R89, R90,
R119). -/

namespace Sys2Proof.Machine

/-! ### The registers of one receiver -/

/-- The receivers' registers end below the host link's (R422). -/
theorem trlBase_lt {p : Nat} (h : p < 80) : trlBase p < 0x310000 := by
  unfold trlBase; split <;> omega

theorem TRL_EYE_ROW_ne (p i : Nat) {a : Nat} (h : a < 0x400) : A.TRL_EYE_ROW p i ≠ trlBase p + a := by
  unfold A.TRL_EYE_ROW; omega

/-- A field of a receiver reads the same once an access has arrived. -/
theorem State.reached_fld_trl (s : State) (p : Path) (n : Fin 80) {f : Fld} {a : Nat} (hf : f.addr = trlBase n + a)
    (ha : a < 0x1000) : (s.reached p).fld f = s.fld f := by
  refine (s.reached_logOnly p).fld f (Nat.ne_of_lt ?_)
  have hn := trlBase_lt n.isLt
  rw [hf, show A.HEP_LINK_STAT = 0x1400000 from rfl]
  omega

theorem State.fld_congr {s t : State} (f : Fld) (h : t.reg f.addr = s.reg f.addr) : t.fld f = s.fld f := by
  unfold State.fld; rw [h]

/-- A plain write leaves every other register. -/
theorem State.reg_plainWrite_other (s : State) {a b : Nat} (v : Word) (h : b ≠ a) : (s.plainWrite a v).reg b = s.reg b := by
  obtain ⟨r, e, hr⟩ := plainWriteFrame s a v
  rw [e]; exact hr b h

/-- A plain write changes registers alone. -/
theorem State.plainWrite_frame (s : State) (a : Nat) (v : Word) :
    (s.plainWrite a v).link = s.link ∧ (s.plainWrite a v).data = s.data ∧ (s.plainWrite a v).time = s.time := by
  obtain ⟨r, e, -⟩ := plainWriteFrame s a v
  rw [e]
  exact ⟨rfl, rfl, rfl⟩

/-! ### Eye scans -/

/-- A result reads the same whatever becomes of the scan's status. -/
theorem State.eyeRow_setFld (s : State) {p : Nat} {f : Fld} (hf : f.addr = A.TRL_EYE_STAT p) (v i : Nat) :
    (s.setFld f v).reg (A.TRL_EYE_ROW p i) = s.reg (A.TRL_EYE_ROW p i) :=
  State.reg_setFld_other _ _ _ (by rw [hf]; exact (TRL_EYE_ROW_ne p i (by decide)).symm)

/-- PH_NEXT and the state of the scan stand in one register, apart. -/
theorem State.fld_phNext_setState (s : State) (p v : Nat) :
    (s.setFld (F.TRL_EYE_STAT_STATE p) v).fld (F.TRL_EYE_STAT_PH_NEXT p) = s.fld (F.TRL_EYE_STAT_PH_NEXT p) :=
  State.fld_setFld_other _ _ _ _ (.inr (.inl (Nat.le_refl 2)))

theorem State.fld_state_setPhNext (s : State) (p v : Nat) :
    (s.setFld (F.TRL_EYE_STAT_PH_NEXT p) v).fld (F.TRL_EYE_STAT_STATE p) = s.fld (F.TRL_EYE_STAT_STATE p) :=
  State.fld_setFld_other _ _ _ _ (.inr (.inr (Nat.le_refl 2)))

/-- A fold of register writes writes registers alone: those it names take the word. -/
theorem State.foldl_setReg (f : Nat → Nat) (v : Word) (l : List Nat) (s : State) :
    ∃ r, l.foldl (fun s i => s.setReg (f i) v) s = { s with regs := r } ∧
      ∀ a, tblGet regReset r a = if a ∈ l.map f then v else s.reg a := by
  induction l generalizing s with
  | nil => exact ⟨s.regs, rfl, fun a => rfl⟩
  | cons i l ih =>
    obtain ⟨r, e, hr⟩ := ih (s.setReg (f i) v)
    refine ⟨r, e, fun a => ?_⟩
    rw [hr, State.reg_setReg]
    by_cases ha : a ∈ l.map f
    · rw [List.map_cons, if_pos ha, if_pos (List.mem_cons_of_mem _ ha)]
    · simp only [List.map_cons, List.mem_cons, ha, or_false, if_false, eq_comm]

theorem State.eyeClear_frame (s : State) (p : Nat) :
    (s.eyeClear p).link = s.link ∧ (s.eyeClear p).data = s.data ∧ (s.eyeClear p).time = s.time := by
  obtain ⟨r, e, -⟩ := State.foldl_setReg (A.TRL_EYE_ROW p) 0#32 (List.range 128) s
  rw [State.eyeClear, e]
  exact ⟨rfl, rfl, rfl⟩

theorem State.eyeClear_row (s : State) (p : Nat) {i : Nat} (h : i < 128) : (s.eyeClear p).reg (A.TRL_EYE_ROW p i) = 0#32 := by
  obtain ⟨r, e, hr⟩ := State.foldl_setReg (A.TRL_EYE_ROW p) 0#32 (List.range 128) s
  rw [State.eyeClear, e]
  exact (hr _).trans (if_pos (List.mem_map_of_mem (List.mem_range.2 h)))

theorem State.eyeClear_reg_other (s : State) {p a : Nat} (h : ∀ i, A.TRL_EYE_ROW p i ≠ a) : (s.eyeClear p).reg a = s.reg a := by
  obtain ⟨r, e, hr⟩ := State.foldl_setReg (A.TRL_EYE_ROW p) 0#32 (List.range 128) s
  rw [State.eyeClear, e]
  refine (hr _).trans (if_neg fun hm => ?_)
  obtain ⟨i, -, hi⟩ := List.mem_map.1 hm
  exact h i hi

/-- GO where no scan is busy (R88). -/
theorem State.eyeCtrl_go {s : State} {p : Nat} {v : Word} (hgo : bitOn v 13 = true) (hidle : s.fld (F.TRL_EYE_STAT_STATE p) ≠ 1) :
    s.eyeCtrl p v = (((s.plainWrite (A.TRL_EYE_CTRL p) v).eyeClear p).setFld (F.TRL_EYE_STAT_PH_NEXT p) 0).setFld
      (F.TRL_EYE_STAT_STATE p) (if s.flag (F.TRL_STAT_LOCK p) = true then 1 else 3) := by
  have hstate : (s.plainWrite (A.TRL_EYE_CTRL p) v).fld (F.TRL_EYE_STAT_STATE p) = s.fld (F.TRL_EYE_STAT_STATE p) :=
    State.fld_congr _ (s.reg_plainWrite_other v (by simp [F.TRL_EYE_STAT_STATE, A.TRL_EYE_STAT, A.TRL_EYE_CTRL]))
  have hlock : (((s.plainWrite (A.TRL_EYE_CTRL p) v).eyeClear p).setFld (F.TRL_EYE_STAT_PH_NEXT p) 0).flag (F.TRL_STAT_LOCK p) =
      s.flag (F.TRL_STAT_LOCK p) := by
    have hrows : ∀ i, A.TRL_EYE_ROW p i ≠ (F.TRL_STAT_LOCK p).addr := fun i => TRL_EYE_ROW_ne p i (a := 0x4) (by decide)
    refine State.flag_congr _ ?_
    rw [State.reg_setFld_other _ _ _ (by simp [F.TRL_EYE_STAT_PH_NEXT, F.TRL_STAT_LOCK, A.TRL_EYE_STAT, A.TRL_STAT]),
      State.eyeClear_reg_other _ hrows,
      State.reg_plainWrite_other _ _ (by simp [F.TRL_STAT_LOCK, A.TRL_STAT, A.TRL_EYE_CTRL])]
  simp [State.eyeCtrl, hgo, hstate, hidle, hlock]

section
variable {s : State} {p : Nat} {v : Word}

/-- A write of TRL_EYE_CTRL changes registers alone. -/
theorem State.eyeCtrl_frame : (s.eyeCtrl p v).link = s.link ∧ (s.eyeCtrl p v).data = s.data ∧ (s.eyeCtrl p v).time = s.time := by
  obtain ⟨hl, hd, ht⟩ := s.plainWrite_frame (A.TRL_EYE_CTRL p) v
  obtain ⟨hl', hd', ht'⟩ := (s.plainWrite (A.TRL_EYE_CTRL p) v).eyeClear_frame p
  unfold State.eyeCtrl
  extract_lets t u
  split
  · exact ⟨hl, hd, ht⟩
  · rw [State.setFld_link, State.setFld_data, State.setFld_time, State.setFld_link, State.setFld_data, State.setFld_time]
    exact ⟨hl'.trans hl, hd'.trans hd, ht'.trans ht⟩

variable (hgo : bitOn v 13 = true) (hidle : s.fld (F.TRL_EYE_STAT_STATE p) ≠ 1)
include hgo hidle

theorem State.eyeCtrl_go_phNext : (s.eyeCtrl p v).fld (F.TRL_EYE_STAT_PH_NEXT p) = 0 := by
  rw [State.eyeCtrl_go hgo hidle, State.fld_phNext_setState]
  exact State.fld_setFld_same _ _ _ (show 2 + 7 ≤ 32 by decide)

theorem State.eyeCtrl_go_state : (s.eyeCtrl p v).fld (F.TRL_EYE_STAT_STATE p) =
    if s.flag (F.TRL_STAT_LOCK p) = true then 1 else 3 := by
  rw [State.eyeCtrl_go hgo hidle, State.fld_setFld_same _ _ _ (show 0 + 2 ≤ 32 by decide)]
  split <;> rfl

theorem State.eyeCtrl_go_row {i : Nat} (hi : i < 128) : (s.eyeCtrl p v).reg (A.TRL_EYE_ROW p i) = 0#32 := by
  rw [State.eyeCtrl_go hgo hidle, State.eyeRow_setFld _ rfl, State.eyeRow_setFld _ rfl, State.eyeClear_row _ _ hi]

end

/-- The result of a point is in its row, and the next point is up. -/
def State.eyeStored (s : State) (p m : Nat) : State :=
  (s.setReg (A.TRL_EYE_ROW p (s.fld (F.TRL_EYE_STAT_PH_NEXT p)))
    (BitVec.ofNat 32 (min m 65535 + 2 ^ 16 + (if m > 65535 then 2 ^ 17 else 0)))).setFld
      (F.TRL_EYE_STAT_PH_NEXT p) (s.fld (F.TRL_EYE_STAT_PH_NEXT p) + 1)

/-- The end of a point of a scan that is busy; the 128th ends the scan (R88). -/
theorem State.eyePoint_busy {s : State} {p : Nat} (h : s.fld (F.TRL_EYE_STAT_STATE p) = 1) (m : Nat) :
    s.eyePoint p m = if s.fld (F.TRL_EYE_STAT_PH_NEXT p) = 127 then (s.eyeStored p m).setFld (F.TRL_EYE_STAT_STATE p) 2
      else s.eyeStored p m := by
  simp only [State.eyePoint, if_pos h, State.eyeStored]

theorem State.eyeStored_state (s : State) (p m : Nat) :
    (s.eyeStored p m).fld (F.TRL_EYE_STAT_STATE p) = s.fld (F.TRL_EYE_STAT_STATE p) := by
  rw [State.eyeStored, State.fld_state_setPhNext]
  exact State.fld_congr _ (State.reg_setReg_other _ _ (TRL_EYE_ROW_ne p _ (by decide)))

theorem State.eyeStored_phNext (s : State) (p m : Nat) : (s.eyeStored p m).fld (F.TRL_EYE_STAT_PH_NEXT p) =
    (s.fld (F.TRL_EYE_STAT_PH_NEXT p) + 1) % 2 ^ (F.TRL_EYE_STAT_PH_NEXT p).w :=
  State.fld_setFld_same _ _ _ (show 2 + 7 ≤ 32 by decide)

theorem State.eyeStored_row (s : State) (p m : Nat) : (s.eyeStored p m).reg (A.TRL_EYE_ROW p (s.fld (F.TRL_EYE_STAT_PH_NEXT p))) =
    BitVec.ofNat 32 (min m 65535 + 2 ^ 16 + (if m > 65535 then 2 ^ 17 else 0)) := by
  rw [State.eyeStored, State.eyeRow_setFld _ rfl, State.reg_setReg_same]

theorem State.eyeStored_link (s : State) (p m : Nat) : (s.eyeStored p m).link = s.link := by
  rw [State.eyeStored, State.setFld_link, State.setReg_link]

theorem State.eyeStored_sent (s : State) (p m : Nat) : (s.eyeStored p m).sent = s.sent := by
  rw [State.eyeStored, State.setFld_sent, State.setReg_sent]

/-! ### Writes of TRL_TEST -/

/-- TRL_TEST's fields at each receiver (R90). -/
theorem rowAt_TRL_TEST (n : Fin 80) : ∃ c, rowAt (A.TRL_TEST n) = some c ∧
    c.1.fields = [fRW 0 2 0, fRW 2 3 0, fRW 5 1 0, fRW 8 3 0] := by
  have h : ∀ n : Fin 80, (rowAt (A.TRL_TEST n)).map (·.1.fields) = some [fRW 0 2 0, fRW 2 3 0, fRW 5 1 0, fRW 8 3 0] := by
    decide +kernel
  exact Option.map_eq_some_iff.1 (h n)

/-- LOOP of TRL_TEST reads as it was written. -/
theorem State.plainWrite_loop (s : State) (n : Fin 80) (w : Word) :
    (s.plainWrite (A.TRL_TEST n) w).fld (F.TRL_TEST_LOOP n) = fldGet w 0 2 := by
  obtain ⟨c, hc, hfs⟩ := rowAt_TRL_TEST n
  have hreg : (s.plainWrite (A.TRL_TEST n) w).reg (A.TRL_TEST n) = writeFields c.1.fields (s.reg (A.TRL_TEST n)) w := by
    simp only [State.plainWrite, hc, State.reg_setReg_same]
  obtain ⟨hfields, -⟩ := accessTypes c.1.fields (s.reg (A.TRL_TEST n)) w (hfs ▸ by decide) (hfs ▸ by decide)
  calc (s.plainWrite (A.TRL_TEST n) w).fld (F.TRL_TEST_LOOP n)
    _ = fldGet (writeFields c.1.fields (s.reg (A.TRL_TEST n)) w) 0 2 := by rw [← hreg]; rfl
    _ = fldGet w 0 2 := (hfields (fRW 0 2 0) (hfs ▸ List.mem_cons_self ..)).1 rfl

/-- A word whose two low bits are replaced holds the new ones. -/
theorem fldGet_replaceLow (v c : Word) : fldGet (v &&& ~~~ 3#32 ||| c) 0 2 = fldGet c 0 2 := by
  refine fldGet_congr fun k _ hk => ?_
  obtain rfl | rfl : k = 0 ∨ k = 1 := by omega
  all_goals simp

theorem fldGet_setLow (v : Word) : fldGet (v ||| 3#32) 0 2 = 3 := by
  refine (fldGet_congr (r' := 3#32) fun k _ hk => ?_).trans rfl
  obtain rfl | rfl : k = 0 ∨ k = 1 := by omega
  all_goals simp

section
variable {s : State} {n : Fin 80} {w : Word}

/-- LOOP 0 ends what runs (R90). -/
theorem State.testWrite_off (h : fldGet w 0 2 = 0) : s.testWrite n w = (s.loopOff n).plainWrite (A.TRL_TEST n) w := by
  simp only [State.testWrite, State.plainWrite_loop, h, if_true]

/-- A loop that is refused (R90). -/
theorem State.testWrite_refused (h : fldGet w 0 2 ≠ 0) (hr : (s.plainWrite (A.TRL_TEST n) w).loopRefused n = true) :
    s.testWrite n w = ((s.plainWrite (A.TRL_TEST n) w).setFld (F.TRL_TEST_STAT_STATE n) 2).log 90 n [] := by
  simp only [State.testWrite, State.plainWrite_loop, h, hr, if_true, if_false]

/-- A far-end loop that is not refused (R119). -/
theorem State.testWrite_far (h : fldGet w 0 2 = 3) (hr : (s.plainWrite (A.TRL_TEST n) w).loopRefused n = false) :
    s.testWrite n w = (s.plainWrite (A.TRL_TEST n) w).loopFar n := by
  simp [State.testWrite, State.plainWrite_loop, h, hr]

/-- A near-end loop that is not refused (R89). -/
theorem State.testWrite_near (h0 : fldGet w 0 2 ≠ 0) (h3 : fldGet w 0 2 ≠ 3)
    (hr : (s.plainWrite (A.TRL_TEST n) w).loopRefused n = false) :
    s.testWrite n w = (s.plainWrite (A.TRL_TEST n) w).loopNear n := by
  simp [State.testWrite, State.plainWrite_loop, h0, h3, hr]

end

/-! ### A port's transmitter -/

@[simp] theorem State.tx_setTx_same (s : State) (p : Nat) (x : TxSt) : (s.setTx p x).tx p = x := tblGet_set_same _ _ _ _

@[simp] theorem State.tx_setFld (s : State) (f : Fld) (v q : Nat) : (s.setFld f v).tx q = s.tx q := by
  unfold State.tx; rw [State.setFld_link]

@[simp] theorem State.tx_setFlag (s : State) (f : Fld) (b : Bool) (q : Nat) : (s.setFlag f b).tx q = s.tx q := by
  unfold State.tx; rw [State.setFlag_link]

@[simp] theorem State.tx_setRx (s : State) (p : Nat) (r : RxSt) (q : Nat) : (s.setRx p r).tx q = s.tx q := rfl

@[simp] theorem State.tx_setSensor (s : State) (p : Nat) (x : SensorSt) (q : Nat) : (s.setSensor p x).tx q = s.tx q := rfl

@[simp] theorem State.tx_setPort (s : State) (p : Nat) (x : PortSt) (q : Nat) : (s.setPort p x).tx q = s.tx q := rfl

/-- A receiver that loses its lock leaves the transmitters alone. -/
@[simp] theorem State.tx_unlock (s : State) (p q : Nat) : (s.unlock p).tx q = s.tx q := by
  unfold State.unlock
  extract_lets was r hunting out _ held
  have hout : out.tx q = s.tx q := by
    rw [State.tx_setFlag, State.tx_setFlag, State.tx_setRx]
  have hheld : held.tx q = s.tx q := by
    unfold held
    split
    · exact (State.tx_setSensor ..).trans hout
    · exact hout
  split
  · exact (State.tx_setFld ..).trans hheld
  · exact hheld

/-- A receiver that takes a step and hunts leaves what its port's transmitter has queued. -/
theorem State.rxStep_queue (s : State) (p step : Nat) : ((s.rxStep p step).tx p).queue = (s.tx p).queue := by
  simp [State.rxStep, State.setStep, State.loadEq]

/-! ### Loops -/

/-- A near-end loop leaves its port's transmitter nothing to send (R89). -/
theorem State.loopNear_queue (s : State) (p : Nat) : ((s.loopNear p).tx p).queue = [] := by
  simp [State.loopNear, State.rxStep_queue, State.setBrup]

theorem State.loopNear_state (s : State) (p : Nat) : (s.loopNear p).fld (F.TRL_TEST_STAT_STATE p) = 1 :=
  State.fld_setFld_same _ _ _ (show 0 + 2 ≤ 32 by decide)

theorem State.loopNear_loop (s : State) (p : Nat) : (s.loopNear p).flag (F.TRL_STAT_LOOP p) = true := by
  unfold State.loopNear
  extract_lets s1 s2 s3
  rw [State.flag_setFld_other _ _ _ _ (.inl (by simp [F.TRL_TEST_STAT_STATE, F.TRL_STAT_LOOP, A.TRL_TEST_STAT, A.TRL_STAT]))]
  exact State.flag_setFlag_same _ _ _ (show 7 + 1 ≤ 32 by decide) rfl

/-- A far-end loop of a camera port queues LOOP_REQ to the node that LOOP_POS names (R119). -/
theorem State.loopFar_queue (s : State) {p : Nat} (h : isLane p = false) : ((s.loopFar p).tx p).queue = (s.tx p).queue ++
    [(true, ctlBlock 0x09 (s.fld (F.TRL_TEST_LOOP_POS p)) (leBytes 1 2))] := by
  simp [State.loopFar, State.sendCtl, h]

/-! ### The statement -/

/-- Settles O14, one command at a time. -/
theorem eyesAndLoops : Obligations.EyesAndLoops := by
  unfold Obligations.EyesAndLoops
  refine ⟨?go, ?point, ?write, ?near, ?far, ?off⟩
  case go =>
    intro s p n v hadm hidle
    have hst : (s.reached p).fld (F.TRL_EYE_STAT_STATE n) = s.fld (F.TRL_EYE_STAT_STATE n) :=
      s.reached_fld_trl p n rfl (by decide)
    have hlk : (s.reached p).flag (F.TRL_STAT_LOCK n) = s.flag (F.TRL_STAT_LOCK n) :=
      congrArg (· != 0) (s.reached_fld_trl p n rfl (by decide))
    have hgo : bitOn (v ||| 0x2000#32) 13 = true := by simp [bitOn]
    have hidle' : (s.reached p).fld (F.TRL_EYE_STAT_STATE n) ≠ 1 := by rw [hst]; exact hidle
    obtain ⟨hlink, hdata, htime⟩ := State.eyeCtrl_frame (s := s.reached p) (p := n) (v := v ||| 0x2000#32)
    refine ⟨(s.reached p).eyeCtrl n (v ||| 0x2000#32), congrArg Host.Outcome.next (State.guarded_admits hadm _),
      State.eyeCtrl_go_phNext hgo hidle', ?_, fun i hi => State.eyeCtrl_go_row hgo hidle' hi,
      hlink.trans (s.reached_logOnly p).link, hdata.trans (s.reached_data p), htime.trans (s.reached_time p)⟩
    rw [State.eyeCtrl_go_state hgo hidle', hlk]
  case point =>
    intro s n m hrun hbusy
    refine ⟨s.eyePoint n m, congrArg Host.Outcome.next (State.whenUp_up hrun _), ?_⟩
    rw [State.eyePoint_busy hbusy]
    split
    · rw [State.fld_phNext_setState, State.eyeRow_setFld _ rfl, State.setFld_link, State.setFld_sent]
      exact ⟨State.fld_setFld_same _ _ _ (show 0 + 2 ≤ 32 by decide), s.eyeStored_phNext n m, s.eyeStored_row n m,
        s.eyeStored_link n m, s.eyeStored_sent n m⟩
    · exact ⟨(s.eyeStored_state n m).trans hbusy, s.eyeStored_phNext n m, s.eyeStored_row n m, s.eyeStored_link n m,
        s.eyeStored_sent n m⟩
  case write =>
    intro s r u p n v w hadm hr hu
    have hexec : s.guarded p (A.TRL_TEST n) true (fun s => s.testWrite n w) = r.testWrite n w := by
      rw [State.guarded_admits hadm, hr]
    rw [hu]
    refine ⟨fun hok => ⟨?_, ?_, ?_⟩, ?_, ?_⟩
    · rintro rfl
      have hl := fldGet_replaceLow v 1#32
      exact congrArg Host.Outcome.next (hexec.trans (State.testWrite_near (by rw [hl]; decide) (by rw [hl]; decide) hok))
    · rintro rfl
      have hl := fldGet_replaceLow v 2#32
      exact congrArg Host.Outcome.next (hexec.trans (State.testWrite_near (by rw [hl]; decide) (by rw [hl]; decide) hok))
    · rintro rfl
      exact congrArg Host.Outcome.next (hexec.trans (State.testWrite_far (fldGet_setLow v) hok))
    · rintro href rfl
      exact congrArg Host.Outcome.next (hexec.trans (State.testWrite_refused (by rw [fldGet_setLow]; decide) href))
    · rintro rfl
      have hl := fldGet_replaceLow v 0#32
      rw [BitVec.or_zero] at hl
      exact congrArg Host.Outcome.next (hexec.trans (State.testWrite_off hl))
  case near => exact fun s p => ⟨s.loopNear_state p, s.loopNear_loop p, s.loopNear_queue p⟩
  case far =>
    intro s p
    exact s.loopFar_queue (by simp [isLane])
  case off =>
    intro s p l h
    simp only [State.loopOff, h]

end Sys2Proof.Machine
end

section
/-! Answers of nodes during bring-up (R98): a port whose position lies beyond every chain. -/

namespace Sys2Proof.Machine

/-- Refutes O15, in the clause that an assigned node is present: it ranges over every value of the port's position, and not over
0 to 7 alone. At position 436,992 of port 0 the register NODE_ENT and the register SEC_NODE_STAT of the node's number stand at
one address, 0x400000 + 436992·0x40 = 0x1803000 + (436992 − 512)·0x10, so that ending the node's session, which clears STATE of
SEC_NODE_STAT, clears the PRESENT bit just set. -/
theorem not_bringUpAnswers : ¬ Obligations.BringUpAnswers := by
  unfold Obligations.BringUpAnswers
  rintro ⟨-, -, hplaced, -⟩
  have hpresent := hplaced (State.reset.setPort 0 { portReset 0 with pos := 436992 }) 0
  have habsent : ((State.reset.setPort 0 { portReset 0 with pos := 436992 }).assigned 0).flag
      (F.NODE_ENT_PRESENT (nodeAddr 0 436992)) = false := by decide +kernel
  exact absurd (habsent.symm.trans hpresent) (by decide)

end Sys2Proof.Machine
end

section
/-! Ports: what a port's engine reads after each update, and what a receiver's new step leaves alone. -/

namespace Sys2Proof.Machine

section
variable (s : State) (p q : Nat)

@[simp] theorem State.port_setPort_same (x : PortSt) : (s.setPort p x).port p = x := tblGet_set_same _ _ _ _
@[simp] theorem State.port_setTx (x : TxSt) : (s.setTx p x).port q = s.port q := rfl
@[simp] theorem State.sensor_setSensor_same (x : SensorSt) : (s.setSensor p x).sensor p = x := tblGet_set_same _ _ _ _
@[simp] theorem State.sensor_setRx (x : RxSt) : (s.setRx p x).sensor q = s.sensor q := rfl

@[simp] theorem State.sensor_setFld (f : Fld) (v : Nat) : (s.setFld f v).sensor q = s.sensor q := by
  unfold State.sensor; rw [State.setFld_link]

@[simp] theorem State.sensor_setFlag (f : Fld) (b : Bool) : (s.setFlag f b).sensor q = s.sensor q := by
  unfold State.sensor; rw [State.setFlag_link]


/-! ### A receiver's new step -/

/-- Losing lock and taking a step change registers, the port's receiver and transmitter, and when a sensor end lost its lock. -/
theorem State.unlock_eq : ∃ regs rx sensor,
    s.unlock p = { s with regs := regs, link := { s.link with rx := rx, sensor := sensor } } := by
  unfold State.unlock
  extract_lets was r hunting out _ held
  have hheld : ∃ regs rx sensor, held = { s with regs := regs, link := { s.link with rx := rx, sensor := sensor } } := by
    unfold held
    split
    · exact ⟨_, _, _, rfl⟩
    · exact ⟨_, _, s.link.sensor, rfl⟩
  obtain ⟨_, _, _, e⟩ := hheld
  rw [e]
  split <;> exact ⟨_, _, _, rfl⟩

@[simp] theorem State.unlock_sent : (s.unlock p).sent = s.sent := by
  obtain ⟨_, _, _, e⟩ := s.unlock_eq p; rw [e]

@[simp] theorem State.port_unlock : (s.unlock p).port q = s.port q := by
  obtain ⟨_, _, _, e⟩ := s.unlock_eq p; rw [e]; rfl

/-- A sensor end that loses its lock notes when. -/
theorem State.sensor_unlock : ∃ t, (s.unlock p).sensor p = { s.sensor p with lostAt := t } := by
  unfold State.unlock
  extract_lets was r hunting out _ held
  have hout : out.sensor p = s.sensor p := by simp [out, hunting]
  have hheld : ∃ t, held.sensor p = { s.sensor p with lostAt := t } := by
    unfold held
    split
    · rw [State.sensor_setSensor_same, ← hout]; exact ⟨_, rfl⟩
    · exact ⟨(s.sensor p).lostAt, hout⟩
  split
  · rw [State.sensor_setFld]; exact hheld
  · exact hheld

variable (step : Nat)

@[simp] theorem State.rxStep_sent : (s.rxStep p step).sent = s.sent := s.unlock_sent p
@[simp] theorem State.port_rxStep : (s.rxStep p step).port q = s.port q := s.port_unlock p q

theorem State.sensor_rxStep : ∃ t, (s.rxStep p step).sensor p = { s.sensor p with lostAt := t } := s.sensor_unlock p

/-! ### Delays -/


@[simp] theorem State.delaysClear_sent (n : Nat) : (s.delaysClear p n).sent = s.sent := by
  unfold State.delaysClear
  split
  · rfl
  · refine List.foldlRecOn (motive := fun t : State => t.sent = s.sent) _ _ rfl fun t ht q _ => ?_
    split <;> exact ht

/-! ### Answers that are waited for -/

/-- A port that asks waits for the answer. -/
@[simp] theorem State.awaits_ask (what : Await) (type addr : Nat) (body : List Byte) :
    (s.ask p what type addr body).awaits p what = true := by
  simp [State.ask, State.askAll, State.awaits]

@[simp] theorem State.awaits_rxStep (what : Await) : (s.rxStep p step).awaits p what = s.awaits p what := by
  unfold State.awaits; rw [State.port_rxStep]

end

end Sys2Proof.Machine
end

section
/-! Pronks (R101, R102, R103). -/

namespace Sys2Proof.Machine

/-! ### The switch -/

section
variable {s : State} {p : Nat}

/-- At the switch the hub end trains at the new step with nothing seen yet (R101). -/
theorem State.hopSwitch_hub {k : Pronk} (he : s.sensorEnd p = false) (hk : (s.port p).pronk = some k) (hsw : k.switched = false) :
    ((s.hopSwitch p).port p).pronk = some { k with switched := true, lastCtr := none, bad := false, errs0 := none } ∧
      (s.hopSwitch p).sent = s.sent := by
  have he' : ¬ s.sensorEnd p = true := by simp [he]
  have hsw' : ¬ k.switched = true := by simp [hsw]
  simp -zeta only [State.hopSwitch, if_neg he', hk, if_neg hsw']
  extract_lets x t y u
  have ht : (t.port p).pronk = some { k with switched := true, lastCtr := none, bad := false, errs0 := none } ∧
      t.sent = s.sent := ⟨by rw [State.port_setPort_same], s.delaysClear_sent p _⟩
  have hu : u.port p = t.port p ∧ u.sent = t.sent := by
    unfold u
    split
    · exact ⟨State.port_setTx .., rfl⟩
    · exact ⟨rfl, rfl⟩
  rw [← hu.1, ← hu.2] at ht
  split
  · rwa [State.port_rxStep, State.rxStep_sent]
  · exact ht

/-- At the switch a sensor end trains (R101). -/
theorem State.hopSwitch_sensor {x : Nat × Nat} (he : s.sensorEnd p = true) (hx : (s.sensor p).sched = some x) :
    ((s.hopSwitch p).sensor p).training = true ∧ ((s.hopSwitch p).sensor p).sched = none ∧ (s.hopSwitch p).sent = s.sent := by
  unfold State.hopSwitch
  rw [if_pos he]
  extract_lets x
  split
  case h_1 hnone => exact absurd (hnone.symm.trans hx) (by simp)
  case h_2 t _ u _ _ step _ =>
    have ht : (t.sensor p).training = true ∧ (t.sensor p).sched = none ∧ t.sent = s.sent := by
      rw [State.sensor_setSensor_same]; exact ⟨rfl, rfl, rfl⟩
    split
    · exact ht
    · split
      · obtain ⟨l, hl⟩ := u.sensor_rxStep p step
        rw [hl, State.rxStep_sent]
        exact ht
      · exact ht

/-- Noting a failure leaves the hops' steps. -/
theorem State.hopStep_brupFail (s : State) (p hop cause h : Nat) : (s.brupFail p hop cause).hopStep p h = s.hopStep p h := by
  have ha : A.TRL_BRUP_STAT p ≠ A.TRL_HOP_STEP p := by simp [A.TRL_BRUP_STAT, A.TRL_HOP_STEP]
  unfold State.hopStep State.brupFail
  rw [State.reg_setFld_other _ _ _ ha, State.reg_setFld_other _ _ _ ha]

/-! ### The period -/

/-- A pattern's counter is kept, and one out of order spoils the period (R101). -/
theorem State.trainPattern_switched {k : Pronk} (hk : (s.port p).pronk = some k) (hsw : k.switched = true)
    (hscr : s.flag (F.TRL_STAT_SCR_SYNC p) = true) (ctr : Nat) :
    s.trainPattern p ctr = s.setPort p { s.port p with pronk := some { k with
      lastCtr := some ctr
      bad := k.bad || match k.lastCtr with | some c => decide (ctr ≠ (c + 1) % 2 ^ 32) | none => false } } := by
  simp only [State.trainPattern, hk, hsw, hscr]
  rfl

/-- A hop's first result, where none has failed, is noted, and may settle the pronk (R102). -/
theorem State.hopResult_first {hop : Nat} {k : Pronk} (hk : (s.port p).pronk = some k) (hhop : bitsOf k.hops hop 1 = 1)
    (hseen : hop ∉ k.seen) (hsw : k.switched = true) (hf : k.failed = []) (pass : Bool) :
    s.hopResult p hop pass = (s.setPort p { s.port p with pronk := some { k with
      seen := setIns hop k.seen, failed := if pass then [] else [hop] } }).pronkSettle p := by
  simp [State.hopResult, hk, hhop, hseen, hsw, hf, setIns]

/-- A pronk with a failed hop sends REVERT (R102). -/
theorem State.pronkSettle_failed {k : Pronk} (hk : (s.port p).pronk = some k) (hf : k.failed ≠ []) :
    (s.pronkSettle p).awaits p .revert = true := by
  simp only [State.pronkSettle, hk, hf, ne_eq, not_false_eq_true, if_true]
  split <;> simp

/-- A pronk whose hops have all passed sends COMMIT (R102). -/
theorem State.pronkSettle_passed {k : Pronk} (hk : (s.port p).pronk = some k) (hf : k.failed = [])
    (hall : hopMask k.seen = k.hops) : (s.pronkSettle p).awaits p .commit = true := by
  simp [State.pronkSettle, hk, hf, hall]

end

/-- Settles O16, one command at a time. -/
theorem pronking : Obligations.Pronking := by
  unfold Obligations.Pronking
  refine ⟨?hub, ?sensor, ?pattern, ?result, ?first, ?settle, ?lane, ?back, ?glitch⟩
  case hub =>
    intro s p k hup he hk hsw
    exact ⟨s.hopSwitch p, congrArg Host.Outcome.next (State.whenUp_up hup _), State.hopSwitch_hub he hk hsw⟩
  case sensor =>
    intro s p x hup he hx
    exact ⟨s.hopSwitch p, congrArg Host.Outcome.next (State.whenUp_up hup _), State.hopSwitch_sensor he hx⟩
  case pattern =>
    intro s p ctr k hup hk hsw hscr
    exact congrArg Host.Outcome.next ((State.whenUp_up hup _).trans (State.trainPattern_switched hk hsw hscr _))
  case result =>
    intro s p k hr hk
    refine ⟨congrArg Host.Outcome.next ((State.engine_runs hr _ _).trans ?_), fun hop pass =>
      congrArg Host.Outcome.next ((State.engine_runs hr _ _).trans ?_)⟩
    · simp only [State.trainEnd, hk]
    · simp only [State.trainResult, hk, if_true]
  case first => exact fun s p hop pass k hk hhop hseen hsw hf => State.hopResult_first hk hhop hseen hsw hf pass
  case settle => exact fun s p k hk => ⟨State.pronkSettle_failed hk, State.pronkSettle_passed hk⟩
  case lane =>
    rintro s u p k hr he hl hk hsw rfl
    refine congrArg Host.Outcome.next ((State.timer_runs hr _ _).trans ?_)
    simp [State.switchTimeout, he, hl, hk, hsw]
  case back =>
    intro s p hr he ht
    refine congrArg Host.Outcome.next ((State.timer_runs hr _ _).trans ?_)
    simp only [State.switchTimeout, he, ht, if_true]
  case glitch =>
    intro s p hop hr hup hk hlock
    refine congrArg Host.Outcome.next ((State.timer_runs hr _ _).trans ?_)
    have hunlocked : hop = 0 → s.flag (F.TRL_STAT_LOCK p) = true → s.flag (F.TRL_STAT_SCR_SYNC p) = false :=
      fun h0 h1 => by simpa [h0, h1] using hlock
    rw [State.hopStep_brupFail, State.glitchExpire, if_neg (by simpa [hup, hk] using hunlocked)]

end Sys2Proof.Machine
end

section
/-! Timers of a chain of nodes (R94, R98, R103, R107, R108). -/

namespace Sys2Proof.Machine

/-- Settles O17, one timer at a time. -/
theorem chainTimers : Obligations.ChainTimers := by
  unfold Obligations.ChainTimers
  refine ⟨?hold, ?poll, ?cut, ?stop, ?reverse, ?rediscover⟩
  case hold =>
    rintro s u p hop hr hfell hset rfl
    have hexec : ∀ t, s.upHold p hop = t → exec (.upHoldExpire p hop) s = .next t := by
      rintro _ rfl
      exact congrArg Host.Outcome.next (State.timer_runs hr _ _)
    constructor
    · intro hk
      exact hexec _ (by simp [State.upHold, hfell, hset, hk])
    · intro hk
      exact hexec _ (by simp [State.upHold, hfell, hset, Option.isSome_iff_ne_none.2 hk])
  case poll =>
    intro s p pos hr hcam hlane
    have hthere : (if isLane p then decide (pos.val < s.fld (F.TRL_BRUP_STAT_NODES p))
        else s.flag (F.NODE_ENT_PRESENT (nodeAddr p pos))) = true := by
      cases hl : isLane p with
      | true => simpa using hlane hl
      | false => simpa using hcam hl
    have hexec : exec (.discPollTimer p pos) s = .next (s.pollTimer p pos) :=
      congrArg Host.Outcome.next (State.timer_runs hr _ _)
    rw [hexec, State.pollTimer, if_pos hthere]
    exact ⟨fun hn => by rw [if_neg (Nat.not_le.2 hn)], fun hn => by rw [if_pos hn]⟩
  case cut =>
    intro s p pos h0
    rw [State.pollFailed, if_neg h0]
  case stop =>
    rintro s u p rfl
    rfl
  case reverse =>
    intro s p hup hstop
    refine congrArg Host.Outcome.next ((State.whenUp_up hup _).trans ?_)
    rw [State.reverseStart, if_pos hstop]
  case rediscover =>
    intro s p hr hre hstop hq hx
    have hexec : exec (.rediscoveryTimer p) s = .next (s.rediscover p) :=
      congrArg Host.Outcome.next (State.timer_runs hr _ _)
    have hdue : s.rediscover p = if !s.discovers p then s.laneStart p else if (s.port p).pos = 0 then (s.setBrup p 1).query p
        else s.ask p .extend 0x07 ((s.port p).pos - 1) (leBytes 1 2) := by
      simp [State.rediscover, hre, hstop, hq, hx]
    rw [hexec, hdue]
    exact ⟨fun hd => by simp [hd], fun hd h0 => by simp [hd, h0], fun hd h0 => by simp [hd, h0]⟩

end Sys2Proof.Machine
end

section
/-! What nodes report (R97, R106, R118, R338, R369). -/

namespace Sys2Proof.Machine

/-! ### Tunnel commands that end (R369) -/

theorem A.TUN_STAT_inj {j k : Nat} (h : j ≠ k) : A.TUN_STAT j ≠ A.TUN_STAT k := by unfold A.TUN_STAT; omega

/-- One slot ends with a result, where it is busy with a command for the node. -/
def State.tunSlotEnd (s : State) (na result k : Nat) : State :=
  if (s.fld (F.TUN_STAT_STATE k) = 1 ∨ s.fld (F.TUN_STAT_STATE k) = 2) ∧ s.tunNa k = na then
    (s.setFld (F.TUN_STAT_STATE k) 3).setFld (F.TUN_STAT_RESULT k) result
  else s

theorem State.tunEnd_eq (s : State) (na result : Nat) :
    s.tunEnd na result = (s.listed 0x1D02004 0x40 64).foldl (fun s k => s.tunSlotEnd na result k) s := rfl

section
variable (s : State) (na result : Nat) {j k : Nat}

theorem State.tunSlotEnd_state_other (h : j ≠ k) :
    (s.tunSlotEnd na result j).fld (F.TUN_STAT_STATE k) = s.fld (F.TUN_STAT_STATE k) := by
  unfold State.tunSlotEnd
  split
  · rw [State.fld_setFld_other _ _ _ _ (.inl (A.TUN_STAT_inj h)), State.fld_setFld_other _ _ _ _ (.inl (A.TUN_STAT_inj h))]
  · rfl

theorem State.tunSlotEnd_tunNa : (s.tunSlotEnd na result j).tunNa k = s.tunNa k := by
  unfold State.tunSlotEnd
  split <;> rfl

variable {s na}

/-- A slot that is busy with a command for the node reads DONE. -/
theorem State.tunSlotEnd_busy (hst : s.fld (F.TUN_STAT_STATE k) = 1 ∨ s.fld (F.TUN_STAT_STATE k) = 2) (hna : s.tunNa k = na) :
    (s.tunSlotEnd na result k).fld (F.TUN_STAT_STATE k) = 3 := by
  rw [State.tunSlotEnd, if_pos ⟨hst, hna⟩,
    State.fld_setFld_other _ (F.TUN_STAT_RESULT k) _ _ (.inr (.inr (show 0 + 2 ≤ 2 by decide))),
    State.fld_setFld_same _ _ _ (show 0 + 2 ≤ 32 by decide)]
  rfl

/-- A slot that reads DONE stays so. -/
theorem State.tunSlotEnd_done (hst : s.fld (F.TUN_STAT_STATE k) = 3) :
    (s.tunSlotEnd na result j).fld (F.TUN_STAT_STATE k) = 3 := by
  by_cases h : j = k
  · subst h
    rwa [State.tunSlotEnd, if_neg (by simp [hst])]
  · rwa [State.tunSlotEnd_state_other _ _ _ h]

theorem State.foldl_tunSlotEnd_done (l : List Nat) (hst : s.fld (F.TUN_STAT_STATE k) = 3) :
    (l.foldl (fun s k => s.tunSlotEnd na result k) s).fld (F.TUN_STAT_STATE k) = 3 :=
  List.foldlRecOn (motive := fun t : State => t.fld (F.TUN_STAT_STATE k) = 3) l _ hst fun _ ht _ _ =>
    State.tunSlotEnd_done result ht

/-- Of the slots gone through, each that is busy with a command for the node ends. -/
theorem State.foldl_tunSlotEnd_mem {l : List Nat} (hk : k ∈ l)
    (hst : s.fld (F.TUN_STAT_STATE k) = 1 ∨ s.fld (F.TUN_STAT_STATE k) = 2) (hna : s.tunNa k = na) :
    (l.foldl (fun s k => s.tunSlotEnd na result k) s).fld (F.TUN_STAT_STATE k) = 3 := by
  induction l generalizing s with
  | nil => cases hk
  | cons j l ih =>
    rw [List.foldl_cons]
    by_cases h : j = k
    · subst h
      exact State.foldl_tunSlotEnd_done result l (State.tunSlotEnd_busy result hst hna)
    · refine ih ((List.mem_cons.1 hk).resolve_left (Ne.symm h)) ?_ ?_
      · rwa [State.tunSlotEnd_state_other _ _ _ h]
      · rwa [State.tunSlotEnd_tunNa]

end

/-- A key that does not read as an unlisted one does is listed. -/
theorem exists_mem_of_tblGet_ne {α : Type} {d : Nat → α} {t : Tbl α} {a : Nat} (h : tblGet d t a ≠ d a) : ∃ v, (a, v) ∈ t := by
  induction t with
  | nil => exact absurd rfl h
  | cons c t ih =>
    obtain ⟨k, w⟩ := c
    by_cases hk : k = a
    · exact ⟨w, hk ▸ List.mem_cons_self ..⟩
    · rw [tblGet, if_neg hk] at h
      obtain ⟨v, hv⟩ := ih h
      exact ⟨v, List.mem_cons_of_mem _ hv⟩

/-- A register of an array that does not hold its reset word is listed. -/
theorem State.mem_listed {s : State} {base stride count k : Nat} (hk : k < count) (hstride : 0 < stride)
    (h : s.reg (base + k * stride) ≠ regReset (base + k * stride)) : k ∈ s.listed base stride count := by
  obtain ⟨v, hv⟩ := exists_mem_of_tblGet_ne h
  refine List.mem_filterMap.2 ⟨_, hv, ?_⟩
  have hsub : base + k * stride - base = k * stride := Nat.add_sub_cancel_left ..
  simp [hsub, Nat.mul_div_cancel _ hstride, hk]

theorem tunStat_reset (k : Fin 64) : fldGet (regReset (A.TUN_STAT k)) 0 2 = 0 := by
  revert k; decide +kernel

/-- A tunnel command that is in progress for a node is over when the node's commands end. -/
theorem State.tunEnd_state {s : State} {na k : Nat} (hk : k < 64)
    (hst : s.fld (F.TUN_STAT_STATE k) = 1 ∨ s.fld (F.TUN_STAT_STATE k) = 2) (hna : s.tunNa k = na) (result : Nat) :
    (s.tunEnd na result).fld (F.TUN_STAT_STATE k) = 3 := by
  have hreset : s.reg (A.TUN_STAT k) ≠ regReset (A.TUN_STAT k) := fun h => by
    have h0 : s.fld (F.TUN_STAT_STATE k) = 0 := (congrArg (fldGet · 0 2) h).trans (tunStat_reset ⟨k, hk⟩)
    omega
  rw [State.tunEnd_eq]
  exact State.foldl_tunSlotEnd_mem result (State.mem_listed hk (by decide) hreset) hst hna

/-! ### Sessions that end (R338, R340) -/

theorem tblOpt_ins_same {α : Type} (a : Nat) (v : α) {t : Tbl α} (h : ∀ c ∈ t, c.1 ≠ a) : tblOpt (tblIns a v t) a = some v := by
  induction t with
  | nil => simp [tblIns, tblOpt]
  | cons c t ih =>
    obtain ⟨k, w⟩ := c
    obtain ⟨hk, ht⟩ := List.forall_mem_cons.1 h
    unfold tblIns
    split
    · simp [tblOpt]
    · rw [tblOpt, if_neg hk, ih ht]

/-- An optional entry reads as it was put. -/
theorem tblOpt_put_same {α : Type} (t : Tbl α) (a : Nat) (v : α) : tblOpt (tblPut t a (some v)) a = some v :=
  tblOpt_ins_same a v fun c hc => (tblDel_keys a t c hc).1

section
variable (s : State) (n : Nat)

@[simp] theorem State.sess_setSess_same (x : SessSt) : (s.setSess n x).sess n = x := by
  simp [State.sess, State.setSess, tblOpt_put_same]

@[simp] theorem State.sess_setFld (f : Fld) (v m : Nat) : (s.setFld f v).sess m = s.sess m := by
  unfold State.sess; rw [State.setFld_link]

theorem State.loseKeys_key : ((s.loseKeys n).sess n).key = [] := by
  unfold State.loseKeys
  extract_lets x t
  have ht : (t.sess n).key = [] := by rw [State.sess_setSess_same]
  split
  · rwa [State.sess_setFld]
  · exact ht

theorem State.loseKeys_frame : (s.loseKeys n).data = s.data ∧ (s.loseKeys n).sent = s.sent := by
  unfold State.loseKeys
  extract_lets x t
  split <;> exact ⟨rfl, rfl⟩

/-- A node's exchange after END has been queued: nothing of it is in progress, and no register has changed yet. -/
def State.exchangeOver (s : State) (n reason : Nat) : State :=
  let t := (s.answered (s.keyPort n) (.keyHello n)).answered (s.keyPort n) (.keyFinish n)
  ((keyBlocks (keyPos n) 5 (leBytes 1 1 ++ leBytes 1 (s.sess n).sid ++ leBytes 1 reason)).foldl
    (fun t b => t.setTx (t.keyPort n) { t.tx (t.keyPort n) with queue := (t.tx (t.keyPort n)).queue ++ [(true, b)] }) t).setSess n
      { s.sess n with engine := false, rekey := false, hello := [], kConf := [], th := [], kNext := [] }

/-- Without a key in force a failed exchange leaves the node FAILED (R338). -/
theorem State.sessionFail_keyless (reason : Nat) (h : (s.sess n).key = []) : s.sessionFail n reason =
    (((s.exchangeOver n reason).setFld (F.SEC_NODE_STAT_REASON n) reason).setFlag (F.SEC_NODE_STAT_REKEYING n) false).setFld
      (F.SEC_NODE_STAT_STATE n) 3 := by
  unfold State.sessionFail
  extract_lets x
  rw [if_pos h]
  rfl

theorem State.exchangeOver_key (reason : Nat) : ((s.exchangeOver n reason).sess n).key = (s.sess n).key := by
  rw [State.exchangeOver, State.sess_setSess_same]

theorem State.exchangeOver_frame (reason : Nat) :
    (s.exchangeOver n reason).data = s.data ∧ (s.exchangeOver n reason).sent = s.sent := by
  unfold State.exchangeOver
  extract_lets t
  exact List.foldlRecOn (motive := fun u : State => (u.setSess n _).data = s.data ∧ (u.setSess n _).sent = s.sent) _ _
    ⟨rfl, rfl⟩ fun _ hu _ _ => hu

end

/-- An error of a node's session discards its keys and leaves it FAILED with REASON NODE, and tells nobody else (R338). -/
theorem State.nodeErrSession_session {s : State} {n : Nat} {x : SessSt} (hx : tblOpt s.link.sess n = some x) :
    ((s.nodeErrSession n).sess n).key = [] ∧ (s.nodeErrSession n).fld (F.SEC_NODE_STAT_STATE n) = 3 ∧
      (s.nodeErrSession n).fld (F.SEC_NODE_STAT_REASON n) = 9 ∧ (s.nodeErrSession n).data = s.data ∧
      (s.nodeErrSession n).sent = s.sent := by
  have hkey : (((s.loseKeys n).setFld (F.SEC_NODE_STAT_STATE n) 3).sess n).key = [] := by
    rw [State.sess_setFld]; exact s.loseKeys_key n
  obtain ⟨hd, hs⟩ := s.loseKeys_frame n
  obtain ⟨hd', hs'⟩ := ((s.loseKeys n).setFld (F.SEC_NODE_STAT_STATE n) 3).exchangeOver_frame n 9
  rw [State.nodeErrSession, if_pos (by rw [hx]; rfl), State.sessionFail_keyless _ _ _ hkey]
  refine ⟨?_, State.fld_setFld_same _ _ _ (show 0 + 2 ≤ 32 by decide), ?_, ?_, ?_⟩
  · rw [State.sess_setFld, State.setFlag, State.sess_setFld, State.sess_setFld, State.exchangeOver_key, hkey]
  · rw [State.fld_setFld_other _ _ (F.SEC_NODE_STAT_REASON n) _ (.inr (.inl (show 0 + 2 ≤ 8 by decide))), State.setFlag,
      State.fld_setFld_other _ _ (F.SEC_NODE_STAT_REASON n) _ (.inr (.inl (show 5 + 1 ≤ 8 by decide))),
      State.fld_setFld_same _ _ _ (show 8 + 4 ≤ 32 by decide)]
    rfl
  · rw [State.setFld_data, State.setFlag_data, State.setFld_data, hd', State.setFld_data, hd]
  · rw [State.setFld_sent, State.setFlag_sent, State.setFld_sent, hs', State.setFld_sent, hs]

theorem isLane_camera (p : Fin 64) : isLane p = false := by simp [isLane]

/-- Settles O18, one code at a time. -/
theorem nodeReports : Obligations.NodeReports := by
  unfold Obligations.NodeReports
  refine ⟨?down, ?late, ?stuck, ?camera, ?lane, ?sensor, ?muted, ?session⟩
  case down =>
    intro s p pos hup hthere hpos
    refine congrArg Host.Outcome.next ((State.whenUp_up hup _).trans ?_)
    rw [State.downLost, if_neg (by simp [hthere, hpos])]
    rfl
  case late =>
    exact fun s p pos vc hup => ⟨congrArg Host.Outcome.next (State.whenUp_up hup _), congrArg Host.Outcome.next (State.whenUp_up hup _)⟩
  case stuck => exact fun s na result k hk hst hna => State.tunEnd_state hk hst hna result
  case camera =>
    intro s p pos d hup
    refine ⟨congrArg Host.Outcome.next ((State.whenUp_up hup _).trans ?_), congrArg Host.Outcome.next (State.whenUp_up hup _),
      fun c => congrArg Host.Outcome.next (State.whenUp_up hup _)⟩
    simp only [State.nodeSrc, Fin.val_castLE, isLane_camera]
    rfl
  case lane =>
    intro s p pos d hup hl
    refine congrArg Host.Outcome.next ((State.whenUp_up hup _).trans ?_)
    simp only [State.nodeSrc, hl, if_true]
  case sensor =>
    rintro s u p pos vc d hup rfl
    constructor
    · intro i hi
      refine congrArg Host.Outcome.next ((State.whenUp_up hup _).trans ?_)
      simp only [hi]
    · intro hnone
      refine congrArg Host.Outcome.next ((State.whenUp_up hup _).trans ?_)
      simp only [hnone]
  case muted =>
    rintro s u i rfl
    rfl
  case session =>
    intro s p pos d x hup hx
    exact ⟨s.nodeErrSession (keyNode p pos), congrArg Host.Outcome.next (State.whenUp_up hup _), State.nodeErrSession_session hx⟩

end Sys2Proof.Machine
end

section
/-! SOF, EOF and containers (R112, R125, R131, R455). -/

namespace Sys2Proof.Machine

/-! ### Blocks of a stream -/

section
variable {s : State} {p : Fin 80} {pos : Fin 8}

/-- A block of an entry goes to its stream (R112). -/
theorem State.withStream_entry {p pos na vc i : Nat} (hna : s.naAt p pos = some na) (hi : s.entryOf na vc = some i)
    (act : Nat → State → State) : s.withStream p pos vc act = act i s := by
  simp [State.withStream, hna, hi]

/-- A block of no entry is counted (R112). -/
theorem State.withStream_none {p pos vc : Nat} (h : ((s.naAt p pos).bind fun na => s.entryOf na vc) = none)
    (act : Nat → State → State) : s.withStream p pos vc act = s.count31 (A.TRL_HCRC_ERR p) 1 := by
  simp only [State.withStream, h]

/-- A queue whose copies agree is worked on (R140). -/
theorem State.onQueue_ok {i : Nat} (h : (s.str i).q.ok = true) (act : State → State) : s.onQueue i act = act s := if_pos h

theorem exec_sof_entry {b : SofBlock} {na i : Nat} (hup : s.HubUp p) (hna : s.naAt p pos = some na)
    (hi : s.entryOf na b.vc = some i) (hq : (s.str i).q.ok = true) : exec (.sof p pos b) s = .next (s.takeSof p i b) :=
  congrArg Host.Outcome.next ((State.asHub_up hup _).trans ((State.withStream_entry hna hi _).trans (State.onQueue_ok hq _)))

theorem exec_eof_entry {b : EofBlock} {na i : Nat} (hup : s.HubUp p) (hna : s.naAt p pos = some na)
    (hi : s.entryOf na b.vc = some i) : exec (.eof p pos b) s = .next (s.takeEof i b) :=
  congrArg Host.Outcome.next ((State.asHub_up hup _).trans (State.withStream_entry hna hi _))

end

/-! ### The tests of an SOF (R125) -/

section
variable {s : State} {p i : Nat} {b : SofBlock}

/-- An SOF of its stream's size, from a node with a valid delay, for a herd that is known: accepted where it is a frame of the
herd, and excess data where it is not. -/
theorem State.takeSof_matched {n : Nat} (hdly : isLane p = true ∨ s.flag (F.TIME_NODE_DLY_VALID (s.fld (F.ING_ENT0_NA i))) = true)
    (hw : b.width.toNat = s.fld (F.ING_ENT1_WIDTH i)) (hl : b.lines.toNat = s.strLines i)
    (hn : s.matchHerd b.herd.toNat = some n) : s.takeSof p i b =
      if s.memberOf i n && (!(s.str i).q.ring.isEmpty || s.ringFree i) && decide ((s.str i).countOf n < (s.streamRatio i).frames)
      then s.acceptSof (sessIx p (s.fld (F.ING_ENT0_NA i))) i n b else (s.rejectSof i b.frame.toNat).overrun i := by
  have hvalid : ¬ (!isLane p && !s.flag (F.TIME_NODE_DLY_VALID (s.fld (F.ING_ENT0_NA i)))) = true := by
    rcases hdly with h | h <;> simp [h]
  have hsize : ¬ (b.width.toNat ≠ s.fld (F.ING_ENT1_WIDTH i) ∨ b.lines.toNat ≠ s.strLines i) := by simp [hw, hl]
  simp only [State.takeSof, if_neg hvalid, if_neg hsize, hn]

/-- An SOF that fails one of these tests is a format error. -/
theorem State.takeSof_bad (h : (isLane p = false ∧ s.flag (F.TIME_NODE_DLY_VALID (s.fld (F.ING_ENT0_NA i))) = false) ∨
    b.width.toNat ≠ s.fld (F.ING_ENT1_WIDTH i) ∨ b.lines.toNat ≠ s.strLines i ∨ s.matchHerd b.herd.toNat = none) :
    s.takeSof p i b = (s.rejectSof i b.frame.toNat).count31 (A.ING_FMT_ERR i) 1 := by
  unfold State.takeSof
  extract_lets na bad
  split
  · rfl
  · rename_i hvalid
    split
    · rfl
    · rename_i hsize
      have hnone : s.matchHerd b.herd.toNat = none := by
        rcases h with ⟨h1, h2⟩ | h | h | h
        · exact absurd (show _ = true by simp [h1, h2, na]) hvalid
        · exact absurd (.inl h) hsize
        · exact absurd (.inr h) hsize
        · exact h
      simp only [hnone]
      rfl

end

/-! ### The end of a frame (R131) -/

section
variable {s : State} {i : Nat} {b : EofBlock}

theorem State.takeEof_open {f : FrameRec} (hr : (s.str i).rejected ≠ some b.frame.toNat) (hf : (s.str i).openFrame = some f)
    (he : f.frame = b.frame.toNat) : s.takeEof i b = ((s.dropAsm i).endFrame i
      (b.trunc || b.sensorErr || decide (b.linesSent.toNat < s.strLines i))).settleFrames i := by
  simp only [State.takeEof, if_neg hr, hf, if_pos he]

theorem State.takeEof_other (hr : (s.str i).rejected ≠ some b.frame.toNat)
    (hf : ∀ f, (s.str i).openFrame = some f → f.frame ≠ b.frame.toNat) :
    s.takeEof i b = s.count31 (A.ING_FMT_ERR i) 1 := by
  unfold State.takeEof
  extract_lets x
  rw [if_neg hr]
  split
  case h_1 f he => rw [if_neg (hf f he)]
  case h_2 => rfl

end

/-! ### Containers (R112) -/

section
variable {p : Nat} {data : List Byte}

theorem State.takeData_nil (p : Nat) (backlog : Bool) (age fuel : Nat) (s : State) :
    State.takeData p backlog age fuel [] s = s := by
  cases fuel <;> rfl

theorem ne_nil_of_headerOk (h : headerOk (data.take 16) = true) : data ≠ [] := by
  rintro rfl
  exact absurd h (by decide)

/-- One container with a good header, at a port that has found its place. -/
theorem State.takeData_one {s : State} (hok : headerOk (data.take 16) = true) (hh : (s.port p).hunt = false)
    (hlen : data.length = 32 * segBlocks (ofLe ((data.drop 12).take 2)) ((data.getD 0 0).toNat.testBit 2)) (backlog : Bool)
    (age fuel : Nat) : State.takeData p backlog age (fuel + 1) data s = s.container p data data.length backlog age := by
  have hne : ¬ data.isEmpty = true := by simpa using ne_nil_of_headerOk hok
  have hgood : ¬ (!headerOk (data.take 16)) = true := by simp [hok]
  have hplace : ¬ (s.port p).hunt = true := by simp [hh]
  rw [State.takeData, if_neg hne, if_neg hgood, if_neg hplace]
  simp only [← hlen, List.take_length, List.drop_length, State.takeData_nil]

/-- One block that is no header, at a port that had its place, is counted, and the port looks for a header. -/
theorem State.takeData_bad {s : State} (hbad : headerOk (data.take 16) = false) (hne : data ≠ []) (hlen : data.length ≤ 32)
    (hh : (s.port p).hunt = false) (backlog : Bool) (age fuel : Nat) : State.takeData p backlog age (fuel + 1) data s =
      (s.setPort p { s.port p with hunt := true }).count31 (A.TRL_HCRC_ERR p) 1 := by
  have hne' : ¬ data.isEmpty = true := by simpa using hne
  have hplace : ¬ (s.port p).hunt = true := by simp [hh]
  rw [State.takeData, if_neg hne', if_pos (by simp [hbad]), if_neg hplace, List.drop_of_length_le hlen]
  exact State.takeData_nil ..

end

/-- Settles O22, one command at a time. -/
theorem framesArrive : Obligations.FramesArrive := by
  unfold Obligations.FramesArrive
  refine ⟨?sof, ?bad, ?eof, ?none, ?receive, ?one, ?other⟩
  case sof =>
    rintro s p pos b na i n hup hna hi rfl hq hdly hw hl hn
    rw [exec_sof_entry hup hna hi hq, State.takeSof_matched hdly hw hl hn]
    refine ⟨fun hm hring hc => ?_, fun hno => ?_⟩
    · have hopen : (!(s.str i).q.ring.isEmpty || s.ringFree i) = true := by simpa using hring
      rw [if_pos (by simp [hm, hopen, hc])]
    · rw [if_neg]
      rcases hno with h | h
      · simp [h]
      · simp [Nat.not_lt.2 h]
  case bad =>
    rintro s p pos b na i hup hna hi rfl hq h
    rw [exec_sof_entry hup hna hi hq, State.takeSof_bad h]
  case eof =>
    intro s p pos b na i hup hna hi
    rw [exec_eof_entry hup hna hi]
    refine ⟨fun hr => ?_, fun hr f hf he => ?_, fun hr hf => ?_⟩
    · rw [State.takeEof, if_pos hr]
    · rw [State.takeEof_open hr hf he]
    · rw [State.takeEof_other hr hf]
  case none =>
    exact fun s p pos b c hup =>
      ⟨fun h => congrArg Host.Outcome.next ((State.asHub_up hup _).trans (State.withStream_none h _)),
        fun h => congrArg Host.Outcome.next ((State.asHub_up hup _).trans (State.withStream_none h _))⟩
  case receive => exact fun s p data backlog age hup => congrArg Host.Outcome.next (State.asHub_up hup _)
  case one => exact fun s p data backlog age hok hh hlen => State.takeData_one hok hh hlen backlog age _
  case other => exact fun s p data backlog age hbad hne hlen hh => State.takeData_bad hbad hne hlen hh backlog age _

end Sys2Proof.Machine
end

section
/-! The line store's queues, scrubbing and line reads (R139, R142, R143, R144). -/

namespace Sys2Proof.Machine

/-! ### Flush and notices (R139, R143) -/

theorem bitOn_or_one (v : Word) : bitOn (v ||| 1#32) 0 = true := by simp [bitOn]

/-- A write of LST_Q_CTRL that is admitted, with FLUSH set. -/
theorem exec_lstQCtrlFlush_admits {s : State} {p : Path} {i : Fin 1024} (h : s.Admits p (A.LST_Q_CTRL i) false) (v : Word) :
    exec (.lstQCtrlFlush p i v) s = .next ((s.reached p).flushCtrl i (v ||| 1#32)) :=
  congrArg Host.Outcome.next (State.guarded_admits h _)

/-- A write of LST_Q_WM_STAT that is admitted, with NOTICE set. -/
theorem exec_lstQWmStatNoticeClear_admits {s : State} {p : Path} {i : Fin 1024}
    (h : s.Admits p (A.LST_Q_WM_STAT i) false) (v : Word) :
    exec (.lstQWmStatNoticeClear p i v) s = .next ((s.reached p).lstWmStat i (v ||| 1#32)) :=
  congrArg Host.Outcome.next (State.guarded_admits h _)

theorem State.flushCtrl_pending {v : Word} (h : bitOn v 0 = true) (s : State) (i : Nat) :
    s.flushCtrl i v = s.setFlag (F.LST_Q_STAT_FLUSH_PEND i) true := if_pos h

theorem State.lstWmStat_clears {v : Word} (h : bitOn v 0 = true) (s : State) (i : Nat) : s.lstWmStat i v =
    s.clearMark (F.LST_Q_WM_STAT_NOTICE i) (F.LST_Q_WM_STAT_CROSS i) (F.LST_Q_WM_STAT_PEAK i) (s.str i).q.occ := if_pos h

@[simp] theorem State.reached_str (s : State) (p : Path) (i : Nat) : (s.reached p).str i = s.str i := by
  unfold State.str; rw [State.reached_data]

section
variable (s : State) {notice cross peak : Fld} (rest : Nat)

/-- A cleared notice is down where CROSS and PEAK lie beside it. -/
theorem State.clearMark_notice (hn : notice.lo + 1 ≤ 32) (hw : notice.w = 1) (hc : notice.lo + 1 ≤ cross.lo)
    (hp : notice.lo + 1 ≤ peak.lo) : (s.clearMark notice cross peak rest).flag notice = false := by
  rw [State.clearMark, State.flag_setFld_other _ _ _ _ (by omega), State.flag_setFld_other _ _ _ _ (by omega),
    State.flag_setFlag_same _ _ _ hn hw]

/-- Its crossings are counted from 0. -/
theorem State.clearMark_cross (hc : cross.lo + cross.w ≤ 32) (hp : cross.lo + cross.w ≤ peak.lo) :
    (s.clearMark notice cross peak rest).fld cross = 0 := by
  rw [State.clearMark, State.fld_setFld_other _ _ _ _ (by omega), State.fld_setFld_same _ _ _ hc, Nat.zero_mod]

/-- Its peak starts again at the occupancy given. -/
theorem State.clearMark_peak (hp : peak.lo + peak.w ≤ 32) :
    (s.clearMark notice cross peak rest).fld peak = rest % 2 ^ peak.w := State.fld_setFld_same _ _ _ hp

/-- Clearing a notice writes one register. -/
theorem State.clearMark_reg_other {a b : Nat} (hn : notice.addr = a) (hc : cross.addr = a) (hp : peak.addr = a) (hb : b ≠ a) :
    (s.clearMark notice cross peak rest).reg b = s.reg b := by
  rw [State.clearMark, State.reg_setFld_other _ _ _ (hp ▸ hb.symm), State.reg_setFld_other _ _ _ (hc ▸ hb.symm),
    State.setFlag, State.reg_setFld_other _ _ _ (hn ▸ hb.symm)]

end

/-! ### Scrubbing (R142) -/

/-- A row that lost a word: its lines are marked and the row is repaired, however few words were corrected. -/
theorem State.scrubRow_lost (s : State) {e : RowErr} (h : e.lost ≠ []) : s.scrubRow e =
    ((s.count31 A.LST_CE_CNT e.fixed).markBad e.bank e.row (e.lost.map (·.val))).repairRow e.bank e.row := by
  simp only [State.scrubRow, if_neg h, if_pos (Or.inl h)]

/-- A row that lost none and yielded fewer corrections than ROW_CE_LIM is counted alone: the count leaves the limit. -/
theorem State.scrubRow_few {s : State} {e : RowErr} (h : e.lost = [])
    (hf : e.fixed < max 1 (s.fld F.LST_SCRUB_CFG_ROW_CE_LIM)) : s.scrubRow e = s.count31 A.LST_CE_CNT e.fixed := by
  have hlim : (s.count31 A.LST_CE_CNT e.fixed).fld F.LST_SCRUB_CFG_ROW_CE_LIM = s.fld F.LST_SCRUB_CFG_ROW_CE_LIM := by
    unfold State.fld
    rw [State.count31_reg_other s e.fixed (by decide) (by decide)]
  have hno : ¬ (e.lost ≠ [] ∨ max 1 (s.fld F.LST_SCRUB_CFG_ROW_CE_LIM) ≤ e.fixed) := by
    rintro (hl | hl)
    · exact hl h
    · exact absurd hf (Nat.not_lt.2 hl)
  simp only [State.scrubRow, if_pos h, hlim, if_neg hno]

/-! ### Line reads (R141, R144) -/

@[simp] theorem State.count31_zero (s : State) (a : Nat) : s.count31 a 0 = s := by
  rw [State.count31, if_pos (.inl rfl)]

@[simp] theorem State.count31_str (s : State) (a n i : Nat) : (s.count31 a n).str i = s.str i := by
  unfold State.str; rw [State.count31_data]

/-- A read of a line that is uncorrectable, or turns out to be, loses it and copies nothing. -/
theorem State.readLine_uncorrectable {s : State} {i : Nat} {l : QLine} {lost : Bool} (h : (s.str i).q.unread = some l)
    (hl : (lost || l.ue) = true) (fixed : Nat) :
    s.readLine i fixed lost = ((s.count31 A.LST_CE_CNT fixed).uncorrectable i l.pos).settleFrames i := by
  simp only [State.readLine, State.count31_str, h, if_pos hl]

/-- Settles O23, one command at a time. -/
theorem lineStore : Obligations.LineStore := by
  unfold Obligations.LineStore
  refine ⟨?flush, ?notice, ?scrub, fun s e => s.scrubRow_lost, fun s e => State.scrubRow_few, ?read, ?lost⟩
  case flush =>
    intro s p i v h
    rw [exec_lstQCtrlFlush_admits h, State.flushCtrl_pending (bitOn_or_one v)]
  case notice =>
    intro s p i v h
    refine ⟨_, exec_lstQWmStatNoticeClear_admits h v, ?_⟩
    rw [State.lstWmStat_clears (bitOn_or_one v), State.reached_str]
    exact ⟨State.clearMark_notice _ _ (by decide : 0 + 1 ≤ 32) rfl (by decide : 0 + 1 ≤ 8) (by decide : 0 + 1 ≤ 16),
      State.clearMark_cross _ _ (by decide : 8 + 8 ≤ 32) (by decide : 8 + 8 ≤ 16),
      State.clearMark_peak _ _ (by decide : 16 + 11 ≤ 32), s.reached_data p, (s.reached_logOnly p).herds, rfl,
      fun a ha => State.clearMark_reg_other _ _ rfl rfl rfl ha⟩
  case scrub => exact fun s found hp => congrArg Host.Outcome.next (State.whenUp_up hp _)
  case read =>
    exact fun s i fixed lost hp hq =>
      congrArg Host.Outcome.next ((State.whenUp_up hp _).trans (State.onQueue_ok hq _))
  case lost =>
    intro s i l h hl
    rw [State.readLine_uncorrectable h (by rw [hl, Bool.or_true]), State.count31_zero]

end Sys2Proof.Machine
end

section
/-! Slices, their audit and service, LIVE, ROI and writes of table memory (R152, R166, R174, R200, R413, R414). -/

namespace Sys2Proof.Machine

/-! ### The audit (R200) -/

/-- A statistics counter writes its two registers, and may log the event of its overflow. -/
theorem State.count48_reg_other (s : State) (n : Nat) {lo b : Nat} (hlo : lo ≠ b) (hhi : lo + 4 ≠ b)
    (hb : b ≠ A.HEP_LINK_STAT) : (s.count48 lo n).reg b = s.reg b := by
  have hpair : ∀ c, (s.setPair lo 16 c).reg b = s.reg b := fun c => by
    rw [State.setPair, State.reg_setReg_other _ _ hhi, State.reg_setReg_other _ _ hlo]
  unfold State.count48
  extract_lets c
  split
  · rfl
  · split
    · exact hpair _
    · rw [State.log_reg _ _ _ _ hb, State.setFlag, State.reg_setFld_other _ _ _ hhi, hpair]

/-- Audit `a` is counted with its target, and has ended. -/
def State.auditEnded (s : State) (a : AuditSt) : State :=
  let u := (s.count48 A.PLC_AUDIT_CNT_LO 1).setFld F.PLC_AUDIT_STAT_TARGET a.target
  { u with plc := { u.plc with audit := none } }

theorem State.auditEnded_mode (s : State) (a : AuditSt) : (s.auditEnded a).mode = s.mode := by
  refine State.fld_congr _ ?_
  calc (s.auditEnded a).reg A.GLB_MODE_STAT
    _ = ((s.count48 A.PLC_AUDIT_CNT_LO 1).setFld F.PLC_AUDIT_STAT_TARGET a.target).reg A.GLB_MODE_STAT := rfl
    _ = (s.count48 A.PLC_AUDIT_CNT_LO 1).reg A.GLB_MODE_STAT := State.reg_setFld_other _ _ _ (by decide)
    _ = s.reg A.GLB_MODE_STAT := s.count48_reg_other 1 (by decide) (by decide) (by decide)

section
variable {s : State} {a : AuditSt} {isid line : Nat} (ha : s.plc.audit = some a) (hl : a.line = some (isid, line))
include ha hl

/-- Outside Service the next audit waits for its tick (R199). -/
theorem State.auditCompare_agrees (hm : s.mode ≠ 3) : s.auditCompare false = s.auditEnded a := by
  have hm' : (s.auditEnded a).mode ≠ 3 := by rw [State.auditEnded_mode]; exact hm
  simp only [State.auditCompare, ha, Option.bind_some, hl, Option.map_some, Bool.false_eq_true, if_false]
  exact if_neg hm'

theorem State.auditCompare_differs (hm : ((s.auditEnded a).auditMismatch a.auditor a.target isid line).mode ≠ 3) :
    s.auditCompare true = (s.auditEnded a).auditMismatch a.auditor a.target isid line := by
  simp only [State.auditCompare, ha, Option.bind_some, hl, Option.map_some, if_true]
  exact if_neg hm

end

/-- A suspicion with no boundary left, neither confirmed nor leaving, is dropped; raised by the one spare, it strikes none. -/
theorem State.suspectEnd_alone {s : State} {t b : Nat} (h : s.plc.suspect = some (t, b, 0, false))
    (hc : s.plc.confirmed.contains t = false) (hl : s.plc.leaving.contains t = false) : s.suspectEnd =
      (((((({ s with plc := { s.plc with suspect := none } } : State).setFld (F.SLC_STAT_STATE t) 2).setFld
        F.PLC_AUDIT_STAT_SUSPECT 0x3F).setFld F.PLC_AUDIT_STAT_RAISED_BY 0x3F).roleRegs).log 200 t []) := by
  have hdrop : ¬ (decide (0 < 0) || s.plc.confirmed.contains t || s.plc.leaving.contains t) = true := by
    rw [hc, hl]; decide
  simp only [State.suspectEnd, h, if_neg hdrop, Bool.false_eq_true, if_false]

/-! ### Live parameters and ROI positions (R166, R174) -/

theorem bitOn_or_two (v : Word) : bitOn (v ||| 2#32) 1 = true := by simp [bitOn]

theorem State.liveWrite_commit {v : Word} (h : bitOn v 1 = true) (s : State) (i : Nat) :
    s.liveWrite i v = (s.plainWrite (A.SLC_STR_LIVE i) v).setFlag (F.SLC_STR_LIVE_PEND i) true := if_pos h

/-! ### Table memory (R151, R152) -/

/-- A run of bytes is read back from where it was stored, and nothing else changes. -/
theorem tblGet_tblStore (t : Tbl Byte) (o : Nat) (l : List Byte) (a : Nat) : tblGet zeroB (tblStore t o l) a =
    if o ≤ a ∧ a < o + l.length then l.getD (a - o) 0 else tblGet zeroB t a := by
  induction l generalizing t o with
  | nil => rw [if_neg (by simp only [List.length_nil]; omega)]; rfl
  | cons b l ih =>
    have hset : tblGet zeroB (tblSet (fun _ => 0#8) t o b) a = if o = a then b else tblGet zeroB t a := tblGet_set _ _ _ _ _
    rw [tblStore, ih, hset]
    rcases Nat.lt_trichotomy a o with h | rfl | h
    · rw [if_neg (by omega), if_neg (by omega), if_neg (by omega)]
    · rw [if_neg (by omega), if_pos rfl, if_pos (by simp), Nat.sub_self, List.getD_cons_zero]
    · have hsub : a - o = (a - (o + 1)) + 1 := by omega
      rw [if_neg (show ¬ o = a by omega), hsub, List.getD_cons_succ]
      simp only [List.length_cons]
      exact ite_congr (propext (by omega)) (fun _ => rfl) (fun _ => rfl)

section
variable (s : State) (o : Nat) (data : List Byte) (ep : Bool) (b : Nat)

theorem State.tblPart_regs : (s.tblPart o data ep b).regs = s.regs := rfl

theorem State.tblPart_str : (s.tblPart o data ep b).data.str = s.data.str := rfl

theorem State.tblPart_sent : (s.tblPart o data ep b).sent = s.sent := rfl

end

section
variable {o : Nat} {data : List Byte}

/-- A range of bytes within a block touches that block alone. -/
theorem blocksOf_within {n : Nat} (hn : 0 < n) (h : o % 64 + n ≤ 64) : blocksOf o n = [o / 64] := by
  have hlast : (o + n - 1) / 64 - o / 64 + 1 = 1 := by omega
  rw [blocksOf, hlast]
  rfl

/-- All of a write within a block falls in that block. -/
theorem blockPart_within (h : o % 64 + data.length ≤ 64) : blockPart o data (o / 64) = (o, data) := by
  have hlo : max o (o / 64 * 64) = o := by omega
  have hhi : min (o + data.length) (o / 64 * 64 + 64) - o = data.length := by omega
  simp only [blockPart, hlo, hhi, Nat.sub_self, List.drop_zero, List.take_length]

theorem State.tblPart_tbl (s : State) (h : o % 64 + data.length ≤ 64) (ep : Bool) :
    (s.tblPart o data ep (o / 64)).data.tbl = tblStore s.data.tbl o data := by
  simp only [State.tblPart, blockPart_within h]

/-- A write within a block is taken whole, or discarded whole where the block is shut. -/
theorem State.tblWrite_within (s : State) (hne : data ≠ []) (h : o % 64 + data.length ≤ 64) (ep : Bool) :
    s.tblWrite o data ep = if s.blockShut (s.tblPart o data ep (o / 64)) (o / 64) = true then s.blockRefused (o / 64)
      else s.tblPart o data ep (o / 64) := by
  have hemp : ¬ data.isEmpty = true := by simpa using hne
  rw [State.tblWrite, if_neg hemp, blocksOf_within (List.length_pos_iff.2 hne) h]
  rfl

end

@[simp] theorem State.imageReject_data (s : State) (a : Nat) : (s.imageReject a).data = s.data := by
  unfold State.imageReject
  extract_lets t
  split
  · rfl
  · exact State.log_data ..

/-- A discarded write leaves table memory. -/
@[simp] theorem State.blockRefused_data (s : State) (b : Nat) : (s.blockRefused b).data = s.data := by
  unfold State.blockRefused
  extract_lets t key
  split
  · exact s.imageReject_data _
  · split
    · exact State.count31_data ..
    · exact (State.log_data ..).trans (State.count31_data ..)

/-- A write of whole words within a block of table memory, which every path may make (R257). -/
theorem exec_tableWrite_words {s : State} {p : Path} {addr : Nat} {data : List Byte} (h : s.Admits p tblBase false)
    (hin : inTbl addr data.length = true) (ha : addr % 4 = 0) (hd : data.length % 4 = 0) (hb : addr % 64 + data.length ≤ 64) :
    exec (.tableWrite p addr data) s = .next ((s.reached p).tblWrite (addr - tblBase) data false) := by
  have hbar : ¬ (p = .bar0 ∧ 64 < addr % 64 + data.length) := fun hp => absurd hp.2 (Nat.not_lt.2 hb)
  refine congrArg Host.Outcome.next ((State.guarded_admits h _).trans ?_)
  rw [if_neg hbar, if_neg (by simp [hin]), if_pos ⟨ha, hd⟩]

/-- An offset into the window lies in its block where the address does. -/
theorem mod_sub_tblBase {addr n : Nat} (h : inTbl addr n = true) : (addr - tblBase) % 64 = addr % 64 := by
  simp only [inTbl, Bool.and_eq_true, decide_eq_true_eq] at h
  obtain ⟨hlo, -⟩ := h
  unfold tblBase at hlo ⊢
  omega

/-! ### The registers of one slice (R413, R414) -/

section
variable (s : State) (p : Path) (sl : Fin 34)

/-- The slices' registers end below the host link's (R422). -/
theorem SLC_STAT_ne_link : A.SLC_STAT sl ≠ A.HEP_LINK_STAT := by unfold A.SLC_STAT A.HEP_LINK_STAT; omega

theorem SLC_SVC_STAT_ne_link : A.SLC_SVC_STAT sl ≠ A.HEP_LINK_STAT := by unfold A.SLC_SVC_STAT A.HEP_LINK_STAT; omega

@[simp] theorem State.reached_sliceState : (s.reached p).fld (F.SLC_STAT_STATE sl) = s.fld (F.SLC_STAT_STATE sl) :=
  (s.reached_logOnly p).fld _ (SLC_STAT_ne_link sl)

@[simp] theorem State.reached_bistState : (s.reached p).fld (F.SLC_SVC_STAT_STATE sl) = s.fld (F.SLC_SVC_STAT_STATE sl) :=
  (s.reached_logOnly p).fld _ (SLC_SVC_STAT_ne_link sl)

@[simp] theorem State.reached_sliceLock : (s.reached p).flag (F.SLC_SVC_STAT_LOCK sl) = s.flag (F.SLC_SVC_STAT_LOCK sl) :=
  (s.reached_logOnly p).flag _ (SLC_SVC_STAT_ne_link sl)

@[simp] theorem State.reached_plc : (s.reached p).plc = s.plc := (s.reached_logOnly p).plc

end

/-! ### BIST and return -/

section
variable {s : State} {sl : Nat} {v : Word}

/-- A write with BIST and without RETURN. -/
theorem State.sliceSvc_bist (h : bitOn v 1 = false) (s : State) (sl : Nat) : s.sliceSvc sl (v ||| 1#32) = s.sliceBist sl := by
  have hreturn : bitOn (v ||| 1#32) 1 = false := by simpa [bitOn] using h
  simp only [State.sliceSvc, bitOn_or_one, hreturn, Bool.false_eq_true, if_true, if_false]

/-- A write with RETURN and without BIST. -/
theorem State.sliceSvc_return (h : bitOn v 0 = false) (s : State) (sl : Nat) :
    s.sliceSvc sl (v ||| 2#32) = s.sliceReturn sl := by
  have hbist : bitOn (v ||| 2#32) 0 = false := by simpa [bitOn] using h
  simp only [State.sliceSvc, bitOn_or_two, hbist, Bool.false_eq_true, if_true, if_false]

/-- BIST of a spare or retired slice that audits nothing. -/
theorem State.sliceBist_runs (h : s.fld (F.SLC_STAT_STATE sl) = 1 ∨ s.fld (F.SLC_STAT_STATE sl) = 4)
    (ha : ∀ a, s.plc.audit = some a → a.auditor ≠ sl) : s.sliceBist sl = s.setFld (F.SLC_SVC_STAT_STATE sl) 1 := by
  have hidle : ¬ s.plc.audit.map (·.auditor) = some sl := by
    rw [Option.map_eq_some_iff]
    rintro ⟨a, hs, he⟩
    exact ha a hs he
  exact (if_pos h).trans (if_neg hidle)

theorem State.sliceBist_refused (h1 : s.fld (F.SLC_STAT_STATE sl) ≠ 1) (h4 : s.fld (F.SLC_STAT_STATE sl) ≠ 4) :
    s.sliceBist sl = s.setFlag (F.SLC_SVC_STAT_REJ sl) true := if_neg (not_or.2 ⟨h1, h4⟩)

section
variable (h : s.fld (F.SLC_SVC_STAT_STATE sl) = 1)
include h

theorem State.sliceBistDone_passes : s.sliceBistDone sl true = s.setFld (F.SLC_SVC_STAT_STATE sl) 2 := by
  rw [State.sliceBistDone, if_neg (Decidable.not_not.2 h), if_pos rfl]

/-- A failure retires a spare, and is shown either way. -/
theorem State.sliceBistDone_fails : s.sliceBistDone sl false = (if s.fld (F.SLC_STAT_STATE sl) = 1
    then ((s.retireSlice sl).roleRegs).plcTrigger 4 else s).setFld (F.SLC_SVC_STAT_STATE sl) 3 := by
  simp only [State.sliceBistDone, if_neg (Decidable.not_not.2 h), Bool.false_eq_true, if_false]

end

/-- A retired slice that has passed its BIST and is not locked out returns at the next boundary. -/
theorem State.sliceReturn_accepted (h : s.fld (F.SLC_STAT_STATE sl) = 4) (hb : s.fld (F.SLC_SVC_STAT_STATE sl) = 2)
    (hl : s.flag (F.SLC_SVC_STAT_LOCK sl) = false) :
    s.sliceReturn sl = { s with plc := { s.plc with returns := setIns sl s.plc.returns } } := if_pos (by simp [h, hb, hl])

theorem State.sliceReturn_refused (h : s.fld (F.SLC_STAT_STATE sl) ≠ 4 ∨ s.fld (F.SLC_SVC_STAT_STATE sl) ≠ 2 ∨
    s.flag (F.SLC_SVC_STAT_LOCK sl) = true) : s.sliceReturn sl = s.setFlag (F.SLC_SVC_STAT_REJ sl) true := by
  refine if_neg ?_
  rcases h with h | h | h <;> simp [h]

end

/-- A write of SLC_SVC_CTRL that is admitted, with BIST set and RETURN not. -/
theorem exec_sliceBist_admits {s : State} {p : Path} {sl : Fin 34} {v : Word} (h : s.Admits p (A.SLC_SVC_CTRL sl) true)
    (hv : bitOn v 1 = false) : exec (.sliceBist p sl v) s = .next ((s.reached p).sliceBist sl) :=
  congrArg Host.Outcome.next ((State.guarded_admits h _).trans (State.sliceSvc_bist hv _ _))

/-- A write of SLC_SVC_CTRL that is admitted, with RETURN set and BIST not. -/
theorem exec_sliceReturn_admits {s : State} {p : Path} {sl : Fin 34} {v : Word} (h : s.Admits p (A.SLC_SVC_CTRL sl) true)
    (hv : bitOn v 0 = false) : exec (.sliceReturn p sl v) s = .next ((s.reached p).sliceReturn sl) :=
  congrArg Host.Outcome.next ((State.guarded_admits h _).trans (State.sliceSvc_return hv _ _))

/-- Settles O24, one command at a time. -/
theorem slicesAndTables : Obligations.SlicesAndTables := by
  unfold Obligations.SlicesAndTables
  refine ⟨?audit, ?suspect, ?live, ?roi, ?table, ?bist, ?done, ?back⟩
  case audit =>
    rintro s u a isid line hup ha hl hm rfl
    exact ⟨congrArg Host.Outcome.next ((State.whenUp_up hup _).trans (State.auditCompare_agrees ha hl hm)),
      fun hm' => congrArg Host.Outcome.next ((State.whenUp_up hup _).trans (State.auditCompare_differs ha hl hm'))⟩
  case suspect =>
    exact fun s t b hup h hc hl =>
      congrArg Host.Outcome.next ((State.whenUp_up hup _).trans (State.suspectEnd_alone h hc hl))
  case live =>
    exact fun s p i v h =>
      congrArg Host.Outcome.next ((State.guarded_admits h _).trans (State.liveWrite_commit (bitOn_or_two v) _ _))
  case roi =>
    exact fun s p r v h => ⟨fun hfit => congrArg Host.Outcome.next ((State.guarded_admits h _).trans (if_pos hfit)),
      fun hno => congrArg Host.Outcome.next ((State.guarded_admits h _).trans (if_neg (Bool.eq_false_iff.1 hno)))⟩
  case table =>
    rintro s p addr b data h hin ha hd hne hb rfl
    have hb' : (addr - tblBase) % 64 + data.length ≤ 64 := by rw [mod_sub_tblBase hin]; exact hb
    rw [exec_tableWrite_words h hin ha hd hb, State.tblWrite_within _ hne hb']
    refine ⟨fun hopen => ?_, fun hshut => ⟨congrArg Host.Outcome.next (if_pos hshut), ?_⟩⟩
    · rw [if_neg (Bool.eq_false_iff.1 hopen)]
      refine ⟨_, rfl, fun a => ?_, State.tblPart_regs .., (State.tblPart_str ..).trans (congrArg DataSt.str (s.reached_data p)),
        State.tblPart_sent ..⟩
      rw [State.tblPart_tbl _ hb', State.reached_data, tblGet_tblStore]
    · rw [State.blockRefused_data, State.reached_data]
  case bist =>
    intro s p sl v h hv
    rw [exec_sliceBist_admits h hv]
    refine ⟨fun hst ha => ?_, fun h1 h4 => ?_⟩
    · rw [State.sliceBist_runs (by simpa using hst) (by simpa using ha)]
    · rw [State.sliceBist_refused (by simpa using h1) (by simpa using h4)]
  case done =>
    intro s sl hup h
    have hfail : exec (.sliceBistDone sl false) s = _ :=
      congrArg Host.Outcome.next ((State.whenUp_up hup _).trans (State.sliceBistDone_fails h))
    refine ⟨congrArg Host.Outcome.next ((State.whenUp_up hup _).trans (State.sliceBistDone_passes h)), fun h1 => ?_,
      fun h1 => ?_⟩
    · rw [hfail, if_pos h1]
    · rw [hfail, if_neg h1]
  case back =>
    intro s p sl v h hv
    rw [exec_sliceReturn_admits h hv]
    refine ⟨fun hst hb hl => ?_, fun hno => ?_⟩
    · rw [State.sliceReturn_accepted (by simpa using hst) (by simpa using hb) (by simpa using hl), State.reached_plc]
    · rw [State.sliceReturn_refused (by simpa using hno)]

end Sys2Proof.Machine
end

section
/-! The graze queue's producer index (R206): GRZ_PI is named by fields that overlap, so that IDX reads the wrap bit too. -/

namespace Sys2Proof.Machine

/-! ### The nine bits of GRZ_PI -/

/-- Nine bits are the low eight and the one above them. -/
theorem fldGet_nine (r : Word) : fldGet r 0 9 = fldGet r 0 8 + 256 * fldGet r 8 1 := by
  simp only [fldGet, BitVec.extractLsb'_toNat, Nat.shiftRight_eq_div_pow]
  omega

/-- Of an index and then a phase written to one register, the nine bits read both. -/
theorem fldGet_putIdxPhase (r : Word) (i ph : Nat) : fldGet (fldPut (fldPut r 0 9 i) 8 1 ph) 0 9 = i % 256 + 256 * (ph % 2) := by
  have hidx : fldGet (fldPut r 0 9 i) 0 8 = i % 256 := by
    have h := fldGet_put_same r 0 9 i (by decide)
    rw [fldGet_nine] at h
    have hlt : fldGet (fldPut r 0 9 i) 0 8 < 2 ^ 8 := BitVec.isLt _
    omega
  rw [fldGet_nine, fldGet_put_same _ 8 1 ph (by decide), fldGet_put_other _ 8 1 ph 0 8 (.inr (by decide)), hidx,
    Nat.pow_one]

/-- IDX has nine bits in the model's field table, and the spec's table gives it eight with PHASE above them: once PI has
moved to `n`, IDX reads `n` with its phase. -/
theorem State.fld_idx_grzSetPi (s : State) (n : Nat) : (s.grzSetPi n).fld F.GRZ_PI_IDX = n % 512 := by
  have hpair : (s.grzSetPi n).fld F.GRZ_PI_IDX = n % 256 % 256 + 256 * (n / 256 % 2 % 2) := by
    rw [State.grzSetPi, State.fld_setFld_other _ _ _ _ (.inl (by decide))]
    simp only [State.fld, State.setFld, F.GRZ_PI_IDX, F.GRZ_PI_PHASE, State.reg_setReg_same, fldGet_putIdxPhase]
  omega

/-! ### A submission (R206) -/

/-- The queue's entries are registers apart from its indices. -/
theorem GRZ_Q_ne_PI (i w : Nat) : A.GRZ_Q i w ≠ A.GRZ_PI := by unfold A.GRZ_Q A.GRZ_PI; omega

theorem State.grzPiNum_congr {s t : State} (h : t.reg A.GRZ_PI = s.reg A.GRZ_PI) : t.grzPiNum = s.grzPiNum := by
  have hidx : t.fld F.GRZ_PI_IDX = s.fld F.GRZ_PI_IDX := State.fld_congr _ h
  have hphase : t.fld F.GRZ_PI_PHASE = s.fld F.GRZ_PI_PHASE := State.fld_congr _ h
  rw [State.grzPiNum, State.grzPiNum, State.grzIdx, State.grzIdx, hidx, hphase]

/-- Filling words of an entry leaves PI. -/
theorem State.reg_pi_fillEntry (i : Nat) (word : Nat → Word) (l : List Nat) (s : State) :
    (l.foldl (fun s w => s.setReg (A.GRZ_Q i w) (word w)) s).reg A.GRZ_PI = s.reg A.GRZ_PI := by
  induction l generalizing s with
  | nil => rfl
  | cons w l ih => exact (ih _).trans (s.reg_setReg_other _ (GRZ_Q_ne_PI i w))

/-- Where a submission is accepted, PI moves on by one, and IDX reads the new index with its phase. -/
theorem State.fld_idx_grzSubmit {s : State} {p : Path} {v : Word} (hgo : bitOn v 0 = true)
    (hring : s.flag F.GRZ_CTRL_RING = false) (hroom : s.grzPending < 256) :
    (s.grzSubmit p v).fld F.GRZ_PI_IDX = (s.grzPiNum + 1) % 512 := by
  rw [State.grzSubmit, if_neg (by simp [hgo]), if_neg (by simp [hring]), if_neg (Nat.not_le.2 hroom)]
  extract_lets i word u g t
  have hu : u.reg A.GRZ_PI = s.reg A.GRZ_PI := s.reg_pi_fillEntry i word (List.range 8)
  clear_value u
  have ht : t.reg A.GRZ_PI = u.reg A.GRZ_PI := rfl
  rw [State.fld_idx_grzSetPi, State.grzPiNum_congr (ht.trans hu)]

/-- A write of GRZ_SUBMIT that is admitted submits what its path has staged. -/
theorem exec_grzSubmit_admits {s : State} {p : Path} (h : s.Admits p A.GRZ_SUBMIT false) (v : Word) :
    exec (.grzSubmit p v) s = .next ((s.reached p).grzSubmit p (v ||| 1#32)) :=
  congrArg Host.Outcome.next (State.guarded_admits h _)

/-! ### The statement -/

/-- A hub that runs, RING 0, its graze queue empty, and both indices at the last entry of the first lap. -/
def grzLastEntry : State :=
  (({ State.reset with start := { startReset with phase := .run } } : State).setReg A.GRZ_PI 255#32).setReg A.GRZ_CI 255#32

/-- Refutes O25: a submission into entry 255 of the graze queue moves PI to entry 0 of the next lap, and its clause says that
IDX then reads 0. The model's field IDX covers PHASE too, which has become 1, so IDX reads 256. -/
theorem not_placementAndGraze : ¬ Obligations.PlacementAndGraze := by
  unfold Obligations.PlacementAndGraze
  rintro ⟨-, -, -, hsubmit, -⟩
  have hadm : grzLastEntry.Admits .mgmt A.GRZ_SUBMIT false := by decide +kernel
  have hring : grzLastEntry.flag F.GRZ_CTRL_RING = false := by decide +kernel
  have hroom : grzLastEntry.grzPending < 256 := by decide +kernel
  have hlast : grzLastEntry.grzPiNum = 255 := by decide +kernel
  obtain ⟨t, hexec, -, hidx, -⟩ := (hsubmit grzLastEntry .mgmt 1#32 hadm).1 hring hroom
  rw [exec_grzSubmit_admits hadm, State.reached_of_ne_bar0 (by decide)] at hexec
  have hmodel : t.fld F.GRZ_PI_IDX = 256 := by
    rw [← Host.Outcome.next.inj hexec, State.fld_idx_grzSubmit (bitOn_or_one _) hring hroom, hlast]
  have hclaim : t.fld F.GRZ_PI_IDX = 0 := by rw [hidx, hlast]
  omega

end Sys2Proof.Machine
end

section
/-! General channels: what writes of their ring registers and their fetched descriptors do (R220–R226, R236, R240). -/

namespace Sys2Proof.Machine

/-! ### A channel's working state -/

section
variable (s : State) (c : Nat)

@[simp] theorem State.chan_setChan_same (x : ChanSt) : (s.setChan c x).chan c = x := tblGet_set_same ..
@[simp] theorem State.reg_setChan (x : ChanSt) (a : Nat) : (s.setChan c x).reg a = s.reg a := rfl
@[simp] theorem State.fld_setChan (x : ChanSt) (f : Fld) : (s.setChan c x).fld f = s.fld f := rfl
@[simp] theorem State.chan_setReg (a : Nat) (v : Word) : (s.setReg a v).chan c = s.chan c := rfl
@[simp] theorem State.chan_setFld (f : Fld) (v : Nat) : (s.setFld f v).chan c = s.chan c := rfl
@[simp] theorem State.chan_setPair (lo w v : Nat) : (s.setPair lo w v).chan c = s.chan c := rfl

end

/-- A write to a channel that software drives takes effect (R218). -/
theorem State.chWrite_software {s : State} {c : Nat} (h : s.hostBarred c = false) (act : State → State) :
    s.chWrite c act = act s := if_neg (Bool.eq_false_iff.1 h)

/-! ### The producer index (R220, R224) -/

section
variable {s : State} {c : Nat} {v : Word}

/-- A write of DMA_CH_PI that is admitted, of a channel that software drives. -/
theorem exec_dmaChPiWrite_admits {s : State} {p : Path} {c : Fin 256} (h : s.Admits p (A.DMA_CH_PI c) false)
    (hb : (s.reached p).hostBarred c = false) (v : Word) : exec (.dmaChPiWrite p c v) s = .next ((s.reached p).chPi c v) :=
  congrArg Host.Outcome.next ((State.guarded_admits h _).trans (State.chWrite_software hb _))

theorem State.chPi_disabled (hen : s.flag (F.DMA_CH_CFG_EN c) = false) :
    s.chPi c v = s.setFld (F.DMA_CH_PI_IDX c) (fldGet v 0 17) := if_pos (by simp [hen])

section
variable (hen : s.flag (F.DMA_CH_CFG_EN c) = true)
include hen

/-- An index that leaves more pending than the ring holds, or takes entries back. -/
theorem State.chPi_refused (hd : 2 ^ s.chLog2 c < idxDist (s.chLog2 c) (fldGet v 0 17) (s.fld (F.DMA_CH_CI_IDX c)) ∨
      idxDist (s.chLog2 c) (fldGet v 0 17) (s.fld (F.DMA_CH_CI_IDX c)) < s.chPending c) :
    s.chPi c v = s.setFlag (F.DMA_CH_STAT_PI_REJ c) true := (if_neg (by simp [hen])).trans (if_pos hd)

theorem State.chPi_advances (hroom : idxDist (s.chLog2 c) (fldGet v 0 17) (s.fld (F.DMA_CH_CI_IDX c)) ≤ 2 ^ s.chLog2 c)
    (hon : s.chPending c ≤ idxDist (s.chLog2 c) (fldGet v 0 17) (s.fld (F.DMA_CH_CI_IDX c))) :
    s.chPi c v = ((s.setFld (F.DMA_CH_PI_IDX c) (fldGet v 0 17)).setChan c
      { (s.setFld (F.DMA_CH_PI_IDX c) (fldGet v 0 17)).chan c with ownWait := false }).chFetch c :=
  (if_neg (by simp [hen])).trans (if_neg (not_or.2 ⟨Nat.not_lt.2 hroom, Nat.not_lt.2 hon⟩))

end

/-! ### Enabling and disabling (R221, R226) -/

/-- A write of DMA_CH_CFG that is admitted, of a channel that software drives. -/
theorem exec_dmaChCfgWrite_admits {s : State} {p : Path} {c : Fin 256} (h : s.Admits p (A.DMA_CH_CFG c) false)
    (hb : (s.reached p).hostBarred c = false) (v : Word) : exec (.dmaChCfgWrite p c v) s = .next ((s.reached p).chCfg c v) :=
  congrArg Host.Outcome.next ((State.guarded_admits h _).trans (State.chWrite_software hb _))

theorem State.chCfg_enables (hen : s.flag (F.DMA_CH_CFG_EN c) = false) (hv : bitOn v 0 = true) :
    s.chCfg c v = ((((s.plainWrite (A.DMA_CH_CFG c) v).setChState c chIdle).setFld (F.DMA_CH_STAT_LINKS c) 0).setChan c
      (chanReset c)).chFetch c := (if_neg (by simp [hen])).trans (if_neg (by simp [hen, hv]))

section
variable (hen : s.flag (F.DMA_CH_CFG_EN c) = true) (hv : bitOn v 0 = false)
include hen hv

theorem State.chCfg_disables (hst : s.chState c = chIdle ∨ s.chState c = chStopped ∨ s.chState c = chHalted) :
    s.chCfg c v = (((s.plainWrite (A.DMA_CH_CFG c) v).setChState c chOff).setFld (F.DMA_CH_STAT_HALT_CAUSE c) 0).setChan c
      (chanReset c) :=
  (if_pos (by simp [hen, hv])).trans (if_pos (by rcases hst with h | h | h <;> simp [h]))

/-- A channel that runs is not disabled. -/
theorem State.chCfg_refused (hst : s.chState c = chRun) : s.chCfg c v = s.setFlag (F.DMA_CH_STAT_CTRL_REJ c) true :=
  (if_pos (by simp [hen, hv])).trans (if_neg (by rw [hst]; decide))

end

end

/-! ### A LINK that is followed (R240) -/

/-- The channel after it has followed LINK `d`: the LINK counts and has ended, and the next descriptor comes from its
address. -/
def State.chLinked (s : State) (c : Nat) (d : Desc) : State :=
  let t := (s.setFld (F.DMA_CH_STAT_LINKS c) (s.fld (F.DMA_CH_STAT_LINKS c) + 1)).chBegin c d none (some (0, 0))
  t.setChan c { t.chan c with linked := some d.addr }

section
variable (s : State) (c : Nat) (d : Desc)

/-- A descriptor that begins leaves the head. -/
theorem State.chan_head_chBegin (ue : Option Nat) (e : Option (Nat × Nat)) : ((s.chBegin c d ue e).chan c).head = none := by
  simp [State.chBegin, State.chRunSet]

/-- A descriptor that begins writes CI, CUR and DONE alone. -/
theorem State.fld_chBegin_other (ue : Option Nat) (e : Option (Nat × Nat)) {f : Fld} (hci : A.DMA_CH_CI c ≠ f.addr)
    (hlo : A.DMA_CH_CUR_LO c ≠ f.addr) (hhi : A.DMA_CH_CUR_LO c + 4 ≠ f.addr) (hdone : A.DMA_CH_DONE c ≠ f.addr) :
    (s.chBegin c d ue e).fld f = s.fld f := by
  refine State.fld_congr f ?_
  simp only [State.chBegin, State.chRunSet]
  rw [State.reg_setReg_other _ _ hdone, State.reg_setChan, State.setPair, State.reg_setReg_other _ _ hhi,
    State.reg_setReg_other _ _ hlo, State.reg_setFld_other _ _ _ hci, State.reg_setChan]

theorem State.chan_linked_chLinked : ((s.chLinked c d).chan c).linked = some d.addr := by simp [State.chLinked]

theorem State.chan_head_chLinked : ((s.chLinked c d).chan c).head = none := by
  simp [State.chLinked, State.chan_head_chBegin]

/-- LINKS has five bits, so it holds every count up to the sixteenth. -/
theorem State.fld_links_chLinked {s : State} {c : Nat} (hn : s.fld (F.DMA_CH_STAT_LINKS c) < 16) :
    (s.chLinked c d).fld (F.DMA_CH_STAT_LINKS c) = s.fld (F.DMA_CH_STAT_LINKS c) + 1 := by
  have hstat : (F.DMA_CH_STAT_LINKS c).addr = 0x1000008 + c * 0x1000 := rfl
  rw [State.chLinked, State.fld_setChan, State.fld_chBegin_other, State.fld_setFld_same _ _ _ (show 23 + 5 ≤ 32 by decide)]
  · exact Nat.mod_eq_of_lt (show s.fld (F.DMA_CH_STAT_LINKS c) + 1 < 2 ^ 5 by omega)
  · rw [hstat]; unfold A.DMA_CH_CI; omega
  · rw [hstat]; unfold A.DMA_CH_CUR_LO; omega
  · rw [hstat]; unfold A.DMA_CH_CUR_LO; omega
  · rw [hstat]; unfold A.DMA_CH_DONE; omega

theorem State.sent_chLinked : (s.chLinked c d).sent = s.sent := rfl

end

/-! ### The descriptor at the head begins (R222, R236, R240) -/

section
variable {s : State} {c op : Nat} {d : Desc} (hhead : (s.chan c).head = some d) (hgoes : s.chGoes c = true) (hop : d.op = op)
include hhead hgoes hop

/-- One that fails its check ends with its cause. -/
theorem State.chStart_fails (hbad : s.chCause d ≠ 0) (ue : Option Nat) :
    s.chStart c op ue = s.chBegin c d none (some (6, s.chCause d)) := by
  simp [State.chStart, hhead, hgoes, hop, hbad]

variable (hok : s.chCause d = 0)
include hok

/-- One that transfers ends a row of links and moves its bytes. -/
theorem State.chStart_transfers (hlink : op ≠ 6) (hnop : op ≠ 7) (ue : Option Nat) :
    s.chStart c op ue = ((s.setFld (F.DMA_CH_STAT_LINKS c) 0).chBegin c d ue none).chMove c := by
  simp [State.chStart, hhead, hgoes, hop, hok]

end

section
variable {s : State} {c : Nat} {d : Desc} (hhead : (s.chan c).head = some d) (hgoes : s.chGoes c = true)
  (hok : s.chCause d = 0)
include hhead hgoes hok

theorem State.chStart_nop (hop : d.op = 7) (ue : Option Nat) : s.chStart c 7 ue = s.chBegin c d none (some (0, 0)) := by
  simp [State.chStart, hhead, hgoes, hop, hok]

variable (hop : d.op = 6)
include hop

/-- A LINK within the sixteen of a row is followed. -/
theorem State.chStart_link_followed (hn : s.fld (F.DMA_CH_STAT_LINKS c) < 16) (ue : Option Nat) :
    s.chStart c 6 ue = s.chLinked c d := by
  have hfew : ¬ s.fld (F.DMA_CH_STAT_LINKS c) + 1 ≥ 17 := by omega
  simp only [State.chStart, hhead, hgoes, hop, hok, if_neg hfew]
  rfl

/-- The seventeenth in a row halts its channel. -/
theorem State.chStart_link_halts (hn : 16 ≤ s.fld (F.DMA_CH_STAT_LINKS c)) (ue : Option Nat) :
    s.chStart c 6 ue = s.chHalt c 1 := by
  have hmany : s.fld (F.DMA_CH_STAT_LINKS c) + 1 ≥ 17 := by omega
  simp only [State.chStart, hhead, hgoes, hop, hok, if_pos hmany]
  rfl

end

/-! ### A descriptor ends (R220, R221) -/

theorem State.chDone_ended {s : State} {c : Nat} {r : DescRun} {e : Nat × Nat} (hcur : (s.chan c).cur = some r)
    (hend : r.ended = some e) (hgoes : s.chGoes c = true) : s.chDone c = (s.chRetire c r e).chFetch c := by
  simp [State.chDone, hcur, hend, hgoes]

/-- Settles O26, one register or descriptor kind at a time. -/
theorem channelRings : Obligations.ChannelRings := by
  unfold Obligations.ChannelRings
  refine ⟨?pi, ?cfg, ?transfer, ?link, ?bad, ?done⟩
  case pi =>
    rintro s r p c v d h rfl hsoft rfl
    rw [exec_dmaChPiWrite_admits h hsoft]
    exact ⟨fun hen => congrArg Host.Outcome.next (State.chPi_disabled hen),
      fun hen hd => congrArg Host.Outcome.next (State.chPi_refused hen hd),
      fun hen hroom hon => congrArg Host.Outcome.next (State.chPi_advances hen hroom hon)⟩
  case cfg =>
    rintro s r p c v h rfl hsoft
    rw [exec_dmaChCfgWrite_admits h hsoft]
    exact ⟨fun hen hv => congrArg Host.Outcome.next (State.chCfg_enables hen hv),
      fun hen hv hst => congrArg Host.Outcome.next (State.chCfg_disables hen hv hst),
      fun hen hv hst => congrArg Host.Outcome.next (State.chCfg_refused hen hv hst)⟩
  case transfer =>
    rintro s u c d hup hhead hgoes hok rfl
    have hmoves {op : Nat} (hop : d.op = op) (hlink : op ≠ 6) (hnop : op ≠ 7) (ue : Option Nat) :
        Host.Outcome.next (s.whenUp fun s => s.chStart c op ue) =
          (.next (((s.setFld (F.DMA_CH_STAT_LINKS c) 0).chBegin c d ue none).chMove c) : Result) :=
      congrArg Host.Outcome.next ((State.whenUp_up hup _).trans (State.chStart_transfers hhead hgoes hop hok hlink hnop ue))
    exact ⟨fun hop => hmoves hop (by decide) (by decide) none, fun hop => hmoves hop (by decide) (by decide),
      fun hop => hmoves hop (by decide) (by decide) none, fun hop => hmoves hop (by decide) (by decide) none,
      fun hop => hmoves hop (by decide) (by decide),
      fun hop => congrArg Host.Outcome.next ((State.whenUp_up hup _).trans (State.chStart_nop hhead hgoes hok hop none))⟩
  case link =>
    intro s c d hup hhead hgoes hok hop
    refine ⟨fun hfew => ⟨s.chLinked c d, ?_, s.chan_linked_chLinked c d, s.chan_head_chLinked c d,
      State.fld_links_chLinked d hfew, s.sent_chLinked c d⟩, fun hmany => ?_⟩
    · exact congrArg Host.Outcome.next
        ((State.whenUp_up hup _).trans (State.chStart_link_followed hhead hgoes hok hop hfew none))
    · exact congrArg Host.Outcome.next
        ((State.whenUp_up hup _).trans (State.chStart_link_halts hhead hgoes hok hop hmany none))
  case bad =>
    intro s c d hup hhead hgoes hbad
    have hfails {op : Nat} (hop : d.op = op) (ue : Option Nat) : Host.Outcome.next (s.whenUp fun s => s.chStart c op ue) =
        (.next (s.chBegin c d none (some (6, s.chCause d))) : Result) :=
      congrArg Host.Outcome.next ((State.whenUp_up hup _).trans (State.chStart_fails hhead hgoes hop hbad ue))
    exact ⟨(hfails · none), hfails, (hfails · none), (hfails · none), hfails, (hfails · none)⟩
  case done =>
    exact fun s c r e hup hcur hend hgoes =>
      congrArg Host.Outcome.next ((State.whenUp_up hup _).trans (State.chDone_ended hcur hend hgoes))

end Sys2Proof.Machine
end

section
/-! Writes of DMA_CH_CTRL and pacing requests (R244, R245, R247). -/

namespace Sys2Proof.Machine

/-! ### DMA_CH_CTRL -/

/-- A write of DMA_CH_CTRL that is admitted, of a channel that software drives. -/
theorem State.guarded_chCtrl {s : State} {p : Path} {c : Nat} (h : s.Admits p (A.DMA_CH_CTRL c) false)
    (hb : (s.reached p).hostBarred c = false) (v : Word) :
    (s.guarded p (A.DMA_CH_CTRL c) false fun s => s.chWrite c fun s => s.chCtrl c v) = (s.reached p).chCtrl c v :=
  (State.guarded_admits h _).trans (State.chWrite_software hb _)

/-- Where the four command bits are 0, those that are set come from the word put in. -/
theorem bitOn_or_of_low_clear {v : Word} (h : v &&& 0xF#32 = 0#32) (w : Word) {i : Nat} (hi : i < 4) :
    bitOn (v ||| w) i = bitOn w i := by
  have hv : v.getLsbD i = false := by
    have hbit : (v &&& 0xF#32).getLsbD i = false := by rw [h]; exact BitVec.getLsbD_zero
    have hmask : ∀ i : Fin 4, (0xF#32).getLsbD i = true := by decide
    rwa [BitVec.getLsbD_and, hmask ⟨i, hi⟩, Bool.and_true] at hbit
  rw [bitOn, BitVec.getLsbD_or, hv, Bool.false_or, bitOn]

section
variable {v : Word} (h : v &&& 0xF#32 = 0#32) (s : State) (c : Nat)
include h

/-- Command bits put into a word without any do what they do alone. -/
theorem State.chCtrl_or (w : Word) : s.chCtrl c (v ||| w) = s.chCtrl c w := by
  simp only [State.chCtrl, bitOn_or_of_low_clear h w (by decide : 0 < 4), bitOn_or_of_low_clear h w (by decide : 1 < 4),
    bitOn_or_of_low_clear h w (by decide : 2 < 4), bitOn_or_of_low_clear h w (by decide : 3 < 4)]

theorem State.chCtrl_pause : s.chCtrl c (v ||| 1#32) = s.chPause c := State.chCtrl_or h s c _
theorem State.chCtrl_resume : s.chCtrl c (v ||| 2#32) = s.chResume c := State.chCtrl_or h s c _
theorem State.chCtrl_abort : s.chCtrl c (v ||| 4#32) = s.chAbort c := State.chCtrl_or h s c _
theorem State.chCtrl_req : s.chCtrl c (v ||| 8#32) = s.chReq c := State.chCtrl_or h s c _

end

/-! ### PAUSE, RESUME, ABORT, REQ -/

section
variable {s : State} {c : Nat}

theorem State.chPause_goes (h : s.chGoes c = true) : s.chPause c = s.setChState c chPausing := if_pos h

theorem State.chPause_stands (h : s.chGoes c = false) : s.chPause c = s := if_neg (Bool.eq_false_iff.1 h)

theorem State.chResume_paused (h : s.chState c = chPaused) : s.chResume c = (s.setChState c chRun).chGo c := if_pos h

/-- ABORT of a channel that runs with no descriptor in progress (R245). -/
theorem State.chAbort_without_descriptor {u : State} (h : s.chState c = chRun) (hcur : (s.chan c).cur = none)
    (hu : u = (s.chDiscard c).setFld (F.DMA_CH_STAT_LAST_ABORT c) 2) :
    s.chAbort c = ((u.setChan c { u.chan c with head := none }).setChState c chStopped).chRecord c 2 0 := by
  have hruns : (s.chState c = chIdle || s.chState c = chRun || s.chState c = chPausing || s.chState c = chPaused) = true := by
    simp [h]
  have hcur' : ((s.chDiscard c).chan c).cur = none := hcur
  simp only [State.chAbort, if_pos hruns, hcur', hu]

theorem State.chPausedNow_drained (h : s.chState c = chPausing) (hr : s.chReads c = 0) (hf : s.chFetches c = 0) :
    s.chPausedNow c = ((s.chDone c).setChState c chPaused).chRecord c 1 0 := if_pos (by simp [h, hr, hf])

theorem State.chReq_paced (h : s.flag (F.DMA_CH_CFG_PACE c) = true) : s.chReq c = (s.paceRequest c).chMove c := if_pos h

theorem State.chReq_unpaced (h : s.flag (F.DMA_CH_CFG_PACE c) = false) : s.chReq c = s := if_neg (Bool.eq_false_iff.1 h)

theorem State.paceRequest_counts (h : s.fld (F.DMA_CH_STAT_REQ_PEND c) < 255) :
    s.paceRequest c = s.setFld (F.DMA_CH_STAT_REQ_PEND c) (s.fld (F.DMA_CH_STAT_REQ_PEND c) + 1) := if_pos h

theorem State.paceRequest_overflows (h : 255 ≤ s.fld (F.DMA_CH_STAT_REQ_PEND c)) :
    s.paceRequest c = s.setFlag (F.DMA_CH_STAT_REQ_OVF c) true := if_neg (Nat.not_lt.2 h)

end

/-- Settles O27, one command bit at a time. -/
theorem channelControl : Obligations.ChannelControl := by
  unfold Obligations.ChannelControl
  refine ⟨?ctrl, ?abort, ?paused, fun s c h => State.paceRequest_counts h, fun s c h => State.paceRequest_overflows h⟩
  case ctrl =>
    rintro s r p c v h rfl hsoft hv
    have hpause : exec (.pause p c v) s = .next ((s.reached p).chPause c) :=
      congrArg Host.Outcome.next ((State.guarded_chCtrl h hsoft _).trans (State.chCtrl_pause hv _ _))
    have hresume : exec (.resume p c v) s = .next ((s.reached p).chResume c) :=
      congrArg Host.Outcome.next ((State.guarded_chCtrl h hsoft _).trans (State.chCtrl_resume hv _ _))
    have habort : exec (.abort p c v) s = .next ((s.reached p).chAbort c) :=
      congrArg Host.Outcome.next ((State.guarded_chCtrl h hsoft _).trans (State.chCtrl_abort hv _ _))
    have hreq : exec (.req p c v) s = .next ((s.reached p).chReq c) :=
      congrArg Host.Outcome.next ((State.guarded_chCtrl h hsoft _).trans (State.chCtrl_req hv _ _))
    refine ⟨fun hgoes => ?_, fun hstands => ?_, fun hst => ?_, habort, fun hpace => ?_, fun hpace => ?_⟩
    · rw [hpause, State.chPause_goes hgoes]
    · rw [hpause, State.chPause_stands hstands]
    · rw [hresume, State.chResume_paused hst]
    · rw [hreq, State.chReq_paced hpace]
    · rw [hreq, State.chReq_unpaced hpace]
  case abort =>
    exact fun s u c h hcur hu => State.chAbort_without_descriptor h hcur hu
  case paused =>
    exact fun s c hup h hr hf => congrArg Host.Outcome.next
      ((State.whenUp_up hup _).trans (State.chPausedNow_drained h hr hf))

end Sys2Proof.Machine
end

section
/-! Pools, completion queues and pending interrupts (R224, R228, R248, R250–R252, R283). -/

namespace Sys2Proof.Machine

/-! ### A pool's producer index (R224, R228) -/

section
variable {s : State} {p : Nat} {v : Word}

/-- An index that leaves more pending than the ring holds, or takes entries back. -/
theorem State.poolPi_refused (h : 2 ^ s.poolLog2 p < idxDist (s.poolLog2 p) (fldGet v 0 17) (s.fld (F.DMA_POOL_CI_IDX p)) ∨
      idxDist (s.poolLog2 p) (fldGet v 0 17) (s.fld (F.DMA_POOL_CI_IDX p)) <
        idxDist (s.poolLog2 p) (s.fld (F.DMA_POOL_PI_IDX p)) (s.fld (F.DMA_POOL_CI_IDX p))) :
    s.poolPi p v = s.setFlag (F.DMA_POOL_STAT_PI_REJ p) true := if_pos h

theorem State.poolPi_taken {u : State} (hu : u = (s.setFld (F.DMA_POOL_PI_IDX p) (fldGet v 0 17)).poolAvail p)
    (hroom : idxDist (s.poolLog2 p) (fldGet v 0 17) (s.fld (F.DMA_POOL_CI_IDX p)) ≤ 2 ^ s.poolLog2 p)
    (hon : idxDist (s.poolLog2 p) (s.fld (F.DMA_POOL_PI_IDX p)) (s.fld (F.DMA_POOL_CI_IDX p)) ≤
      idxDist (s.poolLog2 p) (fldGet v 0 17) (s.fld (F.DMA_POOL_CI_IDX p))) :
    s.poolPi p v = ((u.setPool p { u.pool p with ownWait := false }).poolGo p).retryBufs p := by
  subst hu
  exact if_neg (not_or.2 ⟨Nat.not_lt.2 hroom, Nat.not_lt.2 hon⟩)

end

/-! ### Enabling a queue (R248) -/

section
variable {s u : State} {q : Nat} {v : Word} (hu : u = s.plainWrite (A.CQ_CFG q) v)
include hu

theorem State.cqCfg_enables (hu1 : u.flag (F.CQ_CFG_EN q) = true) (hen : s.flag (F.CQ_CFG_EN q) = false) :
    s.cqCfg q v = (((((u.setFld (F.CQ_PI_IDX q) 0).setFld (F.CQ_CI_IDX q) 0).setFld (F.CQ_HEAD_IDX q) 0).setFld
      (F.CQ_STAT_SEQ q) 0).setCqLag q 0).cqFill q 0 := by
  subst hu
  exact (if_neg (Bool.eq_false_iff.1 hen)).trans (if_pos hu1)

/-- A queue that is enabled keeps its size. -/
theorem State.cqCfg_enabled (hen : s.flag (F.CQ_CFG_EN q) = true) :
    s.cqCfg q v = u.setFld (F.CQ_CFG_ENT_LOG2 q) (s.fld (F.CQ_CFG_ENT_LOG2 q)) := by
  subst hu
  exact if_pos hen

end

/-! ### Watermarks and the fill of a queue (R252) -/

section
variable (s : State) {notice cross peak : Fld} (old new high : Nat) (irqEn : Bool) (src : Nat)

/-- A crossing writes the register of its notice, and may interrupt. -/
theorem State.highMark_reg_other {a b : Nat} (hn : notice.addr = a) (hc : cross.addr = a) (hp : peak.addr = a) (hb : b ≠ a)
    (hl : b ≠ A.HEP_LINK_STAT) : (s.highMark notice cross peak old new high irqEn src).reg b = s.reg b := by
  have hpeak : (s.setFld peak (max (s.fld peak) new)).reg b = s.reg b := State.reg_setFld_other _ _ _ (hp ▸ hb.symm)
  have hmark (t : State) : ((t.setFlag notice true).countSmall cross).reg b = t.reg b := by
    rw [State.countSmall, State.reg_setFld_other _ _ _ (hc ▸ hb.symm), State.setFlag,
      State.reg_setFld_other _ _ _ (hn ▸ hb.symm)]
  unfold State.highMark
  extract_lets t was u
  split
  · split
    · rw [State.raiseIrq_reg _ _ hl, hmark, hpeak]
    · rw [hmark, hpeak]
  · exact hpeak

theorem State.highMark_frame : (s.highMark notice cross peak old new high irqEn src).data = s.data ∧
    (s.highMark notice cross peak old new high irqEn src).herds = s.herds := by
  unfold State.highMark
  extract_lets t was u
  split
  · split
    · exact ⟨State.raiseIrq_data .., State.raiseIrq_herds ..⟩
    · exact ⟨rfl, rfl⟩
  · exact ⟨rfl, rfl⟩

end

section
variable (s : State) (q n : Nat)

/-- Setting the fill writes CQ_FILL and CQ_WM_STAT, and may interrupt. -/
theorem State.cqFill_reg_other {b : Nat} (hf : b ≠ A.CQ_FILL q) (hw : b ≠ A.CQ_WM_STAT q) (hl : b ≠ A.HEP_LINK_STAT) :
    (s.cqFill q n).reg b = s.reg b := by
  rw [State.cqFill, State.highMark_reg_other (hb := hw) (hl := hl), State.reg_setFld_other _ _ _ hf.symm]
  all_goals rfl

@[simp] theorem State.cqFill_data : (s.cqFill q n).data = s.data := (State.highMark_frame ..).1
@[simp] theorem State.cqFill_herds : (s.cqFill q n).herds = s.herds := (State.highMark_frame ..).2

end

/-! ### The consumer index (R250, R251) -/

section
variable {s : State} {q : Nat} {v : Word}

/-- An index beyond PI, which is neither in the ring nor at or after the index before it. -/
theorem State.cqCi_refused (hring : 2 ^ s.cqLog2 q < idxDist (s.cqLog2 q) (s.fld (F.CQ_PI_IDX q)) (fldGet v 0 17))
    (hlag : tblGet zeroN s.dma.cqLag q < idxDist (s.cqLog2 q) (s.fld (F.CQ_PI_IDX q)) (fldGet v 0 17)) :
    s.cqCi q v = s.setFlag (F.CQ_STAT_CI_REJ q) true := if_pos ⟨hring, hlag⟩

/-- Queue q once its consumer index is `ci` with `n` records left, and its interrupt is no longer pending. -/
def State.cqConsumed (s : State) (q ci n : Nat) : State :=
  (((s.setFld (F.CQ_CI_IDX q) ci).setCqLag q n).cqFill q n).setFlag (F.CQ_STAT_IRQ_PEND q) false

@[simp] theorem State.reg_setCqLag (s : State) (q n a : Nat) : (s.setCqLag q n).reg a = s.reg a := rfl

section
variable (s) {q : Nat} (hq : q < 64) (ci n : Nat)
include hq

theorem State.cqConsumed_fld_ci (hci : ci < 2 ^ 17) : (s.cqConsumed q ci n).fld (F.CQ_CI_IDX q) = ci := by
  have haddr : (F.CQ_CI_IDX q).addr = 0x1100010 + q * 0x1000 := rfl
  have hreg : (s.cqConsumed q ci n).reg (F.CQ_CI_IDX q).addr = (s.setFld (F.CQ_CI_IDX q) ci).reg (F.CQ_CI_IDX q).addr := by
    rw [State.cqConsumed, State.setFlag, State.reg_setFld_other, State.cqFill_reg_other, State.reg_setCqLag]
    all_goals rw [haddr]
    · unfold A.CQ_FILL; omega
    · unfold A.CQ_WM_STAT; omega
    · unfold A.HEP_LINK_STAT; omega
    · show 0x1100018 + q * 0x1000 ≠ _; omega
  rw [State.fld_congr _ hreg, State.fld_setFld_same _ _ _ (show 0 + 17 ≤ 32 by decide)]
  exact Nat.mod_eq_of_lt hci

theorem State.cqConsumed_irqEn : (s.cqConsumed q ci n).flag (F.CQ_CFG_IRQ_EN q) = s.flag (F.CQ_CFG_IRQ_EN q) := by
  have haddr : (F.CQ_CFG_IRQ_EN q).addr = 0x1100000 + q * 0x1000 := rfl
  refine State.flag_congr _ ?_
  rw [State.cqConsumed, State.setFlag, State.reg_setFld_other, State.cqFill_reg_other, State.reg_setCqLag,
    State.reg_setFld_other]
  all_goals rw [haddr]
  · show 0x1100010 + q * 0x1000 ≠ _; omega
  · unfold A.CQ_FILL; omega
  · unfold A.CQ_WM_STAT; omega
  · unfold A.HEP_LINK_STAT; omega
  · show 0x1100018 + q * 0x1000 ≠ _; omega

end

theorem State.cqConsumed_irqPend (s : State) (q ci n : Nat) :
    (s.cqConsumed q ci n).flag (F.CQ_STAT_IRQ_PEND q) = false :=
  State.flag_setFlag_same _ _ _ (show 0 + 1 ≤ 32 by decide) rfl

theorem State.cqConsumed_data (s : State) (q ci n : Nat) : (s.cqConsumed q ci n).data = s.data :=
  State.cqFill_data ..

theorem State.cqConsumed_herds (s : State) (q ci n : Nat) : (s.cqConsumed q ci n).herds = s.herds :=
  State.cqFill_herds ..

/-- An index that is taken, one behind HEAD as HEAD, raises no interrupt where the queue has none enabled. -/
theorem State.cqCi_taken (hq : q < 64) {d h : Nat} (hd : d = idxDist (s.cqLog2 q) (s.fld (F.CQ_PI_IDX q)) (fldGet v 0 17))
    (hh : h = idxDist (s.cqLog2 q) (s.fld (F.CQ_PI_IDX q)) (s.fld (F.CQ_HEAD_IDX q)))
    (hin : d ≤ 2 ^ s.cqLog2 q ∨ d ≤ tblGet zeroN s.dma.cqLag q) (hirq : s.flag (F.CQ_CFG_IRQ_EN q) = false) :
    s.cqCi q v = s.cqConsumed q (if h < d then s.fld (F.CQ_HEAD_IDX q) else fldGet v 0 17) (min d h) := by
  subst hd hh
  refine (if_neg (by omega)).trans (if_neg fun hraise => ?_)
  exact Bool.false_ne_true (hirq.symm.trans ((State.cqConsumed_irqEn s hq _ _).symm.trans hraise.2))

end

/-! ### Notices (R252) -/

theorem State.cqWmStat_clears {v : Word} (h : bitOn v 0 = true) (s : State) (q : Nat) : s.cqWmStat q v =
    s.clearMark (F.CQ_WM_STAT_NOTICE q) (F.CQ_WM_STAT_CROSS q) (F.CQ_WM_STAT_PEAK q) (s.fld (F.CQ_FILL_LEVEL q)) := if_pos h

theorem State.poolWmStat_clears {v : Word} (h : bitOn v 0 = true) (s : State) (p : Nat) : s.poolWmStat p v =
    s.clearMark (F.DMA_POOL_WM_STAT_NOTICE p) (F.DMA_POOL_WM_STAT_CROSS p) (F.DMA_POOL_WM_STAT_TROUGH p)
      (s.fld (F.DMA_POOL_STAT_AVAIL p)) := if_pos h

/-! ### Pending interrupts (R283) -/

section
variable (s : State)

@[simp] theorem State.exitL1_irqPend : s.exitL1.hep.irqPend = s.hep.irqPend := by
  obtain ⟨_, _, _, h⟩ := s.exitL1_eq; rw [h]

@[simp] theorem State.reached_irqPend (p : Path) : (s.reached p).hep.irqPend = s.hep.irqPend := by
  unfold State.reached; split <;> simp

/-- INTx follows the pending bits and leaves them. -/
@[simp] theorem State.syncInta_irqPend : s.syncInta.hep.irqPend = s.hep.irqPend := by
  unfold State.syncInta
  extract_lets want
  split
  · rfl
  · exact s.exitL1_irqPend

/-- A write of HEP_IRQ_PEND clears the bits written with one. -/
theorem State.irqPendW1c_irqPend (w : Nat) (v : Word) (k : Nat) : k ∈ (s.irqPendW1c w v).hep.irqPend ↔
    k ∈ s.hep.irqPend ∧ ¬(k / 32 = w ∧ bitOn v (k % 32) = true) := by
  simp only [State.irqPendW1c, State.syncInta_irqPend, List.mem_filter, Bool.not_eq_true', ← Bool.not_eq_true,
    Bool.and_eq_true, beq_iff_eq]

theorem State.irqPendW1c_reg (w : Nat) (v : Word) {a : Nat} (h : a ≠ A.HEP_LINK_STAT) :
    (s.irqPendW1c w v).reg a = s.reg a := (State.syncInta_logOnly _).reg h

end

/-! ### The statement -/

@[simp] theorem State.reached_dma (s : State) (p : Path) : (s.reached p).dma = s.dma := (s.reached_logOnly p).dma
@[simp] theorem State.reached_herds (s : State) (p : Path) : (s.reached p).herds = s.herds := (s.reached_logOnly p).herds

/-- A field holds less than its width allows. -/
theorem fldGet_lt (r : Word) (lo w : Nat) : fldGet r lo w < 2 ^ w := BitVec.isLt _

/-- Settles O28, one register at a time. -/
theorem poolsQueuesInterrupts : Obligations.PoolsQueuesInterrupts := by
  unfold Obligations.PoolsQueuesInterrupts
  refine ⟨?pool, ?enable, ?consume, ?notices, ?pend⟩
  case pool =>
    rintro s r u p n v d o h rfl rfl rfl hu
    have hexec : exec (.dmaPoolPiWrite p n v) s = .next ((s.reached p).poolPi n v) :=
      congrArg Host.Outcome.next (State.guarded_admits h _)
    rw [hexec]
    exact ⟨fun hno => congrArg Host.Outcome.next (State.poolPi_refused hno),
      fun hroom hon => congrArg Host.Outcome.next (State.poolPi_taken hu hroom hon)⟩
  case enable =>
    rintro s r u p q v h rfl hu hu1
    have hexec : exec (.cqCfgEnable p q v) s = .next ((s.reached p).cqCfg q (v ||| 1#32)) :=
      congrArg Host.Outcome.next (State.guarded_admits h _)
    rw [hexec]
    exact ⟨fun hen => congrArg Host.Outcome.next (State.cqCfg_enables hu hu1 hen),
      fun hen => congrArg Host.Outcome.next (State.cqCfg_enabled hu hen)⟩
  case consume =>
    rintro s r p q v d h hadm rfl hd hh
    have hexec : exec (.cqCiWrite p q v) s = .next ((s.reached p).cqCi q v) :=
      congrArg Host.Outcome.next (State.guarded_admits hadm _)
    rw [hexec, ← State.reached_dma s p]
    refine ⟨fun hring hlag => ?_, fun hin hirq => ?_⟩
    · rw [State.cqCi_refused (hd ▸ hring) (hd ▸ hlag)]
    · rw [State.cqCi_taken q.isLt hd hh hin hirq]
      refine ⟨_, rfl, State.cqConsumed_fld_ci _ q.isLt _ _ ?_, State.cqConsumed_irqPend .., ?_, ?_⟩
      · split <;> exact fldGet_lt _ _ _
      · rw [State.cqConsumed_data, State.reached_data]
      · rw [State.cqConsumed_herds, State.reached_herds]
  case notices =>
    rintro s r p q v rfl
    exact ⟨fun h => congrArg Host.Outcome.next
        ((State.guarded_admits h _).trans (State.cqWmStat_clears (bitOn_or_one v) _ _)),
      fun h => congrArg Host.Outcome.next
        ((State.guarded_admits h _).trans (State.poolWmStat_clears (bitOn_or_one v) _ _))⟩
  case pend =>
    intro s p w v h
    refine ⟨(s.reached p).irqPendW1c w v, congrArg Host.Outcome.next (State.guarded_admits h _), fun a ha => ?_, fun k => ?_⟩
    · rw [State.irqPendW1c_reg _ _ _ ha, (s.reached_logOnly p).reg ha]
    · rw [State.irqPendW1c_irqPend, State.reached_irqPend]

end Sys2Proof.Machine
end

section
/-! What the endpoint answers while its BAR spaces are closed (R268), and the errors it reports (R284). -/

namespace Sys2Proof.Machine

/-! ### Errors reported -/

/-- An error that is reported may send its message, and is logged once. -/
theorem State.sendLog_logOnly (s : State) (send was : Bool) (o : Out) : s.LogOnly
    (if was then (if send then s.emit o else s) else (if send then s.emit o else s).log 284 noSrc []) := by
  have hsend : s.LogOnly (if send then s.emit o else s) := by
    split
    · exact .upd s
    · exact .refl s
  split
  · exact hsend
  · exact hsend.trans (State.log_logOnly _ _ _ _)

/-- An uncorrectable error changes the endpoint's error registers. -/
theorem State.aer_logOnly (s : State) (bit : Nat) (advisory : Bool) (hdr : List Word) : ∃ unc cor h ovf sts,
    ({ s with
      hep := { s.hep with aerUnc := unc, aerCor := cor, aerHdr := h, aerHdrOvf := ovf }
      ep := { s.ep with errSts := sts } } : State).LogOnly (s.aer bit advisory hdr) :=
  ⟨_, _, _, _, _, State.sendLog_logOnly _ _ _ _⟩

/-- So does a correctable one. -/
theorem State.aerCorErr_logOnly (s : State) (bit : Nat) : ∃ cor sts,
    ({ s with hep := { s.hep with aerCor := cor }, ep := { s.ep with errSts := sts } } : State).LogOnly
      (s.aerCorErr bit) :=
  ⟨_, _, State.sendLog_logOnly _ _ _ _⟩

section
variable (s : State) (bit : Nat) (advisory : Bool) (hdr : List Word)

@[simp] theorem State.aer_start : (s.aer bit advisory hdr).start = s.start :=
  let ⟨_, _, _, _, _, h⟩ := s.aer_logOnly bit advisory hdr; h.start

theorem State.aer_reg {a : Nat} (ha : a ≠ A.HEP_LINK_STAT) : (s.aer bit advisory hdr).reg a = s.reg a :=
  let ⟨_, _, _, _, _, h⟩ := s.aer_logOnly bit advisory hdr; h.reg ha

@[simp] theorem State.aer_ep_mse : (s.aer bit advisory hdr).ep.mse = s.ep.mse :=
  let ⟨_, _, _, _, _, h⟩ := s.aer_logOnly bit advisory hdr; h.ep_mse

@[simp] theorem State.aerCorErr_ep_mse : (s.aerCorErr bit).ep.mse = s.ep.mse :=
  let ⟨_, _, h⟩ := s.aerCorErr_logOnly bit; h.ep_mse

/-- What a buffer reports leaves Memory Space Enable. -/
@[simp] theorem State.bufErr_ep_mse (b : BufErr) : (s.bufErr b).ep.mse = s.ep.mse := by
  cases b with
  | none => rfl
  | corrected => exact s.aerCorErr_ep_mse 14
  | uncorrectable => exact (State.aer_ep_mse ..).trans (State.count31_ep_mse ..)

end

/-! ### Unsupported requests (R254, R268) -/

section
variable (s : State) (posted : Bool) (hdr : List Word)

/-- What UR counts and reports, before a non-posted request is completed. -/
def State.urCounted : State := (s.exitL1.count31 A.HEP_BAR_UR 1).aer 20 posted hdr

theorem State.barUr_nonPosted : s.barUr false hdr = (s.urCounted false hdr).emit (.completion none false) := rfl

@[simp] theorem State.barUr_start : (s.barUr posted hdr).start = s.start := by
  cases posted <;> simp [State.barUr]

/-- A counter below its limit counts one. -/
theorem State.count31_counts {a : Nat} (h : fldGet (s.reg a) 0 31 < 0x7FFFFFFE) :
    s.count31 a 1 = s.setReg a (fldPut (s.reg a) 0 31 (fldGet (s.reg a) 0 31 + 1)) := by
  have hne : ¬ ((1 : Nat) = 0 ∨ fldGet (s.reg a) 0 31 = 0x7FFFFFFF) := by omega
  exact (if_neg hne).trans (if_pos (by omega))

theorem State.urCounted_count (h : fldGet (s.reg A.HEP_BAR_UR) 0 31 < 0x7FFFFFFE) :
    fldGet ((s.urCounted posted hdr).reg A.HEP_BAR_UR) 0 31 = fldGet (s.reg A.HEP_BAR_UR) 0 31 + 1 := by
  have hreg : s.exitL1.reg A.HEP_BAR_UR = s.reg A.HEP_BAR_UR := s.exitL1_reg (by decide)
  rw [State.urCounted, State.aer_reg _ _ _ _ (by decide), State.count31_counts _ (by rwa [hreg]), State.reg_setReg_same,
    fldGet_put_same _ _ _ _ (by decide), hreg]
  exact Nat.mod_eq_of_lt (by omega)

/-- A non-posted request is answered. -/
theorem State.barUr_answers : (s.barUr false hdr).sent ≠ s.sent := by
  have hk : s.Keeps (s.urCounted false hdr) := 
    State.aer_keeps _ _ _ (State.count31_keeps _ _ (State.exitL1_keeps (.refl s)))
  have hlen := hk.sent.length_le
  intro h
  rw [State.barUr_nonPosted, State.emit_sent] at h
  have := congrArg List.length h
  simp at this
  omega

end

/-! ### A BAR that is closed (R268) -/

section
variable {s : State} (hup : s.start.phase = .run) (hperst : s.hep.perst = false)
include hup hperst

theorem State.barAnswers_run : s.barAnswers = true := by simp [State.barAnswers, State.up, hup, hperst]

theorem State.unreachable_bar0 (posted : Bool) : s.unreachable .bar0 posted = (s.drawnN 4).barUr posted s.tlpHdr := by
  simp [State.unreachable, hup, hperst]

end

section
variable {s : State} (hmse : s.ep.mse = false)
include hmse

theorem State.reachable_bar0_closed : s.reachable .bar0 = false := by
  unfold State.reachable
  split <;> simp_all

theorem State.takes_bar0_closed (a n : Nat) : s.takes .bar0 a n = false := by
  rw [State.takes, State.reachable_bar0_closed hmse, Bool.false_and]

/-- What its buffer reports leaves a BAR closed. -/
theorem State.barOpen_closed (b : BufErr) : (s.exitL1.bufErr b).barOpen = false := by
  simp [State.barOpen, hmse]

variable (hup : s.start.phase = .run) (hperst : s.hep.perst = false)
include hup hperst

theorem State.notTaken_bar0_closed (posted : Bool) : s.notTaken .bar0 posted = (s.drawnN 4).barUr posted s.tlpHdr := by
  rw [State.notTaken_unreachable (State.reachable_bar0_closed hmse), State.unreachable_bar0 hup hperst]

theorem exec_registerWrite_bar0_closed (a : BitVec 26) (be : BitVec 4) (v : Word) (ws : List (BitVec 4 × Word)) (ep : Bool)
    (buf : BufErr) : exec (.registerWrite .bar0 a be v ws ep buf) s = .next ((s.drawnN 4).barUr true s.tlpHdr) := by
  refine congrArg Host.Outcome.next ?_
  rw [State.takes_bar0_closed hmse, State.notTaken_bar0_closed hmse hup hperst]
  rfl

theorem State.readCmd_bar0_closed (a : Nat) (l : List (BitVec 4)) (buf : BufErr) :
    s.readCmd .bar0 a l buf = (s.drawnN 4).barUr false s.tlpHdr := by
  rw [State.readCmd, State.takes_bar0_closed hmse, State.notTaken_bar0_closed hmse hup hperst]
  rfl

theorem State.guarded_bar0_closed (b : Nat) (image : Bool) (act : State → State) :
    s.guarded .bar0 b image act = (s.drawnN 4).barUr true s.tlpHdr := by
  rw [State.guarded, State.reachable_bar0_closed hmse, State.unreachable_bar0 hup hperst]
  rfl

theorem State.guardedRead_bar0_closed (b : Nat) (act : State → State) :
    s.guardedRead .bar0 b act = (s.drawnN 4).barUr false s.tlpHdr := by
  rw [State.guardedRead, State.reachable_bar0_closed hmse, State.unreachable_bar0 hup hperst]
  rfl

end

/-! ### Requests to BAR2 and BAR4 -/

theorem exec_bar2Request_answers {s : State} (h : s.barAnswers = true) (r : BarRequest) :
    exec (.bar2Request r) s = .next (s.bar2 r) := congrArg Host.Outcome.next (if_pos h)

theorem exec_bar4Request_answers {s : State} (h : s.barAnswers = true) (r : BarRequest) (old : Bool) :
    exec (.bar4Request r old) s = .next (s.bar4 r old) := congrArg Host.Outcome.next (if_pos h)

section
variable {s u : State} {r : BarRequest} (hans : s.barAnswers = true) (hu : u = s.exitL1.bufErr r.buf)
include hans hu

theorem exec_bar2Request_closed (h : u.barOpen = false) : exec (.bar2Request r) s = .next (u.barUr r.write r.hdr) := by
  simp [exec_bar2Request_answers hans, State.bar2, ← hu, h]

theorem exec_bar4Request_closed (old : Bool) (h : u.barOpen = false) :
    exec (.bar4Request r old) s = .next (u.barUr r.write r.hdr) := by
  simp [exec_bar4Request_answers hans, State.bar4, ← hu, h]

end

/-- Settles O57: a closed BAR is unreachable, and a request that is not served is counted and, where it is non-posted,
answered. -/
theorem barsClosed : Obligations.BarsClosed := by
  unfold Obligations.BarsClosed
  refine ⟨?closed, ?counted, ?config⟩
  case closed =>
    intro s a v be ws rs ep buf r old hup hmse hperst
    have hread (i : Nat) (l : List (BitVec 4)) := State.readCmd_bar0_closed hmse hup hperst i l buf
    have hguard := State.guarded_bar0_closed hmse hup hperst
    have hans := State.barAnswers_run hup hperst
    have hshut := State.barOpen_closed hmse r.buf
    exact ⟨exec_registerWrite_bar0_closed hmse hup hperst a be v ws ep buf, congrArg Host.Outcome.next (hread _ _),
      congrArg Host.Outcome.next (hread _ _), congrArg Host.Outcome.next (hguard _ _ _), exec_bar2Request_closed hans rfl hshut,
      exec_bar4Request_closed hans rfl old hshut, fun b image act =>
        ⟨hguard b image act, State.guardedRead_bar0_closed hmse hup hperst b act⟩⟩
  case counted =>
    intro s hdr h
    exact ⟨s.urCounted_count true hdr h, s.urCounted_count false hdr h, s.barUr_answers hdr, s.barUr_start true hdr,
      s.barUr_start false hdr⟩
  case config =>
    exact fun s o v hup hperst hflr => congrArg Host.Outcome.next (State.cfgWrite_dword hup hperst hflr o v)

end Sys2Proof.Machine
end

section
/-! The host's side of the link: completions, requests to BAR2 and BAR4, output lines (R229, R254, R258, R259, R266, R267, R285,
R286). -/

namespace Sys2Proof.Machine

/-! ### Completions (R266, R267) -/

section
variable {s : State} {tag : Nat} {t : TagSt} (h : s.hep.tags.find? (fun t => t.tag == tag) = some t)
include h

theorem State.completion_of_tag (st : CplStatus) (data : List Byte) (ep : Bool) :
    s.completion tag st data ep = (s.tagAnswer t st data ep).kick := by rw [State.completion, h]

theorem State.completionTimeout_fails (hd : t.discard = false) :
    s.completionTimeout tag = (((s.freeTag tag).aer 14 true []).readFailed t.use 2 8).kick := by
  rw [State.completionTimeout, h]
  exact congrArg State.kick (if_neg (Bool.eq_false_iff.1 hd))

theorem State.completionTimeout_discards (hd : t.discard = true) : s.completionTimeout tag = (s.freeTag tag).kick := by
  rw [State.completionTimeout, h]
  exact congrArg State.kick (if_pos hd)

end

theorem State.completion_of_no_tag {s : State} {tag : Nat} (h : s.hep.tags.find? (fun t => t.tag == tag) = none)
    (st : CplStatus) (data : List Byte) (ep : Bool) : s.completion tag st data ep =
      if s.hep.quar.contains tag then s.count31 A.HEP_LATE_CPL 1 else (s.count31 A.HEP_UNEXP_CPL 1).aerTlp 16 true := by
  rw [State.completion, h]

/-! ### The bytes of a dword -/

theorem ofLe_leBytes (k n : Nat) : ofLe (leBytes k n) = n % 256 ^ k := by
  induction k generalizing n with
  | zero => simp [leBytes, ofLe, Nat.mod_one]
  | succ k ih =>
    have hpow : 256 ^ (k + 1) = 256 * 256 ^ k := Nat.pow_succ'
    rw [leBytes, ofLe, ih, BitVec.toNat_ofNat, hpow, Nat.mod_mul]

theorem ofNat_ofLe_leBytes (v : Word) : BitVec.ofNat 32 (ofLe (leBytes 4 v.toNat)) = v := by
  have hmod : v.toNat % 256 ^ 4 = v.toNat := Nat.mod_eq_of_lt v.isLt
  rw [ofLe_leBytes, hmod, BitVec.ofNat_toNat, BitVec.setWidth_eq]

/-! ### Requests to BAR2 (R258, R285, R286) -/

theorem tlpLost_of_eq {r : BarRequest} (h : r.buf = .uncorrectable) : tlpLost r = true := beq_iff_eq.2 h

theorem tlpLost_of_ne {r : BarRequest} (h : r.buf ≠ .uncorrectable) : tlpLost r = false := beq_eq_false_iff_ne.2 h

section
variable {s u : State} {r : BarRequest} (hans : s.barAnswers = true) (hu : u = s.exitL1.bufErr r.buf) (hopen : u.barOpen = true)
include hans hu hopen

theorem exec_bar2Request_lost (hw : r.write = true) (hb : r.buf = .uncorrectable) : exec (.bar2Request r) s = .next u := by
  simp [exec_bar2Request_answers hans, State.bar2, ← hu, hopen, hw, tlpLost_of_eq hb]

theorem exec_bar2Request_read (hw : r.write = false) (hn : r.len = 4) (ho : r.ofs % 4 = 0) : exec (.bar2Request r) s =
    .next (u.emit (.completion (some (leBytes 4 (u.bar2Word (r.ofs / 4)).toNat)) (tlpLost r))) := by
  simp [exec_bar2Request_answers hans, State.bar2, ← hu, hopen, hw, hn, ho]

variable (hw : r.write = true) (hb : r.buf ≠ .uncorrectable) (hn : r.data.length = 4) (ho : r.ofs % 4 = 0)
include hw hb hn ho

theorem exec_bar2Request_poisoned (hp : r.poisoned = true) : exec (.bar2Request r) s = .next (u.poisonIn r.hdr) := by
  simp [exec_bar2Request_answers hans, State.bar2, ← hu, hopen, hw, tlpLost_of_ne hb, hn, ho, hp]

theorem exec_bar2Request_write (hp : r.poisoned = false) : exec (.bar2Request r) s =
    .next (u.bar2Write (r.ofs / 4) (BitVec.ofNat 32 (ofLe r.data))).flushIrq := by
  have htake : r.data.take 4 = r.data := List.take_of_length_le (Nat.le_of_eq hn)
  simp [exec_bar2Request_answers hans, State.bar2, ← hu, hopen, hw, tlpLost_of_ne hb, hn, ho, hp, htake]

end

/-! ### Requests to BAR4 (R259, R285, R286) -/

section
variable {s u : State} {r : BarRequest} (hans : s.barAnswers = true) (hu : u = s.exitL1.bufErr r.buf) (hopen : u.barOpen = true)
include hans hu hopen

theorem exec_bar4Request_lost (old : Bool) (hw : r.write = true) (hb : r.buf = .uncorrectable) :
    exec (.bar4Request r old) s = .next u := by
  simp [exec_bar4Request_answers hans, State.bar4, ← hu, hopen, hw, tlpLost_of_eq hb]

variable {old : Bool}

theorem exec_bar4Request_read (hw : r.write = false) {a : Nat} (ha : u.attLookup old false r.ofs r.len = some a) :
    exec (.bar4Request r old) s =
      .next (u.emit (.completion (some (u.barBytes a r.len).1) ((u.barBytes a r.len).2 || tlpLost r))) := by
  simp [exec_bar4Request_answers hans, State.bar4, ← hu, hopen, hw, ha]

theorem exec_bar4Request_miss (hw : r.write = false) (ha : u.attLookup old false r.ofs r.len = none) :
    exec (.bar4Request r old) s =
      .next (((u.count31 A.HEP_ATT_MISS 1).aer 20 false r.hdr).emit (.completion none false)) := by
  simp [exec_bar4Request_answers hans, State.bar4, ← hu, hopen, hw, ha]

theorem exec_bar4Request_write (hw : r.write = true) (hb : r.buf ≠ .uncorrectable) {a : Nat}
    (ha : u.attLookup old true r.ofs r.data.length = some a) : exec (.bar4Request r old) s =
      .next (if r.poisoned then (u.aer 12 true r.hdr).intWrite a r.data true else u.intWrite a r.data false) := by
  cases hp : r.poisoned <;> simp [exec_bar4Request_answers hans, State.bar4, ← hu, hopen, hw, tlpLost_of_ne hb, ha, hp]

end

/-! ### Output lines (R229) -/

theorem State.lineCommit_next {s : State} {c : Nat} {l : OutLine} (h : s.nextLine c = some l) : s.lineCommit c =
    (({ s with data := { s.data with outq := s.data.outq.erase l } } : State).commitLine l).settleHerds := by
  rw [State.lineCommit, h]

/-- Settles O29, one command at a time. -/
theorem hostTraffic : Obligations.HostTraffic := by
  unfold Obligations.HostTraffic
  refine ⟨?receive, ?timeout, ?unsupported, ?bar2, ?bar4, ?commit⟩
  case receive =>
    exact fun s tag st data ep hup =>
      ⟨fun t h => congrArg Host.Outcome.next ((State.whenUp_up hup _).trans (State.completion_of_tag h st data ep)),
        fun h => congrArg Host.Outcome.next ((State.whenUp_up hup _).trans (State.completion_of_no_tag h st data ep))⟩
  case timeout =>
    exact fun s tag t hup h =>
      ⟨fun hd => congrArg Host.Outcome.next ((State.whenUp_up hup _).trans (State.completionTimeout_fails h hd)),
        fun hd => congrArg Host.Outcome.next ((State.whenUp_up hup _).trans (State.completionTimeout_discards h hd))⟩
  case unsupported =>
    exact fun s posted hdr hans =>
      ⟨congrArg Host.Outcome.next (if_pos hans), congrArg Host.Outcome.next (if_pos hans)⟩
  case bar2 =>
    intro s u r hans hu
    refine ⟨exec_bar2Request_lost hans hu, exec_bar2Request_closed hans hu,
      fun hw hopen => exec_bar2Request_read hans hu hopen hw, fun hw hb hopen hn ho =>
        ⟨exec_bar2Request_poisoned hans hu hopen hw hb hn ho, fun hp w v hw4 hv => ?_⟩⟩
    rw [exec_bar2Request_write hans hu hopen hw hb hn ho hp, hv, ofNat_ofLe_leBytes, hw4, Nat.mul_div_cancel_left _ (by decide)]
  case bar4 =>
    exact fun s u r old hans hu =>
      ⟨fun hopen => exec_bar4Request_lost hans hu hopen old, exec_bar4Request_closed hans hu old,
        fun hw hopen a => exec_bar4Request_read hans hu hopen hw, fun hw hopen => exec_bar4Request_miss hans hu hopen hw,
        fun hw hb hopen a => exec_bar4Request_write hans hu hopen hw hb⟩
  case commit =>
    exact fun s c l hup h =>
      congrArg Host.Outcome.next ((State.whenUp_up hup _).trans (State.lineCommit_next h))

end Sys2Proof.Machine
end

section
/-! The commit of the address translation table (R261, R262). -/

namespace Sys2Proof.Machine

/-! ### The copy of the shadow table -/

/-- Entry e of the shadow table becomes entry e of the active one. -/
def State.attCopy (s : State) (e : Nat) : State :=
  (s.setReg (A.HEP_ATT_ACT_CTL e) (s.reg (A.HEP_ATT_SH_CTL e))).setReg (A.HEP_ATT_ACT_BASE e) (s.reg (A.HEP_ATT_SH_BASE e))

section
variable (s : State) (e : Nat)

theorem State.attCopy_reg_other {a : Nat} (hc : A.HEP_ATT_ACT_CTL e ≠ a) (hb : A.HEP_ATT_ACT_BASE e ≠ a) :
    (s.attCopy e).reg a = s.reg a := by
  rw [State.attCopy, State.reg_setReg_other _ _ hb, State.reg_setReg_other _ _ hc]

theorem State.attCopy_ctl : (s.attCopy e).reg (A.HEP_ATT_ACT_CTL e) = s.reg (A.HEP_ATT_SH_CTL e) := by
  have hne : A.HEP_ATT_ACT_BASE e ≠ A.HEP_ATT_ACT_CTL e := by unfold A.HEP_ATT_ACT_BASE A.HEP_ATT_ACT_CTL; omega
  rw [State.attCopy, State.reg_setReg_other _ _ hne, State.reg_setReg_same]

theorem State.attCopy_base : (s.attCopy e).reg (A.HEP_ATT_ACT_BASE e) = s.reg (A.HEP_ATT_SH_BASE e) :=
  State.reg_setReg_same ..

end

/-- The shadow table is copied up to entry n. -/
def State.attCopyTo (s : State) (n : Nat) : State := (List.range n).foldl State.attCopy s

theorem State.attCopyTo_succ (s : State) (n : Nat) : s.attCopyTo (n + 1) = (s.attCopyTo n).attCopy n := by
  rw [State.attCopyTo, List.range_succ, List.foldl_append]; rfl

/-- The active entries stand in the upper half of each 16 bytes. -/
theorem att_active_ne (e : Nat) {a : Nat} (h : a % 16 < 8) : A.HEP_ATT_ACT_CTL e ≠ a ∧ A.HEP_ATT_ACT_BASE e ≠ a := by
  unfold A.HEP_ATT_ACT_CTL A.HEP_ATT_ACT_BASE; omega

theorem att_shadow_mod (e : Nat) : A.HEP_ATT_SH_CTL e % 16 < 8 ∧ A.HEP_ATT_SH_BASE e % 16 < 8 := by
  unfold A.HEP_ATT_SH_CTL A.HEP_ATT_SH_BASE; omega

/-- The copy leaves everything below the active entries' halves: the shadow table, and the status. -/
theorem State.attCopyTo_reg_other (s : State) {a : Nat} (h : a % 16 < 8) (n : Nat) : (s.attCopyTo n).reg a = s.reg a := by
  induction n with
  | zero => rfl
  | succ n ih =>
    obtain ⟨hc, hb⟩ := att_active_ne n h
    rw [State.attCopyTo_succ, State.attCopy_reg_other _ _ hc hb, ih]

/-- It writes registers alone. -/
theorem State.attCopyTo_regs (s : State) (n : Nat) : ∃ r, s.attCopyTo n = { s with regs := r } := by
  induction n with
  | zero => exact ⟨_, rfl⟩
  | succ n ih =>
    obtain ⟨r, h⟩ := ih
    rw [State.attCopyTo_succ, h]
    exact ⟨_, rfl⟩

/-- An entry below n reads as its shadow. -/
theorem State.attCopyTo_entry (s : State) {e n : Nat} (h : e < n) :
    (s.attCopyTo n).reg (A.HEP_ATT_ACT_CTL e) = s.reg (A.HEP_ATT_SH_CTL e) ∧
    (s.attCopyTo n).reg (A.HEP_ATT_ACT_BASE e) = s.reg (A.HEP_ATT_SH_BASE e) := by
  induction n with
  | zero => omega
  | succ n ih =>
    rw [State.attCopyTo_succ]
    rcases Nat.lt_succ_iff_lt_or_eq.1 h with h | rfl
    · rw [State.attCopy_reg_other, State.attCopy_reg_other]
      · exact ih h
      all_goals simp only [A.HEP_ATT_ACT_CTL, A.HEP_ATT_ACT_BASE]; omega
    · obtain ⟨hc, hb⟩ := att_shadow_mod e
      rw [State.attCopy_ctl, State.attCopy_base]
      exact ⟨s.attCopyTo_reg_other hc e, s.attCopyTo_reg_other hb e⟩

/-! ### A commit (R261, R262) -/

section
variable {s : State} {v : Word} (hv : bitOn v 0 = true)
include hv

theorem State.attCommit_busy (h : s.flag F.HEP_ATT_STAT_BUSY = true) :
    s.attCommit v = s.setFlag F.HEP_ATT_STAT_COMMIT_REJ true := by simp [State.attCommit, hv, h]

variable (hb : s.flag F.HEP_ATT_STAT_BUSY = false)
include hb

theorem State.attCommit_bad {e : Nat} (h : (List.range 64).find? s.attBad = some e) :
    s.attCommit v = (s.setFlag F.HEP_ATT_STAT_COMMIT_REJ true).setFld F.HEP_ATT_STAT_BAD_ENT e := by
  simp [State.attCommit, hv, hb, h]

theorem State.attCommit_waits {m : Tbl Word} (h : (List.range 64).find? s.attBad = none) (hold : s.hep.attOld = some m) :
    s.attCommit v = ({ s with hep := { s.hep with attWait := true } } : State).setFlag F.HEP_ATT_STAT_BUSY true := by
  simp [State.attCommit, hv, hb, h, hold]

theorem State.attCommit_applies (h : (List.range 64).find? s.attBad = none) (hold : s.hep.attOld = none) :
    s.attCommit v = s.attApply := by simp [State.attCommit, hv, hb, h, hold]

end

/-- Applying a table with no bad entry copies it, counts a generation, and keeps the table before. -/
theorem State.attApply_good {s : State} (h : (List.range 64).find? s.attBad = none) : ∃ r, s.attApply = { s with
      regs := r, hep := { s.hep with attOld := some s.attActive } } ∧
    (∀ a, a ≠ A.HEP_ATT_STAT → tblGet regReset r a = (s.attCopyTo 64).reg a) ∧
    fldGet (tblGet regReset r A.HEP_ATT_STAT) 0 16 = (s.fld F.HEP_ATT_STAT_GEN + 1) % 2 ^ 16 := by
  obtain ⟨r, hr⟩ := s.attCopyTo_regs 64
  have hgen : (s.attCopyTo 64).fld F.HEP_ATT_STAT_GEN = s.fld F.HEP_ATT_STAT_GEN :=
    State.fld_congr _ (s.attCopyTo_reg_other (by decide) 64)
  refine ⟨((s.attCopyTo 64).setFld F.HEP_ATT_STAT_GEN (s.fld F.HEP_ATT_STAT_GEN + 1)).regs, ?_, fun a ha => ?_, ?_⟩
  · rw [← hgen, State.attApply, h]
    show ({ (s.attCopyTo 64).setFld F.HEP_ATT_STAT_GEN ((s.attCopyTo 64).fld F.HEP_ATT_STAT_GEN + 1) with
      hep := { (s.attCopyTo 64).hep with attOld := some s.attActive } } : State) = _
    rw [hr]
    rfl
  · exact State.reg_setFld_other _ F.HEP_ATT_STAT_GEN _ (Ne.symm ha)
  · exact State.fld_setFld_same _ F.HEP_ATT_STAT_GEN _ (by decide)

/-- Settles O30, by what a commit finds. -/
theorem addressMap : Obligations.AddressMap := by
  unfold Obligations.AddressMap
  refine ⟨?commit, ?busy, ?release⟩
  case commit =>
    intro s r p v hadm hr hb
    subst hr
    have hexec : exec (.hepAttCommit p v) s = .next ((s.reached p).attCommit (v ||| 1#32)) :=
      congrArg Host.Outcome.next (State.guarded_admits hadm _)
    rw [hexec]
    refine ⟨fun h hold => ?_, fun m h hold => congrArg Host.Outcome.next (State.attCommit_waits (bitOn_or_one v) hb h hold),
      fun e h => congrArg Host.Outcome.next (State.attCommit_bad (bitOn_or_one v) hb h)⟩
    obtain ⟨regs, happly, hother, hgen⟩ := State.attApply_good h
    rw [State.attCommit_applies (bitOn_or_one v) hb h hold, happly]
    refine ⟨_, rfl, fun e he => ?_, hgen, rfl, rfl, rfl⟩
    obtain ⟨hctl, hbase⟩ := (s.reached p).attCopyTo_entry he
    obtain ⟨hc, hb⟩ := att_active_ne e (a := A.HEP_ATT_STAT) (by decide)
    exact ⟨(hother _ hc).trans hctl, (hother _ hb).trans hbase⟩
  case busy =>
    rintro s r p v hadm rfl hb
    exact congrArg Host.Outcome.next ((State.guarded_admits hadm _).trans (State.attCommit_busy (bitOn_or_one v) hb))
  case release =>
    rintro s u hup rfl
    exact ⟨fun hw => congrArg Host.Outcome.next ((State.whenUp_up hup _).trans (if_neg (Bool.eq_false_iff.1 hw))),
      fun hw => congrArg Host.Outcome.next ((State.whenUp_up hup _).trans (if_pos hw))⟩

end Sys2Proof.Machine
end

section
/-! Bus Master Enable is written by configuration writes alone: what stops and what goes on with it leaves it (R269, R270). -/

namespace Sys2Proof.Machine

/-! ### Counters, queues, records -/

theorem State.ite_ep_bme (c : Prop) [Decidable c] (s t : State) :
    (if c then s else t).ep.bme = if c then s.ep.bme else t.ep.bme := apply_ite (fun u : State => u.ep.bme) ..

/-- A fold of steps that leave Bus Master Enable leaves it. -/
theorem State.foldl_ep_bme {α : Type} {f : State → α → State} (hf : ∀ t x, (f t x).ep.bme = t.ep.bme) (l : List α)
    (s : State) : (l.foldl f s).ep.bme = s.ep.bme :=
  List.foldlRecOn (motive := fun t : State => t.ep.bme = s.ep.bme) l _ rfl fun t ht x _ => (hf t x).trans ht

section
variable (s : State)

@[simp] theorem State.count48_ep_bme (lo n : Nat) : (s.count48 lo n).ep.bme = s.ep.bme := by
  simp [State.count48, State.ite_ep_bme]

@[simp] theorem State.post_ep (a : Nat) (d : List Byte) (ro ep : Bool) : (s.post a d ro ep).ep = s.ep := by
  simp [State.post]

@[simp] theorem State.chBytes_ep_bme (c n : Nat) : (s.chBytes c n).ep.bme = s.ep.bme := s.count48_ep_bme ..

@[simp] theorem State.writeBack_ep (at' status info result ch : Nat) : (s.writeBack at' status info result ch).ep = s.ep :=
  s.post_ep ..

@[simp] theorem State.highMark_ep_bme (notice cross peak : Fld) (old new high : Nat) (irqEn : Bool) (src : Nat) :
    (s.highMark notice cross peak old new high irqEn src).ep.bme = s.ep.bme := by
  simp [State.highMark, State.ite_ep_bme, State.countSmall]

@[simp] theorem State.cqFill_ep_bme (q n : Nat) : (s.cqFill q n).ep.bme = s.ep.bme := by simp [State.cqFill]

@[simp] theorem State.setCqLag_ep (q n : Nat) : (s.setCqLag q n).ep = s.ep := rfl

@[simp] theorem State.postRec_ep_bme (q kind : Nat) (body : List Byte) : (s.postRec q kind body).ep.bme = s.ep.bme := by
  simp [State.postRec, State.ite_ep_bme]

@[simp] theorem State.descRecord_ep_bme (c : Nat) (d : Desc) (status cause done fail : Nat) :
    (s.descRecord c d status cause done fail).ep.bme = s.ep.bme := by simp [State.descRecord, State.ite_ep_bme]

@[simp] theorem State.bufRecord_ep_bme (b : HerdBuf) (status : Nat) : (s.bufRecord b status).ep.bme = s.ep.bme := by
  simp [State.bufRecord, State.ite_ep_bme, State.drawn]

@[simp] theorem State.hostStopBuf_ep_bme (b : HerdBuf × Nat × Bool) : (s.hostStopBuf b).ep.bme = s.ep.bme := by
  simp [State.hostStopBuf, State.drawn]

@[simp] theorem State.chReport_ep_bme (c : Nat) (d : Desc) (status cause done fail : Nat) :
    (s.chReport c d status cause done fail).ep.bme = s.ep.bme := by simp [State.chReport]

@[simp] theorem State.chRecord_ep_bme (c event cause : Nat) : (s.chRecord c event cause).ep.bme = s.ep.bme :=
  State.postRec_ep_bme ..

@[simp] theorem State.sendMsix_ep (v : Nat) : (s.sendMsix v).ep = s.ep := by simp [State.sendMsix]

@[simp] theorem State.sendMsi_ep (v : Nat) : (s.sendMsi v).ep = s.ep := by simp [State.sendMsi]

@[simp] theorem State.flushIrq_ep_bme : s.flushIrq.ep.bme = s.ep.bme := by
  have hmsix (l : List Nat) (t : State) : (l.foldl State.sendMsix t).ep.bme = t.ep.bme :=
    State.foldl_ep_bme (fun t v => congrArg EpSt.bme (t.sendMsix_ep v)) l t
  have hmsi (l : List Nat) (t : State) : (l.foldl State.sendMsi t).ep.bme = t.ep.bme :=
    State.foldl_ep_bme (fun t v => congrArg EpSt.bme (t.sendMsi_ep v)) l t
  simp [State.flushIrq, (State.syncInta_logOnly _).ep_bme, State.ite_ep_bme, hmsix, hmsi]

end

/-! ### What moves once requests may be issued -/

section
variable (s : State)

@[simp] theorem State.setChan_ep (c : Nat) (x : ChanSt) : (s.setChan c x).ep = s.ep := rfl
@[simp] theorem State.setChState_ep (c st : Nat) : (s.setChState c st).ep = s.ep := rfl
@[simp] theorem State.chDiscard_ep (c : Nat) : (s.chDiscard c).ep = s.ep := rfl
@[simp] theorem State.chRunSet_ep (c : Nat) (r : DescRun) : (s.chRunSet c r).ep = s.ep := rfl
@[simp] theorem State.setPool_ep (p : Nat) (x : PoolSt) : (s.setPool p x).ep = s.ep := rfl

/-- A read that is issued takes a tag. -/
theorem State.readReq_ep {s t : State} {use : TagUse} {a n : Nat} (h : s.readReq use a n = some t) : t.ep = s.ep := by
  unfold State.readReq at h
  split at h
  · cases h
  · obtain ⟨tag, -, rfl⟩ := Option.map_eq_some_iff.1 h
    exact s.exitL1_ep

@[simp] theorem State.imageReject_ep_bme (a : Nat) : (s.imageReject a).ep.bme = s.ep.bme := by
  unfold State.imageReject
  extract_lets t
  split
  · rfl
  · exact State.log_ep_bme ..

@[simp] theorem State.blockRefused_ep_bme (b : Nat) : (s.blockRefused b).ep.bme = s.ep.bme := by
  simp [State.blockRefused, State.ite_ep_bme]

@[simp] theorem State.tblWrite_ep_bme (o : Nat) (data : List Byte) (ep : Bool) : (s.tblWrite o data ep).ep.bme = s.ep.bme := by
  unfold State.tblWrite
  split
  · rfl
  · refine State.foldl_ep_bme (fun t b => ?_) _ s
    extract_lets u
    split
    · exact t.blockRefused_ep_bme b
    · rfl

@[simp] theorem State.grzBytes_ep_bme (a : Nat) (data : List Byte) (ep : Bool) : (s.grzBytes a data ep).ep.bme = s.ep.bme := by
  unfold State.grzBytes
  extract_lets t o touched full poisoned
  exact State.foldl_ep_bme (by exact fun _ _ => rfl) data.zipIdx s

@[simp] theorem State.intWrite_ep_bme (a : Nat) (data : List Byte) (ep : Bool) : (s.intWrite a data ep).ep.bme = s.ep.bme := by
  simp [State.intWrite, State.ite_ep_bme]

@[simp] theorem State.intPut_ep_bme (d : Desc) (o : Nat) (data : List Byte) (ep : Bool) :
    (s.intPut d o data ep).ep.bme = s.ep.bme := by
  simp [State.intPut, State.ite_ep_bme, State.foldl_ep_bme]

@[simp] theorem State.hostPut_ep_bme (c : Nat) (d : Desc) (o : Nat) (data : List Byte) (bad : Nat → Bool) :
    (s.hostPut c d o data bad).ep.bme = s.ep.bme := by
  have hemits {α : Type} (f : α → Out) (l : List α) : (l.foldl (fun s x => s.emit (f x)) s.exitL1).ep.bme = s.ep.bme :=
    (State.foldl_ep_bme (by exact fun _ _ => rfl) l s.exitL1).trans s.exitL1_ep_bme
  simp [State.hostPut, State.ite_ep_bme, hemits]

@[simp] theorem State.chSpend_ep (c n : Nat) : (s.chSpend c n).ep = s.ep := by
  unfold State.chSpend; split <;> rfl

@[simp] theorem State.chGrant_ep (c : Nat) (r : DescRun) : (s.chGrant c r).1.ep = s.ep := by
  unfold State.chGrant; split <;> rfl

@[simp] theorem State.chPush_ep_bme (c : Nat) (r : DescRun) : (s.chPush c r).ep.bme = s.ep.bme := by
  unfold State.chPush
  extract_lets d upTo n bad r' t
  have ht : t.ep = s.ep := s.chSpend_ep c n
  clear_value t
  split
  · rw [ht]
  · split <;> simp [ht]

@[simp] theorem State.chAsk_ep_bme (c fuel : Nat) : (State.chAsk c fuel s).ep.bme = s.ep.bme := by
  induction fuel generalizing s with
  | zero => rfl
  | succ fuel ih =>
    unfold State.chAsk
    split
    · rfl
    · extract_lets upTo stop n
      split
      · rfl
      · split
        · rfl
        next t ht => simp [ih, State.readReq_ep ht]

@[simp] theorem State.chSettle_ep (c : Nat) : (s.chSettle c).ep = s.ep := by
  unfold State.chSettle
  split
  · split <;> rfl
  · rfl

@[simp] theorem State.chTidy_ep (c : Nat) : (s.chTidy c).ep = s.ep := by
  unfold State.chTidy; split <;> rfl

@[simp] theorem State.chMove_ep_bme (c : Nat) : (s.chMove c).ep.bme = s.ep.bme := by
  unfold State.chMove
  split
  · split
    · rfl
    · simp [State.ite_ep_bme]
  · rfl

@[simp] theorem State.chFetch_ep (c : Nat) : (s.chFetch c).ep = s.ep := by
  unfold State.chFetch
  extract_lets x
  split
  · rw [State.chTidy_ep]
    cases h : s.readReq (.fetchCh c (s.fld (F.DMA_CH_CI_IDX c))) (s.chFetchAt c) 32 with
    | none => rfl
    | some t => exact State.readReq_ep h
  · exact s.chTidy_ep c

@[simp] theorem State.chGo_ep_bme (c : Nat) : (s.chGo c).ep.bme = s.ep.bme := by simp [State.chGo]

@[simp] theorem State.poolFetch_ep (p fuel : Nat) : (State.poolFetch p fuel s).ep = s.ep := by
  induction fuel generalizing s with
  | zero => rfl
  | succ fuel ih =>
    unfold State.poolFetch
    extract_lets x out
    split
    · rfl
    · split
      · rfl
      next t ht => rw [ih, State.setPool_ep, State.readReq_ep ht]

@[simp] theorem State.poolGo_ep (p : Nat) : (s.poolGo p).ep = s.ep := s.poolFetch_ep p 8

@[simp] theorem State.kick_ep_bme : s.kick.ep.bme = s.ep.bme := by
  simp [State.kick, State.foldl_ep_bme, State.ite_ep_bme]

end

/-! ### What ends, and what goes on (R269, R270) -/

section
variable (s : State)

@[simp] theorem State.chHostStop_ep_bme (c : Nat) : (s.chHostStop c).ep.bme = s.ep.bme := by
  unfold State.chHostStop
  split
  · rfl
  · extract_lets t x held u
    have hu : u.ep.bme = s.ep.bme := by
      unfold u
      split
      · simp [State.ite_ep_bme, t]
      · rfl
    exact hu

@[simp] theorem State.lineFailed_ep (l : OutLine) : (s.lineFailed l).ep = s.ep := by
  unfold State.lineFailed
  extract_lets x
  split <;> rfl

@[simp] theorem State.grzEnded_ep_bme (status idx : Nat) : (s.grzEnded status idx).ep.bme = s.ep.bme := by
  unfold State.grzEnded
  split <;> simp

@[simp] theorem State.grzHostStop_ep_bme : s.grzHostStop.ep.bme = s.ep.bme := by
  unfold State.grzHostStop
  split <;> simp

@[simp] theorem State.dropLines_ep_bme : s.dropLines.ep.bme = s.ep.bme := by
  unfold State.dropLines
  extract_lets q data
  refine State.foldl_ep_bme (fun t l => ?_) q _
  split <;> simp [State.ite_ep_bme]

@[simp] theorem State.masterStop_ep_bme : s.masterStop.ep.bme = s.ep.bme := by
  have hpools (l : List Nat) (t : State) : (l.foldl State.poolRewind t).ep.bme = t.ep.bme :=
    State.foldl_ep_bme (by exact fun _ _ => rfl) l t
  have hbufs (t : State) (keep : Bool) : (t.dropBufs keep).ep = t.ep := rfl
  simp [State.masterStop, hpools, hbufs, State.foldl_ep_bme]

@[simp] theorem State.masterGo_ep_bme : s.masterGo.ep.bme = s.ep.bme := by
  unfold State.masterGo
  split
  · rfl
  · extract_lets bufs dma t u cs v w grz x
    have hu : u.ep.bme = s.ep.bme := State.foldl_ep_bme (fun t b => t.hostStopBuf_ep_bme b) bufs t
    have hv : v.ep.bme = s.ep.bme :=
      (State.foldl_ep_bme (fun t c => by simp [State.foldl_ep_bme]) cs u).trans hu
    have hw : w.ep.bme = s.ep.bme :=
      (State.foldl_ep_bme (fun t c => by simp [State.ite_ep_bme]) cs v).trans hv
    have hx : x.ep.bme = s.ep.bme := by
      unfold x
      split
      · exact (State.postRec_ep_bme ..).trans hw
      · exact hw
    rw [State.kick_ep_bme, State.flushIrq_ep_bme, hx]

/-- Bus Master Enable is as it is written. -/
theorem State.setBme_ep_bme (b : Bool) : (s.setBme b).ep.bme = b := by
  simp [State.setBme, State.ite_ep_bme]

end

end Sys2Proof.Machine
end

section
/-! The endpoint's resets (R271, R273, R274, R287): what they clear, and a link that has left L0 through what they drop. -/

namespace Sys2Proof.Machine

/-! ### The link's state through interrupts and the log -/

/-- A link that is not in L1 stays as it is from `s` to `t`. -/
structure State.LinkStays (s t : State) : Prop where
  reg : s.fld F.HEP_LINK_STAT_LSTATE ≠ 2 → t.reg A.HEP_LINK_STAT = s.reg A.HEP_LINK_STAT

theorem State.LinkStays.of_reg {s t : State} (h : t.reg A.HEP_LINK_STAT = s.reg A.HEP_LINK_STAT) : s.LinkStays t :=
  ⟨fun _ => h⟩

theorem State.LinkStays.refl (s : State) : s.LinkStays s := .of_reg rfl

theorem State.LinkStays.trans {s t u : State} (h : s.LinkStays t) (h' : t.LinkStays u) : s.LinkStays u := by
  refine ⟨fun hl => ?_⟩
  have hreg := h.reg hl
  rw [h'.reg (by rwa [State.fld_congr F.HEP_LINK_STAT_LSTATE hreg]), hreg]

/-- A step after it, or before it, that leaves the register. -/
theorem State.LinkStays.step {s t u : State} (h : s.LinkStays t) (hu : u.reg A.HEP_LINK_STAT = t.reg A.HEP_LINK_STAT) :
    s.LinkStays u := h.trans (.of_reg hu)

theorem State.LinkStays.after {s t u : State} (h : t.LinkStays u) (ht : t.reg A.HEP_LINK_STAT = s.reg A.HEP_LINK_STAT) :
    s.LinkStays u := State.LinkStays.trans (.of_reg ht) h

section
variable (s : State)

theorem State.exitL1_linkStays : s.LinkStays s.exitL1 :=
  ⟨fun hl => by rw [State.exitL1, if_neg (by simp [hl])]⟩

theorem State.syncInta_linkStays : s.LinkStays s.syncInta := by
  unfold State.syncInta
  extract_lets want
  split
  · exact .of_reg rfl
  · exact s.exitL1_linkStays.step rfl

theorem State.raiseIrq_linkStays (n : Nat) : s.LinkStays (s.raiseIrq n) := by
  unfold State.raiseIrq
  extract_lets _ t
  have h : s.LinkStays t := .of_reg rfl
  clear_value t
  split
  · exact h
  · split
    · split
      · exact h.step rfl
      · exact (h.trans t.exitL1_linkStays).step rfl
    · split
      · exact h.step rfl
      · exact (h.trans t.exitL1_linkStays).step rfl
    · exact h.trans t.syncInta_linkStays
    · exact h

theorem State.openRec_linkStays (n : Nat) (e : Event) : s.LinkStays (State.openRec n s e) := by
  induction n generalizing s e with
  | zero => exact .of_reg rfl
  | succ n ih =>
    unfold State.openRec
    extract_lets slot e' head _ t
    split
    · exact .of_reg rfl
    · split
      · exact (ih ..).after rfl
      · exact (State.raiseIrq_linkStays ..).after rfl

theorem State.closeUpTo_linkStays (n : Nat) : s.LinkStays (State.closeUpTo n s) := by
  induction n generalizing s with
  | zero => exact .of_reg rfl
  | succ n ih =>
    unfold State.closeUpTo
    split
    · exact .of_reg rfl
    · extract_lets _ t
      split
      · exact ((State.openRec_linkStays ..).trans (ih _)).after rfl
      · exact .of_reg rfl

theorem State.closeRec_linkStays : s.LinkStays s.closeRec := s.closeUpTo_linkStays _

theorem State.newRec_linkStays (e : Event) : s.LinkStays (s.newRec e) := by
  unfold State.newRec
  extract_lets t u v
  have h : s.LinkStays u := by
    unfold u
    split
    · exact s.closeRec_linkStays.step rfl
    · exact s.closeRec_linkStays.trans (State.openRec_linkStays ..)
  split
  · exact (h.trans (State.closeRec_linkStays _)).step rfl
  · exact h

theorem State.logNow_linkStays (e : Event) : s.LinkStays (s.logNow e) := by
  unfold State.logNow
  split
  · exact .of_reg rfl
  · split
    · exact .of_reg rfl
    · split
      · exact s.newRec_linkStays e
      · split
        · exact .of_reg rfl
        · exact (s.newRec_linkStays _).step rfl

theorem State.log_linkStays (c n : Nat) (d : List Byte) : s.LinkStays (s.log c n d) := by
  unfold State.log
  split
  · split <;> exact .of_reg rfl
  · exact s.logNow_linkStays _

theorem State.count31_linkStays {a : Nat} (h : a ≠ A.HEP_LINK_STAT) (n : Nat) : s.LinkStays (s.count31 a n) := by
  have hset (v : Word) : s.LinkStays (s.setReg a v) := .of_reg (State.reg_setReg_other s v h)
  unfold State.count31
  extract_lets c
  split
  · exact .of_reg rfl
  · split
    · exact hset _
    · exact (hset _).trans (State.log_linkStays ..)

end

/-! ### Registers put back to reset -/

/-- A register outside the range keeps its word. -/
theorem tblGet_filter {α : Type} (d : Nat → α) (t : Tbl α) (p : Nat → Bool) {a : Nat} (h : p a = true) :
    tblGet d (t.filter fun c => p c.1) a = tblGet d t a := by
  induction t with
  | nil => rfl
  | cons c t ih =>
    obtain ⟨k, v⟩ := c
    by_cases hk : k = a
    · subst hk
      rw [List.filter_cons, if_pos h, tblGet, tblGet, if_pos rfl, if_pos rfl]
    · rw [List.filter_cons, tblGet, if_neg hk]
      split
      · rw [tblGet, if_neg hk, ih]
      · exact ih

theorem State.resetRegs_reg_other (s : State) {lo hi a : Nat} (h : a < lo ∨ hi ≤ a) : (s.resetRegs lo hi).reg a = s.reg a :=
  tblGet_filter regReset s.regs (fun k => k < lo || hi ≤ k) (by simpa using h)

/-- An index that is listed lies in the array. -/
theorem State.lt_of_mem_listed {s : State} {base stride count k : Nat} (h : k ∈ s.listed base stride count) : k < count := by
  obtain ⟨c, -, hc⟩ := List.mem_filterMap.1 h
  split at hc
  next hin => cases hc; exact hin.2.2
  · cases hc

/-! ### The registers that go back to reset lie apart from the link's state (R422) -/

theorem CQ_CFG_ne_link {q : Nat} (h : q < 64) : A.CQ_CFG q ≠ A.HEP_LINK_STAT := by unfold A.CQ_CFG A.HEP_LINK_STAT; omega

theorem PLC_POOL_CFG_ne_link {p : Nat} (h : p < 64) : A.PLC_POOL_CFG p ≠ A.HEP_LINK_STAT := by
  unfold A.PLC_POOL_CFG A.HEP_LINK_STAT; omega

theorem DMA_POOL_ne_link {p : Nat} (h : p < 64) :
    A.DMA_POOL_PI p ≠ A.HEP_LINK_STAT ∧ A.DMA_POOL_CI p ≠ A.HEP_LINK_STAT ∧ A.DMA_POOL_STAT p ≠ A.HEP_LINK_STAT := by
  unfold A.DMA_POOL_PI A.DMA_POOL_CI A.DMA_POOL_STAT A.HEP_LINK_STAT; omega

theorem DMA_CH_DISC_ne_link (ch : Nat) : A.DMA_CH_DISC ch ≠ A.HEP_LINK_STAT := by
  unfold A.DMA_CH_DISC A.HEP_LINK_STAT; omega

/-! ### What every reset of the endpoint drops (R271) -/

/-- Lines that wait are counted and lost: nothing else changes but the streams and the log. -/
theorem State.dropLines_induction {P : State → Prop} {s : State} (h : P s)
    (hcount : ∀ (t : State) (ch : Nat), P t → P (t.count31 (A.DMA_CH_DISC ch) 1))
    (hdata : ∀ (t : State) (d : DataSt), P t → P { t with data := d }) : P s.dropLines := by
  have hfailed (t : State) (l : OutLine) (ht : P t) : P (t.lineFailed l) := by
    unfold State.lineFailed
    extract_lets x
    split
    · exact hdata _ _ ht
    · exact ht
  unfold State.dropLines
  extract_lets q data
  refine List.foldlRecOn (motive := P) q _ (hdata _ _ h) fun t ht l _ => ?_
  split
  · refine hfailed _ _ ?_
    split
    · exact hcount _ _ ht
    · exact ht
  · exact ht

section
variable (s : State)

@[simp] theorem State.dropLines_hep_quar : s.dropLines.hep.quar = s.hep.quar :=
  State.dropLines_induction (P := fun t => t.hep.quar = s.hep.quar) rfl
    (fun _ _ h => (State.count31_hep_quar ..).trans h) fun _ _ h => h

@[simp] theorem State.dropLines_hep_perst : s.dropLines.hep.perst = s.hep.perst :=
  State.dropLines_induction (P := fun t => t.hep.perst = s.hep.perst) rfl
    (fun _ _ h => (State.count31_hep_perst ..).trans h) fun _ _ h => h

theorem State.dropLines_linkStays : s.LinkStays s.dropLines :=
  State.dropLines_induction (P := s.LinkStays) (.refl s)
    (fun t ch h => h.trans (t.count31_linkStays (DMA_CH_DISC_ne_link ch) 1)) fun _ _ h => h.step rfl

end

/-- `t` is `s` but for the registers other than the link's state, pools, graze, DMA and herds. -/
def State.HostLinkSame (s t : State) : Prop := ∃ regs herds plc grz dma,
  tblGet regReset regs A.HEP_LINK_STAT = s.reg A.HEP_LINK_STAT ∧
    t = { s with regs := regs, herds := herds, plc := plc, grz := grz, dma := dma }

theorem State.HostLinkSame.upd (s : State) {herds plc grz dma} :
    s.HostLinkSame { s with herds := herds, plc := plc, grz := grz, dma := dma } := ⟨_, _, _, _, _, rfl, rfl⟩

theorem State.HostLinkSame.refl (s : State) : s.HostLinkSame s := .upd s

section
variable {s t u : State} (h : s.HostLinkSame t)
include h

theorem State.HostLinkSame.hep : t.hep = s.hep := by
  obtain ⟨_, _, _, _, _, -, rfl⟩ := h; rfl

theorem State.HostLinkSame.linkStays : s.LinkStays t := by
  obtain ⟨_, _, _, _, _, hr, rfl⟩ := h; exact .of_reg hr

theorem State.HostLinkSame.trans (h' : t.HostLinkSame u) : s.HostLinkSame u := by
  obtain ⟨_, _, _, _, _, hr, rfl⟩ := h
  obtain ⟨_, _, _, _, _, hr', rfl⟩ := h'
  exact ⟨_, _, _, _, _, hr'.trans hr, rfl⟩

theorem State.HostLinkSame.dropBufs (keep : Bool) : s.HostLinkSame (t.dropBufs keep) := h.trans (.upd t)

theorem State.HostLinkSame.setReg {a : Nat} (ha : a ≠ A.HEP_LINK_STAT) (v : Word) : s.HostLinkSame (t.setReg a v) :=
  h.trans ⟨_, _, _, _, _, State.reg_setReg_other t v ha, rfl⟩

theorem State.HostLinkSame.setFld {f : Fld} (hf : f.addr ≠ A.HEP_LINK_STAT) (v : Nat) : s.HostLinkSame (t.setFld f v) :=
  h.setReg hf _

theorem State.HostLinkSame.setFlag {f : Fld} (hf : f.addr ≠ A.HEP_LINK_STAT) (b : Bool) : s.HostLinkSame (t.setFlag f b) :=
  h.setReg hf _

theorem State.HostLinkSame.resetRegs {lo hi : Nat} (hr : A.HEP_LINK_STAT < lo ∨ hi ≤ A.HEP_LINK_STAT) :
    s.HostLinkSame (t.resetRegs lo hi) := h.trans ⟨_, _, _, _, _, t.resetRegs_reg_other hr, rfl⟩

theorem State.HostLinkSame.foldl {α : Type} {f : State → α → State} {l : List α}
    (hf : ∀ v, ∀ x ∈ l, s.HostLinkSame v → s.HostLinkSame (f v x)) : s.HostLinkSame (l.foldl f t) :=
  List.foldlRecOn (motive := s.HostLinkSame) l _ h fun v hv x hx => hf v x hx hv

theorem State.HostLinkSame.resetRings : s.HostLinkSame t.resetRings := by
  unfold State.resetRings
  extract_lets dc t1 t2 valid t3 t4 plc dma t5 t6
  have h1 : s.HostLinkSame t1 := h.resetRegs (.inr (by decide))
  have h2 : s.HostLinkSame t2 := h1.foldl fun v q hq hv => hv.setFlag (CQ_CFG_ne_link (State.lt_of_mem_listed hq)) false
  have h3 : s.HostLinkSame t3 :=
    h2.foldl fun v p hp hv => hv.setFlag (PLC_POOL_CFG_ne_link (State.lt_of_mem_listed hp)) false
  have h4 : s.HostLinkSame t4 := h3.foldl fun v p hp hv => by
    obtain ⟨hpi, hci, havail⟩ := DMA_POOL_ne_link (List.mem_range.1 hp)
    exact ((hv.setReg hpi 0).setReg hci 0).setFld havail 0
  have h5 : s.HostLinkSame t5 := h4.trans (.upd t4)
  exact (((h5.setReg (by decide) 0).setReg (by decide) 0).setReg (by decide) 0).setFlag (by decide) false

theorem State.HostLinkSame.resetGraze : s.HostLinkSame t.resetGraze := by
  have hidx : s.HostLinkSame (((t.setFld F.GRZ_CI_IDX (t.grzPiNum % 256)).setFld F.GRZ_CI_PHASE (t.grzPiNum / 256)).setFld
      F.GRZ_STAT_PENDING 0) := ((h.setFld (by decide) _).setFld (by decide) _).setFld (by decide) _
  have hdrop : s.HostLinkSame t.grzDrop := (hidx.trans (.upd _)).setFlag (by decide) false
  exact (((hdrop.setFlag (by decide) false).setReg (by decide) 0).setReg (by decide) 0).setFld (by decide) 0

end

/-! ### A reset of the endpoint (R271, R274) -/

/-- What a reset leaves as its drop of the waiting lines left it: `t` has taken an asserted INTA back. -/
theorem State.epResetAll_eq (s : State) (flr : Bool) : ∃ t u, t = (if flr && s.hep.inta then s.emit .deassertInta else s) ∧
    t.dropLines.HostLinkSame u ∧ s.epResetAll flr = { u with
      ep := epReset
      hep := { u.hep with
        msixTbl := [], pba := [], irqPend := [], inta := false, attOld := none, attWait := false
        tags := []
        quar := if flr then u.hep.quar ++ s.hep.tags.map (·.tag) else u.hep.quar
        freed := if flr then u.hep.freed else u.hep.freed ++ s.hep.tags.map (·.tag) } } := by
  refine ⟨_, _, rfl, ?_, rfl⟩
  exact (((((State.HostLinkSame.refl _).dropBufs false).resetGraze.resetRings.resetRegs (.inl (by decide))).setFld
    (by decide) 0).setFlag (by decide) false).resetRegs (.inl (by decide))

section
variable (s : State) (flr : Bool)

@[simp] theorem State.epResetAll_ep : (s.epResetAll flr).ep = epReset := rfl
@[simp] theorem State.epResetAll_tags : (s.epResetAll flr).hep.tags = [] := rfl
@[simp] theorem State.epResetAll_irqPend : (s.epResetAll flr).hep.irqPend = [] := rfl
@[simp] theorem State.epResetAll_inta : (s.epResetAll flr).hep.inta = false := rfl

/-- The tags that are out when a function-level reset begins are quarantined (R274). -/
theorem State.epResetAll_quar : (s.epResetAll true).hep.quar = s.hep.quar ++ s.hep.tags.map (·.tag) := by
  obtain ⟨t, u, ht, hu, e⟩ := s.epResetAll_eq true
  have hquar : t.hep.quar = s.hep.quar := by
    rw [ht]; split <;> rfl
  rw [e, ← hquar, ← t.dropLines_hep_quar, ← hu.hep]
  rfl

@[simp] theorem State.epResetAll_perst : (s.epResetAll flr).hep.perst = s.hep.perst := by
  obtain ⟨t, u, ht, hu, e⟩ := s.epResetAll_eq flr
  have hperst : t.hep.perst = s.hep.perst := by
    rw [ht]; split <;> rfl
  rw [e, ← hperst, ← t.dropLines_hep_perst, ← hu.hep]

theorem State.epResetAll_linkStays : s.LinkStays (s.epResetAll flr) := by
  obtain ⟨t, u, ht, hu, e⟩ := s.epResetAll_eq flr
  have hlink : s.LinkStays t := by
    rw [ht]; split <;> exact .of_reg rfl
  rw [e]
  exact ((hlink.trans t.dropLines_linkStays).trans hu.linkStays).step rfl

end

/-- A function-level reset quarantines the tags that are out, and is busy (R274). -/
theorem State.flr_clears (s : State) : s.flr.hep.flrBusy = true ∧ s.flr.ep = epReset ∧ s.flr.hep.tags = [] ∧
    s.flr.hep.quar = s.hep.quar ++ s.hep.tags.map (·.tag) ∧ s.flr.hep.irqPend = [] ∧ s.flr.hep.inta = false := by
  have hquar : s.flr.hep.quar = (s.epResetAll true).hep.quar := by rw [State.flr]
  exact ⟨rfl, s.epResetAll_ep true, s.epResetAll_tags true, hquar.trans s.epResetAll_quar, s.epResetAll_irqPend true,
    s.epResetAll_inta true⟩

/-! ### The link down (R273, R287) -/

section
variable (s : State)

/-- The link's state once it is down: the reset of the endpoint leaves it, for a link that is down is not in L1. -/
theorem State.linkDown_link : s.linkDown.flag F.HEP_LINK_STAT_DL_UP = false ∧ s.linkDown.fld F.HEP_LINK_STAT_LSTATE = 3 := by
  unfold State.linkDown
  extract_lets hep t u v
  have hl : v.fld F.HEP_LINK_STAT_LSTATE = 3 := State.fld_setFld_same _ _ _ (by decide)
  have hd : v.flag F.HEP_LINK_STAT_DL_UP = false :=
    (State.flag_setFld_other _ _ _ _ (by decide)).trans (State.flag_setFlag_same _ _ _ (by decide) rfl)
  have hreg := (v.epResetAll_linkStays false).reg (by rw [hl]; decide)
  rw [State.flag_congr F.HEP_LINK_STAT_DL_UP hreg, State.fld_congr F.HEP_LINK_STAT_LSTATE hreg]
  exact ⟨hd, hl⟩

@[simp] theorem State.linkDown_ep : s.linkDown.ep = epReset := rfl
@[simp] theorem State.linkDown_tags : s.linkDown.hep.tags = [] := rfl
@[simp] theorem State.linkDown_irqPend : s.linkDown.hep.irqPend = [] := rfl

@[simp] theorem State.linkDown_perst : s.linkDown.hep.perst = s.hep.perst := by
  unfold State.linkDown
  extract_lets hep t u v
  have ht : t.hep.perst = s.hep.perst := by
    unfold t; split <;> rfl
  have hu : u.hep.perst = t.hep.perst := by
    unfold u
    split
    · exact State.count31_hep_perst ..
    · rfl
  rw [State.epResetAll_perst, ← ht, ← hu]
  rfl

end

/-! ### Configuration writes of Bus Master Enable and of a function-level reset (R269, R270, R274) -/

/-- A bit that a write covers is as written. -/
theorem bitOn_merge (old w m : Word) {i : Nat} (h : bitOn m i = true) : bitOn ((old &&& ~~~ m) ||| (w &&& m)) i = bitOn w i := by
  simp only [bitOn] at h ⊢
  simp [-BitVec.getLsbD_eq_getElem, h]

theorem bitOn_and {w m : Word} {i : Nat} (h : bitOn m i = true) : bitOn (w &&& m) i = bitOn w i := by
  simp only [bitOn] at h ⊢
  rw [BitVec.getLsbD_and, h, Bool.and_true]

/-- A configuration write that the endpoint takes. -/
theorem State.cfgWrite_takes {s : State} (hup : s.start.phase = .run) (h : s.hep.perst = false) (hf : s.hep.flrBusy = false)
    (o : Nat) (v : Word) (be : Nat) : ∃ old, s.cfgWrite o v be =
      s.exitL1.cfgSet (o / 4 * 4) ((old &&& ~~~ beMask be) ||| (v &&& beMask be)) (v &&& beMask be) := by
  refine ⟨BitVec.ofNat 32 (s.exitL1.cfgWord (o / 4 * 4)), ?_⟩
  simp [State.cfgWrite, h, hf, State.up, hup]

theorem beMask_low : ∀ i < 16, bitOn (beMask 3) i = true := by decide

theorem State.cfgSet_command_bme (s : State) (v wr : Word) : (s.cfgSet 0x04 v wr).ep.bme = bitOn v 2 := by
  show (State.syncInta _).ep.bme = _
  rw [(State.syncInta_logOnly _).ep_bme, State.setBme_ep_bme]

theorem State.cfgSet_control_flr (s : State) (v : Word) {wr : Word} (h : bitOn wr 15 = true) :
    ∃ e, s.cfgSet 0x78 v wr = ({ s with ep := e } : State).flr := ⟨_, if_pos h⟩

section
variable {s : State} (hup : s.start.phase = .run) (h : s.hep.perst = false) (hf : s.hep.flrBusy = false)
include hup h hf

/-- A write of the command register's low bytes leaves Bus Master Enable as written. -/
theorem State.cfgWrite_command_bme (v : Word) : (s.cfgWrite 0x04 v 3).ep.bme = bitOn v 2 := by
  obtain ⟨old, e⟩ := State.cfgWrite_takes hup h hf 0x04 v 3
  rw [e, State.cfgSet_command_bme, bitOn_merge _ _ _ (beMask_low 2 (by decide))]

/-- A write of the device control register's low bytes with its initiate bit resets the function. -/
theorem State.cfgWrite_control_flr {v : Word} (hv : bitOn v 15 = true) :
    ∃ e, s.cfgWrite 0x78 v 3 = ({ s.exitL1 with ep := e } : State).flr := by
  obtain ⟨old, e⟩ := State.cfgWrite_takes hup h hf 0x78 v 3
  obtain ⟨ep, hflr⟩ := s.exitL1.cfgSet_control_flr ((old &&& ~~~ beMask 3) ||| (v &&& beMask 3))
    ((bitOn_and (beMask_low 15 (by decide))).trans hv)
  exact ⟨ep, e.trans hflr⟩

end

/-- A function without bus mastering issues no request. -/
theorem State.canMaster_of_bme {s : State} (h : s.ep.bme = false) : s.canMaster = false := by simp [State.canMaster, h]

/-- Settles O31, one command at a time. -/
theorem endpointResets : Obligations.EndpointResets := by
  unfold Obligations.EndpointResets
  refine ⟨?config, ?flrDone, ?quarantine, ?perst, ?perstHeld, ?perstOff, ?down⟩
  case config =>
    intro s hup hp hf
    refine ⟨⟨_, rfl, ?_⟩, ⟨_, rfl, ?_, (exec_keeps .busMasterEnableSet s _ rfl).pending⟩, ?_⟩
    · have hbme : (s.cfgWrite 0x04 (BitVec.ofNat 32 (s.cfgWord 0x04) &&& ~~~ 4#32) 3).ep.bme = false := by
        rw [State.cfgWrite_command_bme hup hp hf]; simp [bitOn]
      exact ⟨hbme, State.canMaster_of_bme hbme, (exec_keeps .busMasterEnableClear s _ rfl).pending⟩
    · rw [State.cfgWrite_command_bme hup hp hf]; simp [bitOn]
    · obtain ⟨ep, e⟩ := State.cfgWrite_control_flr hup hp hf (v := BitVec.ofNat 32 (s.cfgWord 0x78) ||| 0x8000#32)
        (by simp [bitOn])
      refine ⟨_, congrArg Host.Outcome.next e, ?_⟩
      rw [← s.exitL1_hep_quar, ← s.exitL1_hep_tags]
      exact State.flr_clears _
  case flrDone =>
    exact fun s hup hf => congrArg Host.Outcome.next ((State.whenUp_up hup _).trans (if_pos hf))
  case quarantine =>
    exact fun s tag h => congrArg Host.Outcome.next (if_pos (List.contains_iff_mem.2 h))
  case perst =>
    intro s hup
    refine ⟨_, congrArg Host.Outcome.next (if_pos (beq_iff_eq.2 hup)), ?_⟩
    exact ⟨State.linkDown_perst _, (State.linkDown_link _).1, State.linkDown_ep _, State.linkDown_tags _,
      State.linkDown_irqPend _⟩
  case perstHeld =>
    exact fun s hup => congrArg Host.Outcome.next (if_neg (by simpa [State.up] using hup))
  case perstOff =>
    exact fun s hs => congrArg Host.Outcome.next (if_pos (bne_iff_ne.2 hs))
  case down =>
    intro s hup
    refine ⟨⟨_, congrArg Host.Outcome.next (State.whenUp_up hup _), State.fld_setFld_same _ _ _ (by decide),
      s.epResetAll_ep false, s.epResetAll_tags false, s.epResetAll_irqPend false⟩, fun errs => ?_⟩
    refine ⟨_, congrArg Host.Outcome.next (State.whenUp_up hup _), ?_⟩
    obtain ⟨hdl, hl⟩ := (errs.foldl State.linkErr s).linkDown_link
    exact ⟨hdl, hl, State.linkDown_ep _, State.linkDown_tags _, State.linkDown_irqPend _⟩

end Sys2Proof.Machine
end

section
/-! The bytes of the flash: what a program and an erase leave at each address (R310, R385). -/

namespace Sys2Proof.Machine

/-- A program takes each of its bytes into the byte at its address, and leaves every other. -/
theorem flashProg_get (t : Tbl Byte) (a x : Nat) (l : List Byte) : tblGet erased (flashProg t a l) x =
    if a ≤ x ∧ x < a + l.length then tblGet erased t x &&& l.getD (x - a) 0 else tblGet erased t x := by
  induction l generalizing t a with
  | nil => exact (if_neg fun h : a ≤ x ∧ x < a + 0 => by omega).symm
  | cons b l ih =>
    have hlen : (b :: l).length = l.length + 1 := rfl
    rw [flashProg, ih, tblGet_set]
    by_cases hx : a = x
    · subst hx
      rw [if_neg (by omega), if_pos rfl, if_pos (by omega), Nat.sub_self, List.getD_cons_zero]
    · rw [if_neg hx]
      by_cases hin : a + 1 ≤ x ∧ x < a + 1 + l.length
      · have hsub : x - a = x - (a + 1) + 1 := by omega
        rw [if_pos hin, if_pos (by omega), hsub, List.getD_cons_succ]
      · rw [if_neg hin, if_neg (by omega)]

/-- A key that is dropped reads as the default. -/
theorem tblGet_filter_dropped {α : Type} (d : Nat → α) (t : Tbl α) (p : Nat → Bool) {a : Nat} (h : p a = false) :
    tblGet d (t.filter fun c => p c.1) a = d a := by
  induction t with
  | nil => rfl
  | cons c t ih =>
    obtain ⟨k, v⟩ := c
    rw [List.filter_cons]
    split
    next hk => rw [tblGet, if_neg (by rintro rfl; simp_all), ih]
    · exact ih

/-- A flash byte after an erase. -/
theorem State.eraseRange_get (s : State) (a n x : Nat) : tblGet erased (s.eraseRange a n).flash x =
    if a ≤ x ∧ x < a + n then 0xFF#8 else tblGet erased s.flash x := by
  split
  next h => exact tblGet_filter_dropped erased s.flash (fun k => k < a || a + n ≤ k) (by simpa using h)
  next h => exact tblGet_filter erased s.flash (fun k => k < a || a + n ≤ k) (by simp; omega)

/-- Settles O53, a byte at a time. -/
theorem flashBits : Obligations.FlashBits :=
  ⟨fun s a x l => flashProg_get s.flash a x l, State.eraseRange_get⟩

end Sys2Proof.Machine
end

section
/-! Flash commands and their ends (R310, R311). -/

namespace Sys2Proof.Machine

/-! ### A command that is taken (R310, R311) -/

/-- A command that is taken stands in the status, with no result yet. -/
def State.flashNoted (s : State) (cmd : Nat) : State :=
  (s.setFld F.CFG_FL_STAT_LAST_CMD cmd).setFld F.CFG_FL_STAT_RESULT 0

/-- Whether a command's address is not a multiple of what it works on. -/
def flashOdd (cmd a : Nat) : Bool :=
  match cmd with
  | 1 => a % 4096 != 0
  | 2 | 3 => a % 256 != 0
  | _ => false

/-- Whether a command is refused at an address: a misaligned one, and an ERASE or PROGRAM of a place that is shut. -/
def State.flashRefused (s : State) (cmd a : Nat) : Bool :=
  flashOdd cmd a || ((cmd = 1 || cmd = 2) && s.flashShut a)

/-- An ERASE or PROGRAM into a bank takes back that the bank was verified. -/
def State.flashUnverified (s : State) (cmd a : Nat) : State :=
  if (cmd = 1 || cmd = 2) && a < 0x1000000 then s.setVerified (a / 0x800000) false else s

/-- The bytes of the page buffer. -/
def State.flashPage (s : State) : List Byte := (List.range 64).flatMap fun i => leBytes 4 (s.reg (A.CFG_FL_BUF i)).toNat

/-- A command begins: it holds its address and the page of the buffer, and the interface is busy. -/
def State.flashStart (s : State) (cmd a : Nat) : State :=
  ({ s.flashUnverified cmd a with flCmd := some (a, (s.flashUnverified cmd a).flashPage) } : State).setFlag
    F.CFG_FL_STAT_BUSY true

section
variable {s : State} {cmd : Nat}

theorem State.flashCmd_busy (h : s.flag F.CFG_FL_STAT_BUSY = true) : s.flashCmd cmd = s.setFlag F.CFG_FL_STAT_CMD_REJ true :=
  if_pos (by simp [h])

variable (hb : s.flag F.CFG_FL_STAT_BUSY = false) (h0 : 0 < cmd) (h4 : cmd ≤ 4)
include hb h0 h4

/-- A command given while none runs is taken, and then refused or begun. -/
theorem State.flashCmd_taken : s.flashCmd cmd =
    if s.flashRefused cmd (s.fld F.CFG_FL_ADDR_ADDR) then (s.flashNoted cmd).setFld F.CFG_FL_STAT_RESULT 3
    else (s.flashNoted cmd).flashStart cmd (s.fld F.CFG_FL_ADDR_ADDR) := by
  have htaken : ¬ (s.flag F.CFG_FL_STAT_BUSY || cmd = 0 || 4 < cmd) = true := by simp [hb]; omega
  unfold State.flashCmd
  rw [if_neg htaken]
  rfl

end

/-! ### The status fields and the buffer through a start -/

theorem State.flashNoted_lastCmd (s : State) {cmd : Nat} (h : cmd ≤ 4) :
    (s.flashNoted cmd).fld F.CFG_FL_STAT_LAST_CMD = cmd := by
  rw [State.flashNoted, State.fld_setFld_other _ _ _ _ (by decide), State.fld_setFld_same _ _ _ (by decide)]
  exact Nat.mod_eq_of_lt (Nat.lt_of_le_of_lt h (by decide))

theorem State.flashNoted_result (s : State) (cmd : Nat) : (s.flashNoted cmd).fld F.CFG_FL_STAT_RESULT = 0 :=
  State.fld_setFld_same _ _ _ (by decide)

/-- The page buffer lies apart from the status (R422). -/
theorem CFG_FL_BUF_ne_stat (i : Nat) : A.CFG_FL_STAT ≠ A.CFG_FL_BUF i := by unfold A.CFG_FL_STAT A.CFG_FL_BUF; omega

theorem State.flashPage_congr {s t : State} (h : ∀ i, t.reg (A.CFG_FL_BUF i) = s.reg (A.CFG_FL_BUF i)) :
    t.flashPage = s.flashPage := by simp only [State.flashPage, h]

theorem State.flashNoted_page (s : State) (cmd : Nat) : (s.flashNoted cmd).flashPage = s.flashPage :=
  State.flashPage_congr fun i => by
    rw [State.flashNoted, State.reg_setFld_other _ F.CFG_FL_STAT_RESULT _ (CFG_FL_BUF_ne_stat i),
      State.reg_setFld_other _ F.CFG_FL_STAT_LAST_CMD _ (CFG_FL_BUF_ne_stat i)]

/-- It clears VER_A_OK, or VER_B_OK, or leaves all. -/
theorem State.flashUnverified_cases (s : State) (cmd a : Nat) : s.flashUnverified cmd a = s ∨
    s.flashUnverified cmd a = s.setFlag F.CFG_FL_STAT_VER_A_OK false ∨
    s.flashUnverified cmd a = s.setFlag F.CFG_FL_STAT_VER_B_OK false := by
  unfold State.flashUnverified State.setVerified
  split
  · split
    · exact .inr (.inl rfl)
    · exact .inr (.inr rfl)
  · exact .inl rfl

section
variable (s : State) (cmd a : Nat)

theorem State.flashUnverified_flash : (s.flashUnverified cmd a).flash = s.flash := by
  rcases s.flashUnverified_cases cmd a with e | e | e <;> rw [e] <;> rfl

theorem State.flashUnverified_sent : (s.flashUnverified cmd a).sent = s.sent := by
  rcases s.flashUnverified_cases cmd a with e | e | e <;> rw [e] <;> rfl

theorem State.flashUnverified_lastCmd :
    (s.flashUnverified cmd a).fld F.CFG_FL_STAT_LAST_CMD = s.fld F.CFG_FL_STAT_LAST_CMD := by
  rcases s.flashUnverified_cases cmd a with e | e | e <;> rw [e]
  all_goals exact State.fld_setFld_other _ _ _ _ (by decide)

theorem State.flashUnverified_result : (s.flashUnverified cmd a).fld F.CFG_FL_STAT_RESULT = s.fld F.CFG_FL_STAT_RESULT := by
  rcases s.flashUnverified_cases cmd a with e | e | e <;> rw [e]
  all_goals exact State.fld_setFld_other _ _ _ _ (by decide)

theorem State.flashUnverified_page : (s.flashUnverified cmd a).flashPage = s.flashPage := by
  refine State.flashPage_congr fun i => ?_
  rcases s.flashUnverified_cases cmd a with e | e | e <;> rw [e]
  all_goals exact State.reg_setFld_other _ _ _ (CFG_FL_BUF_ne_stat i)

end

/-! ### A command that begins, and one that is refused (R310, R311) -/

/-- Command `cmd` is under way at `a` in `t`, which holds the page of `s`; the flash and what is sent stand as in `s`. -/
structure State.FlashBegun (s t : State) (cmd a : Nat) : Prop where
  busy : t.flag F.CFG_FL_STAT_BUSY = true
  lastCmd : t.fld F.CFG_FL_STAT_LAST_CMD = cmd
  result : t.fld F.CFG_FL_STAT_RESULT = 0
  underWay : t.flCmd = some (a, s.flashPage)
  flash : t.flash = s.flash
  sent : t.sent = s.sent

section
variable {s : State} {cmd a : Nat} (hb : s.flag F.CFG_FL_STAT_BUSY = false) (h0 : 0 < cmd) (h4 : cmd ≤ 4)
  (ha : a = s.fld F.CFG_FL_ADDR_ADDR)
include hb h0 h4 ha

theorem State.flashCmd_begins (h : s.flashRefused cmd a = false) : s.FlashBegun (s.flashCmd cmd) cmd a := by
  subst ha
  rw [State.flashCmd_taken hb h0 h4, if_neg (Bool.eq_false_iff.1 h)]
  refine ⟨State.flag_setFlag_same _ _ _ (by decide) rfl, ?lastCmd, ?result, ?underWay, ?flash, ?sent⟩
  case lastCmd =>
    exact (State.fld_setFld_other _ _ _ _ (by decide)).trans
      ((State.flashUnverified_lastCmd ..).trans (s.flashNoted_lastCmd h4))
  case result =>
    exact (State.fld_setFld_other _ _ _ _ (by decide)).trans ((State.flashUnverified_result ..).trans (s.flashNoted_result _))
  case underWay =>
    rw [State.flashStart, State.setFlag_flCmd, State.flashUnverified_page, State.flashNoted_page]
  case flash => exact State.flashUnverified_flash ..
  case sent => exact State.flashUnverified_sent ..

/-- A refused command has result 3 and changes nothing but the status. -/
theorem State.flashCmd_refused (h : s.flashRefused cmd a = true) : (s.flashCmd cmd).fld F.CFG_FL_STAT_RESULT = 3 ∧
    (s.flashCmd cmd).flCmd = s.flCmd ∧ (s.flashCmd cmd).flash = s.flash := by
  subst ha
  rw [State.flashCmd_taken hb h0 h4, if_pos h]
  exact ⟨State.fld_setFld_same _ _ _ (by decide), rfl, rfl⟩

end

/-! ### The end of a command (R310) -/

/-- The command in progress is over, with its result. -/
def State.flashOver (s : State) (ok : Bool) : State :=
  (({ s with flCmd := none } : State).setFlag F.CFG_FL_STAT_BUSY false).setFld F.CFG_FL_STAT_RESULT (if ok then 1 else 2)

section
variable (s : State) (ok : Bool)

@[simp] theorem State.flashOver_flCmd : (s.flashOver ok).flCmd = none := rfl
@[simp] theorem State.flashOver_flash : (s.flashOver ok).flash = s.flash := rfl

theorem State.flashOver_busy : (s.flashOver ok).flag F.CFG_FL_STAT_BUSY = false :=
  (State.flag_setFld_other _ _ _ _ (by decide)).trans (State.flag_setFlag_same _ _ _ (by decide) rfl)

theorem State.flashOver_result : (s.flashOver ok).fld F.CFG_FL_STAT_RESULT = if ok then 1 else 2 := by
  rw [State.flashOver, State.fld_setFld_same _ _ _ (by decide)]
  cases ok <;> rfl

theorem State.flashOver_buf (i : Nat) : (s.flashOver ok).reg (A.CFG_FL_BUF i) = s.reg (A.CFG_FL_BUF i) :=
  (State.reg_setFld_other _ F.CFG_FL_STAT_RESULT _ (CFG_FL_BUF_ne_stat i)).trans
    (State.reg_setFld_other _ F.CFG_FL_STAT_BUSY _ (CFG_FL_BUF_ne_stat i))

end

section
variable {s : State} {a : Nat} {page : List Byte} (h : s.flCmd = some (a, page))
include h

theorem State.flashEnd_inTime : s.flashEnd false =
    (s.flashRun (s.fld F.CFG_FL_STAT_LAST_CMD) a page).1.flashOver (s.flashRun (s.fld F.CFG_FL_STAT_LAST_CMD) a page).2 := by
  rw [State.flashEnd, h]; rfl

theorem State.flashEnd_late : s.flashEnd true = (s.flashSpoil (s.fld F.CFG_FL_STAT_LAST_CMD) a).flashOver false := by
  rw [State.flashEnd, h]; rfl

end

section
variable (s : State) (a : Nat) (page : List Byte)

theorem State.flashRun_erase : s.flashRun 1 a page = (s.eraseSector a, true) := rfl
theorem State.flashRun_program : s.flashRun 2 a page = (s.program a page, true) := rfl
theorem State.flashRun_read : s.flashRun 3 a page = (s.setPage (s.flashRead a 256), true) := rfl

end

/-- A hub whose firmware runs ends the command. -/
theorem exec_flashCommandDone {s : State} (hcore : s.core = true) (hfw : s.start.fwBusy = false) (late : Bool) :
    exec (.flashCommandDone late) s = .next (s.flashEnd late) :=
  congrArg Host.Outcome.next (if_pos (by simp [hcore, hfw]))

/-! ### The buffer after a READ -/

/-- Words written to registers of their own, in order, stand in them; nothing but registers changes. -/
theorem State.setRegs_range {f : Nat → Nat} (hf : f.Injective) (v : Nat → Word) (s : State) (n : Nat) :
    ∃ r, (List.range n).foldl (fun s i => s.setReg (f i) (v i)) s = { s with regs := r } ∧
      ∀ i, i < n → tblGet regReset r (f i) = v i := by
  induction n with
  | zero => exact ⟨_, rfl, fun i hi => absurd hi (Nat.not_lt_zero i)⟩
  | succ n ih =>
    obtain ⟨r, e, hr⟩ := ih
    refine ⟨tblSet regReset r (f n) (v n), ?_, fun i hi => ?_⟩
    · rw [List.range_succ, List.foldl_append, e]; rfl
    · rcases Nat.lt_succ_iff_lt_or_eq.1 hi with hi | rfl
      · rw [tblGet_set_other _ _ _ (hf.ne (Nat.ne_of_gt hi)), hr i hi]
      · exact tblGet_set_same ..

theorem CFG_FL_BUF_injective : Function.Injective A.CFG_FL_BUF := fun i j h => by unfold A.CFG_FL_BUF at h; omega

theorem State.setPage_flash (s : State) (l : List Byte) : (s.setPage l).flash = s.flash := by
  obtain ⟨r, e, -⟩ := s.setRegs_range CFG_FL_BUF_injective (fun i => BitVec.ofNat 32 (leAt l (4 * i) 4)) 64
  rw [State.setPage, e]

theorem State.setPage_buf (s : State) (l : List Byte) {i : Nat} (h : i < 64) :
    (s.setPage l).reg (A.CFG_FL_BUF i) = BitVec.ofNat 32 (leAt l (4 * i) 4) := by
  obtain ⟨r, e, hr⟩ := s.setRegs_range CFG_FL_BUF_injective (fun i => BitVec.ofNat 32 (leAt l (4 * i) 4)) 64
  rw [State.setPage, e]
  exact hr i h

/-! ### Commands of the interface -/

section
variable {s : State} {p : Path} (h : s.Admits p A.CFG_FL_CMD false)
include h

theorem exec_erase_admits : exec (.erase p) s = .next ((s.reached p).flashCmd 1) :=
  congrArg Host.Outcome.next (State.guarded_admits h _)

theorem exec_program_admits : exec (.program p) s = .next ((s.reached p).flashCmd 2) :=
  congrArg Host.Outcome.next (State.guarded_admits h _)

theorem exec_read_admits : exec (.read p) s = .next ((s.reached p).flashCmd 3) :=
  congrArg Host.Outcome.next (State.guarded_admits h _)

theorem exec_verify_admits : exec (.verify p) s = .next ((s.reached p).flashCmd 4) :=
  congrArg Host.Outcome.next (State.guarded_admits h _)

end

/-! ### Where each command is refused (R311) -/

section
variable (s : State) (a : Nat)

theorem State.flashRefused_erase : s.flashRefused 1 a = (a % 4096 != 0 || s.flashShut a) := rfl
theorem State.flashRefused_program : s.flashRefused 2 a = (a % 256 != 0 || s.flashShut a) := rfl
theorem State.flashRefused_read : s.flashRefused 3 a = (a % 256 != 0) := Bool.or_false _
theorem State.flashRefused_verify : s.flashRefused 4 a = false := rfl

end

/-- Settles O34, by whether a command begins, is refused, or ends. -/
theorem flashCommands : Obligations.FlashCommands := by
  unfold Obligations.FlashCommands
  refine ⟨?starts, ?busy, ?ends⟩
  case starts =>
    rintro s r p a hadm rfl hb ha
    rw [exec_erase_admits hadm, exec_program_admits hadm, exec_read_admits hadm, exec_verify_admits hadm]
    refine ⟨fun hal hopen => ⟨_, rfl, ?erase⟩, fun hal hopen => ⟨_, rfl, ?program⟩, fun hal => ⟨_, rfl, ?read⟩,
      ⟨_, rfl, ?verify⟩, fun hodd => ⟨_, rfl, ?oddRead⟩, fun hno => ⟨_, rfl, ?noProgram⟩, fun hno => ⟨_, rfl, ?noErase⟩⟩
    case erase =>
      have hgo := State.flashCmd_begins (cmd := 1) hb (by decide) (by decide) ha
        (by simp [State.flashRefused_erase, hal, hopen])
      exact ⟨hgo.busy, hgo.lastCmd, hgo.result, congrArg (Option.map Prod.fst) hgo.underWay, hgo.flash⟩
    case program =>
      have hgo := State.flashCmd_begins (cmd := 2) hb (by decide) (by decide) ha
        (by simp [State.flashRefused_program, hal, hopen])
      exact ⟨hgo.busy, hgo.lastCmd, hgo.result, hgo.underWay, hgo.flash⟩
    case read =>
      have hgo := State.flashCmd_begins (cmd := 3) hb (by decide) (by decide) ha (by simp [State.flashRefused_read, hal])
      exact ⟨hgo.busy, hgo.lastCmd, hgo.flash, hgo.sent⟩
    case verify =>
      have hgo := State.flashCmd_begins (cmd := 4) hb (by decide) (by decide) ha (State.flashRefused_verify ..)
      exact ⟨hgo.busy, hgo.lastCmd, hgo.flash, hgo.sent⟩
    case oddRead =>
      obtain ⟨hres, hcmd, -⟩ := State.flashCmd_refused (cmd := 3) hb (by decide) (by decide) ha
        (by simpa [State.flashRefused_read] using hodd)
      exact ⟨hres, hcmd⟩
    case noProgram =>
      exact State.flashCmd_refused hb (by decide) (by decide) ha (by simpa [State.flashRefused_program] using hno)
    case noErase =>
      exact State.flashCmd_refused hb (by decide) (by decide) ha (by simpa [State.flashRefused_erase] using hno)
  case busy =>
    rintro s r p hadm rfl hb i hi
    simp only [List.mem_cons, List.not_mem_nil, or_false] at hi
    obtain rfl | rfl | rfl | rfl := hi
    · rw [exec_erase_admits hadm, State.flashCmd_busy hb]
    · rw [exec_program_admits hadm, State.flashCmd_busy hb]
    · rw [exec_read_admits hadm, State.flashCmd_busy hb]
    · rw [exec_verify_admits hadm, State.flashCmd_busy hb]
  case ends =>
    intro s a page hcore hfw hcmd
    rw [exec_flashCommandDone hcore hfw, exec_flashCommandDone hcore hfw, State.flashEnd_inTime hcmd, State.flashEnd_late hcmd]
    refine ⟨fun hl => ⟨_, rfl, ?erased⟩, fun hl => ⟨_, rfl, ?programmed⟩, fun hl => ⟨_, rfl, ?pageRead⟩, _, rfl, ?late⟩
    case erased =>
      rw [hl, State.flashRun_erase]
      exact ⟨State.flashOver_flCmd .., State.flashOver_busy .., State.flashOver_result .., State.flashOver_flash ..⟩
    case programmed =>
      rw [hl, State.flashRun_program]
      exact ⟨State.flashOver_flCmd .., State.flashOver_result .., State.flashOver_flash ..⟩
    case pageRead =>
      rw [hl, State.flashRun_read]
      refine ⟨State.flashOver_flCmd .., State.flashOver_result .., ?_, fun i hi => ?_⟩
      · rw [State.flashOver_flash, State.setPage_flash]
      · rw [State.flashOver_buf, State.setPage_buf _ _ hi]
    case late => exact ⟨State.flashOver_flCmd .., State.flashOver_result .., State.flashOver_busy ..⟩

end Sys2Proof.Machine
end

section
/-! Steps, commands, the reset state (R14, R330, R424), and the ledger's counters (R403). -/

namespace Sys2Proof.Machine

/-- Settles O1: a queue with a front takes the second case of a step. -/
theorem stepRunsFront : Obligations.StepRunsFront := by
  unfold Obligations.StepRunsFront
  intro s c rest h
  rw [step, h]

/-- What a step keeps: the front command leaves the queue, and all else is as the command, or an idle cycle, keeps it. -/
theorem step_keeps {s t : State} (h : step s = .next t) : ({ s with pending := s.pending.tail } : State).Keeps t := by
  unfold step at h
  split at h
  case h_1 hp =>
    cases h
    have hs : ({ s with pending := s.pending.tail } : State) = s := by rw [hp, List.tail_nil, ← hp]
    rw [hs]
    exact State.idle_keeps (State.Keeps.refl s)
  case h_2 c rest hp =>
    rw [hp]
    exact exec_keeps c _ t h

/-- Settles O4: the fields that a step keeps, but for the queue, do not see which commands wait. -/
theorem stepKeeps : Obligations.StepKeeps := by
  unfold Obligations.StepKeeps
  intro s t h
  obtain ⟨hcanon, hsent, hpending, hfree, hotp⟩ := step_keeps h
  exact ⟨fun c => hcanon ⟨c.regs, c.flash, c.tbl, c.otp, c.image⟩, hsent, hfree, hotp, hpending⟩

/-- Settles O5: every arm of the dispatch runs a meaning that answers a next state. -/
theorem everyCommandAnswers : Obligations.EveryCommandAnswers := by
  unfold Obligations.EveryCommandAnswers
  intro i s
  cases i <;> exact ⟨_, rfl⟩

/-- Settles O3: the stores of the reset state list nothing but the fixed bytes of the OTP. -/
theorem resetState : Obligations.ResetState := by
  unfold Obligations.ResetState
  exact ⟨⟨rfl, rfl, rfl, rfl, nofun⟩, rfl, rfl, rfl, fun _ => rfl, fun _ => rfl, rfl⟩

/-- Settles O48: below its maximum a ledger counter goes up, and only the step onto the maximum is noted. -/
theorem ledgerCounters : Obligations.LedgerCounters := by
  unfold Obligations.LedgerCounters
  refine ⟨fun max n h => ?_, fun s max n h => ?_, fun s max n h => ?_⟩
  · unfold ledBump; split <;> omega
  · simp [State.ledNote, ledFull, h]
  · simp [State.ledNote, ledFull, h]
end Sys2Proof.Machine
end

section
/-! Canonical stores, and the check of the management bus (R357). -/

namespace Sys2Proof.Machine

section
variable {α : Type} [DecidableEq α] {d : Nat → α} {t u : Tbl α} {lo k a : Nat} {v : α}

theorem tblWfFrom_cons : tblWfFrom d lo ((k, v) :: t) = true ↔ lo ≤ k ∧ v ≠ d k ∧ tblWfFrom d (k + 1) t = true := by
  simp [tblWfFrom]

/-- Below its keys a canonical store reads as an unlisted key. -/
theorem tblGet_below (w : tblWfFrom d lo t = true) (h : a < lo) : tblGet d t a = d a := by
  induction t generalizing lo with
  | nil => rfl
  | cons c t ih =>
    obtain ⟨hlo, -, w⟩ := tblWfFrom_cons.1 w
    rw [tblGet, if_neg (by omega), ih w (by omega)]

/-- The first key of a canonical store reads otherwise than an unlisted one. -/
theorem tblGet_head_ne (w : tblWfFrom d lo ((k, v) :: t) = true) : tblGet d ((k, v) :: t) k ≠ d k := by
  rw [tblGet, if_pos rfl]
  exact (tblWfFrom_cons.1 w).2.1

/-- Where a canonical store's first key is unlisted in another, the two do not read the same. -/
theorem tblWfFrom_head_le (w : tblWfFrom d lo ((k, v) :: t) = true) (wu : tblWfFrom d a u = true)
    (h : ∀ b, tblGet d ((k, v) :: t) b = tblGet d u b) : a ≤ k := by
  refine Nat.le_of_not_lt fun hk => ?_
  exact tblGet_head_ne w ((h k).trans (tblGet_below wu hk))

theorem tblWfFrom_ext (wt : tblWfFrom d lo t = true) (wu : tblWfFrom d lo u = true)
    (h : ∀ b, tblGet d t b = tblGet d u b) : t = u := by
  induction t generalizing u lo with
  | nil =>
    cases u with
    | nil => rfl
    | cons c u => exact absurd (h c.1).symm (tblGet_head_ne wu)
  | cons c t ih =>
    obtain ⟨k, v⟩ := c
    cases u with
    | nil => exact absurd (h k) (tblGet_head_ne wt)
    | cons c' u =>
      obtain ⟨k', v'⟩ := c'
      obtain ⟨-, hv, wt'⟩ := tblWfFrom_cons.1 wt
      obtain ⟨-, hv', wu'⟩ := tblWfFrom_cons.1 wu
      have hkk : k' ≤ k := tblWfFrom_head_le wt (tblWfFrom_cons.2 ⟨Nat.le_refl k', hv', wu'⟩) h
      have hkk' : k ≤ k' := tblWfFrom_head_le wu (tblWfFrom_cons.2 ⟨Nat.le_refl k, hv, wt'⟩) fun b => (h b).symm
      obtain rfl : k = k' := Nat.le_antisymm hkk' hkk
      have hvv : v = v' := by simpa [tblGet] using h k
      rw [hvv, ih wt' wu' fun b => ?_]
      by_cases hb : k = b
      · rw [tblGet_below wt' (by omega), tblGet_below wu' (by omega)]
      · simpa [tblGet, hb] using h b

end

/-- Settles O52: a canonical store lists each key that reads otherwise than an unlisted one, in order, and no other. -/
theorem storesAreContents : Obligations.StoresAreContents := by
  unfold Obligations.StoresAreContents
  exact ⟨fun _ _ => tblWfFrom_ext, fun _ _ => tblWfFrom_ext, fun _ _ => tblWfFrom_ext⟩

/-! ### PEC -/

theorem crc8Bit_lt {c : Nat} (h : c < 256) : crc8Bit c < 256 := by
  unfold crc8Bit
  split
  · exact Nat.xor_lt_two_pow (n := 8) (Nat.mod_lt _ (by decide)) (by decide)
  · omega

theorem nat_xor_eq_zero {a b : Nat} : a ^^^ b = 0 ↔ a = b := by
  refine ⟨fun h => ?_, fun h => by rw [h, Nat.xor_self]⟩
  calc a = (a ^^^ b) ^^^ b := by rw [Nat.xor_assoc, Nat.xor_self, Nat.xor_zero]
    _ = b := by rw [h, Nat.zero_xor]

theorem crc8Bit_eq_zero {c : Nat} (h : c < 256) : crc8Bit c = 0 ↔ c = 0 := by
  unfold crc8Bit
  split
  · rw [nat_xor_eq_zero]; omega
  · omega

/-- `n` steps of the division. -/
def crc8Bits (n c : Nat) : Nat := (List.range n).foldl (fun c _ => crc8Bit c) c

theorem crc8Bits_succ (n c : Nat) : crc8Bits (n + 1) c = crc8Bit (crc8Bits n c) := by
  rw [crc8Bits, List.range_succ, List.foldl_append]
  rfl

theorem crc8Bits_lt {c : Nat} (h : c < 256) (n : Nat) : crc8Bits n c < 256 := by
  induction n with
  | zero => exact h
  | succ n ih => rw [crc8Bits_succ]; exact crc8Bit_lt ih

theorem crc8Bits_eq_zero {c : Nat} (h : c < 256) (n : Nat) : crc8Bits n c = 0 ↔ c = 0 := by
  induction n with
  | zero => exact Iff.rfl
  | succ n ih => rw [crc8Bits_succ, crc8Bit_eq_zero (crc8Bits_lt h n), ih]

/-- One step of the division: the register is doubled, and the polynomial taken off where its top bit was set. -/
theorem crc8Bit_eq_xor : ∀ c < 256, crc8Bit c = (2 * c) ^^^ (decide (128 ≤ c)).toNat * 0x107 := by decide +kernel

theorem crc8_eq_foldl (l : List Byte) : crc8 l = l.foldl (fun c b => crc8Bits 8 (c ^^^ b.toNat)) 0 := rfl

theorem crc8_append (l : List Byte) (b : Byte) : crc8 (l ++ [b]) = crc8Bits 8 (crc8 l ^^^ b.toNat) := by
  rw [crc8_eq_foldl, List.foldl_append, ← crc8_eq_foldl, List.foldl_cons, List.foldl_nil]

theorem crc8_lt (l : List Byte) : crc8 l < 256 := by
  rw [crc8_eq_foldl]
  exact List.foldlRecOn (motive := fun c => c < 256) l _ (Nat.zero_lt_succ 255) fun c hc b _ =>
    crc8Bits_lt (Nat.xor_lt_two_pow (n := 8) hc b.isLt) 8

/-- Settles O50: a step of the division makes 0 of 0 alone. -/
theorem pecResidue : Obligations.PecResidue := by
  unfold Obligations.PecResidue
  intro l b
  rw [crc8_append, crc8Bits_eq_zero (Nat.xor_lt_two_pow (n := 8) (crc8_lt l) b.isLt), nat_xor_eq_zero]
  exact eq_comm

/-- What taking the multiple of the polynomial that the low `n` bits of `q` spell off `r` leaves. -/
def pecTake (n q r : Nat) : Nat := (List.range n).foldl (fun r i => if q.testBit i then r ^^^ 0x107 * 2 ^ i else r) r

theorem two_mul_xor (a b : Nat) : 2 * (a ^^^ b) = 2 * a ^^^ 2 * b := by
  simpa [Nat.shiftLeft_eq, Nat.mul_comm] using Nat.shiftLeft_xor_distrib (a := a) (b := b) (i := 1)

theorem pecTake_last (n q r : Nat) : pecTake (n + 1) q r =
    if q.testBit n then pecTake n q r ^^^ 0x107 * 2 ^ n else pecTake n q r := by
  rw [pecTake, List.range_succ, List.foldl_append]
  rfl

/-- A quotient with one more bit below. -/
theorem pecTake_succ (n q r : Nat) (b : Bool) : pecTake (n + 1) (2 * q + b.toNat) (2 * r) =
    2 * pecTake n q r ^^^ b.toNat * 0x107 := by
  induction n with
  | zero => cases b <;> simp [pecTake, List.range_succ]
  | succ n ih =>
    have hbit : (2 * q + b.toNat).testBit (n + 1) = q.testBit n := by
      rw [Nat.testBit_succ, show (2 * q + b.toNat) / 2 = q by have := b.toNat_lt; omega]
    rw [pecTake_last (n + 1), ih, hbit, pecTake_last n]
    split
    · have hpow : 2 * (0x107 * 2 ^ n) = 0x107 * 2 ^ (n + 1) := by rw [Nat.pow_succ]; omega
      rw [two_mul_xor, hpow, Nat.xor_assoc, Nat.xor_comm (b.toNat * 0x107), ← Nat.xor_assoc]
    · rfl

/-- After `n` steps the register is what a quotient of `n` bits leaves. -/
theorem crc8Bits_eq_pecTake {c : Nat} (h : c < 256) (n : Nat) :
    ∃ q < 2 ^ n, pecTake n q (c * 2 ^ n) = crc8Bits n c := by
  induction n with
  | zero => exact ⟨0, by decide, by simp [pecTake, crc8Bits]⟩
  | succ n ih =>
    obtain ⟨q, hq, e⟩ := ih
    refine ⟨2 * q + (decide (128 ≤ crc8Bits n c)).toNat, ?_, ?_⟩
    · have := Bool.toNat_lt (decide (128 ≤ crc8Bits n c))
      omega
    · have hpow : c * 2 ^ (n + 1) = 2 * (c * 2 ^ n) := by rw [Nat.pow_succ, ← Nat.mul_assoc, Nat.mul_comm]
      rw [hpow, pecTake_succ, e, crc8Bits_succ, crc8Bit_eq_xor _ (crc8Bits_lt h n)]

/-- Settles O49: eight steps on the register that a byte is added to are one step of the long division. -/
theorem pecDivision : Obligations.PecDivision := by
  unfold Obligations.PecDivision
  refine ⟨rfl, fun l b => ⟨crc8_lt _, ?_⟩⟩
  rw [crc8_append]
  exact crc8Bits_eq_pecTake (Nat.xor_lt_two_pow (n := 8) (crc8_lt l) b.isLt) 8
end Sys2Proof.Machine
end

section
/-! Error counters (R404). -/

namespace Sys2Proof.Machine

theorem bitOn_fldPut_count (r : Word) (v : Nat) : bitOn (fldPut r 0 31 v) 31 = bitOn r 31 := by
  rw [bitOn, fldPut_bit, if_neg (by decide), bitOn]

section
variable {s : State} {a n : Nat}

/-- Nothing is counted, or the counter is at its maximum. -/
theorem State.count31_stays (h : n = 0 ∨ fldGet (s.reg a) 0 31 = 0x7FFFFFFF) : s.count31 a n = s := if_pos h

/-- The counter stays below its maximum. -/
theorem State.count31_adds (h0 : n ≠ 0) (h : fldGet (s.reg a) 0 31 + n < 0x7FFFFFFF) :
    s.count31 a n = s.setReg a (fldPut (s.reg a) 0 31 (fldGet (s.reg a) 0 31 + n)) := by
  unfold State.count31
  extract_lets c
  rw [if_neg (by omega), if_pos h]

/-- The counter reaches its maximum. -/
theorem State.count31_fills (h1 : fldGet (s.reg a) 0 31 < 0x7FFFFFFF) (h2 : 0x7FFFFFFF ≤ fldGet (s.reg a) 0 31 + n) :
    s.count31 a n = (s.setReg a 0xFFFFFFFF#32).log 404 noSrc [] := by
  unfold State.count31
  extract_lets c
  rw [if_neg (by omega), if_neg (by omega)]

theorem State.count31_fills_reg (ha : a ≠ A.HEP_LINK_STAT) (h1 : fldGet (s.reg a) 0 31 < 0x7FFFFFFF)
    (h2 : 0x7FFFFFFF ≤ fldGet (s.reg a) 0 31 + n) : (s.count31 a n).reg a = 0xFFFFFFFF#32 := by
  rw [State.count31_fills h1 h2, (State.log_logOnly _ _ _ _).reg ha, State.reg_setReg_same]

end

/-- What a count leaves in its register. -/
theorem State.count31_reg_same {s : State} {a : Nat} (n : Nat) (ha : a ≠ A.HEP_LINK_STAT) :
    fldGet ((s.count31 a n).reg a) 0 31 = min (fldGet (s.reg a) 0 31 + n) 0x7FFFFFFF ∧
    (bitOn ((s.count31 a n).reg a) 31 = true ↔ bitOn (s.reg a) 31 = true ∨
      (fldGet (s.reg a) 0 31 < 0x7FFFFFFF ∧ 0x7FFFFFFF ≤ fldGet (s.reg a) 0 31 + n)) := by
  have hlt : fldGet (s.reg a) 0 31 < 2 ^ 31 := fldGet_lt _ _ _
  by_cases hs : n = 0 ∨ fldGet (s.reg a) 0 31 = 0x7FFFFFFF
  · rw [State.count31_stays hs]
    exact ⟨by omega, ⟨.inl, fun h => h.resolve_right (by omega)⟩⟩
  · by_cases hc : fldGet (s.reg a) 0 31 + n < 0x7FFFFFFF
    · rw [State.count31_adds (by omega) hc, State.reg_setReg_same, fldGet_put_same _ _ _ _ (by decide), bitOn_fldPut_count]
      exact ⟨by omega, ⟨.inl, fun h => h.resolve_right (by omega)⟩⟩
    · rw [State.count31_fills_reg ha (by omega) (by omega)]
      exact ⟨(show fldGet 0xFFFFFFFF#32 0 31 = 0x7FFFFFFF by decide).trans (by omega),
        ⟨fun _ => .inr ⟨by omega, by omega⟩, fun _ => by decide⟩⟩

/-- Settles O47, by whether the counter stays as it is, counts below its maximum, or reaches it. -/
theorem countersSaturate : Obligations.CountersSaturate := by
  unfold Obligations.CountersSaturate
  intro s a n ha
  obtain ⟨hcount, hovf⟩ := State.count31_reg_same (s := s) n ha
  refine ⟨hcount, hovf, fun b hb hl => State.count31_reg_other s n (Ne.symm hb) hl, fun h => ?_,
    fun h => State.count31_stays (.inr h)⟩
  by_cases h0 : n = 0
  · exact .inr h0
  · exact .inl (congrArg State.regs (State.count31_adds h0 h))

end Sys2Proof.Machine
end

section
/-! Reads on one path and what the other paths hold (R427). -/

namespace Sys2Proof.Machine

/-- What no step of a fold changes, the fold does not change. -/
theorem foldl_unchanged {σ α β : Type} {f : σ → α → σ} {g : σ → β} (hf : ∀ t x, g (f t x) = g t) (l : List α) (s : σ) :
    g (l.foldl f s) = g s := by
  induction l generalizing s with
  | nil => rfl
  | cons x l ih => exact (ih _).trans (hf s x)

/-! ### What leaves every path -/

theorem State.LogOnly.path {s t : State} (h : s.LogOnly t) (q : Path) : t.path q = s.path q := by
  cases q
  · exact h.pBar0
  · exact h.pMgmt
  · exact h.pJtag

section
variable (s : State) (q : Path)

@[simp] theorem State.setFld_path (f : Fld) (v : Nat) : (s.setFld f v).path q = s.path q := by cases q <;> rfl
@[simp] theorem State.setFlag_path (f : Fld) (b : Bool) : (s.setFlag f b).path q = s.path q := s.setFld_path q f _
@[simp] theorem State.emit_path (o : Out) : (s.emit o).path q = s.path q := by cases q <;> rfl
@[simp] theorem State.drawnN_path (n : Nat) : (s.drawnN n).path q = s.path q := by cases q <;> rfl
@[simp] theorem State.setStr_path (i : Nat) (x : StreamSt) : (s.setStr i x).path q = s.path q := by cases q <;> rfl
@[simp] theorem State.setCapt_path (n : Nat) (l : List CaptEnt) : (s.setCapt n l).path q = s.path q := by cases q <;> rfl
@[simp] theorem State.unsuppress_path (a : Nat) : (s.unsuppress a).path q = s.path q := by cases q <;> rfl
@[simp] theorem State.log_path (c n : Nat) (d : List Byte) : (s.log c n d).path q = s.path q := (s.log_logOnly c n d).path q
@[simp] theorem State.raiseIrq_path (n : Nat) : (s.raiseIrq n).path q = s.path q := (s.raiseIrq_logOnly n).path q

@[simp] theorem State.count31_path (a n : Nat) : (s.count31 a n).path q = s.path q := by
  cases q
  · exact s.count31_pBar0 a n
  · exact s.count31_pMgmt a n
  · exact s.count31_pJtag a n

@[simp] theorem State.aer_path (bit : Nat) (advisory : Bool) (hdr : List Word) : (s.aer bit advisory hdr).path q = s.path q := by
  obtain ⟨_, _, _, _, _, h⟩ := s.aer_logOnly bit advisory hdr
  rw [h.path]; cases q <;> rfl

@[simp] theorem State.aerCorErr_path (bit : Nat) : (s.aerCorErr bit).path q = s.path q := by
  obtain ⟨_, _, h⟩ := s.aerCorErr_logOnly bit
  rw [h.path]; cases q <;> rfl

@[simp] theorem State.bufErr_path (b : BufErr) : (s.bufErr b).path q = s.path q := by
  cases b <;> simp [State.bufErr]

@[simp] theorem State.barUr_path (posted : Bool) (hdr : List Word) : (s.barUr posted hdr).path q = s.path q := by
  cases posted <;> simp [State.barUr]

@[simp] theorem State.unreachable_path (p : Path) (posted : Bool) : (s.unreachable p posted).path q = s.path q := by
  unfold State.unreachable
  split
  · split <;> simp
  · rfl

@[simp] theorem State.highMark_path (notice cross peak : Fld) (old new high : Nat) (irqEn : Bool) (src : Nat) :
    (s.highMark notice cross peak old new high irqEn src).path q = s.path q := by
  unfold State.highMark
  extract_lets t was u
  have ht : t.path q = s.path q := s.setFld_path q ..
  have hu : u.path q = s.path q := by simp [u, State.countSmall, ht]
  split
  · split
    · rw [State.raiseIrq_path, hu]
    · exact hu
  · exact ht

@[simp] theorem State.queueReset_path (i : Nat) : (s.queueReset i).path q = s.path q := by
  simp [State.queueReset, State.setQueue]

/-- A reader of a queue's pointers that does nothing more. -/
@[simp] theorem State.onQueue_path (i : Nat) : (s.onQueue i fun s => s).path q = s.path q := by
  unfold State.onQueue
  split <;> simp

end

/-! ### What a read on one path leaves on another -/

theorem State.setPath_path_eq (s : State) (p q : Path) (x : PathSt) : (s.setPath p x).path q = if q = p then x else s.path q := by
  cases p <;> cases q <;> rfl

section
variable (s : State) {p q : Path} (h : q ≠ p)
include h

theorem State.setPath_path_other (x : PathSt) : (s.setPath p x).path q = s.path q := by
  rw [State.setPath_path_eq, if_neg h]

theorem State.latchHi_path_other (a : Nat) (v : Word) : (s.latchHi p a v).path q = s.path q := s.setPath_path_other h _

theorem State.latchAll_path_other (l : List Nat) : (s.latchAll p l).path q = s.path q :=
  foldl_unchanged (g := (State.path · q)) (fun t _ => t.latchHi_path_other h _ _) l s

theorem State.captRead_path_other (n : Nat) : (s.captRead p n).path q = s.path q := by
  unfold State.captRead
  split <;> simp [State.latchHi_path_other _ h]

theorem State.windowRead_path_other (w : Nat) : (s.windowRead p w).path q = s.path q := by
  unfold State.windowRead
  extract_lets v t
  split
  · exact (State.setPath_path_other _ h _).trans (s.answer_path p q v)
  · exact s.answer_path p q v

theorem State.readReg_path_other (a : Nat) (r : RegRow) (ix : List Nat) : (s.readReg p a r ix).path q = s.path q := by
  unfold State.readReg
  extract_lets t1 t2 t3
  have h2 : t2.path q = s.path q := by unfold t2; split <;> simp [t1]
  have h3 : t3.path q = s.path q := by unfold t3; split <;> simp [h2]
  clear_value t3
  split
  · rw [State.captRead_path_other _ h, h3]
  · rw [State.windowRead_path_other _ h, h3]
  · split <;> simp [State.latchAll_path_other _ h, h3]
  · split <;> simp [State.latchAll_path_other _ h, h3]
  · simp [State.latchAll_path_other _ h, h3]
  · simp [h3]
  · simp [h3]

omit h in
theorem State.guardedRead_path (a : Nat) {act : State → State} (hact : ∀ t, (act t).path q = t.path q) :
    (s.guardedRead p a act).path q = s.path q := by
  unfold State.guardedRead
  split
  · simp
  · split <;> simp [hact]

theorem State.readAddr_path_other (a : Nat) : (s.readAddr p a).path q = s.path q := by
  unfold State.readAddr
  refine s.guardedRead_path _ fun t => ?_
  split
  · simp
  · split
    · exact t.readReg_path_other h _ _ _
    · split <;> simp

theorem State.readBytes_path_other (a : Nat) (be : BitVec 4) (ue : Bool) : (s.readBytes p a be ue).path q = s.path q := by
  unfold State.readBytes
  extract_lets t
  have ht : t.path q = s.path q := s.readAddr_path_other h a
  split
  · exact ht
  · rw [← ht]; cases q <;> rfl

theorem State.readRegs_path_other (a : Nat) (l : List (BitVec 4)) (buf : BufErr) : (s.readRegs p a l buf).path q = s.path q := by
  unfold State.readRegs
  extract_lets t
  have ht : t.path q = s.path q := by unfold t; split <;> simp
  exact (foldl_unchanged (g := (State.path · q)) (fun t _ => t.readBytes_path_other h _ _ _) _ t).trans ht

theorem State.readCmd_path_other (a : Nat) (l : List (BitVec 4)) (buf : BufErr) : (s.readCmd p a l buf).path q = s.path q := by
  unfold State.readCmd
  split
  · exact s.readRegs_path_other h _ _ _
  · unfold State.notTaken; split <;> simp
end

/-- Settles O56: a read latches and moves on for its own path alone, and what it reports is no path's. -/
theorem pathsApart : Obligations.PathsApart := by
  unfold Obligations.PathsApart
  intro s t p q a be more buf h e
  obtain rfl : s.readCmd p (wordAddr a) (be :: more) buf = t := e.elim Host.Outcome.next.inj Host.Outcome.next.inj
  exact s.readCmd_path_other h ..

end Sys2Proof.Machine
end

section
/-! Fields apart, and commands with GO. -/

namespace Sys2Proof.Machine

/-- Two fields that share no bit, as far as their constants tell. -/
def Fld.apart (f g : Fld) : Bool := Nat.ble (f.lo + f.w) g.lo || (Nat.ble (g.lo + g.w) f.lo || f.addr != g.addr)

theorem Fld.apart_spec {f g : Fld} (h : f.apart g = true) : f.addr ≠ g.addr ∨ f.lo + f.w ≤ g.lo ∨ g.lo + g.w ≤ f.lo := by
  simpa [Fld.apart, Nat.ble_eq, or_comm, or_assoc, or_left_comm] using h

/-- A field lies within its word. -/
def Fld.fits (f : Fld) : Bool := Nat.ble (f.lo + f.w) 32

section
variable (s : State) {f g : Fld}

theorem State.fld_setFld_apart (v : Nat) (h : f.apart g = true) : (s.setFld f v).fld g = s.fld g :=
  s.fld_setFld_other _ _ _ (Fld.apart_spec h)

theorem State.fld_setFld_fits (v : Nat) (h : f.fits = true) : (s.setFld f v).fld f = v % 2 ^ f.w :=
  s.fld_setFld_same _ _ (Nat.le_of_ble_eq_true h)

theorem State.flag_setFld_apart (v : Nat) (h : f.apart g = true) : (s.setFld f v).flag g = s.flag g :=
  s.flag_setFld_other _ _ _ (Fld.apart_spec h)

theorem State.fld_setFlag_apart (b : Bool) (h : f.apart g = true) : (s.setFlag f b).fld g = s.fld g :=
  s.fld_setFld_apart _ h

/-- A flag reads as it was set. -/
theorem State.flag_setFlag_bit (b : Bool) (h : f.fits = true) (hw : f.w = 1) : (s.setFlag f b).flag f = b :=
  s.flag_setFlag_same _ _ (hw ▸ Nat.le_of_ble_eq_true h) hw

end

/-! ### Commands with GO -/

theorem bitOn_goOp (v : Word) (lo op : Nat) : bitOn (goOp v lo op) 31 = true := by simp [bitOn, goOp]

/-- GO leaves every field below it. -/
theorem fldGet_goOp (v : Word) (lo op : Nat) {lo' w : Nat} (h : lo' + w ≤ 31) :
    fldGet (goOp v lo op) lo' w = fldGet (fldPut v lo 2 op) lo' w := by
  refine fldGet_congr fun k _ hk => ?_
  have hk : (0x80000000#32).getLsbD k = false := by
    rw [show (0x80000000#32) = BitVec.twoPow 32 31 by decide, BitVec.getLsbD_twoPow]
    simp; omega
  rw [goOp, BitVec.getLsbD_or, hk, Bool.or_false]

theorem fldGet_goOp_op (v : Word) {lo op : Nat} (h : lo + 2 ≤ 31) (hop : op < 4) : fldGet (goOp v lo op) lo 2 = op := by
  rw [fldGet_goOp v lo op h, fldGet_put_same _ _ _ _ (by omega)]
  exact Nat.mod_eq_of_lt hop

theorem fldGet_goOp_other (v : Word) (lo op : Nat) {lo' w : Nat} (h : lo' + w ≤ 31) (ho : lo + 2 ≤ lo' ∨ lo' + w ≤ lo) :
    fldGet (goOp v lo op) lo' w = fldGet v lo' w := by
  rw [fldGet_goOp v lo op h, fldGet_put_other _ _ _ _ _ _ ho]

end Sys2Proof.Machine
end

section
/-! The JTAG instructions (R346, R347). -/

namespace Sys2Proof.Machine

section
variable {s : State} (hcore : s.core = true)
include hcore

/-- The port of a powered core takes an instruction that is allowed, and BYPASS in place of one that is not. -/
theorem State.jtag_core (j : Jtag) (ok : Bool) : s.jtag j ok = { s with sec := { s.sec with jtag := if ok then j else .bypass } } :=
  if_pos hcore

/-- REGACC of a register that is open to it. -/
theorem State.regacc_open {a : Nat} (h : (s.jtag .regacc true).regaccOpen a = true) (v : Word) :
    s.regacc a (some v) = (s.jtag .regacc true).writeAddr .jtag a v ∧ s.regacc a none = (s.jtag .regacc true).readAddr .jtag a := by
  simp [State.regacc, hcore, h]

/-- REGACC of a register that is not open to it. -/
theorem State.regacc_locked {a : Nat} (h : (s.jtag .regacc true).regaccOpen a = false) (v : Word) :
    s.regacc a (some v) = s.jtag .regacc true ∧ s.regacc a none = (s.jtag .regacc true).answer .jtag 0#32 := by
  simp [State.regacc, hcore, h]

theorem exec_idcode_core : exec .idcode s = .next ((s.jtag .idcode true).answer .jtag (BitVec.ofNat 32 (s.free 32))).drawn :=
  congrArg Host.Outcome.next (if_pos hcore)

end

theorem State.scopeOpen_of {s : State} {k : Nat} (h : s.lc ≠ 2 ∨ (s.fld F.SEC_STAT_DBG_SCOPE).testBit k = true) :
    s.scopeOpen k = true := by
  rcases h with h | h <;> simp [State.scopeOpen, h]

theorem State.scopeOpen_closed {s : State} {k : Nat} (hlc : s.lc = 2) (h : (s.fld F.SEC_STAT_DBG_SCOPE).testBit k = false) :
    s.scopeOpen k = false := by simp [State.scopeOpen, hlc, h]

/-- The instructions whose scope is that of the boundary scan. -/
theorem exec_boundaryScan (s : State) : exec .extest s = .next (s.jtag .extest (s.scopeOpen 0)) ∧
    exec .intest s = .next (s.jtag .intest (s.scopeOpen 0)) ∧ exec .clamp s = .next (s.jtag .clamp (s.scopeOpen 0)) ∧
    exec .highz s = .next (s.jtag .highz (s.scopeOpen 0)) := ⟨rfl, rfl, rfl, rfl⟩

/-- Settles O37, by whether an instruction's scope is open. -/
theorem jtagInstructions : Obligations.JtagInstructions := by
  unfold Obligations.JtagInstructions
  refine ⟨fun s hcore => ⟨?bypass, ?sample, ?idcode⟩, fun s hcore => ⟨fun h => ?scanOpen, fun h => ?traceOpen⟩,
    fun s hcore hlc => ⟨fun h => ?scanClosed, fun h => ?traceClosed⟩, ?regacc⟩
  case bypass => exact congrArg Host.Outcome.next (State.jtag_core hcore ..)
  case sample => exact congrArg Host.Outcome.next (State.jtag_core hcore ..)
  case idcode =>
    rw [exec_idcode_core hcore, State.jtag_core hcore]
    exact ⟨_, rfl, rfl, rfl, rfl, rfl⟩
  case scanOpen =>
    obtain ⟨e, i, c, z⟩ := exec_boundaryScan s
    rw [e, i, c, z, State.scopeOpen_of h]
    simp only [State.jtag_core hcore, if_true, and_self]
  case traceOpen =>
    show Host.Outcome.next (s.jtag .trace (s.scopeOpen 2)) = _
    rw [State.scopeOpen_of h, State.jtag_core hcore, if_pos rfl]
  case scanClosed =>
    obtain ⟨e, i, c, z⟩ := exec_boundaryScan s
    simp [e, i, c, z, State.scopeOpen_closed hlc h, State.jtag_core hcore]
  case traceClosed =>
    show Host.Outcome.next (s.jtag .trace (s.scopeOpen 2)) = _
    simp [State.scopeOpen_closed hlc h, State.jtag_core hcore]
  case regacc =>
    rintro s j a v hcore rfl
    refine ⟨fun h => ?_, fun h => ?_⟩
    · obtain ⟨hw, hr⟩ := State.regacc_open hcore h v
      exact ⟨congrArg Host.Outcome.next hw, congrArg Host.Outcome.next hr⟩
    · obtain ⟨hw, hr⟩ := State.regacc_locked hcore h v
      exact ⟨congrArg Host.Outcome.next hw, congrArg Host.Outcome.next hr⟩

end Sys2Proof.Machine
end

section
/-! The lead-wire ports (R364-R367). -/

namespace Sys2Proof.Machine

/-! ### A transaction on the bus -/

section
variable (s : State) (w : Nat)

@[simp] theorem State.lwSend_fld (f : Fld) : (s.lwSend w).fld f = s.fld f := rfl
@[simp] theorem State.lwSend_data : (s.lwSend w).data = s.data := rfl
@[simp] theorem State.lwEnd_data (result acked : Nat) : (s.lwEnd w result acked).data = s.data := rfl

theorem State.lwFreed_free (h : w ∉ s.bus.stuck) : s.lwFreed w = s := if_neg (by simpa using h)

theorem State.lwFreed_stuck (h : w ∈ s.bus.stuck) : s.lwFreed w =
    ({ s with bus := { s.bus with stuck := s.bus.stuck.filter (· != w) } } : State).lwSend w := if_pos (by simpa using h)

/-- A recovery that frees the bus leaves every register and the commands as they stand. -/
theorem State.lwFreed_frame : (s.lwFreed w).regs = s.regs ∧ (s.lwFreed w).bus.lwCmd = s.bus.lwCmd := by
  by_cases h : w ∈ s.bus.stuck
  · rw [s.lwFreed_stuck w h]; exact ⟨rfl, rfl⟩
  · rw [s.lwFreed_free w h]; exact ⟨rfl, rfl⟩

theorem State.lwWlen_congr {s t : State} (h : t.bus.lwCmd = s.bus.lwCmd) (w : Nat) : t.lwWlen w = s.lwWlen w := by
  unfold State.lwWlen State.lwWord; rw [h]

end

/-! ### GO (R364) -/

section
variable {s : State} {w : Nat} {v : Word}

/-- What GO leaves in the port's state, with the command it found. -/
def State.lwBegun (s : State) (w : Nat) (v : Word) : State :=
  ((({ s.plainWrite (A.LW_CMD w) v with bus := { s.bus with lwCmd := tblSet (fun _ => 0#32) s.bus.lwCmd w v } } : State).lwEnd
    w 0 0).setFld (F.LW_STAT_RETRIES w) 0).setFld (F.LW_STAT_STATE w) 1

theorem State.lwCmd_refused (hgo : bitOn v 31 = true) (h : s.fld (F.LW_STAT_STATE w) = 1 ∨ s.flag (F.LW_CFG_EN w) = false) :
    s.lwCmd w v = s.setFlag (F.LW_STAT_GO_REJ w) true := by
  rcases h with h | h <;> simp [State.lwCmd, hgo, h]

/-- GO on a free, enabled port begins the transaction, which waits where the bus is stuck. -/
theorem State.lwCmd_begins (hgo : bitOn v 31 = true) (hop : fldGet v 8 2 ≠ 3) (hst : s.fld (F.LW_STAT_STATE w) ≠ 1)
    (hen : s.flag (F.LW_CFG_EN w) = true) :
    s.lwCmd w v = if s.bus.stuck.contains w then s.lwBegun w v else (s.lwBegun w v).lwSend w := by
  unfold State.lwCmd
  rw [if_neg (by simp [hgo]), if_neg (by simp [hst, hen])]
  extract_lets t b u x y
  have hop' : x.lwOp w ≠ 3 := by
    rw [State.lwOp, State.lwWord, show x.bus.lwCmd = tblSet (fun _ => 0#32) s.bus.lwCmd w v from rfl, tblGet_set_same]
    exact hop
  rw [if_neg hop']
  rfl

theorem State.lwBegun_state : (s.lwBegun w v).fld (F.LW_STAT_STATE w) = 1 :=
  State.fld_setFld_fits _ _ rfl

theorem State.lwBegun_retries : (s.lwBegun w v).fld (F.LW_STAT_RETRIES w) = 0 := by
  unfold State.lwBegun
  simp (disch := exact id rfl) only [State.fld_setFld_apart, State.fld_setFld_fits, Nat.zero_mod]

theorem State.lwBegun_result : (s.lwBegun w v).fld (F.LW_STAT_RESULT w) = 0 := by
  unfold State.lwBegun State.lwEnd
  simp (disch := exact id rfl) only [State.fld_setFld_apart, State.fld_setFld_fits, Nat.zero_mod]

theorem State.lwBegun_data : (s.lwBegun w v).data = s.data := by
  obtain ⟨-, e, -⟩ := State.plainWrite_frame s (A.LW_CMD w) v
  simp [State.lwBegun, e]

end

/-! ### The commands -/

theorem exec_lwGo {s : State} {p : Path} {w : Fin 16} (h : s.Admits p (A.LW_CMD w) false) (v : Word) :
    ∀ i ∈ [Instr.lwWrite p w v, .lwRead p w v, .lwWriteRead p w v],
      ∃ op < 3, exec i s = .next ((s.reached p).lwCmd w (goOp v 8 op)) := by
  simp only [List.forall_mem_cons, List.not_mem_nil, false_implies, implies_true, and_true]
  exact ⟨⟨0, by decide, congrArg Host.Outcome.next (State.guarded_admits h _)⟩,
    ⟨1, by decide, congrArg Host.Outcome.next (State.guarded_admits h _)⟩,
    ⟨2, by decide, congrArg Host.Outcome.next (State.guarded_admits h _)⟩⟩

section
variable {s : State} {w : Nat} (h : s.fld (F.LW_STAT_STATE w) = 1)
include h

theorem State.lwDone_error {r : Nat} (hr : r ≠ 0) (n : Nat) (d : List Byte) : s.lwDone w r n d false =
    (s.lwFreed w).lwEnd w (if r ≤ 2 then r else 6) ((s.lwFreed w).lwAcked w (if r ≤ 2 then r else 6) n) := by
  rw [State.lwDone, if_neg (not_not_intro h)]
  have : (if r ≤ 2 then r else 6) ≠ 0 := by split <;> omega
  simp [this]

theorem State.lwDone_reads {t : State} (hop : (s.lwFreed w).lwOp w ≠ 0) (n : Nat) (d : List Byte)
    (ht : t = (s.lwFreed w).setBuf (A.LW_RBUF w) (padTo ((s.lwFreed w).lwRlen w) d)) :
    s.lwDone w 0 n d false = t.lwEnd w 0 (t.lwAcked w 0 n) := by
  rw [State.lwDone, if_neg (not_not_intro h), ht]
  simp [hop]

theorem State.lwDone_writes (hop : (s.lwFreed w).lwOp w = 0) (n : Nat) (d : List Byte) :
    s.lwDone w 0 n d false = (s.lwFreed w).lwEnd w 0 ((s.lwFreed w).lwAcked w 0 n) := by
  rw [State.lwDone, if_neg (not_not_intro h)]
  simp [hop]

theorem State.lwArbitration_shared {t : State} (hm : s.flag (F.LW_CFG_MULTI w) = true)
    (ht : t = (s.lwFreed w).count31 (A.LW_ARB_LOST w) 1) : s.lwArbitration w =
      if t.fld (F.LW_STAT_RETRIES w) < t.fld (F.LW_CFG_RETRY_LIM w) then
        (t.setFld (F.LW_STAT_RETRIES w) (t.fld (F.LW_STAT_RETRIES w) + 1)).lwSend w
      else t.lwEnd w 3 0 := by
  rw [State.lwArbitration, if_neg (by simp [h, hm]), ht]

theorem State.lwStretch_runs {t : State} (n : Nat) (sda : Bool) (ht : t = (s.lwFreed w).count31 (A.LW_TIMEOUT w) 1) :
    s.lwStretch w n sda = if sda then (t.lwEnd w 4 (min (t.lwWlen w) n)).setFlag (F.LW_STAT_BUS_CLR w) true
      else t.lwEnd w 4 (min (t.lwWlen w) n) := by
  have hlen : t.lwWlen w = s.lwWlen w := State.lwWlen_congr (by rw [ht, State.count31_bus, (s.lwFreed_frame w).2]) w
  rw [State.lwStretch, if_neg (not_not_intro h), hlen, ht]

end

theorem mem_setIns (a : Nat) (l : List Nat) : a ∈ setIns a l := by
  induction l with
  | nil => exact List.mem_singleton.2 rfl
  | cons k l ih =>
    unfold setIns
    split
    · exact List.mem_cons_self
    · split <;> simp_all

/-- A line that stays low after a stretch is a stuck bus (R367). -/
theorem State.lwStuck_stuck {s : State} {w : Nat} (hst : s.fld (F.LW_STAT_STATE w) = 2)
    (hr : s.fld (F.LW_STAT_RESULT w) = 4) : ∃ t, t = (s.setFld (F.LW_STAT_STATE w) 2).setFld (F.LW_STAT_RESULT w) 5 ∧
      s.lwStuck w = { t with bus := { t.bus with stuck := setIns w s.bus.stuck } } := by
  refine ⟨_, rfl, ?_⟩
  unfold State.lwStuck
  extract_lets again
  rw [if_pos (by simp [hst, hr])]
  rfl

theorem State.lwStuck_after_stretch {s : State} {w : Nat} (hst : s.fld (F.LW_STAT_STATE w) = 2)
    (hr : s.fld (F.LW_STAT_RESULT w) = 4) : (s.lwStuck w).fld (F.LW_STAT_STATE w) = 2 ∧
      (s.lwStuck w).fld (F.LW_STAT_RESULT w) = 5 ∧ w ∈ (s.lwStuck w).bus.stuck ∧ (s.lwStuck w).sent = s.sent := by
  obtain ⟨t, ht, e⟩ := State.lwStuck_stuck hst hr
  rw [e]
  refine ⟨?_, ?_, mem_setIns w _, ?_⟩
  · show t.fld _ = _
    rw [ht, State.fld_setFld_apart _ _ rfl, State.fld_setFld_fits _ _ rfl]
    rfl
  · show t.fld _ = _
    rw [ht, State.fld_setFld_fits _ _ rfl]
    rfl
  · rw [ht]
    rfl

/-- Settles O39, one command at a time. -/
theorem leadWirePorts : Obligations.LeadWirePorts := by
  unfold Obligations.LeadWirePorts
  refine ⟨?go, ?done, fun s w => ⟨s.lwFreed_free w, s.lwFreed_stuck w⟩, ?arbitration, ?stretch, ?stuck⟩
  case go =>
    rintro s r p w v hadm rfl i hi
    obtain ⟨op, hop, e⟩ := exec_lwGo hadm v i hi
    have hgo := bitOn_goOp v 8 op
    have hop : fldGet (goOp v 8 op) 8 2 ≠ 3 := by rw [fldGet_goOp_op v (by decide) (by omega)]; omega
    rw [e]
    refine ⟨fun hst hen => ⟨_, rfl, ?_⟩, fun h => congrArg Host.Outcome.next (State.lwCmd_refused hgo h)⟩
    rw [State.lwCmd_begins hgo hop hst hen]
    split
    · exact ⟨State.lwBegun_state, State.lwBegun_retries, State.lwBegun_result, State.lwBegun_data⟩
    · rw [State.lwSend_fld, State.lwSend_fld, State.lwSend_fld, State.lwSend_data]
      exact ⟨State.lwBegun_state, State.lwBegun_retries, State.lwBegun_result, State.lwBegun_data⟩
  case done =>
    rintro s u w r n d hcore hst rfl
    have e : exec (.lwTransactionDone w r n d false) s = .next (s.lwDone w r n d false) :=
      congrArg Host.Outcome.next (if_pos hcore)
    have hres : (if r.val ≤ 2 then r.val else 6) = if r.val = 3 then 6 else r.val := by split <;> split <;> omega
    refine ⟨fun hr => ?_, fun hr hop => ?_, fun hr hop => ?_⟩
    · rw [e, State.lwDone_error hst hr, hres]
    · rw [e, hr, State.lwDone_reads hst hop n d rfl]
    · rw [e, hr, State.lwDone_writes hst hop]
  case arbitration =>
    intro s t w hcore hst hm ht
    have e : exec (.lwArbitrationRetry w) s = .next (s.lwArbitration w) := congrArg Host.Outcome.next (if_pos hcore)
    rw [e, State.lwArbitration_shared hst hm ht]
    exact ⟨fun h => by rw [if_neg (Nat.not_lt.2 h)], fun h => by rw [if_pos h]⟩
  case stretch =>
    intro s t w n hcore hst ht
    have e : ∀ sda, exec (.lwStretchTimeout w n sda) s = .next (s.lwStretch w n sda) := fun _ =>
      congrArg Host.Outcome.next (if_pos hcore)
    rw [e, e, State.lwStretch_runs hst _ _ ht, State.lwStretch_runs hst _ _ ht]
    exact ⟨rfl, rfl⟩
  case stuck =>
    intro s w hcore hst hr
    exact ⟨s.lwStuck w, congrArg Host.Outcome.next (if_pos hcore), State.lwStuck_after_stretch hst hr⟩

end Sys2Proof.Machine
end

section
/-! The tunnel (R368, R369). -/

namespace Sys2Proof.Machine

/-! ### GO on a slot (R368) -/

section
variable {s : State} {k : Nat} {v : Word} (hgo : bitOn v 31 = true)
include hgo

theorem State.tunCmd_refused (h : s.fld (F.TUN_STAT_STATE k) = 1 ∨ s.fld (F.TUN_STAT_STATE k) = 2)
    (hfree : ∃ j, j < 64 ∧ s.fld (F.TUN_STAT_STATE j) ≠ 1 ∧ s.fld (F.TUN_STAT_STATE j) ≠ 2) :
    s.tunCmd k v = s.setFlag F.MGT_TUN_STAT_GO_REJ true := by
  obtain ⟨j, hj, h1, h2⟩ := hfree
  rw [State.tunCmd, if_neg (by simp [hgo]), if_pos (by simpa using h), if_neg]
  rw [List.all_eq_true]
  intro hall
  have := hall j (List.mem_range.2 hj)
  simp_all

theorem State.tunCmd_full (h : s.fld (F.TUN_STAT_STATE k) = 1 ∨ s.fld (F.TUN_STAT_STATE k) = 2)
    (hall : ∀ j, j < 64 → s.fld (F.TUN_STAT_STATE j) = 1 ∨ s.fld (F.TUN_STAT_STATE j) = 2) :
    s.tunCmd k v = (s.setFlag F.MGT_TUN_STAT_GO_REJ true).tableFull 6 := by
  rw [State.tunCmd, if_neg (by simp [hgo]), if_pos (by simpa using h), if_pos]
  exact List.all_eq_true.2 fun j hj => by simpa using hall j (List.mem_range.1 hj)

variable (hst : s.fld (F.TUN_STAT_STATE k) = 0 ∨ s.fld (F.TUN_STAT_STATE k) = 3)
include hst

/-- GO on a free slot, by what the command and the node say. -/
theorem State.tunCmd_takes {t : State} (hop : fldGet v 9 2 ≠ 3)
    (ht : t = { s.plainWrite (A.TUN_CMD k) v with bus := { s.bus with tunCmd := tblSet (fun _ => 0#32) s.bus.tunCmd k v } }) :
    s.tunCmd k v =
      if 16 < fldGet v 18 5 ∨ 16 < fldGet v 23 5 then t.tunDone k 8 0
      else if t.flag (F.NODE_ENT_PRESENT (t.tunNa k)) = false then t.tunDone k 7 0
      else ({ ((t.setFld (F.TUN_STAT_STATE k) 1).setFld (F.TUN_STAT_RESULT k) 0).setFld (F.TUN_STAT_ACKED k) 0 with
        bus := { t.bus with order := t.bus.order.filter (· != k) ++ [k] } } : State).tunPump := by
  have hfree : ¬ ((s.fld (F.TUN_STAT_STATE k) == 1 || s.fld (F.TUN_STAT_STATE k) == 2) = true) := by
    rcases hst with h | h <;> simp [h]
  rw [State.tunCmd, if_neg (by simp [hgo]), if_neg hfree, ht]
  simp only [hop, or_false, Bool.not_eq_true']
  rfl

end

/-! ### The commands -/

theorem exec_tunGo {s : State} {p : Path} {k : Fin 64} (h : s.Admits p (A.TUN_CMD k) false) (v : Word) {op : Nat} {i : Instr}
    (hi : (op, i) ∈ [(0, Instr.tunWrite p k v), (1, .tunRead p k v), (2, .tunWriteRead p k v)]) :
    op < 3 ∧ exec i s = .next ((s.reached p).tunCmd k (goOp v 9 op)) := by
  simp only [List.mem_cons, Prod.mk.injEq, List.not_mem_nil, or_false] at hi
  rcases hi with ⟨rfl, rfl⟩ | ⟨rfl, rfl⟩ | ⟨rfl, rfl⟩
  · exact ⟨by decide, congrArg Host.Outcome.next (State.guarded_admits h _)⟩
  · exact ⟨by decide, congrArg Host.Outcome.next (State.guarded_admits h _)⟩
  · exact ⟨by decide, congrArg Host.Outcome.next (State.guarded_admits h _)⟩

theorem exec_ctrlReply {s : State} (h : s.Runs) (p : Fin 64) (pos : Fin 8) (txn : Byte) (st : Fin 6) (n : Fin 32)
    (d : List Byte) :
    exec (.ctrlReply p pos txn st n d) s = .next (s.tunReply (nodeAddr p pos) txn.toNat st n d) := by
  obtain ⟨hup, hfw⟩ := h
  rw [show exec (.ctrlReply p pos txn st n d) s = .next (s.whenUp fun s => if s.start.fwBusy then s
    else s.tunReply (nodeAddr p pos) txn.toNat st n d) from rfl, State.whenUp_up hup, if_neg (by simp [hfw])]

theorem State.tunReply_mine {s : State} {na txn : Nat} (h : s.fld (F.TUN_STAT_STATE (txn % 64)) = 2)
    (hna : s.tunNa (txn % 64) = na) (htxn : s.fld (F.TUN_STAT_TXN (txn % 64)) = txn) (st n : Nat) (d : List Byte) {u : State}
    (hu : u = s.tunDone (txn % 64) (st + 1) n) : s.tunReply na txn st n d =
      (if st = 0 then u.setBuf (A.TUN_RDATA (txn % 64)) (padTo 16 d)
       else if st = 2 then u.setBuf (A.TUN_RDATA (txn % 64)) (padTo (min 16 n) d) else u).tunPump := by
  rw [State.tunReply, if_pos ⟨h, hna, htxn⟩, hu]

theorem State.tunReply_stray {s : State} {na txn : Nat} (h : s.fld (F.TUN_STAT_STATE (txn % 64)) ≠ 2 ∨
    s.tunNa (txn % 64) ≠ na ∨ s.fld (F.TUN_STAT_TXN (txn % 64)) ≠ txn) (st n : Nat) (d : List Byte) :
    s.tunReply na txn st n d = s.count31 A.MGT_TUN_STRAY 1 :=
  if_neg fun ⟨hst, hna, htxn⟩ => by simp_all

/-- Settles O40, one command at a time. -/
theorem tunnelSlots : Obligations.TunnelSlots := by
  unfold Obligations.TunnelSlots
  refine ⟨?busy, ?free, ?reply, ?timeout⟩
  case busy =>
    rintro s r p k v hadm rfl hst i hi
    obtain ⟨op, e⟩ : ∃ op, exec i s = .next ((s.reached p).tunCmd k (goOp v 9 op)) := by
      simp only [List.mem_cons, List.not_mem_nil, or_false] at hi
      rcases hi with rfl | rfl | rfl
      · exact ⟨0, (exec_tunGo hadm v (by simp)).2⟩
      · exact ⟨1, (exec_tunGo hadm v (by simp)).2⟩
      · exact ⟨2, (exec_tunGo hadm v (by simp)).2⟩
    have hgo := bitOn_goOp v 9 op
    rw [e]
    exact ⟨fun h => congrArg Host.Outcome.next (State.tunCmd_refused hgo hst h),
      fun h => congrArg Host.Outcome.next (State.tunCmd_full hgo hst h)⟩
  case free =>
    rintro s r t p k v op i hadm rfl hst hi ht
    obtain ⟨hop, e⟩ := exec_tunGo hadm v hi
    have hop : fldGet (goOp v 9 op) 9 2 ≠ 3 := by rw [fldGet_goOp_op v (by decide) (by omega)]; omega
    rw [e, State.tunCmd_takes (bitOn_goOp v 9 op) hst hop ht, fldGet_goOp_other v 9 op (by decide) (by decide),
      fldGet_goOp_other v 9 op (by decide) (by decide)]
    refine ⟨fun h => by rw [if_pos h], fun h1 h2 hn => ?_, fun h1 h2 hn => ?_⟩
    · rw [if_neg (by omega), if_pos hn]
    · rw [if_neg (by omega), if_neg (by simp [hn])]
  case reply =>
    rintro s u p pos txn st n d k hrun rfl hu
    rw [exec_ctrlReply hrun]
    refine ⟨fun h hna htxn => ?_, fun h => congrArg Host.Outcome.next (State.tunReply_stray h _ _ _)⟩
    rw [State.tunReply_mine h hna htxn st n d hu]
    exact ⟨fun h0 => by rw [if_pos h0], fun h2 => by rw [if_neg (by omega), if_pos h2],
      fun h0 h2 => by rw [if_neg h0, if_neg h2]⟩
  case timeout =>
    intro s k hrun hst
    rw [show exec (.tunnelTimeout k) s = .next (s.whenUp fun s => s.tunTimeout k) from rfl, State.whenUp_up hrun,
      State.tunTimeout, if_pos (.inl hst)]

end Sys2Proof.Machine
end

section
/-! Life cycle, fuses and operation results (R329-R333). -/

namespace Sys2Proof.Machine

/-! ### Keyed writes -/

/-- The key of a keyed write stands in the upper half of its word. -/
theorem fldGet_keyed (k : BitVec 16) {c : Word} (hc : fldGet c 16 16 = 0) : fldGet (k.setWidth 32 <<< 16 ||| c) 16 16 = k.toNat := by
  have hc : c.extractLsb' 16 16 = 0#16 := BitVec.eq_of_toNat_eq hc
  have hk : (k.setWidth 32 <<< 16).extractLsb' 16 16 = k := by
    ext i hi
    simp [BitVec.getElem_extractLsb', hi, show 16 + i < 32 by omega, BitVec.getLsbD_eq_getElem]
  rw [fldGet, BitVec.extractLsb'_or, hc, hk, BitVec.or_zero]

/-- The key leaves the command bits below it. -/
theorem bitOn_keyed (k : BitVec 16) (c : Word) {i : Nat} (h : i < 16) : bitOn (k.setWidth 32 <<< 16 ||| c) i = bitOn c i := by
  simp [bitOn, h]

theorem fldGet_keyed_low (k : BitVec 16) (c : Word) {lo w : Nat} (h : lo + w ≤ 16) :
    fldGet (k.setWidth 32 <<< 16 ||| c) lo w = fldGet c lo w :=
  fldGet_congr fun i _ hi => by simp [show i < 16 by omega]

/-! ### Operations of the security block -/

section
variable {s : State}

theorem State.secOp_idle (h : s.flag F.SEC_OP_STAT_BUSY = false) (act : State → State) : s.secOp act = act s :=
  if_neg (by simp [h])

theorem State.secOp_busy (h : s.flag F.SEC_OP_STAT_BUSY = true) (act : State → State) :
    s.secOp act = s.setFlag F.SEC_OP_STAT_REJ true := if_pos h

/-- The end of an operation that is no token's publishes its result. -/
theorem State.endOp_plain {op r : Nat} {l : List Byte} (h : s.sec.op = some (op, r, l)) (hop : op ≠ 3) :
    s.endOp = (({ s with sec := { s.sec with op := none } } : State).setFlag F.SEC_OP_STAT_BUSY false).setFld
      F.SEC_OP_STAT_RESULT r := by
  rw [State.endOp, h]
  exact if_neg hop

theorem State.otpGo_idle (h : s.flag F.SEC_OP_STAT_BUSY = false) : s.otpGo =
    (s.otpProg (s.fld F.SEC_OTP_ADDR_WORD * 4) (s.reg A.SEC_OTP_DATA)).1.beginOp 2
      (if (s.otpProg (s.fld F.SEC_OTP_ADDR_WORD * 4) (s.reg A.SEC_OTP_DATA)).2 = true then resOk else resRefused) [] := by
  rw [State.otpGo, State.secOp_idle h]

theorem State.rollCommit_idle {im : Image} (h : s.flag F.SEC_OP_STAT_BUSY = false) (him : s.image = some im) : s.rollCommit =
    if s.sec.coldImage = true ∧ s.start.clearDue = [] then
      (s.fuse 0x140 (leBytes 32 (2 ^ min im.secVer 256 - 1))).beginOp 4 resOk []
    else s.beginOp 4 resRefused [] := by
  rw [State.rollCommit, State.secOp_idle h]
  simp [him]

/-- A fuse only sets bits (R330). -/
theorem State.fuse_fusesIn (o : Nat) (l : List Byte) : s.FusesIn (s.fuse o l) := (State.fuse_keeps o l (.refl s)).otp

/-! ### Life-cycle commands (R329, R331) -/

theorem State.lcCtrl_runs {p : Path} {c : Word} (hp : p ≠ .bar0) (hc : fldGet c 16 16 = 0) (hb : s.flag F.SEC_OP_STAT_BUSY = false) :
    s.lcCtrl p ((0x4C43#16).setWidth 32 <<< 16 ||| c) =
      (s.lcRun (fldGet c 0 2)).1.beginOp 1 (if (s.lcRun (fldGet c 0 2)).2 then resOk else resRefused) [] := by
  have hkey : fldGet ((0x4C43#16).setWidth 32 <<< 16 ||| c) 16 16 = 0x4C43 := fldGet_keyed _ hc
  rw [State.lcCtrl, if_neg (not_or.2 ⟨hp, not_not_intro hkey⟩), State.secOp_idle hb, fldGet_keyed_low _ _ (by decide)]

theorem State.lcCtrl_refused {p : Path} {k : BitVec 16} {c : Word} (hc : fldGet c 16 16 = 0) (h : p = .bar0 ∨ k ≠ 0x4C43#16) :
    s.lcCtrl p (k.setWidth 32 <<< 16 ||| c) = s.setFld F.SEC_OP_STAT_RESULT resRefused := by
  refine if_pos (h.imp_right fun hk => ?_)
  rw [fldGet_keyed k hc]
  exact fun e => hk (BitVec.eq_of_toNat_eq e)

end

/-- A life-cycle command: its bits, and the command that gives it. -/
theorem exec_lc {s : State} {p : Path} (h : s.Admits p A.SEC_LC_CTRL false) (k : BitVec 16) :
    exec (.genDus p k) s = .next ((s.reached p).lcCtrl p (k.setWidth 32 <<< 16 ||| 1#32)) ∧
    exec (.provision p k) s = .next ((s.reached p).lcCtrl p (k.setWidth 32 <<< 16 ||| 2#32)) ∧
    exec (.field p k) s = .next ((s.reached p).lcCtrl p (k.setWidth 32 <<< 16 ||| 3#32)) :=
  ⟨congrArg Host.Outcome.next (State.guarded_admits h _), congrArg Host.Outcome.next (State.guarded_admits h _),
    congrArg Host.Outcome.next (State.guarded_admits h _)⟩

/-- Settles O35, one command at a time. -/
theorem lifeCycle : Obligations.LifeCycle := by
  unfold Obligations.LifeCycle
  refine ⟨?keyed, ?refused, ?otp, ?roll, fun s l o => s.fuse_fusesIn o l, ?done⟩
  case keyed =>
    intro s p hadm hp hb
    obtain ⟨edus, eprov, efield⟩ := exec_lc hadm 0x4C43#16
    rw [edus, eprov, efield, State.reached_of_ne_bar0 hp, State.lcCtrl_runs hp (by decide) hb,
      State.lcCtrl_runs hp (by decide) hb, State.lcCtrl_runs hp (by decide) hb,
      show fldGet 1#32 0 2 = 1 by decide, show fldGet 2#32 0 2 = 2 by decide, show fldGet 3#32 0 2 = 3 by decide]
    refine ⟨fun h => ?_, fun h => ?_, fun h0 h1 h2 h3 => ?_, fun h => ?_, fun h0 h1 => ?_, fun h => ?_⟩
    all_goals simp [State.lcRun, *]
  case refused =>
    rintro s r p k hadm rfl h i hi
    obtain ⟨edus, eprov, efield⟩ := exec_lc hadm k
    simp only [List.mem_cons, List.not_mem_nil, or_false] at hi
    rcases hi with rfl | rfl | rfl
    · rw [edus, State.lcCtrl_refused (by decide) h]
    · rw [eprov, State.lcCtrl_refused (by decide) h]
    · rw [efield, State.lcCtrl_refused (by decide) h]
  case otp =>
    rintro s r p o hadm rfl rfl
    rw [show exec (.secOtpProg p) s = .next (s.reached p).otpGo from congrArg Host.Outcome.next (State.guarded_admits hadm _)]
    exact ⟨fun hb => congrArg Host.Outcome.next (State.otpGo_idle hb), fun hb => congrArg Host.Outcome.next (State.secOp_busy hb _)⟩
  case roll =>
    rintro s r p im hadm rfl hb him
    rw [show exec (.secRollCtrlCommit p) s = .next (s.reached p).rollCommit from
      congrArg Host.Outcome.next (State.guarded_admits hadm _), State.rollCommit_idle hb him]
    refine ⟨fun hc hd => by rw [if_pos ⟨hc, hd⟩], fun h => by rw [if_neg]; rintro ⟨hc, hd⟩; simp_all⟩
  case done =>
    intro s op r hcore hop hne
    refine ⟨s.endOp, congrArg Host.Outcome.next (if_pos hcore), ?_⟩
    rw [State.endOp_plain hop hne]
    refine ⟨?_, State.fld_setFld_fits _ _ rfl, rfl⟩
    rw [State.flag_setFld_apart _ _ rfl, State.flag_setFlag_bit _ _ rfl rfl]

end Sys2Proof.Machine
end

section
/-! What logging leaves in the ledger and of a clearing (R394, R397). -/

namespace Sys2Proof.Machine

/-- What logging leaves in the ledger and of a clearing: only the number of the next record and the count of events dropped
move. -/
structure State.CountsStay (s t : State) : Prop where
  led : ∃ q d, t.led = { s.led with recSeq := q, dropped := d }
  clear : t.recs.clear = s.recs.clear

namespace State.CountsStay

theorem same {s t : State} (hl : t.led = s.led) (hc : t.recs.clear = s.recs.clear) : s.CountsStay t :=
  ⟨⟨s.led.recSeq, s.led.dropped, hl⟩, hc⟩

theorem refl (s : State) : s.CountsStay s := same rfl rfl

theorem trans {s t u : State} (h : s.CountsStay t) (h' : t.CountsStay u) : s.CountsStay u := by
  obtain ⟨⟨_, _, hl⟩, hc⟩ := h
  obtain ⟨⟨_, _, hl'⟩, hc'⟩ := h'
  exact ⟨⟨_, _, hl'.trans (by rw [hl])⟩, hc'.trans hc⟩

theorem foldl {α : Type} {s t : State} {f : State → α → State} (h : s.CountsStay t)
    (hf : ∀ (t : State) (x : α), t.CountsStay (f t x)) (l : List α) : s.CountsStay (l.foldl f t) := by
  induction l generalizing t with
  | nil => exact h
  | cons x l ih => exact ih (h.trans (hf t x))

section
variable {s t : State} (h : s.CountsStay t)
include h

theorem opsec : t.led.opsec = s.led.opsec := by obtain ⟨⟨_, _, hl⟩, -⟩ := h; rw [hl]

end
end State.CountsStay

theorem State.exitL1_countsStay (s : State) : s.CountsStay s.exitL1 := by
  obtain ⟨_, _, _, e⟩ := s.exitL1_eq
  rw [e]; exact .same rfl rfl

theorem State.raiseIrq_countsStay (s : State) (n : Nat) : s.CountsStay (s.raiseIrq n) := by
  unfold State.raiseIrq
  extract_lets _ t
  have h : s.CountsStay t := .same rfl rfl
  clear_value t
  split
  · exact h
  · split
    · split
      · exact h.trans (.same rfl rfl)
      · exact (h.trans t.exitL1_countsStay).trans (.same rfl rfl)
    · split
      · exact h.trans (.same rfl rfl)
      · exact (h.trans t.exitL1_countsStay).trans (.same rfl rfl)
    · unfold State.syncInta
      extract_lets want
      split
      · exact h
      · exact (h.trans t.exitL1_countsStay).trans (.same rfl rfl)
    · exact h

theorem State.openRec_countsStay (n : Nat) (s : State) (e : Event) : s.CountsStay (State.openRec n s e) := by
  induction n generalizing s e with
  | zero => exact .refl s
  | succ n ih =>
    unfold State.openRec
    extract_lets slot ev head rs t r q u v
    split
    · exact .refl s
    · split
      · refine .trans ?_ (ih _ _)
        exact .same rfl rfl
      · refine .trans ?_ (State.raiseIrq_countsStay _ _)
        exact ⟨⟨_, _, rfl⟩, rfl⟩

theorem State.closeUpTo_countsStay (n : Nat) (s : State) : s.CountsStay (State.closeUpTo n s) := by
  induction n generalizing s with
  | zero => exact .refl s
  | succ n ih =>
    unfold State.closeUpTo
    split
    · exact .refl s
    · extract_lets rs t
      split
      · refine .trans (.trans ?_ (State.openRec_countsStay _ _ _)) (ih _)
        exact .same rfl rfl
      · exact .same rfl rfl

theorem State.closeRec_countsStay (s : State) : s.CountsStay s.closeRec := State.closeUpTo_countsStay _ s

theorem State.newRec_countsStay (s : State) (e : Event) : s.CountsStay (s.newRec e) := by
  unfold State.newRec
  extract_lets t u
  have h : s.CountsStay u := by
    unfold u
    split
    · exact s.closeRec_countsStay.trans ⟨⟨_, _, rfl⟩, rfl⟩
    · exact s.closeRec_countsStay.trans (State.openRec_countsStay _ _ _)
  split
  · exact (h.trans u.closeRec_countsStay).trans (.same rfl rfl)
  · exact h

theorem State.logNow_countsStay (s : State) (e : Event) : s.CountsStay (s.logNow e) := by
  unfold State.logNow
  split
  · exact ⟨⟨_, _, rfl⟩, rfl⟩
  · split
    · exact .same rfl rfl
    · split
      · exact s.newRec_countsStay e
      · split
        · exact .same rfl rfl
        · exact (s.newRec_countsStay _).trans (.same rfl rfl)

theorem State.log_countsStay (s : State) (c n : Nat) (d : List Byte) : s.CountsStay (s.log c n d) := by
  unfold State.log
  split
  · split <;> exact .same rfl rfl
  · exact s.logNow_countsStay _

theorem State.ledNote_countsStay (s : State) (max n : Nat) : s.CountsStay (s.ledNote max n) := by
  unfold State.ledNote
  split
  · exact s.log_countsStay _ _ _
  · exact .refl s

theorem State.writeHeld_countsStay (s : State) : s.CountsStay s.writeHeld := by
  unfold State.writeHeld
  split
  · exact .refl s
  · extract_lets x _ t
    have h : s.CountsStay t := by
      refine .foldl ?_ State.logNow_countsStay _
      exact .same rfl rfl
    split
    · exact h
    · have hu := h.trans (State.newRec_countsStay t ⟨390, noSrc, []⟩)
      dsimp only
      split
      · exact hu.trans (.same rfl rfl)
      · exact hu

end Sys2Proof.Machine
end

section
/-! Challenges, tokens, log clears and RELOCK (R335, R347, R394). -/

namespace Sys2Proof.Machine

/-! ### Challenges (R335) -/

theorem SEC_CHAL_injective : Function.Injective A.SEC_CHAL := fun i j h => by unfold A.SEC_CHAL at h; omega

theorem SEC_CHAL_CTRL_ne {i : Nat} (h : i < 8) : A.SEC_CHAL_CTRL ≠ A.SEC_CHAL i := by
  unfold A.SEC_CHAL_CTRL A.SEC_CHAL; omega

/-- A fresh challenge: 32 free bytes in its registers, and the flag that it stands. -/
theorem State.newChallenge_fresh (s : State) : ∃ r,
    s.newChallenge = ({ s with regs := r, freeCtr := s.freeCtr + 32
                               sec := { s.sec with chalAt := some s.time.elapsed } } : State).setFlag F.SEC_CHAL_CTRL_CURRENT true ∧
      ∀ i, i < 8 → tblGet regReset r (A.SEC_CHAL i) = BitVec.ofNat 32 (leAt (s.freeBytes 32) (4 * i) 4) := by
  obtain ⟨r, e, hr⟩ := (s.drawnN 32).setRegs_range SEC_CHAL_injective (fun i => BitVec.ofNat 32 (leAt (s.freeBytes 32) (4 * i) 4)) 8
  refine ⟨r, ?_, hr⟩
  rw [State.newChallenge, e]
  rfl

theorem State.reached_freeCtr (s : State) (p : Path) : (s.reached p).freeCtr = s.freeCtr := by
  unfold State.reached
  split
  · exact s.exitL1_freeCtr
  · rfl

theorem State.reached_freeBytes (s : State) (p : Path) (n : Nat) : (s.reached p).freeBytes n = s.freeBytes n := by
  rw [State.freeBytes, State.reached_freeCtr, State.freeBytes]

/-! ### Tokens (R335) -/

section
variable {s : State} {p : Path}

theorem State.tokenGo_idle (hp : p ≠ .bar0) (hb : s.flag F.SEC_OP_STAT_BUSY = false) {r : Nat} (hr : s.tokenCheck p s.token = r) :
    s.tokenGo p = (if r = 1 then s.dropChallenge.tokenAct s.token else if r = 2 ∨ r = 3 then s else s.dropChallenge).beginOp
      3 r s.token := by
  rw [State.tokenGo, if_neg hp, State.secOp_idle hb]
  dsimp only
  rw [hr]
  by_cases h1 : r = 1
  · simp [h1]
  · simp [h1]

/-- A token row: the command, and the command of the token it takes. -/
theorem exec_token (h : s.Admits p A.SEC_TOK_CTRL false) {v : Word} {c : Nat} {i : Instr}
    (hi : (c, i) ∈ [(1, Instr.debugUnlock p), (2, .logClear p true v), (3, .returnPart p), (4, .revoke p)]) :
    exec i s = .next (if leAt (s.reached p).token 4 1 = c then (s.reached p).tokenGo p else s.reached p) := by
  simp only [List.mem_cons, Prod.mk.injEq, List.not_mem_nil, or_false] at hi
  rcases hi with ⟨rfl, rfl⟩ | ⟨rfl, rfl⟩ | ⟨rfl, rfl⟩ | ⟨rfl, rfl⟩
  · exact congrArg Host.Outcome.next (State.guarded_admits h _)
  · exact congrArg Host.Outcome.next (State.guarded_admits h _)
  · exact congrArg Host.Outcome.next (State.guarded_admits h _)
  · exact congrArg Host.Outcome.next (State.guarded_admits h _)

/-- BAR 0 looks at no token. -/
theorem exec_token_bar0 (h : s.Admits .bar0 A.SEC_TOK_CTRL false) {v : Word} {c : Nat} {i : Instr}
    (hi : (c, i) ∈ [(1, Instr.debugUnlock .bar0), (2, .logClear .bar0 true v), (3, .returnPart .bar0), (4, .revoke .bar0)]) :
    exec i s = .next (s.reached .bar0) := by
  rw [exec_token h hi, show (s.reached .bar0).tokenGo .bar0 = s.reached .bar0 from if_pos rfl, ite_self]

end

/-! ### The log is cleared (R394) -/

theorem State.windowsLive_recs (s : State) : s.windowsLive.recs = s.recs := rfl

/-- At the end of a clearing none runs. -/
theorem State.endClear_clear (s : State) : s.endClear.recs.clear = none := by
  unfold State.endClear
  split
  · assumption
  · rw [(State.ledNote_countsStay _ _ _).clear, (State.writeHeld_countsStay _).clear, State.windowsLive_recs]

/-- The keyed write clears the log in Returned. -/
theorem State.recCtrl_clears {s : State} {v : Word} (hlc : s.lc = 3) (hkey : fldGet v 16 16 = 0x434C) (hc : s.recs.clear = none) :
    s.recCtrl .mgmt (v ||| 1#32) = s.beginClear 1 0xFF := by
  have hkey : fldGet (v ||| 1#32) 16 16 = 0x434C := by
    refine (fldGet_congr fun k hk _ => ?_).trans hkey
    rw [BitVec.getLsbD_or, show (1#32).getLsbD k = false by simp; omega, Bool.or_false]
  have hgo : bitOn (v ||| 1#32) 0 = true := by simp [bitOn]
  rw [State.recCtrl, if_pos (by simp [hlc, hkey, hgo, hc])]

/-- Settles O36, one command at a time. -/
theorem tokensAndLog : Obligations.TokensAndLog := by
  unfold Obligations.TokensAndLog
  refine ⟨?new, ?expire, ?token, ?bar0, ?keyed, ?cleared, ?relock⟩
  case new =>
    rintro s r p hadm rfl
    obtain ⟨g, e, hg⟩ := (s.reached p).newChallenge_fresh
    refine ⟨_, congrArg Host.Outcome.next (State.guarded_admits hadm _), ?_⟩
    rw [e]
    refine ⟨State.flag_setFlag_bit _ _ rfl rfl, ?_, ?_, fun i hi => ?_, rfl⟩
    · exact congrArg (fun t => some t.elapsed) (s.reached_time p)
    · exact congrArg (· + 32) (s.reached_freeCtr p)
    · rw [State.setFlag, State.reg_setFld_other _ _ _ (SEC_CHAL_CTRL_ne hi), ← s.reached_freeBytes p]
      exact hg i hi
  case expire =>
    intro s n hcore hn
    exact congrArg Host.Outcome.next (if_pos (by simp [hcore, hn]))
  case token =>
    intro s p i v hadm hp hb hi
    rw [exec_token hadm hi, State.reached_of_ne_bar0 hp, if_pos rfl]
    refine ⟨fun h => ?_, fun r h hr => ?_, fun r h hr => ?_⟩
    · rw [State.tokenGo_idle hp hb h, if_pos rfl]
    · rw [State.tokenGo_idle hp hb h, if_neg (by omega), if_pos hr]
    · rw [State.tokenGo_idle hp hb h, if_neg (by omega), if_neg (by omega)]
  case bar0 =>
    intro s v hadm i hi
    simp only [List.mem_cons, List.not_mem_nil, or_false] at hi
    rcases hi with rfl | rfl | rfl | rfl
    · exact exec_token_bar0 (v := v) (c := 1) hadm (by simp)
    · exact exec_token_bar0 (v := v) (c := 2) hadm (by simp)
    · exact exec_token_bar0 (v := v) (c := 3) hadm (by simp)
    · exact exec_token_bar0 (v := v) (c := 4) hadm (by simp)
  case keyed =>
    intro s v hadm hlc hkey hc
    rw [show exec (.logClear .mgmt false v) s = .next ((s.reached .mgmt).recCtrl .mgmt (v ||| 1#32)) from
      congrArg Host.Outcome.next (State.guarded_admits hadm _), State.reached_of_ne_bar0 (by decide), State.recCtrl_clears hlc hkey hc]
  case cleared =>
    intro s c hcore hfw _
    exact ⟨congrArg Host.Outcome.next (if_pos (by simp [hcore, hfw])), s.endClear_clear⟩
  case relock =>
    rintro s r p hadm rfl
    exact congrArg Host.Outcome.next (State.guarded_admits hadm _)

end Sys2Proof.Machine
end

section
/-! Bring-up commands, operating seconds, snapshots and the calendar (R397-R402, R412). -/

namespace Sys2Proof.Machine

/-! ### Bring-up commands (R412) -/

section
variable {s : State} {p : Nat} {v : Word} (h : bitOn v 0 = true ∨ bitOn v 1 = true)
include h

theorem State.brupCtrl_acts : s.brupCtrl p v =
    if s.brupBusy p then s.log 412 p [] else if s.portOn p = false then s
    else if bitOn v 1 then s.discover p else s.retrainAll p := by
  rw [State.brupCtrl, if_neg (by rcases h with h | h <;> simp [h])]
  simp only [Bool.not_eq_true']

theorem State.brupCtrl_busy (hb : s.brupBusy p = true) : s.brupCtrl p v = s.log 412 p [] := by
  rw [State.brupCtrl_acts h, if_pos hb]

theorem State.brupCtrl_off (hb : s.brupBusy p = false) (hon : s.portOn p = false) : s.brupCtrl p v = s := by
  rw [State.brupCtrl_acts h, if_neg (by simp [hb]), if_pos hon]

theorem State.brupCtrl_on (hb : s.brupBusy p = false) (hon : s.portOn p = true) :
    s.brupCtrl p v = if bitOn v 1 then s.discover p else s.retrainAll p := by
  rw [State.brupCtrl_acts h, if_neg (by simp [hb]), if_neg (by simp [hon])]

end

theorem exec_brup {s : State} {p : Path} {n : Fin 80} (h : s.Admits p (A.TRL_BRUP_CTRL n) false) (hr : (s.reached p).Runs) (v : Word) :
    exec (.trlBrupCtrlRetrain p n v) s = .next ((s.reached p).brupCtrl n (v ||| 1#32)) ∧
    exec (.trlBrupCtrlRediscover p n v) s = .next ((s.reached p).brupCtrl n (v ||| 2#32)) :=
  ⟨congrArg Host.Outcome.next ((State.guarded_admits h _).trans (State.engine_runs hr _ _)),
    congrArg Host.Outcome.next ((State.guarded_admits h _).trans (State.engine_runs hr _ _))⟩

/-! ### The operating second (R398) -/

theorem State.tempSecond_opsec (s : State) : s.tempSecond.led.opsec = s.led.opsec := by
  unfold State.tempSecond
  rw [(State.ledNote_countsStay _ _ _).opsec]
  split <;> rfl

theorem State.calCheck_opsec (s : State) (i : Nat) : (s.calCheck i).led.opsec = s.led.opsec := by
  unfold State.calCheck
  extract_lets c due
  split
  · exact (State.log_countsStay _ _ _ _).opsec
  · rfl

theorem State.opSecond_opsec (s : State) : s.opSecond.led.opsec = ledBump 0xFFFFFFFF s.led.opsec := by
  unfold State.opSecond
  extract_lets n _ _ t u x _ y
  have hu : u.led.opsec = ledBump 0xFFFFFFFF s.led.opsec := (State.ledNote_countsStay t _ n).opsec
  have hx : x.led.opsec = u.led.opsec := by
    unfold x
    split
    · exact u.tempSecond_opsec
    · rfl
  have hy : y.led.opsec = x.led.opsec := by
    unfold y
    split <;> rfl
  exact (foldl_unchanged (g := fun t : State => t.led.opsec) State.calCheck_opsec _ y).trans (hy.trans (hx.trans hu))

/-! ### Snapshots (R397) -/

/-- Erasing a sector counts it in the ledger, and logs. -/
theorem State.eraseSector_frame (s : State) (a : Nat) : (s.eraseSector a).led.opsec = s.led.opsec ∧
    (s.eraseSector a).data = s.data ∧ (s.eraseSector a).herds = s.herds := by
  unfold State.eraseSector State.ledNote
  extract_lets b n t
  split
  · exact ⟨(State.log_countsStay _ _ _ _).opsec, State.log_data .., State.log_herds ..⟩
  · exact ⟨rfl, rfl, rfl⟩

/-- What a snapshot leaves in the ledger. -/
theorem State.snapshot_led (s : State) : s.snapshot.led.pend = false ∧ s.snapshot.led.gen = (s.led.gen + 1) % 2 ^ 32 ∧
    s.snapshot.led.sector = (s.led.gen + 1) % 2 ^ 32 % 64 ∧ s.snapshot.led.lastOpsec = s.led.opsec :=
  ⟨rfl, rfl, rfl, (s.eraseSector_frame _).1⟩

theorem State.snapshot_frame (s : State) : s.snapshot.data = s.data ∧ s.snapshot.herds = s.herds := (s.eraseSector_frame _).2

/-! ### The calendar's registers (R402) -/

/-- COMMIT takes the entry with FIRED clear, and asks for a snapshot. -/
theorem State.calCfg_commit (s : State) (i : Nat) (v : Word) : ∃ t, s.calCfg i (v ||| 8#32) = t ∧ t.led.pend = true ∧
    (tblGet (fun _ => calNone) t.led.cal i).fired = false ∧ t.data = s.data ∧ t.sent = s.sent := by
  have hcommit : bitOn (v ||| 8#32) 3 = true := by simp [bitOn]
  obtain ⟨r, e, -⟩ := plainWriteFrame s (A.LED_CAL_CFG i) (v ||| 8#32)
  unfold State.calCfg
  rw [if_neg (by simp [hcommit]), e]
  refine ⟨_, rfl, rfl, ?_, rfl, rfl⟩
  dsimp only
  rw [tblGet_set_same]

/-- Settles O43, one command at a time. -/
theorem bringUpAndLedger : Obligations.BringUpAndLedger := by
  unfold Obligations.BringUpAndLedger
  refine ⟨?brup, fun s h => ?second, State.opSecond_opsec, fun s hcore hfw => ⟨fun h => ?due, fun h => ?notDue⟩,
    fun s h => congrArg Host.Outcome.next (if_pos h), ?calendar⟩
  case brup =>
    rintro s r p n v hadm rfl hr
    obtain ⟨etrain, edisc⟩ := exec_brup hadm hr v
    have h1 : bitOn (v ||| 1#32) 0 = true := by simp [bitOn]
    have h2 : bitOn (v ||| 2#32) 1 = true := by simp [bitOn]
    have hkeep : bitOn (v ||| 1#32) 1 = bitOn v 1 := by simp [bitOn]
    refine ⟨fun hb hon => ⟨fun hv => ?_, ?_⟩, fun i hi => ?_⟩
    · rw [etrain, State.brupCtrl_on (.inl h1) hb hon, hkeep, if_neg (by simp [hv])]
    · rw [edisc, State.brupCtrl_on (.inr h2) hb hon, if_pos h2]
    · simp only [List.mem_cons, List.not_mem_nil, or_false] at hi
      rcases hi with rfl | rfl
      · rw [etrain]
        exact ⟨fun hb => by rw [State.brupCtrl_busy (.inl h1) hb], fun hb hoff => by rw [State.brupCtrl_off (.inl h1) hb hoff]⟩
      · rw [edisc]
        exact ⟨fun hb => by rw [State.brupCtrl_busy (.inr h2) hb], fun hb hoff => by rw [State.brupCtrl_off (.inr h2) hb hoff]⟩
  case second => exact congrArg Host.Outcome.next (if_neg (by simpa using h))
  case due =>
    obtain ⟨hpend, hgen, hsector, hlast⟩ := s.snapshot_led
    exact ⟨_, congrArg Host.Outcome.next (if_pos (by simp [hcore, hfw, h])), hpend, hgen, hsector, hlast, s.snapshot_frame⟩
  case notDue => exact congrArg Host.Outcome.next (if_neg (by simp [h]))
  case calendar =>
    rintro s r p i v hadm rfl
    obtain ⟨t, e, ht⟩ := (s.reached p).calCfg_commit i v
    exact ⟨t, congrArg Host.Outcome.next ((State.guarded_admits hadm _).trans e), ht⟩

end Sys2Proof.Machine
end

section
/-! Camera power channels (R373-R380, R410). -/

namespace Sys2Proof.Machine

/-! ### A channel's state -/

theorem PWR_PC_STAT_ne_GLB (n : Nat) : A.PWR_PC_STAT n ≠ A.PWR_GLB := by unfold A.PWR_PC_STAT A.PWR_GLB; omega

theorem PWR_PC_STAT_ne_CTRL (n m : Nat) : A.PWR_PC_STAT n ≠ A.PWR_PC_CTRL m := by unfold A.PWR_PC_STAT A.PWR_PC_CTRL; omega

theorem PWR_PC_CTRL_ne_GLB (n : Nat) : A.PWR_PC_CTRL n ≠ A.PWR_GLB := by unfold A.PWR_PC_CTRL A.PWR_GLB; omega

section
variable (s : State) (n : Nat)

theorem State.fld_pwr (w : PwrSt) (f : Fld) : ({ s with pwr := w } : State).fld f = s.fld f := rfl

/-- What a change of a channel's state does to the fields outside PWR_GLB. -/
theorem State.setPc_fld (st : Nat) {f : Fld} (hf : f.addr ≠ A.PWR_GLB) :
    (s.setPc n st).fld f = ((s.setFld (F.PWR_PC_STAT_STATE n) st).setFlag (F.PWR_PC_STAT_OPEN n) false).fld f := by
  unfold State.setPc State.pwrRegs
  rw [State.fld_setFld_other _ _ _ _ (.inl hf.symm), State.fld_setFld_other _ _ _ _ (.inl hf.symm), State.fld_pwr]

theorem State.setPc_pc (st : Nat) (h : st < 8) : (s.setPc n st).pc n = st := by
  rw [State.pc, State.setPc_fld s n st (PWR_PC_STAT_ne_GLB n), State.fld_setFlag_apart _ _ rfl, State.fld_setFld_fits _ _ rfl]
  exact Nat.mod_eq_of_lt h

theorem State.setPc_forceOff (st : Nat) : (s.setPc n st).flag (F.PWR_PC_CTRL_FORCE_OFF n) = s.flag (F.PWR_PC_CTRL_FORCE_OFF n) := by
  have h : A.PWR_PC_STAT n ≠ A.PWR_PC_CTRL n := PWR_PC_STAT_ne_CTRL n n
  rw [State.flag, State.setPc_fld s n st (PWR_PC_CTRL_ne_GLB n), State.setFlag, State.fld_setFld_other _ _ _ _ (.inl h),
    State.fld_setFld_other _ _ _ _ (.inl h), State.flag]

end

/-! ### Timers -/

section
variable {s : State}

/-- The soft start of the queue's head: its gate on, counted in the ledger. -/
def State.softStarted (s : State) (n : Nat) : State :=
  ((({ s with led := { s.led with poc := ledAdd s.led.poc n }
              pwr := { s.pwr with boot := setIns n s.pwr.boot } } : State).setPc n pcSoft).emit
    (.pin "PC_GATE" n true (st48 s.now))).ledNote 0xFFFFFFFF (tblGet zeroN s.led.poc n)

theorem State.softBegin_fits {n : Nat} {q : List Nat} (hq : s.pwr.queue = n :: q) (hov : s.flag F.PWR_GLB_VIN_OV = false)
    (hfit : s.pcBudget + s.pcLimit n ≤ (s.image.map fun im => im.poc.inrush).getD 0) : s.softBegin = s.softStarted n := by
  rw [State.softBegin, hq]
  exact if_neg (by simp [hov, hfit])

theorem State.softBegin_waits {n : Nat} {q : List Nat} (hq : s.pwr.queue = n :: q) (h : s.flag F.PWR_GLB_VIN_OV = true ∨
    (s.image.map fun im => im.poc.inrush).getD 0 < s.pcBudget + s.pcLimit n) : s.softBegin = s := by
  rw [State.softBegin, hq]
  exact if_pos (by simpa using h)

theorem State.softEnd_on {n v : Nat} (hpc : s.pc n = pcSoft)
    (hv : 9 * (s.setFld (F.PWR_PC_MEAS_V n) v).fld F.PWR_GLB_VIN ≤ 10 * v) :
    s.softEnd n v = (s.setFld (F.PWR_PC_MEAS_V n) v).setPc n pcOn := by
  rw [State.softEnd, if_neg (not_not_intro hpc), if_pos hv]

theorem State.softEnd_off {n v : Nat} (hpc : s.pc n = pcSoft)
    (hv : 10 * v < 9 * (s.setFld (F.PWR_PC_MEAS_V n) v).fld F.PWR_GLB_VIN) :
    s.softEnd n v = (s.setFld (F.PWR_PC_MEAS_V n) v).pcTrip n 1 true := by
  rw [State.softEnd, if_neg (not_not_intro hpc), if_neg (Nat.not_le.2 hv)]

theorem State.retryEnd_queues {n : Nat} (hpc : s.pc n = pcRetry) (hf : s.fld (F.PWR_PC_STAT_FAULT n) ≠ 4)
    (ht : s.pcTripped n = false) : s.retryEnd n = (s.setPc n pcOff).pcEnqueue n :=
  if_neg (by simp [hpc, hf, ht])

theorem State.vinRelease_over (h : s.flag F.PWR_GLB_VIN_OV = true) : s.vinRelease =
    (List.range 64).foldl (fun s n =>
      if s.pc n = pcRetry ∧ s.fld (F.PWR_PC_STAT_FAULT n) = 4 ∧ s.pcTripped n = false then (s.setPc n pcOff).pcEnqueue n else s)
      (s.setFlag F.PWR_GLB_VIN_OV false) := by
  rw [State.vinRelease, if_neg (by simp [h])]
  simp only [Bool.not_eq_true']

/-! ### PWR_PC_CTRL (R374, R377) -/

/-- CLR clears the retries, and is remembered until the sample. -/
def State.pcCleared (s : State) (n : Nat) : State :=
  ({ s with pwr := { s.pwr with clrs := setIns n s.pwr.clrs } } : State).setFld (F.PWR_PC_STAT_RETRIES n) 0

theorem State.pcCleared_pc (s : State) (n : Nat) : (s.pcCleared n).pc n = s.pc n :=
  State.fld_setFld_apart _ _ rfl

theorem State.pcCleared_forceOff (s : State) (n : Nat) :
    (s.pcCleared n).flag (F.PWR_PC_CTRL_FORCE_OFF n) = s.flag (F.PWR_PC_CTRL_FORCE_OFF n) :=
  State.flag_setFld_other _ _ _ _ (.inl (PWR_PC_STAT_ne_CTRL n n))

variable {n : Nat} {v : Word} {u : State} (hu : u = s.plainWrite (A.PWR_PC_CTRL n) v)
include hu

theorem State.pcCtrl_forces (hv : bitOn v 1 = false) (hoff : u.flag (F.PWR_PC_CTRL_FORCE_OFF n) = true) {d : State}
    (hd : d = { u with pwr := { u.pwr with faults := tblPut u.pwr.faults n none } }) :
    s.pcCtrl n v = if d.pc n = pcLatched then d else d.pcDown n pcOff := by
  unfold State.pcCtrl
  rw [← hu]
  extract_lets _ free _ _ _ x _ y
  have hx : x = u := if_neg (by simp [hv])
  have hy : y = d := by
    rw [hd, ← hx]
  rw [hx, if_pos hoff, hy]

theorem State.pcCtrl_frees (hv : bitOn v 1 = false) (hoff : u.flag (F.PWR_PC_CTRL_FORCE_OFF n) = false) :
    s.pcCtrl n v = if u.pc n = pcOff ∧ (∀ c ∈ u.pwr.due, c.2 ≠ n) then u.pcEnqueue n else u := by
  unfold State.pcCtrl
  rw [← hu]
  extract_lets _ free _ _ _ x _ y
  have hx : x = u := if_neg (by simp [hv])
  have hfree : free = false := (show (bitOn v 1 && u.pc n == pcLatched) = false by simp [hv])
  rw [hx, if_neg (by simp [hoff])]
  refine ite_congr (propext ?_) (fun _ => rfl) (fun _ => rfl)
  rw [hfree]
  simp

theorem State.pcCtrl_clears_latched (hv : bitOn v 1 = true) (hoff : u.flag (F.PWR_PC_CTRL_FORCE_OFF n) = false)
    (hpc : u.pc n = pcLatched) : s.pcCtrl n v = ((u.pcCleared n).setPc n pcOff).pcEnqueue n := by
  have hoff' : ((u.pcCleared n).setPc n pcOff).flag (F.PWR_PC_CTRL_FORCE_OFF n) = false := by
    rw [State.setPc_forceOff, State.pcCleared_forceOff, hoff]
  have hpc' : ((u.pcCleared n).setPc n pcOff).pc n = pcOff := State.setPc_pc _ _ _ (by decide)
  unfold State.pcCtrl
  rw [← hu]
  extract_lets _ free _ _ _ x _ y
  have hfree : free = true := (show (bitOn v 1 && u.pc n == pcLatched) = true by simp [hv, hpc])
  have hx : x = (u.pcCleared n).setPc n pcOff := (if_pos hv).trans (if_pos hfree)
  rw [hx, if_neg (by simp [hoff']), hfree, if_pos (by simp [hpc'])]

theorem State.pcCtrl_clears (hv : bitOn v 1 = true) (hoff : u.flag (F.PWR_PC_CTRL_FORCE_OFF n) = false)
    (hpc : u.pc n ≠ pcLatched) (hpc0 : u.pc n ≠ pcOff) : s.pcCtrl n v = u.pcCleared n := by
  have hoff' := (u.pcCleared_forceOff n).trans hoff
  have hpc' : (u.pcCleared n).pc n ≠ pcOff := by rw [State.pcCleared_pc]; exact hpc0
  unfold State.pcCtrl
  rw [← hu]
  extract_lets _ free _ _ _ x _ y
  have hfree : free = false := (show (bitOn v 1 && u.pc n == pcLatched) = false by simp [hpc])
  have hx : x = u.pcCleared n := (if_pos hv).trans (if_neg (ne_true_of_eq_false hfree))
  rw [hx, if_neg (by simp [hoff']), if_neg (by simp [hpc'])]

end

/-- Settles O42, one command at a time. -/
theorem linePower : Obligations.LinePower := by
  unfold Obligations.LinePower
  refine ⟨?sample, ?short, ?softBegin, ?softEnd, ?retry, ?retries, ?release, ?force, ?free, ?clr⟩
  case sample =>
    rintro s u vin ch hcore rfl
    exact congrArg Host.Outcome.next (if_pos hcore)
  case short =>
    rintro s u n hup hpc rfl
    refine congrArg Host.Outcome.next (if_pos ?_)
    simpa [State.pcDriven, State.up, hup] using hpc
  case softBegin =>
    intro s n q hr hq
    rw [show exec .softstartBegin s = .next (s.timer .softstartBegin State.softBegin) from rfl, State.timer_runs hr]
    exact ⟨fun hov hfit => by rw [State.softBegin_fits hq hov hfit]; rfl, fun h => by rw [State.softBegin_waits hq h]⟩
  case softEnd =>
    rintro s u d n v hup hpc rfl rfl
    rw [show exec (.softstartEnd n v) s = .next (s.whenUp fun s => s.softEnd n v.toNat) from rfl, State.whenUp_up hup]
    exact ⟨fun h => by rw [State.softEnd_on hpc h], fun h => by rw [State.softEnd_off hpc h]; rfl⟩
  case retry =>
    intro s n hr hpc hf ht
    rw [show exec (.retryWaitEnd n) s = .next (s.timer (.retryWaitEnd n) fun s => s.retryEnd n) from rfl, State.timer_runs hr,
      State.retryEnd_queues hpc hf ht]
  case retries => exact fun s n hr => congrArg Host.Outcome.next (State.timer_runs hr _ _)
  case release =>
    intro s hr hov
    rw [show exec .vinOvRelease s = .next (s.timer .vinOvRelease State.vinRelease) from rfl, State.timer_runs hr,
      State.vinRelease_over hov]
  case force =>
    intro s u d p n hadm hu hoff hd
    rw [show exec (.forceOff p n true) s = .next ((s.reached p).pcCtrl n 1#32) from
      congrArg Host.Outcome.next (State.guarded_admits hadm _), State.pcCtrl_forces hu (by decide) hoff hd]
  case free =>
    intro s u p n hadm hu hoff
    rw [show exec (.forceOff p n false) s = .next ((s.reached p).pcCtrl n 0#32) from
      congrArg Host.Outcome.next (State.guarded_admits hadm _), State.pcCtrl_frees hu (by decide) hoff]
    exact ⟨fun h => by rw [if_neg fun h' => h h'.1], fun h hd => by rw [if_pos ⟨h, hd⟩]⟩
  case clr =>
    intro s u t p n v hadm hu hoff ht
    have hclr : bitOn (v ||| 2#32) 1 = true := by simp [bitOn]
    have ht : t = u.pcCleared n := ht
    rw [show exec (.clr p n v) s = .next ((s.reached p).pcCtrl n (v ||| 2#32)) from
      congrArg Host.Outcome.next (State.guarded_admits hadm _), ht]
    exact ⟨fun h => by rw [State.pcCtrl_clears_latched hu hclr hoff h],
      fun h h0 => by rw [State.pcCtrl_clears hu hclr hoff h h0]⟩

end Sys2Proof.Machine
end

section
/-! What flash work and logging leave of the running core. -/

namespace Sys2Proof.Machine

/-! ### The registers of GLB -/

/-- The registers of GLB, which stand below every other block, read as before. -/
def State.GlbStays (s t : State) : Prop := ∀ a, a < 0x1000 → t.reg a = s.reg a

theorem State.GlbStays.refl (s : State) : s.GlbStays s := fun _ _ => rfl

theorem State.GlbStays.trans {s t u : State} (h : s.GlbStays t) (h' : t.GlbStays u) : s.GlbStays u :=
  fun a ha => (h' a ha).trans (h a ha)

theorem State.GlbStays.same {s t : State} (h : t.regs = s.regs) : s.GlbStays t := fun _ _ => by
  unfold State.reg; rw [h]

theorem State.GlbStays.setFld (s : State) (f : Fld) (v : Nat) (h : 0x1000 ≤ f.addr) : s.GlbStays (s.setFld f v) :=
  fun _ ha => State.reg_setFld_other _ _ _ (by omega)

theorem State.GlbStays.fld {s t : State} (h : s.GlbStays t) {f : Fld} (hf : f.addr < 0x1000) : t.fld f = s.fld f :=
  State.fld_congr f (h _ hf)

theorem State.LogOnly.glbStays {s t : State} (h : s.LogOnly t) : s.GlbStays t := fun a ha =>
  h.reg fun e => by rw [e] at ha; exact absurd ha (by decide)

/-- What the end of a flash command, a log entry and a ledger entry leave: the running core and the registers of GLB. -/
structure State.CoreStays (s t : State) : Prop where
  start : t.start = s.start
  time : t.time = s.time
  link : t.link = s.link
  data : t.data = s.data
  herds : t.herds = s.herds
  glb : s.GlbStays t

theorem State.CoreStays.refl (s : State) : s.CoreStays s := ⟨rfl, rfl, rfl, rfl, rfl, .refl s⟩

theorem State.CoreStays.trans {s t u : State} (h : s.CoreStays t) (h' : t.CoreStays u) : s.CoreStays u :=
  ⟨h'.start.trans h.start, h'.time.trans h.time, h'.link.trans h.link, h'.data.trans h.data, h'.herds.trans h.herds,
    h.glb.trans h'.glb⟩

theorem State.LogOnly.coreStays {s t : State} (h : s.LogOnly t) : s.CoreStays t :=
  ⟨h.start, h.time, h.link, h.data, h.herds, h.glbStays⟩

theorem State.CoreStays.setFld (s : State) (f : Fld) (v : Nat) (h : 0x1000 ≤ f.addr) : s.CoreStays (s.setFld f v) :=
  ⟨rfl, rfl, rfl, rfl, rfl, .setFld s f v h⟩

theorem State.CoreStays.setReg (s : State) {a : Nat} (v : Word) (h : 0x1000 ≤ a) : s.CoreStays (s.setReg a v) :=
  ⟨rfl, rfl, rfl, rfl, rfl, fun _ hb => State.reg_setReg_other _ _ (by omega)⟩

theorem State.CoreStays.foldl {α : Type} {f : State → α → State} (hf : ∀ (t : State) (x : α), t.CoreStays (f t x)) (l : List α) (s : State) :
    s.CoreStays (l.foldl f s) := by
  induction l generalizing s with
  | nil => exact .refl s
  | cons x l ih => exact (hf s x).trans (ih _)

theorem State.CoreStays.drawnN (s : State) (n : Nat) : s.CoreStays (s.drawnN n) := ⟨rfl, rfl, rfl, rfl, rfl, .same rfl⟩

/-! ### A flash command is cut short -/

theorem State.eraseSector_logOnly (s : State) (a : Nat) : s.LogOnly (s.eraseSector a) := by
  unfold State.eraseSector State.ledNote
  extract_lets b n t
  split
  · exact .trans (.upd _) (State.log_logOnly _ _ _ _)
  · exact .upd _

theorem State.snapshot_logOnly (s : State) : s.LogOnly s.snapshot := by
  unfold State.snapshot
  extract_lets gen k t
  exact (s.eraseSector_logOnly _).trans (.upd t)

theorem State.flashPut_coreStays (s : State) (a : Nat) (l : List Byte) (n : Nat) : s.CoreStays ((s.flashPut a l).drawnN n) :=
  ⟨rfl, rfl, rfl, rfl, rfl, .same rfl⟩

theorem State.setPage_coreStays (s : State) (l : List Byte) : s.CoreStays (s.setPage l) :=
  .foldl (fun t _ => .setReg t _ (by unfold A.CFG_FL_BUF; omega)) _ s

theorem State.flashSpoil_coreStays (s : State) (cmd a : Nat) : s.CoreStays (s.flashSpoil cmd a) := by
  unfold State.flashSpoil
  split
  · exact (s.eraseSector_logOnly a).coreStays.trans (State.flashPut_coreStays _ _ _ _)
  · exact s.flashPut_coreStays _ _ _
  · exact (s.setPage_coreStays _).trans (.drawnN _ _)
  · exact .refl s

theorem State.flashOver_coreStays (s : State) (ok : Bool) : s.CoreStays (s.flashOver ok) := by
  unfold State.flashOver State.setFlag
  refine .trans (.trans ?_ (.setFld _ F.CFG_FL_STAT_BUSY _ (by decide))) (.setFld _ F.CFG_FL_STAT_RESULT _ (by decide))
  exact ⟨rfl, rfl, rfl, rfl, rfl, .same rfl⟩

theorem State.flashCut_coreStays (s : State) : s.CoreStays s.flashCut := by
  unfold State.flashCut
  cases h : s.flCmd with
  | none => exact .refl s
  | some c =>
    rw [Option.isSome_some, if_pos rfl, State.flashEnd_late h]
    exact (s.flashSpoil_coreStays _ _).trans (State.flashOver_coreStays _ _)

end Sys2Proof.Machine
end

section
/-! Pins, power-down and the beginning of a start (R312-R314, R371). -/

namespace Sys2Proof.Machine

/-! ### Pins and rails -/

theorem State.emit_coreStays (s : State) (o : Out) : s.CoreStays (s.emit o) := ⟨rfl, rfl, rfl, rfl, rfl, .same rfl⟩

theorem State.emitIf_coreStays (s : State) (c : Bool) (o : Out) : s.CoreStays (if c then s.emit o else s) := by
  split
  · exact s.emit_coreStays o
  · exact .refl s

theorem State.gatesOff_coreStays (s : State) : s.CoreStays s.gatesOff := by
  unfold State.gatesOff
  extract_lets t
  have h : s.CoreStays t := .foldl (fun t _ => t.emitIf_coreStays _ _) _ s
  clear_value t
  exact h.trans ⟨rfl, rfl, rfl, rfl, rfl, .same rfl⟩

theorem State.pinsLow_coreStays (s : State) : s.CoreStays s.pinsLow := by
  unfold State.pinsLow
  extract_lets t
  have h : s.CoreStays t := .foldl (fun t _ => t.emitIf_coreStays _ _) _ s
  split
  · exact h.trans (t.emit_coreStays _)
  · exact h

theorem State.railsOff_coreStays (l : List Nat) (s : State) : s.CoreStays (l.foldl (fun s r => s.psEn r false) s) :=
  .foldl (fun t _ => t.emit_coreStays _) l s

/-! ### Power down (R371) -/

/-- Power-down changes the start's phase and rails; all else it does leaves the registers of GLB. -/
theorem State.powerDown_eq (s : State) (ph : Phase) : ∃ t, s.CoreStays t ∧ s.powerDown ph =
    ({ t with start := { t.start with phase := ph, railsUp := 0, warm := false } } : State).setFld F.PWR_RAIL_STAT_PG 0 := by
  unfold State.powerDown
  extract_lets a b up t
  refine ⟨t, ?_, rfl⟩
  have hb : s.CoreStays b := by
    unfold b
    split
    · split
      · exact s.closeRec_logOnly.coreStays
      · exact (s.closeRec_logOnly.trans (State.snapshot_logOnly _)).coreStays
    · exact .refl s
  exact (hb.trans b.gatesOff_coreStays).trans (State.railsOff_coreStays _ _)

theorem State.powerDown_start (s : State) (ph : Phase) :
    (s.powerDown ph).start = { s.start with phase := ph, railsUp := 0, warm := false } := by
  obtain ⟨t, ht, e⟩ := s.powerDown_eq ph
  rw [e, State.setFld_start, ← ht.start]

theorem State.powerDown_glb (s : State) (ph : Phase) : s.GlbStays (s.powerDown ph) := by
  obtain ⟨t, ht, e⟩ := s.powerDown_eq ph
  rw [e]
  exact (ht.glb.trans (.same rfl)).trans (.setFld _ F.PWR_RAIL_STAT_PG _ (by decide))

/-! ### A start begins (R314) -/

/-- A cold start, or one from Standby, clears the core. -/
theorem State.coreReset_cleared (s : State) {kind : Nat} (h : kind ≠ 2) : s.coreReset kind = s.flashCut.pinsLow.coreClear kind := by
  rw [State.coreReset, if_neg h, if_neg h]

section
variable (s : State) {kind : Nat} (h : kind ≠ 2)
include h

theorem State.beginStart_start : (s.beginStart kind).start = { s.start with
    fwBusy := false, fwTimes := [], fwHeld := [], phase := .rails, railsUp := 0, warm := kind == 1, watch := true } := by
  have hs : s.flashCut.pinsLow.start = s.start := (s.flashCut_coreStays.trans (State.pinsLow_coreStays _)).start
  unfold State.beginStart
  rw [State.coreReset_cleared s h, ← hs]
  rfl

theorem State.beginStart_image : (s.beginStart kind).image = none := by
  unfold State.beginStart
  rw [State.coreReset_cleared s h]
  exact if_neg h

theorem State.beginStart_herds : (s.beginStart kind).herds = [] := by
  unfold State.beginStart
  rw [State.coreReset_cleared s h]
  rfl

/-- The always-on island holds the record of failed starts through every start. -/
theorem State.beginStart_startFail : (s.beginStart kind).reg A.GLB_START_FAIL = s.reg A.GLB_START_FAIL := by
  have hs := (s.flashCut_coreStays.trans (State.pinsLow_coreStays _)).glb A.GLB_START_FAIL (by decide)
  unfold State.beginStart
  rw [State.coreReset_cleared s h, ← hs]
  refine (State.reg_setFld_other _ F.GLB_START_STAT_KIND _ (by decide)).trans ?_
  refine tblGet_filter regReset _ (fun a => aonHeld a || (kind != 0 && a == A.GLB_START_CFG) || (kind == 2 && pcStat a)) ?_
  rw [show aonHeld A.GLB_START_FAIL = true by decide, Bool.true_or, Bool.true_or]

end

theorem State.beginStart_kind (s : State) {kind : Nat} (h : kind < 4) : (s.beginStart kind).fld F.GLB_START_STAT_KIND = kind :=
  (State.fld_setFld_fits _ _ rfl).trans (Nat.mod_eq_of_lt h)

theorem State.beginStart_herd (s : State) : (s.beginStart 0).aon.herd = 0 := rfl

theorem State.beginStart_pending (s : State) (kind : Nat) : (s.beginStart kind).pending = s.pending :=
  (State.beginStart_keeps kind (.refl s)).pending

theorem State.powerDown_pending (s : State) (ph : Phase) : (s.powerDown ph).pending = s.pending :=
  (State.powerDown_keeps ph (.refl s)).pending

end Sys2Proof.Machine
end

section
/-! Hub rails (R312, R314, R370, R372). -/

namespace Sys2Proof.Machine

/-! ### Rails that come up (R312, R370) -/

section
variable {s : State} (h : s.start.phase = .rails)
include h

theorem State.railNext_next {n : Nat} (hn : s.start.railsUp = n) (hlt : n < 5) (found : Found) : s.railNext found =
    ({ s.setFld F.PWR_RAIL_STAT_PG (2 ^ (n + 1) - 1) with start := { s.start with railsUp := n + 1 } } : State).psEn (n + 1) true := by
  subst hn
  rw [State.railNext, if_neg (by simp [h])]
  exact if_pos (by omega)

theorem State.railNext_last (hn : s.start.railsUp = 5) (found : Found) {u : State}
    (hu : u = { s.setFld F.PWR_RAIL_STAT_PG 63 with start := { s.start with railsUp := 6, hw := found }
                                                    badSlots := found.badOpens.map (·.val)
                                                    badTails := found.badCloses.map (·.val) }) :
    s.railNext found = u.runStart u (if s.start.warm then 1 else 0) := by
  rw [State.railNext, if_neg (by simp [h]), hn, hu]
  rfl

end

/-! ### Rails that fail (R372) -/

theorem State.railFault_start (s : State) (r k : Nat) : (s.railFault r k).start =
    { s.start with phase := .wait, railsUp := 0, warm := false, waitFor := max 1 s.start.waitFor } := by
  unfold State.railFault
  extract_lets t u
  rw [State.log_start]
  show { u.start with waitFor := max 1 u.start.waitFor } = _
  rw [show u.start = _ from t.powerDown_start .wait]
  rfl

/-! ### Samples of a rail (R372) -/

/-- A reading within both tolerances stands in its register, and its runs start over. -/
theorem State.railSample_good {s : State} {r mv : Nat} (hon : s.railOn r = true) (h5 : railOutside r mv 5 = false)
    (h10 : railOutside r mv 10 = false) : ∃ w, s.railSample r mv = { s.setFld (F.PWR_RAIL_MV_MV r) mv with pwr := w } ∧
      tblGet zeroN w.warnRun r = 0 ∧ tblGet zeroN w.faultRun r = 0 := by
  refine ⟨{ s.pwr with warnRun := tblSet zeroN s.pwr.warnRun r 0, faultRun := tblSet zeroN s.pwr.faultRun r 0 }, ?_,
    tblGet_set_same zeroN s.pwr.warnRun r 0, tblGet_set_same zeroN s.pwr.faultRun r 0⟩
  unfold State.railSample
  rw [if_neg (by simp [hon])]
  simp only [h5, h10, Bool.false_eq_true, if_false]
  rw [if_neg (by decide), if_neg (by simp)]
  rfl

/-- Settles O41, one command at a time. -/
theorem rails : Obligations.Rails := by
  unfold Obligations.Rails
  refine ⟨fun s n found h hn => ⟨fun hlt => ?next, fun h5 u hu => ?last⟩,
    fun s h => congrArg Host.Outcome.next (if_pos (by simp [h])), fun s r h => congrArg Host.Outcome.next (if_pos h),
    fun s r k => ?fault, fun s h hw => ?restart, fun s mv => rfl, fun s r mv _ hon h5 h10 => ?sample⟩
  case next =>
    refine ⟨_, congrArg Host.Outcome.next (State.railNext_next h hn hlt found), h, rfl, ?_, rfl, rfl⟩
    refine (State.fld_setFld_fits s _ rfl).trans (Nat.mod_eq_of_lt ?_)
    have : 2 ^ (n + 1) ≤ 2 ^ 6 := Nat.pow_le_pow_right (by decide) (by omega)
    exact Nat.lt_of_lt_of_le (Nat.sub_one_lt (Nat.ne_of_gt (Nat.two_pow_pos _))) this
  case last =>
    exact congrArg Host.Outcome.next (State.railNext_last h (hn.trans h5) found hu)
  case fault =>
    rw [State.railFault_start]
    exact ⟨rfl, rfl, Nat.le_max_left 1 _⟩
  case restart =>
    refine ⟨s.beginStart 0, congrArg Host.Outcome.next (if_pos (by simp [h, hw])), ?_⟩
    rw [State.beginStart_start s (by decide)]
    exact ⟨rfl, rfl, rfl, s.beginStart_kind (by decide), s.beginStart_pending 0⟩
  case sample =>
    obtain ⟨w, e, hwarn, hfault⟩ := State.railSample_good hon h5 h10
    rw [e]
    exact ⟨hwarn, hfault, State.fld_setFld_fits s mv rfl, rfl⟩

end Sys2Proof.Machine
end

section
/-! Failed starts (R323-R325). -/

namespace Sys2Proof.Machine

/-! ### A failed start (R323) -/

/-- The record of a failed start: its bank's count, cause, step and bank. -/
def State.failNoted (s : State) (cause step bank : Nat) : State :=
  (((s.setFld (failsFld bank) (min 3 (s.fld (failsFld bank) + 1))).setFld F.GLB_START_FAIL_LAST_CAUSE cause).setFld
    F.GLB_START_FAIL_LAST_STEP step).setFld F.GLB_START_FAIL_LAST_BANK bank

theorem failsFld_addr (bank : Nat) : (failsFld bank).addr = A.GLB_START_FAIL := by
  unfold failsFld; split <;> rfl

theorem failsFld_bits (bank : Nat) : (failsFld bank).lo + (failsFld bank).w ≤ 4 ∧ (failsFld bank).w = 2 := by
  unfold failsFld; split <;> decide

section
variable (s : State) {cause step : Nat} (bank : Nat)

theorem State.failNoted_cause (h : cause < 16) : (s.failNoted cause step bank).fld F.GLB_START_FAIL_LAST_CAUSE = cause := by
  unfold State.failNoted
  rw [State.fld_setFld_apart _ _ rfl, State.fld_setFld_apart _ _ rfl, State.fld_setFld_fits _ _ rfl]
  exact Nat.mod_eq_of_lt h

theorem State.failNoted_step (h : step < 16) : (s.failNoted cause step bank).fld F.GLB_START_FAIL_LAST_STEP = step := by
  unfold State.failNoted
  rw [State.fld_setFld_apart _ _ rfl, State.fld_setFld_fits _ _ rfl]
  exact Nat.mod_eq_of_lt h

theorem State.failNoted_count : (s.failNoted cause step bank).fld (failsFld bank) = min 3 (s.fld (failsFld bank) + 1) := by
  obtain ⟨hlo, hw⟩ := failsFld_bits bank
  unfold State.failNoted
  rw [State.fld_setFld_other _ _ _ _ (.inr (.inr (Nat.le_trans hlo (by decide)))),
    State.fld_setFld_other _ _ _ _ (.inr (.inr (Nat.le_trans hlo (by decide)))), State.fld_setFld_other _ _ _ _ (.inr (.inr hlo)),
    State.fld_setFld_same _ _ _ (Nat.le_trans hlo (by decide)), hw]
  exact Nat.mod_eq_of_lt (by omega)

end

theorem TIME_CMP_STAT_PIN_above (n : Nat) : 0x1000 ≤ (F.TIME_CMP_STAT_PIN n).addr := by
  show 0x1000 ≤ 0x101004 + n * 0x20
  omega

/-- Refuge leaves the record of failed starts. -/
theorem State.refuge_startFail (s : State) (step : Nat) : (s.refuge step).reg A.GLB_START_FAIL = s.reg A.GLB_START_FAIL := by
  unfold State.refuge
  extract_lets a b _ _ c d
  have hb : s.CoreStays b := (s.gatesOff_coreStays.trans (State.pinsLow_coreStays _)).trans
    (.foldl (fun t n => .setFld t _ _ (TIME_CMP_STAT_PIN_above n)) _ a)
  have hreset : (c.resetRegs (A.PWR_PC_CFG 0) (A.PWR_PC_CFG 64)).reg A.GLB_START_FAIL = b.reg A.GLB_START_FAIL :=
    tblGet_filter regReset b.regs (fun a => a < A.PWR_PC_CFG 0 || A.PWR_PC_CFG 64 ≤ a) (by decide)
  rw [(State.writeHeld_logOnly _).reg (by decide), State.reg_setFld_other _ F.GLB_START_STAT_STEP _ (by decide),
    State.reg_setFld_other _ F.GLB_START_STAT_KIND _ (by decide), ← hb.glb A.GLB_START_FAIL (by decide), ← hreset]
  exact State.reg_setFld_other _ F.CFG_STAT_REFUGE _ (by decide)

/-- Whatever follows a failed start, its record stands. -/
theorem State.startFail_record (s : State) (cause step bank : Nat) {f : Fld} (hf : f.addr = A.GLB_START_FAIL) :
    (s.startFail cause step bank).fld f = (s.failNoted cause step bank).fld f := by
  refine State.fld_congr f ?_
  rw [hf]
  unfold State.startFail
  extract_lets a b c up d
  have hc : c.reg A.GLB_START_FAIL = b.reg A.GLB_START_FAIL := (State.log_logOnly b _ _ _).reg (by decide)
  split
  · exact (c.refuge_startFail step).trans hc
  · exact (c.powerDown_glb .wait A.GLB_START_FAIL (by decide)).trans hc

/-- A start that fails before its rails are up powers down and waits. -/
theorem State.startFail_waits {s : State} (h : s.start.phase = .rails ∨ s.start.phase = .wait) (hup : s.start.railsUp < 6)
    (cause step bank : Nat) : (s.startFail cause step bank).start =
      { s.start with phase := .wait, railsUp := 0, warm := false, waitFor := 0, watch := false } := by
  unfold State.startFail
  extract_lets a b c up d
  have hc : c.start = s.start := State.log_start _ _ _ _
  have hcore : up = false := by
    show (c.core || (c.start.phase == .rails && c.start.railsUp == 6)) = false
    rw [State.core, hc]
    rcases h with h | h <;> simp [h, Nat.ne_of_lt hup]
  rw [hcore, Bool.false_and, if_neg (by decide)]
  show { d.start with waitFor := 0, watch := false } = _
  rw [show d.start = _ from c.powerDown_start .wait, hc]

end Sys2Proof.Machine
end

section
/-! How starts begin (R312, R313, R316, R324, R436). -/

namespace Sys2Proof.Machine

/-! ### GLB_START_CTRL (R313) -/

/-- The key of GLB_START_CTRL. -/
def startKey : BitVec 16 := 0x5354#16

section
variable {s : State} {p : Path} {c : Word} (hc : fldGet c 16 16 = 0) (hw : Found)
include hc

theorem State.startCtrl_wrongKey {k : BitVec 16} (hk : k ≠ startKey) :
    s.startCtrl p (k.setWidth 32 <<< 16 ||| c) hw = s.log 313 noSrc [] := by
  refine if_pos ?_
  rw [fldGet_keyed k hc]
  exact fun e => hk (BitVec.eq_of_toNat_eq e)

/-- With its key, the write does what its bits say. -/
theorem State.startCtrl_keyed : s.startCtrl p (startKey.setWidth 32 <<< 16 ||| c) hw =
    if bitOn c 1 && (!(s.start.phase == .refuge) || p == .mgmt) then s.startCold
    else if bitOn c 0 && !(s.start.phase == .refuge) then s.startWarm hw
    else if bitOn c 2 then s.fwRestart 3 hw else s := by
  have hkey : fldGet (startKey.setWidth 32 <<< 16 ||| c) 16 16 = 0x5354 := fldGet_keyed startKey hc
  rw [State.startCtrl, if_neg (not_not_intro hkey), bitOn_keyed _ _ (by decide), bitOn_keyed _ _ (by decide),
    bitOn_keyed _ _ (by decide)]

end

theorem exec_startCtrl {s : State} {p : Path} (h : s.Admits p A.GLB_START_CTRL false) (k : BitVec 16) (warm : Bool) (found : Found) :
    exec (.startWarm p k found) s = .next ((s.reached p).startCtrl p (k.setWidth 32 <<< 16 ||| 1#32) found) ∧
    exec (.startCold p k warm) s =
      .next ((s.reached p).startCtrl p (k.setWidth 32 <<< 16 ||| if warm then 3#32 else 2#32) (s.reached p).start.hw) ∧
    exec (.fwRestart p k found) s = .next ((s.reached p).startCtrl p (k.setWidth 32 <<< 16 ||| 4#32) found) :=
  ⟨congrArg Host.Outcome.next (State.guarded_admits h _), congrArg Host.Outcome.next (State.guarded_admits h _),
    congrArg Host.Outcome.next (State.guarded_admits h _)⟩

/-- WARM with its key, of a running hub, begins a commanded warm start. -/
theorem State.startCtrl_warm {s : State} {p : Path} (hup : s.start.phase = .run) (hw : Found) :
    s.startCtrl p (startKey.setWidth 32 <<< 16 ||| 1#32) hw = s.startWarm hw := by
  rw [State.startCtrl_keyed (by decide), if_neg (by simp [show bitOn 1#32 1 = false by decide]),
    if_pos (by rw [hup]; decide)]

theorem coldBits_low (warm : Bool) : fldGet (if warm then 3#32 else 2#32) 16 16 = 0 := by cases warm <;> decide

/-- COLD with its key, with WARM or without, begins a cold start; in Refuge the management port alone commands it. -/
theorem State.startCtrl_cold {s : State} {p : Path} (h : s.start.phase = .run ∨ s.start.phase = .refuge ∧ p = .mgmt) (warm : Bool)
    (hw : Found) : s.startCtrl p (startKey.setWidth 32 <<< 16 ||| if warm then 3#32 else 2#32) hw = s.startCold := by
  have hbit : bitOn (if warm then 3#32 else 2#32) 1 = true := by cases warm <;> decide
  rw [State.startCtrl_keyed (coldBits_low warm), if_pos]
  rw [hbit]
  rcases h with h | ⟨h, rfl⟩ <;> simp [h]

/-! ### What begins a start -/

/-- A start from the first rail. -/
structure State.ColdBegun (s t : State) : Prop where
  phase : t.start.phase = .rails
  railsUp : t.start.railsUp = 0
  warm : t.start.warm = false
  watch : t.start.watch = true
  kind : t.fld F.GLB_START_STAT_KIND = 0
  image : t.image = none
  herds : t.herds = []
  pending : t.pending = s.pending

theorem State.beginStart_cold (s : State) : s.ColdBegun (s.beginStart 0) := by
  have h := s.beginStart_start (kind := 0) (by decide)
  exact ⟨by rw [h], by rw [h], by rw [h]; rfl, by rw [h], s.beginStart_kind (by decide), s.beginStart_image (by decide),
    s.beginStart_herds (by decide), s.beginStart_pending 0⟩

theorem State.startCold_begun (s : State) : s.ColdBegun s.startCold := by
  obtain ⟨hphase, hrails, hwarm, hwatch, hkind, himage, hherds, hpend⟩ :=
    State.beginStart_cold (((s.setFld F.GLB_START_FAIL_FAILS_A 0).setFld F.GLB_START_FAIL_FAILS_B 0).powerDown .wait)
  exact ⟨hphase, hrails, hwarm, hwatch, hkind, himage, hherds, hpend.trans (State.powerDown_pending _ _)⟩

/-- A commanded cold start clears both counts of failed starts. -/
theorem State.startCold_fails (s : State) :
    s.startCold.fld F.GLB_START_FAIL_FAILS_A = 0 ∧ s.startCold.fld F.GLB_START_FAIL_FAILS_B = 0 := by
  have h : ∀ f : Fld, f.addr = A.GLB_START_FAIL → s.startCold.fld f =
      ((s.setFld F.GLB_START_FAIL_FAILS_A 0).setFld F.GLB_START_FAIL_FAILS_B 0).fld f := fun f hf => by
    refine State.fld_congr f ?_
    rw [hf]
    exact (State.beginStart_startFail _ (by decide)).trans (State.powerDown_glb _ _ _ (by decide))
  rw [h _ rfl, h _ rfl]
  exact ⟨(State.fld_setFld_apart _ _ rfl).trans (State.fld_setFld_fits _ _ rfl), State.fld_setFld_fits _ _ rfl⟩

theorem State.brownOut_pending (s : State) : s.brownOut.pending = s.pending := (State.brownOut_keeps (.refl s)).pending

theorem State.powerUp_pending (s : State) (pins : Nat) : (s.powerUp pins).pending = s.pending :=
  (State.powerUp_keeps pins (.refl s)).pending

/-- VDD_AON's power-up begins a cold start with the address pins it finds. -/
theorem State.powerUp_begun {s : State} (h : s.start.phase = .off) (pins : Nat) :
    ∃ u : State, s.powerUp pins = u.beginStart 0 ∧ u.start.addrPins = pins := by
  unfold State.powerUp
  rw [if_neg (by simp [h])]
  exact ⟨_, rfl, rfl⟩

/-- Settles O6, one command at a time. -/
theorem startsBegin : Obligations.StartsBegin := by
  unfold Obligations.StartsBegin
  refine ⟨fun s pins h => ?powerUp, fun s hw hp hup => ?watchdog, fun s hp hw => ?retry, fun s bank due hp hd => ?clear,
    fun s => ⟨s.brownOut, rfl, rfl, rfl, rfl, rfl, rfl, s.brownOut_pending⟩, ?warm, fun s p warm hadm hp => ?cold, ?key⟩
  case powerUp =>
    obtain ⟨u, e, hpins⟩ := State.powerUp_begun h pins
    obtain ⟨hphase, hrails, hwarm, hwatch, hkind, himage, hherds, -⟩ := u.beginStart_cold
    refine ⟨s.powerUp pins, rfl, ?_⟩
    rw [State.powerUp_pending, e]
    refine ⟨hphase, hrails, hwarm, hwatch, ?_, hkind, u.beginStart_herd, hherds, himage, rfl⟩
    rw [u.beginStart_start (by decide)]
    exact hpins
  case watchdog =>
    refine ⟨s.startFail 4 1 (s.tryBank.getD 0), congrArg Host.Outcome.next (if_pos (by simp [hw, hp])), ?_⟩
    rw [State.startFail_record _ _ _ _ rfl, State.startFail_record _ _ _ _ rfl,
      State.startFail_record _ _ _ _ (failsFld_addr _), State.startFail_waits hp hup]
    exact ⟨s.failNoted_cause _ (by decide), s.failNoted_step _ (by decide), s.failNoted_count _, rfl, rfl, rfl,
      (State.startFail_keeps _ _ _ (.refl s)).pending⟩
  case retry =>
    obtain ⟨hphase, hrails, hwarm, hwatch, hkind, himage, hherds, hpend⟩ := s.beginStart_cold
    exact ⟨_, congrArg Host.Outcome.next (if_pos (by simp [hp, hw])), hphase, hrails, hwarm, hwatch, hkind, himage, hherds, hpend⟩
  case clear =>
    refine congrArg Host.Outcome.next ?_
    rw [State.failClear, hd]
    exact if_neg (by simpa using hp)
  case warm =>
    rintro s o p found hadm hup rfl
    have hup' : (s.reached p).start.phase = .run := by rw [State.reached_start]; exact hup
    rw [(exec_startCtrl hadm 0x5354#16 false found).1]
    refine congrArg Host.Outcome.next ((State.startCtrl_warm hup' found).trans ?_)
    exact if_neg (by simp [State.up, hup])
  case cold =>
    have hp' : (s.reached p).start.phase = .run ∨ (s.reached p).start.phase = .refuge ∧ p = .mgmt := by
      rw [State.reached_start]; exact hp
    refine ⟨(s.reached p).startCold, ((exec_startCtrl hadm 0x5354#16 warm s.start.hw).2.1).trans
      (congrArg Host.Outcome.next (State.startCtrl_cold hp' warm _)), ?_⟩
    obtain ⟨hphase, hrails, hwarm, -, hkind, himage, hherds, hpend⟩ := (s.reached p).startCold_begun
    obtain ⟨ha, hb⟩ := (s.reached p).startCold_fails
    exact ⟨hphase, hrails, hwarm, hkind, ha, hb, himage, hherds, hpend.trans (s.reached_logOnly p).pending⟩
  case key =>
    intro s p k warm found hadm hk
    obtain ⟨ewarm, ecold, efw⟩ := exec_startCtrl hadm k warm found
    rw [ewarm, ecold, efw]
    exact ⟨congrArg Host.Outcome.next (State.startCtrl_wrongKey (coldBits_low warm) _ hk),
      congrArg Host.Outcome.next (State.startCtrl_wrongKey (c := 1#32) (by decide) _ hk),
      congrArg Host.Outcome.next (State.startCtrl_wrongKey (c := 4#32) (by decide) _ hk)⟩

end Sys2Proof.Machine
end

section
/-! Firmware restarts (R326, R327). -/

namespace Sys2Proof.Machine

/-! ### The firmware restarts (R326) -/

/-- What a restart of the firmware shows in `t`, and what it leaves of `s`. -/
structure State.FwRestarted (s t : State) (cause : Nat) : Prop where
  busy : t.start.fwBusy = true
  lastCause : t.fld F.GLB_FW_STAT_LAST_CAUSE = cause
  restarting : t.flag F.GLB_FW_STAT_RESTARTING = true
  restarts : t.fld F.GLB_FW_STAT_RESTARTS = min (2 ^ F.GLB_FW_STAT_RESTARTS.w - 1) (s.fld F.GLB_FW_STAT_RESTARTS + 1)
  data : t.data = s.data
  herds : t.herds = s.herds
  link : t.link = s.link
  time : t.time = s.time
  pending : t.pending = s.pending

/-- The restarts of the last 10 s. -/
def State.recentRestarts (s : State) : List Nat :=
  s.start.fwTimes.filter fun t => decide (s.time.elapsed < t + 10 * tuPerSec)

/-- GLB_FW_STAT notes a restart. -/
def State.fwNoted (s : State) (cause : Nat) : State :=
  ((s.setFlag F.GLB_FW_STAT_RESTARTING true).setFld F.GLB_FW_STAT_LAST_CAUSE cause).countSmall F.GLB_FW_STAT_RESTARTS

section
variable (s : State) {cause : Nat}

theorem State.fwNoted_cause (h : cause < 8) : (s.fwNoted cause).fld F.GLB_FW_STAT_LAST_CAUSE = cause := by
  unfold State.fwNoted State.countSmall
  rw [State.fld_setFld_apart _ _ rfl, State.fld_setFld_fits _ _ rfl]
  exact Nat.mod_eq_of_lt h

theorem State.fwNoted_restarting : (s.fwNoted cause).flag F.GLB_FW_STAT_RESTARTING = true := by
  unfold State.fwNoted State.countSmall
  rw [State.flag_setFld_apart _ _ rfl, State.flag_setFld_apart _ _ rfl, State.flag_setFlag_bit _ _ rfl rfl]

theorem State.fwNoted_restarts : (s.fwNoted cause).fld F.GLB_FW_STAT_RESTARTS =
    min (2 ^ F.GLB_FW_STAT_RESTARTS.w - 1) (s.fld F.GLB_FW_STAT_RESTARTS + 1) := by
  unfold State.fwNoted State.countSmall
  rw [State.fld_setFld_fits _ _ rfl, State.fld_setFld_apart _ _ rfl, State.fld_setFlag_apart _ _ rfl]
  exact Nat.mod_eq_of_lt (Nat.lt_of_le_of_lt (Nat.min_le_left _ _) (Nat.sub_one_lt (by decide)))

end

/-- With fewer than three restarts in the last 10 s the firmware starts again, and the core works on. -/
theorem State.fwRestart_runs {s : State} (hcore : s.core = true) (hfw : s.start.fwBusy = false) (hn : s.recentRestarts.length < 3)
    {cause : Nat} (h : cause < 8) (hw : Found) : s.FwRestarted (s.fwRestart cause hw) cause := by
  have hpend : (s.fwRestart cause hw).pending = s.pending := (State.fwRestart_keeps cause hw (.refl s)).pending
  obtain ⟨u, hu, e⟩ : ∃ u : State, u = { s.fwNoted cause with start := { s.start with
      fwTimes := s.time.elapsed :: s.recentRestarts } } ∧ s.fwRestart cause hw =
      { u.flashCut with start := { u.flashCut.start with fwBusy := true } } := by
    refine ⟨_, rfl, ?_⟩
    rw [State.fwRestart, if_neg (by simp [hcore, hfw])]
    exact if_neg (Nat.not_le.2 hn)
  rw [e] at hpend ⊢
  obtain ⟨-, htime, hlink, hdata, hherds, hglb⟩ := u.flashCut_coreStays
  have hfld : ∀ f : Fld, f.addr < 0x1000 → u.flashCut.fld f = (s.fwNoted cause).fld f := fun f hf => by
    rw [hglb.fld hf, hu]; rfl
  refine ⟨rfl, (hfld _ (by decide)).trans (s.fwNoted_cause h), ?_, (hfld _ (by decide)).trans s.fwNoted_restarts, ?_, ?_, ?_, ?_, hpend⟩
  · exact (congrArg (· != 0) (hfld F.GLB_FW_STAT_RESTARTING (by decide))).trans s.fwNoted_restarting
  · exact hdata.trans (by rw [hu]; rfl)
  · exact hherds.trans (by rw [hu]; rfl)
  · exact hlink.trans (by rw [hu]; rfl)
  · exact htime.trans (by rw [hu]; rfl)

/-- FW_RESTART with its key, and neither COLD nor WARM. -/
theorem State.startCtrl_fw (s : State) (p : Path) (hw : Found) :
    s.startCtrl p (startKey.setWidth 32 <<< 16 ||| 4#32) hw = s.fwRestart 3 hw := by
  rw [State.startCtrl_keyed (by decide), if_neg (by simp [show bitOn 4#32 1 = false by decide]),
    if_neg (by simp [show bitOn 4#32 0 = false by decide]), if_pos (by decide)]

/-! ### Escalation (R327) -/

/-- The restart gives way to a start. -/
def State.fwGivenUp (s : State) : State :=
  { s.setFlag F.GLB_FW_STAT_RESTARTING false with start := { s.start with fwBusy := false } }

section
variable {s : State} (h : s.start.phase = .run)
include h

theorem State.escalate_warm (hd : s.start.clearDue = []) (hw : Found) : s.escalate hw = s.fwGivenUp.startWarm hw := by
  unfold State.escalate
  rw [if_neg (by simp [State.up, h])]
  exact if_neg (by simp [hd])

/-- Within 10 s of step 11 the escalation is a failed start of the bank in force. -/
theorem State.escalate_fails (hd : s.start.clearDue ≠ []) {im : Image} (him : s.image = some im) (hw : Found) : ∃ t : State,
    s.escalate hw = t.startFail 4 11 im.bank ∧ t.reg A.GLB_START_FAIL = s.reg A.GLB_START_FAIL := by
  unfold State.escalate
  rw [if_neg (by simp [State.up, h]), if_pos (by simpa using hd)]
  refine ⟨_, congrArg (State.startFail _ 4 11) ?_, State.reg_setFld_other s F.GLB_FW_STAT_RESTARTING _ (by decide)⟩
  show (s.image.map (·.bank)).getD 0 = im.bank
  rw [him]
  rfl

end

/-- Settles O7, one command at a time. -/
theorem firmwareRestarts : Obligations.FirmwareRestarts := by
  unfold Obligations.FirmwareRestarts
  refine ⟨fun s p found hadm hcore hfw hn => ?command, fun s found hcore hfw hn => ⟨?watchdog, ?fault⟩, ?done, ?escalate⟩
  case command =>
    have hlog := s.reached_logOnly p
    have hcore' : (s.reached p).core = true := by rw [State.core, hlog.start]; exact hcore
    have hfw' : (s.reached p).start.fwBusy = false := by rw [hlog.start]; exact hfw
    have hn' : (s.reached p).recentRestarts.length < 3 := by
      rw [State.recentRestarts, hlog.start, hlog.time]; exact hn
    refine ⟨(s.reached p).fwRestart 3 found, ((exec_startCtrl hadm 0x5354#16 false found).2.2).trans
      (congrArg Host.Outcome.next (State.startCtrl_fw _ p found)), ?_⟩
    obtain ⟨hbusy, hcause, hre, hcount, hdata, hherds, hlink, htime, hpend⟩ :=
      State.fwRestart_runs hcore' hfw' hn' (cause := 3) (by decide) found
    rw [hlog.fld F.GLB_FW_STAT_RESTARTS (by decide)] at hcount
    exact ⟨hbusy, hcause, hre, hcount, hdata.trans hlog.data, hherds.trans hlog.herds, hlink.trans hlog.link,
      htime.trans hlog.time, hpend.trans hlog.pending⟩
  case watchdog =>
    obtain ⟨hbusy, hcause, hre, hcount, hdata, hherds, hlink, htime, hpend⟩ :=
      State.fwRestart_runs hcore hfw hn (cause := 1) (by decide) found
    exact ⟨_, rfl, hbusy, hcause, hre, hcount, hdata, hherds, hlink, htime, hpend⟩
  case fault =>
    obtain ⟨hbusy, hcause, hre, hcount, hdata, hherds, hlink, htime, hpend⟩ :=
      State.fwRestart_runs hcore hfw hn (cause := 2) (by decide) found
    exact ⟨_, rfl, hbusy, hcause, hre, hcount, hdata, hherds, hlink, htime, hpend⟩
  case done =>
    rintro s u hfw rfl
    exact congrArg Host.Outcome.next (if_neg (by simp [hfw]))
  case escalate =>
    rintro s u found hup hfw rfl
    have e : exec (.fwRestartEscalate found) s = .next (s.escalate found) := congrArg Host.Outcome.next (if_pos hfw)
    refine ⟨fun hd => e.trans (congrArg Host.Outcome.next (State.escalate_warm hup hd found)), fun hd im him => ?_⟩
    obtain ⟨t, et, ht⟩ := State.escalate_fails hup hd him found
    refine ⟨_, e, ?_⟩
    rw [(State.escalate_keeps found (.refl s)).pending, et, State.startFail_record _ _ _ _ rfl,
      State.startFail_record _ _ _ _ rfl, State.startFail_record _ _ _ _ (failsFld_addr _), State.failNoted_count]
    refine ⟨t.failNoted_cause _ (by decide), t.failNoted_step _ (by decide), ?_, rfl⟩
    have hcount : t.fld (failsFld im.bank) = s.fld (failsFld im.bank) := State.fld_congr _ (by rw [failsFld_addr]; exact ht)
    rw [hcount]

end Sys2Proof.Machine
end

section
/-! Key exchange, its retries and its expiries (R338-R341). -/

namespace Sys2Proof.Machine

/-! ### The port of a node -/

theorem SEC_NODE_STAT_ne_TRL {n : Nat} (hn : n < 516) {l : Nat} (hl : l < 4) : A.SEC_NODE_STAT n ≠ A.TRL_CFG (laneOf (n - 512) l) := by
  unfold A.SEC_NODE_STAT secNodeBase A.TRL_CFG trlBase laneOf
  rw [if_neg (show ¬ 64 + 4 * (n - 512) + l < 64 by omega)]
  split <;> omega

/-- A node's port depends on which lanes are on. -/
theorem State.keyPort_congr {s t : State} {n : Nat} (h : ∀ l, l < 4 → t.portOn (laneOf (n - 512) l) = s.portOn (laneOf (n - 512) l)) :
    t.keyPort n = s.keyPort n := by
  unfold State.keyPort
  split
  · rfl
  · simp only [show List.range 4 = [0, 1, 2, 3] from rfl, List.find?, h 0 (by decide), h 1 (by decide), h 2 (by decide),
      h 3 (by decide)]

theorem State.keyPort_setFld (s : State) {n : Nat} (hn : n < 516) {f : Fld} (hf : f.addr = A.SEC_NODE_STAT n) (v : Nat) :
    (s.setFld f v).keyPort n = s.keyPort n :=
  State.keyPort_congr fun _ hl => State.flag_setFld_other _ _ _ _ (.inl (hf ▸ SEC_NODE_STAT_ne_TRL hn hl))

/-! ### Blocks that await an answer -/

theorem State.awaits_askAll (s : State) (p : Nat) (what : Await) (blocks : List (List Byte)) :
    (s.askAll p what blocks).awaits p what = true := by
  simp [State.askAll, State.awaits]

theorem State.askAll_sess (s : State) (p : Nat) (what : Await) (blocks : List (List Byte)) (n : Nat) :
    (s.askAll p what blocks).sess n = s.sess n := rfl

/-! ### A session begins (R320, R336) -/

/-- The next node is taken from one of the two queues. -/
theorem State.nextKeyNode_eq {s u : State} {n : Nat} {re : Bool} (h : s.nextKeyNode = some (n, re, u)) :
    ∃ k r, u = { s with link := { s.link with keyQueue := k, rekeyQueue := r } } := by
  unfold State.nextKeyNode at h
  extract_lets free at h
  split at h
  · cases h; exact ⟨_, s.link.rekeyQueue, rfl⟩
  · cases h; exact ⟨s.link.keyQueue, _, rfl⟩
  · cases h

/-- KEY HELLO of a node's next session. -/
def State.helloOf (s : State) (n : Nat) : List Byte :=
  leBytes 1 1 ++ leBytes 1 ((tblGet zeroN s.link.sids n + 1) % 256) ++ s.freeBytes 32

/-- What a session that begins notes of itself, before HELLO is queued. -/
def State.sessionOpened (u : State) (n : Nat) (re : Bool) : State :=
  let sid := (tblGet zeroN u.link.sids n + 1) % 256
  let t : State := { u.drawnN 32 with link := { u.link with sids := tblSet zeroN u.link.sids n sid } }
  t.setSess n { t.sess n with sid := sid, engine := true, rekey := re, hello := u.helloOf n }

/-- SEC_NODE_STAT shows the session that begins. -/
def State.sessionShown (u : State) (n : Nat) (re : Bool) : State :=
  if re then (u.sessionOpened n re).setFlag (F.SEC_NODE_STAT_REKEYING n) true
  else (u.sessionOpened n re).setFld (F.SEC_NODE_STAT_STATE n) 1

theorem State.startSession_takes {s u : State} {n : Nat} {re : Bool} (hfree : s.link.sess.countP (fun c => c.2.engine) < 4)
    (h : s.nextKeyNode = some (n, re, u)) : s.startSession =
      (u.sessionShown n re).askAll ((u.sessionShown n re).keyPort n) (.keyHello n) (keyBlocks (keyPos n) 1 (u.helloOf n)) := by
  rw [State.startSession, if_neg (by omega), h]
  rfl

section
variable (u : State) (n : Nat) (re : Bool)

theorem State.sessionShown_link : (u.sessionShown n re).link = (u.sessionOpened n re).link := by
  unfold State.sessionShown; split <;> rfl

theorem State.sessionShown_sess : ((u.sessionShown n re).sess n).engine = true ∧ ((u.sessionShown n re).sess n).rekey = re ∧
    ((u.sessionShown n re).sess n).sid = (tblGet zeroN u.link.sids n + 1) % 256 ∧
    ((u.sessionShown n re).sess n).hello = u.helloOf n := by
  rw [State.sess, State.sessionShown_link, ← State.sess]
  unfold State.sessionOpened
  extract_lets sid t
  rw [State.sess_setSess_same]
  exact ⟨rfl, rfl, rfl, rfl⟩

theorem State.sessionShown_stat : (re = false → (u.sessionShown n re).fld (F.SEC_NODE_STAT_STATE n) = 1) ∧
    (re = true → (u.sessionShown n re).flag (F.SEC_NODE_STAT_REKEYING n) = true) := by
  refine ⟨?_, ?_⟩
  · rintro rfl; exact State.fld_setFld_fits _ 1 rfl
  · rintro rfl; exact State.flag_setFlag_bit _ true rfl rfl

theorem State.sessionShown_keyPort (hn : n < 516) : (u.sessionShown n re).keyPort n = u.keyPort n := by
  unfold State.sessionShown
  split
  · exact State.keyPort_setFld (u.sessionOpened n re) hn rfl _
  · exact State.keyPort_setFld (u.sessionOpened n re) hn rfl _

theorem State.sessionShown_frame : (u.sessionShown n re).freeCtr = u.freeCtr + 32 ∧ (u.sessionShown n re).sent = u.sent ∧
    (u.sessionShown n re).data = u.data := by
  unfold State.sessionShown; split <;> exact ⟨rfl, rfl, rfl⟩

end

section
variable {s u : State} {n : Nat} {re : Bool} (hfree : s.link.sess.countP (fun c => c.2.engine) < 4)
  (hnext : s.nextKeyNode = some (n, re, u))
include hfree hnext

/-- What a session that begins leaves: its record, its fields, KEY HELLO awaited, and 32 free bytes drawn. -/
theorem State.startSession_opens (hn : n < 516) : ∃ t, s.startSession = t ∧ (t.sess n).engine = true ∧ (t.sess n).rekey = re ∧
    (t.sess n).sid = (tblGet zeroN s.link.sids n + 1) % 256 ∧ (t.sess n).hello = s.helloOf n ∧
    (re = false → t.fld (F.SEC_NODE_STAT_STATE n) = 1) ∧ (re = true → t.flag (F.SEC_NODE_STAT_REKEYING n) = true) ∧
    t.awaits (s.keyPort n) (.keyHello n) = true ∧ t.freeCtr = s.freeCtr + 32 ∧ t.sent = s.sent ∧ t.data = s.data := by
  obtain ⟨hengine, hrekey, hsid, hhello⟩ := u.sessionShown_sess n re
  obtain ⟨hstate, hflag⟩ := u.sessionShown_stat n re
  obtain ⟨hfreeCtr, hsent, hdata⟩ := u.sessionShown_frame n re
  have hport := u.sessionShown_keyPort n re hn
  rw [State.startSession_takes hfree hnext]
  obtain ⟨k, r, e⟩ := State.nextKeyNode_eq hnext
  have hportS : u.keyPort n = s.keyPort n := by rw [e]; rfl
  have hhelloS : u.helloOf n = s.helloOf n := by rw [e]; rfl
  have hsidS : u.link.sids = s.link.sids := by rw [e]
  refine ⟨_, rfl, hengine, hrekey, by rw [← hsidS]; exact hsid, by rw [← hhelloS]; exact hhello, hstate, hflag, ?_,
    hfreeCtr.trans (by rw [e]), hsent.trans (by rw [e]), hdata.trans (by rw [e])⟩
  rw [hport, hportS]
  exact State.awaits_askAll _ _ _ _

end

/-! ### The node's side (R341) -/

theorem State.sensor_sendKey (s : State) (p pos msg : Nat) (m : List Byte) (q : Nat) :
    (s.sendKey p pos msg m).sensor q = s.sensor q := rfl

section
variable {s : State} {p pos : Nat} {fs : List KeyFrag} {m : List Byte} (hm : keyMessage fs = some m)
include hm

/-- A hello is answered: the session of its SID at the node, with 32 fresh bytes. -/
theorem State.keyHello_answers (hlen : m.length = 34) (h0 : m.getD 0 0 = 1#8) (hlc : s.lc ≠ 3) : ∃ e : NodeSess,
    s.keyHello p pos fs = (((s.drawnN 32).drawnN 2).setSensor (sensorPort p) { s.sensor (sensorPort p) with
      sess := tblPut (s.sensor (sensorPort p)).sess pos (some e) }).sendKey p pos 2 e.cert ∧
    e.sid = (m.getD 1 0).toNat ∧ e.hello = m ∧ e.nonce = s.freeBytes 32 := by
  unfold State.keyHello
  rw [hm]
  dsimp only
  rw [if_neg (not_or.2 ⟨not_not_intro hlen, not_not_intro h0⟩), if_neg hlc]
  exact ⟨_, rfl, rfl, rfl, rfl⟩

variable {e : NodeSess} (he : tblOpt (s.sensor (sensorPort p)).sess pos = some e) (hfor : keyFor e.sid m = true)
include he hfor

theorem State.keyFinish_confirmed {z k th : List Byte} (hlen : m.length = 83) (hz : p256.shared e.eph ((m.drop 2).take 65) = some z)
    (hk : k = sessionKeys (e.hello.drop 2) e.nonce z (s.virtualUid pos)
      ((((s.sensor (sensorPort p)).nodes[pos]?).map (·.na)).getD 0) e.sid)
    (hth : th = sha256 (e.hello ++ e.cert ++ (m.drop 2).take 65)) (hconf : m.drop 67 = confirm "hub" (k.drop 32) th) :
    s.keyFinish p pos fs = (s.setSensor (sensorPort p) { s.sensor (sensorPort p) with
      sess := tblPut (s.sensor (sensorPort p)).sess pos (some { e with key := k.take 32, old := e.key, moved := [] }) }).sendKey
        p pos 4 (leBytes 1 1 ++ leBytes 1 e.sid ++ confirm "node" (k.drop 32) th) := by
  subst hk hth
  unfold State.keyFinish
  dsimp only
  rw [hm, he]
  dsimp only
  rw [if_neg (by simp [hfor, hlen]), hz]
  exact if_neg (not_not_intro hconf)

theorem State.keyEnd_drops : s.keyEnd p pos fs = s.setSensor (sensorPort p) { s.sensor (sensorPort p) with
    sess := tblPut (s.sensor (sensorPort p)).sess pos none } := by
  unfold State.keyEnd
  dsimp only
  rw [hm, he]
  exact if_pos hfor

end

/-! ### CERT (R338) -/

section
variable {s : State} {n : Nat} {fs : List KeyFrag} (haw : s.awaits (s.keyPort n) (.keyHello n) = true)
include haw

theorem State.keyCert_broken (hm : keyMessage fs = none) (ho : keyOther (s.sess n).sid fs = false) :
    s.keyCert n fs = s.sessionFail n 1 := by
  unfold State.keyCert
  rw [hm]
  exact if_neg (by simp [haw, ho])

variable {m : List Byte} (hm : keyMessage fs = some m) (hfor : keyFor (s.sess n).sid m = true) {u : State}
  (hu : u = s.answered (s.keyPort n) (.keyHello n))
include hm hfor hu

theorem State.keyCert_rejected {r : Nat} (hr : u.certCheck n (s.sess n).hello m = .error r) : s.keyCert n fs = u.sessionFail n r := by
  subst hu
  unfold State.keyCert
  rw [hm]
  dsimp only
  rw [if_neg (by simp [haw, hfor]), hr]

variable {root uid : Nat} {b : CertBody} (hok : u.certCheck n (s.sess n).hello m = .ok (root, b, uid))
include hok

theorem State.keyCert_noSecret (hz : p256.shared (s.free 256 % (p256.n - 1) + 1) b.eph = none) :
    s.keyCert n fs = u.drawn.sessionFail n 6 := by
  subst hu
  unfold State.keyCert
  rw [hm]
  dsimp only
  rw [if_neg (by simp [haw, hfor]), hok]
  dsimp only
  rw [show (s.answered (s.keyPort n) (.keyHello n)).free 256 = s.free 256 from rfl, hz]

/-- A certificate that passes its checks puts the session's secrets aside, and FINISH is awaited. -/
theorem State.keyCert_finishes (hn : n < 516) {z : List Byte} (hz : p256.shared (s.free 256 % (p256.n - 1) + 1) b.eph = some z) :
    ((s.keyCert n fs).sess n).engine = false ∧
      ((s.keyCert n fs).sess n).kNext = (sessionKeys ((s.sess n).hello.drop 2) b.nonce z uid (u.drawn.nodeNa n) (s.sess n).sid).take 32 ∧
      (s.keyCert n fs).awaits (s.keyPort n) (.keyFinish n) = true ∧ (s.keyCert n fs).freeCtr = s.freeCtr + 1 ∧
      (s.keyCert n fs).sent = s.sent := by
  subst hu
  unfold State.keyCert
  rw [hm]
  dsimp only
  rw [if_neg (by simp [haw, hfor]), hok]
  dsimp only
  rw [show (s.answered (s.keyPort n) (.keyHello n)).free 256 = s.free 256 from rfl, hz]
  dsimp only
  rw [State.keyPort_setFld _ hn rfl, State.askAll_sess, State.sess_setFld, State.sess_setSess_same]
  exact ⟨rfl, rfl, State.awaits_askAll _ (s.keyPort n) _ _, rfl, rfl⟩

end

/-! ### DONE (R339) -/

theorem SEC_NODE_SESS_ne_STAT (n : Nat) : A.SEC_NODE_SESS n ≠ A.SEC_NODE_STAT n := by
  unfold A.SEC_NODE_SESS A.SEC_NODE_STAT; omega

theorem SEC_NODE_STAT_ne_LINK (n : Nat) : A.SEC_NODE_STAT n ≠ A.HEP_LINK_STAT := by
  unfold A.SEC_NODE_STAT secNodeBase A.HEP_LINK_STAT; split <;> omega

theorem NODE_ENT_ne_SEC_NODE_STAT {n : Nat} (h : n < 512) : A.NODE_ENT n ≠ A.SEC_NODE_STAT n := by
  unfold A.SEC_NODE_STAT secNodeBase A.NODE_ENT; split <;> omega

/-- The session that DONE puts in force behind the one before. -/
def State.sessionDone (s : State) (n : Nat) : SessSt :=
  let x := s.sess n
  { x with rekey := false, hello := [], kConf := [], th := [], kNext := [], old := x.key, key := x.kNext, switched := []
           fails := 0, passed := [], oldPassed := x.passed, born := s.time.elapsed }

/-- The node's registers after DONE: ESTABLISHED, with its SID, no longer rekeying, counted. -/
def State.established (s : State) (n : Nat) : State :=
  ((((s.answered (s.keyPort n) (.keyFinish n)).setSess n (s.sessionDone n)).setFld (F.SEC_NODE_STAT_STATE n) 2).setFld
    (F.SEC_NODE_STAT_SID n) (s.sess n).sid).setFlag (F.SEC_NODE_STAT_REKEYING n) false |>.count31 (A.SEC_NODE_SESS n) 1

section
variable (s : State) (n : Nat)

theorem State.established_sess : (s.established n).sess n = s.sessionDone n := by
  unfold State.established
  rw [State.sess, State.count31_link, ← State.sess, State.setFlag, State.sess_setFld, State.sess_setFld, State.sess_setFld,
    State.sess_setSess_same]

theorem State.established_stat : (s.established n).fld (F.SEC_NODE_STAT_STATE n) = 2 ∧
    (s.established n).flag (F.SEC_NODE_STAT_REKEYING n) = false := by
  have h := State.count31_reg_other ((((s.answered (s.keyPort n) (.keyFinish n)).setSess n (s.sessionDone n)).setFld
    (F.SEC_NODE_STAT_STATE n) 2).setFld (F.SEC_NODE_STAT_SID n) (s.sess n).sid |>.setFlag (F.SEC_NODE_STAT_REKEYING n) false) 1
    (SEC_NODE_SESS_ne_STAT n) (SEC_NODE_STAT_ne_LINK n)
  refine ⟨(State.fld_congr (F.SEC_NODE_STAT_STATE n) h).trans ?_,
    (State.flag_congr (F.SEC_NODE_STAT_REKEYING n) h).trans (State.flag_setFlag_bit _ _ rfl rfl)⟩
  rw [State.fld_setFlag_apart _ _ rfl, State.fld_setFld_apart _ _ rfl, State.fld_setFld_fits _ _ rfl]
  rfl

theorem State.established_data : (s.established n).data = s.data := by
  unfold State.established
  rw [State.count31_data]
  rfl

variable {s n} {fs : List KeyFrag} {m : List Byte} (hm : keyMessage fs = some m)
  (haw : s.awaits (s.keyPort n) (.keyFinish n) = true) (hfor : keyFor (s.sess n).sid m = true)
include hm haw hfor

theorem State.keyDone_establishes (hc : m.drop 2 = confirm "node" (s.sess n).kConf (s.sess n).th) : s.keyDone n fs =
    if n < 512 ∧ (s.established n).fld (F.NODE_ENT_STATE n) < 3 then (s.established n).setFld (F.NODE_ENT_STATE n) 3
    else s.established n := by
  unfold State.keyDone
  rw [hm]
  dsimp only
  rw [if_neg (by simp [haw, hfor]), if_neg (not_not_intro hc)]
  rfl

theorem State.keyDone_wrong (hc : m.drop 2 ≠ confirm "node" (s.sess n).kConf (s.sess n).th) :
    s.keyDone n fs = (s.answered (s.keyPort n) (.keyFinish n)).sessionFail n 7 := by
  unfold State.keyDone
  rw [hm]
  dsimp only
  rw [if_neg (by simp [haw, hfor]), if_pos hc]

/-- DONE whose confirmation is right puts the new key in force, and the node reads ESTABLISHED. -/
theorem State.keyDone_inForce (hc : m.drop 2 = confirm "node" (s.sess n).kConf (s.sess n).th) :
    (s.keyDone n fs).sess n = s.sessionDone n ∧ (s.keyDone n fs).fld (F.SEC_NODE_STAT_STATE n) = 2 ∧
      (s.keyDone n fs).flag (F.SEC_NODE_STAT_REKEYING n) = false ∧ (s.keyDone n fs).data = s.data := by
  have hsess := s.established_sess n
  obtain ⟨hstate, hflag⟩ := s.established_stat n
  have hdata := s.established_data n
  rw [State.keyDone_establishes hm haw hfor hc]
  split
  next h =>
    have hne : (F.NODE_ENT_STATE n).addr ≠ A.SEC_NODE_STAT n := NODE_ENT_ne_SEC_NODE_STAT h.1
    exact ⟨(State.sess_setFld _ _ _ _).trans hsess, (State.fld_setFld_other _ _ _ _ (.inl hne)).trans hstate,
      (State.flag_setFld_other _ _ _ _ (.inl hne)).trans hflag, hdata⟩
  next => exact ⟨hsess, hstate, hflag, hdata⟩

end

/-! ### Failures, retries and expiries (R338, R340) -/

section
variable {s : State} {n : Nat}

/-- A failed exchange shows its reason. -/
theorem State.sessionFail_reason {r : Nat} (h : r < 16) : (s.sessionFail n r).fld (F.SEC_NODE_STAT_REASON n) = r := by
  have hr : ∀ t : State, ((t.setFld (F.SEC_NODE_STAT_REASON n) r).setFlag (F.SEC_NODE_STAT_REKEYING n) false).fld
      (F.SEC_NODE_STAT_REASON n) = r := fun t => by
    rw [State.fld_setFlag_apart _ _ rfl, State.fld_setFld_fits _ _ rfl]
    exact Nat.mod_eq_of_lt h
  unfold State.sessionFail
  extract_lets
  split
  · rw [State.fld_setFld_apart _ _ rfl, hr]
  · exact hr _

theorem State.sessionRetry_keyed (he : (s.sess n).engine = false) (hh : (s.sess n).hello = [])
    (hr : s.fld (F.SEC_NODE_STAT_REASON n) ≠ 0) (hk : (s.sess n).key ≠ []) : s.sessionRetry n =
      { s with link := { s.link with rekeyQueue := setIns n s.link.rekeyQueue } } := by
  rw [State.sessionRetry, if_neg (by simp [he, hh, hr]), if_pos hk]

theorem State.sessionRetry_keyless (he : (s.sess n).engine = false) (hh : (s.sess n).hello = [])
    (hr : s.fld (F.SEC_NODE_STAT_REASON n) ≠ 0) (hk : (s.sess n).key = []) (hst : s.fld (F.SEC_NODE_STAT_STATE n) = 3) :
    s.sessionRetry n = s.wantSession n := by
  rw [State.sessionRetry, if_neg (by simp [he, hh, hr]), if_neg (not_not_intro hk), if_pos hst]

end

theorem keyNode_lt (p : Fin 80) (pos : Fin 8) : keyNode p pos < 516 := by
  unfold keyNode nodeAddr laneTrunk
  split <;> omega

/-- Settles O21, one command at a time. -/
theorem keyExchange : Obligations.KeyExchange := by
  unfold Obligations.KeyExchange
  refine ⟨?start, ?hello, ?finish, ?cert, ?done, fun s n r hr => State.sessionFail_reason hr, ?theEnd, ?retry, ?rekey, ?expire⟩
  case start =>
    intro s u n re hr hfree hnext hn
    obtain ⟨t, e, ht⟩ := State.startSession_opens hfree hnext hn
    exact ⟨t, congrArg Host.Outcome.next ((State.timer_runs hr _ _).trans e), ht⟩
  case hello =>
    intro s p pos fs m hup hm hlen h0 hlc
    obtain ⟨e, eq, hsid, hhello, hnonce⟩ := State.keyHello_answers (p := p) (pos := pos) hm hlen h0 hlc
    refine ⟨_, e, congrArg Host.Outcome.next ((State.asSensor_up hup _).trans eq), ?_, hsid, hhello, hnonce, rfl, rfl⟩
    rw [State.sensor_sendKey, State.sensor_setSensor_same]
    exact tblOpt_put_same _ _ _
  case finish =>
    intro s p pos fs m k th e z hup hm he hfor hlen hz hk hth hconf
    exact congrArg Host.Outcome.next ((State.asSensor_up hup _).trans
      (State.keyFinish_confirmed hm he hfor hlen hz hk hth hconf))
  case cert =>
    rintro s u p pos fs n hr rfl haw hu
    have e : exec (.keyCert p pos fs) s = .next (s.keyCert (keyNode p pos) fs) :=
      congrArg Host.Outcome.next (State.engine_runs hr _ _)
    rw [e]
    refine ⟨fun hm ho => by rw [State.keyCert_broken haw hm ho],
      fun m r hm hfor hbad => by rw [State.keyCert_rejected haw hm hfor hu hbad], fun m root b uid hm hfor hok => ⟨_, rfl, ?_⟩⟩
    split
    next hz => exact State.keyCert_noSecret haw hm hfor hu hok hz
    next z hz => exact State.keyCert_finishes haw hm hfor hu hok (keyNode_lt p pos) hz
  case done =>
    rintro s p pos fs m n hr rfl hm haw hfor
    have e : exec (.keyDone p pos fs) s = .next (s.keyDone (keyNode p pos) fs) :=
      congrArg Host.Outcome.next (State.engine_runs hr _ _)
    rw [e]
    refine ⟨fun hc => ⟨_, rfl, ?_⟩, fun hc => by rw [State.keyDone_wrong hm haw hfor hc]⟩
    obtain ⟨hsess, hstate, hflag, hdata⟩ := State.keyDone_inForce hm haw hfor hc
    rw [hsess]
    exact ⟨rfl, rfl, hstate, hflag, hdata⟩
  case theEnd =>
    intro s p pos fs m e hup hm he hfor
    exact congrArg Host.Outcome.next ((State.asSensor_up hup _).trans (State.keyEnd_drops hm he hfor))
  case retry =>
    intro s n hr he hh hreason
    have e : exec (.sessionRetry n) s = .next (s.sessionRetry n) := congrArg Host.Outcome.next (State.timer_runs hr _ _)
    rw [e]
    exact ⟨fun hk => by rw [State.sessionRetry_keyed he hh hreason hk],
      fun hk hst => by rw [State.sessionRetry_keyless he hh hreason hk hst]⟩
  case rekey => exact fun s n hup hst => congrArg Host.Outcome.next ((State.whenUp_up hup _).trans (if_pos hst))
  case expire => exact fun s n hup => congrArg Host.Outcome.next (State.whenUp_up hup _)

end Sys2Proof.Machine
end

section
/-! The signed difference of two times, and a cycle of the time base (R45, R46). -/

namespace Sys2Proof.Machine

/-! ### The signed difference -/

/-- A field of an integer holds its residue. -/
theorem unsigned_cast (w : Nat) (i : Int) : (unsigned w i : Int) = i % (2 ^ w : Nat) :=
  Int.toNat_of_nonneg (Int.emod_nonneg _ (Int.natCast_ne_zero.2 (Nat.two_pow_pos w).ne'))

/-- Settles O59: the field of the difference holds its residue, which is read as it is below 2^47 and less 2^48 from there on. -/
theorem signedDifference : Obligations.SignedDifference := by
  unfold Obligations.SignedDifference
  intro a b
  have hres := unsigned_cast 48 ((a : Int) - b)
  unfold sdiff signed
  split
  · omega
  · omega

/-! ### The idle step -/

/-- With no step of device time pending, what passes is one cycle (R46, R48). -/
theorem State.timeBase_cycle {s : State} (h : s.time.adj = none) : s.timeBase = s.cycle := by
  rw [State.timeBase, h]

/-- Where no channel is in use, no pacing request moves anything (R247). -/
theorem State.paceMoves_none {s : State} (h : s.dma.chan = []) : s.paceMoves = s := by
  rw [State.paceMoves, h]; rfl

/-- A step on an empty queue is what the hub does by itself. -/
theorem step_idle {s : State} (h : s.pending = []) : step s = .next s.idle := by rw [step, h]

/-- Settles O2: a hub without a core does nothing; one with a core runs the cycle, and no channel moves. -/
theorem idleStep : Obligations.IdleStep := by
  unfold Obligations.IdleStep
  refine ⟨fun s hq hc => ?off, fun s hq hc hadj hinc hch => ⟨s.cycle, ?on, ?_⟩⟩
  case off => rw [step_idle hq, State.idle, hc]; rfl
  case on => rw [step_idle hq, State.idle, hc, if_pos rfl, State.timeBase_cycle hadj,
    State.paceMoves_none (show s.cycle.dma.chan = [] from hch)]
  have hinc' : s.time.incNext.getD s.time.inc = s.time.inc := by rw [hinc]; rfl
  refine ⟨?_, ?_, rfl, rfl, rfl, hq⟩
  · simp only [State.cycle, hinc']
  · simp only [State.cycle, hinc']

end Sys2Proof.Machine
end

section
/-! The hub as a sensor: discovery, triggers, time, rates and loops (R60, R62, R63, R87, R93, R98, R101, R102, R107, R119,
R120). -/

namespace Sys2Proof.Machine

/-! ### What a reset of the assignment leaves -/

/-- A write to one port's sensor end is read there, and nowhere else. -/
theorem State.sensor_setSensor (s : State) (p q : Nat) (x : SensorSt) :
    (s.setSensor p x).sensor q = if p = q then x else s.sensor q := tblGet_set _ _ _ _ _

@[simp] theorem State.sensor_setTx (s : State) (p q : Nat) (x : TxSt) : (s.setTx p x).sensor q = s.sensor q := rfl

@[simp] theorem State.sensor_setStep (s : State) (p step q : Nat) : (s.setStep p step).sensor q = s.sensor q := rfl

theorem State.unassign_sensor (s : State) (p q : Nat) : (s.unassign p).sensor q =
    if p = q ∨ s.discovers p = true ∧ sensorPort p = q then sensorReset q else s.sensor q := by
  unfold State.unassign
  rw [State.sensor_setStep, State.sensor_setTx, State.sensor_setSensor]
  by_cases hp : p = q
  · rw [if_pos hp, if_pos (.inl hp)]; rfl
  · rw [if_neg hp]
    split
    next hd => rw [State.sensor_setSensor]; simp only [hp, hd, false_or, true_and]; rfl
    next hd => rw [if_neg (by simp [hp, hd])]

theorem State.unassign_sent (s : State) (p : Nat) : (s.unassign p).sent = s.sent := by
  unfold State.unassign
  split <;> rfl

/-! ### The answers -/

/-- What a command at a port that is the sensor end answers. -/
theorem State.asSensor_next {s t : State} {p : Nat} {act : State → State} (h : s.SensorUp p) (e : act s = t) :
    (.next (s.asSensor p act) : Result) = .next t := congrArg Host.Outcome.next ((State.asSensor_up h act).trans e)

/-- Settles O19, one command at a time: the port is the sensor end, so each command acts at once, and the virtual node it names
is there. -/
theorem sensorDiscovery : Obligations.SensorDiscovery := by
  unfold Obligations.SensorDiscovery
  refine ⟨fun s p hup hn => ⟨?query, fun na isids seg cap => ?assign⟩, fun s p pos hup hn => ⟨?extend, ?cut, ?poll, ?trig⟩,
    fun s p hup => ?reset, fun s p => ⟨?_, fun hd => ?_, s.unassign_sent p⟩⟩
  case query => exact State.asSensor_next hup (if_pos hn)
  case assign => exact State.asSensor_next hup (if_pos hn)
  case extend => exact State.asSensor_next hup (if_pos hn)
  case cut => exact State.asSensor_next hup (if_pos hn)
  case poll => exact State.asSensor_next hup (if_pos hn)
  case trig => exact State.asSensor_next hup (if_pos hn)
  case reset => exact State.asSensor_next hup rfl
  · rw [State.unassign_sensor, if_pos (.inl rfl)]
  · rw [State.unassign_sensor, if_pos (.inr ⟨hd, rfl⟩)]

/-- Settles O20, one command at a time: the port is the sensor end, so each command acts at once, under the condition that its
clause names. -/
theorem sensorRates : Obligations.SensorRates := by
  unfold Obligations.SensorRates
  refine ⟨fun s p pos hup hn => ⟨fun seq => ?time, ?loopReq⟩, fun s p pos d n hup hn => ?result,
    fun s p hops step a hup hok => ?switch,
    fun s p hup ht => ?commit, fun s p hup => ?revert, fun s p pos hup hl hpos => ?loopEnd⟩
  case time => exact State.asSensor_next hup (if_pos hn)
  case loopReq => exact State.asSensor_next hup (if_pos hn)
  case result =>
    refine State.asSensor_next hup ?_
    show (match (s.sensor (sensorPort p)).nodes[pos.val]? with | some n => _ | none => _) = _
    rw [hn]
  case switch => exact State.asSensor_next hup (if_pos hok)
  case commit => exact State.asSensor_next hup (if_pos ht)
  case revert => exact State.asSensor_next hup rfl
  case loopEnd => exact State.asSensor_next hup (if_pos (by simp [hl, hpos]))

end Sys2Proof.Machine
end

section
/-! Mode requests, the loss of the host, LIMP_N, WAKE_IN and the choice of a bank (R31, R37, R38, R309). -/

namespace Sys2Proof.Machine

/-! ### A limit on the host's silence (R38) -/

theorem State.lossLimit_passes {s : State} {lim : Nat} (hlim : lim ≠ 0) (h0 : s.mode ≠ 0) (h2 : s.mode ≠ 2) (h3 : s.mode ≠ 3)
    (bit since' : Nat) : s.lossLimit bit lim since' =
      (s.advance (s.now + (since' + lim * 16000000 + 1 - s.time.elapsed))).hostLost bit :=
  if_neg (by simp [hlim, h0, h2, h3])

theorem State.lossLimit_off {s : State} {lim : Nat} (h : lim = 0 ∨ s.mode = 0 ∨ s.mode = 2 ∨ s.mode = 3) (bit since' : Nat) :
    s.lossLimit bit lim since' = s := if_pos h

/-! ### The bank that starts use (R309) -/

/-- A bank that has passed VERIFY becomes the primary one, and no failed start counts against either. -/
theorem State.cfgSel_verified {s : State} {v : Word} (h : s.verified (fldGet v 0 1) = true) :
    (s.cfgSel v).led.primaryB = (fldGet v 0 1 == 1) ∧ (s.cfgSel v).fld F.GLB_START_FAIL_FAILS_A = 0 ∧
      (s.cfgSel v).fld F.GLB_START_FAIL_FAILS_B = 0 ∧ (s.cfgSel v).sent = s.sent ∧ (s.cfgSel v).data = s.data := by
  unfold State.cfgSel
  extract_lets bank led t u
  obtain ⟨regs, e, -⟩ := plainWriteFrame t A.CFG_SEL v
  rw [if_neg (by simp [bank, h]), State.fld_setFld_apart _ _ rfl, State.fld_setFld_fits _ _ rfl, State.fld_setFld_fits _ _ rfl]
  simp [u, e, t, bank]

theorem State.cfgSel_refused {s : State} {v : Word} (h : s.verified (fldGet v 0 1) = false) :
    s.cfgSel v = s.setFlag F.CFG_SEL_SEL_REJ true := if_pos (by rw [h]; rfl)

/-! ### Leaving Standby (R37) -/

theorem State.wake_standby {s : State} (h : s.start.phase = .standby) (toLimp : Bool) :
    s.wake toLimp = { s.beginStart 1 with start := { (s.beginStart 1).start with toLimp := toLimp } } :=
  if_neg (by simp [h])

theorem State.wake_elsewhere {s : State} (h : s.start.phase ≠ .standby) (toLimp : Bool) : s.wake toLimp = s :=
  if_pos (by simpa using h)

/-- Settles O33, one command at a time. -/
theorem modeRequests : Obligations.ModeRequests := by
  unfold Obligations.ModeRequests
  refine ⟨fun s hadm => ?beat, fun s hadm => ?beatElsewhere,
    fun s hup => ⟨fun t ht hlim h0 h2 h3 => ?linkDown, fun hlim h0 h2 h3 => ?silent, fun h => ?noLimit⟩,
    fun s r p v hadm hr => ?request, fun s u hup hu => ?limp, fun s h => ?wake, fun s h => ?awake,
    fun s r p v hadm hr => ⟨fun hv => ?select, fun hv => ?refuse⟩⟩
  case beat =>
    exact ⟨_, congrArg Host.Outcome.next (State.guarded_admits hadm _), congrArg TimeSt.elapsed (s.reached_time .bar0), rfl, rfl⟩
  case beatElsewhere => exact congrArg Host.Outcome.next (State.guarded_admits hadm _)
  case linkDown =>
    refine congrArg Host.Outcome.next ((State.whenUp_up hup _).trans ?_)
    show (match s.hep.downSince with | some t => _ | none => _) = _
    rw [ht]
    exact State.lossLimit_passes hlim h0 h2 h3 _ _
  case silent => exact congrArg Host.Outcome.next ((State.whenUp_up hup _).trans (State.lossLimit_passes hlim h0 h2 h3 _ _))
  case noLimit => exact congrArg Host.Outcome.next ((State.whenUp_up hup _).trans (State.lossLimit_off h _ _))
  case request =>
    subst hr
    refine congrArg Host.Outcome.next ((State.guarded_admits hadm _).trans ?_)
    cases p <;> rfl
  case limp =>
    show execLimpNAssert s = _
    rw [execLimpNAssert, State.limpPin, ← hu]
    simp only [show u.start.phase = .run by rw [hu]; exact hup]
  case wake =>
    have hstart := s.beginStart_start (kind := 1) (by decide)
    refine ⟨_, congrArg Host.Outcome.next (State.wake_standby h false), ?_, ?_, rfl, s.beginStart_pending 1⟩
    · show (s.beginStart 1).start.phase = .rails
      rw [hstart]
    · show (s.beginStart 1).start.railsUp = 0
      rw [hstart]
  case awake => exact congrArg Host.Outcome.next (State.wake_elsewhere h false)
  case select =>
    subst hr
    exact ⟨_, congrArg Host.Outcome.next (State.guarded_admits hadm _), State.cfgSel_verified hv⟩
  case refuse =>
    subst hr
    exact congrArg Host.Outcome.next ((State.guarded_admits hadm _).trans (State.cfgSel_refused hv))

end Sys2Proof.Machine
end

section
/-! What bring-up, delay rounds and the planning of triggers leave alone: the always-on island, the data
path, the herds and the camera supply. -/

namespace Sys2Proof.Machine

/-! ### Alternatives and repetitions -/

/-- The always-on island, the data path, the herds and the camera supply. -/
def State.line (s : State) : AonSt × DataSt × List Herd × PwrSt := (s.aon, s.data, s.herds, s.pwr)

theorem State.line_eq {s t : State} (h : t.line = s.line) : t.aon = s.aon ∧ t.data = s.data ∧
    t.herds = s.herds ∧ t.pwr = s.pwr := by
  simpa [State.line] using h

theorem State.line_of {s t : State} (ha : t.aon = s.aon) (hd : t.data = s.data) (hh : t.herds = s.herds) (hp : t.pwr = s.pwr) :
    t.line = s.line := by
  rw [State.line, ha, hd, hh, hp, State.line]

@[simp] theorem State.line_mk {s : State} {regs start time recs led link ep hep modes plc grz dma image sec bus b m j flash bad
    tail fl k sent pend} : State.line ⟨regs, s.aon, start, time, recs, led, link, ep, hep, s.data, s.herds, modes, plc, grz, dma,
      image, sec, s.pwr, bus, b, m, j, flash, bad, tail, fl, k, sent, pend⟩ = s.line := State.line_of rfl rfl rfl rfl

@[simp] theorem State.line_ite (c : Prop) [Decidable c] (s t : State) :
    (if c then s else t).line = if c then s.line else t.line :=
  apply_ite State.line ..

/-- A repetition of steps that each leave a part of the state leaves it. -/
theorem State.foldl_same {α β : Type} (part : State → β) {f : State → α → State} (hf : ∀ t x, part (f t x) = part t)
    (l : List α) (s : State) : part (l.foldl f s) = part s :=
  List.foldlRecOn (motive := fun t : State => part t = part s) l _ rfl fun t ht x _ => (hf t x).trans ht

@[simp] theorem State.line_foldl {α : Type} {f : State → α → State} (l : List α) (s : State)
    (hf : ∀ t x, (f t x).line = t.line) : (l.foldl f s).line = s.line := State.foldl_same State.line hf l s

theorem State.LogOnly.line {s t : State} (h : s.LogOnly t) : t.line = s.line := State.line_of h.aon h.data h.herds h.pwr

section
variable (s : State)

@[simp] theorem State.setReg_line (a : Nat) (v : Word) : (s.setReg a v).line = s.line := State.line_of rfl rfl rfl rfl
@[simp] theorem State.setFld_line (f : Fld) (v : Nat) : (s.setFld f v).line = s.line := State.line_of rfl rfl rfl rfl
@[simp] theorem State.setFlag_line (f : Fld) (b : Bool) : (s.setFlag f b).line = s.line := State.line_of rfl rfl rfl rfl
@[simp] theorem State.emit_line (o : Out) : (s.emit o).line = s.line := State.line_of rfl rfl rfl rfl
@[simp] theorem State.log_line (c n : Nat) (d : List Byte) : (s.log c n d).line = s.line := (s.log_logOnly c n d).line
@[simp] theorem State.raiseIrq_line (n : Nat) : (s.raiseIrq n).line = s.line := (s.raiseIrq_logOnly n).line
@[simp] theorem State.count31_line (a n : Nat) : (s.count31 a n).line = s.line :=
  (s.count31_logOnly a n).elim fun _ h => h.line.trans (State.line_of rfl rfl rfl rfl)

end

section
variable (s : State)

/-! ### Ports -/

@[simp] theorem State.setTx_line (p : Nat) (x : TxSt) : (s.setTx p x).line = s.line := State.line_of rfl rfl rfl rfl
@[simp] theorem State.setRx_line (p : Nat) (x : RxSt) : (s.setRx p x).line = s.line := State.line_of rfl rfl rfl rfl
@[simp] theorem State.setPort_line (p : Nat) (x : PortSt) : (s.setPort p x).line = s.line := State.line_of rfl rfl rfl rfl
@[simp] theorem State.setSensor_line (p : Nat) (x : SensorSt) : (s.setSensor p x).line = s.line := State.line_of rfl rfl rfl rfl
@[simp] theorem State.sendCtl_line (p type addr : Nat) (body : List Byte) : (s.sendCtl p type addr body).line = s.line :=
  State.line_of rfl rfl rfl rfl
@[simp] theorem State.askAll_line (p : Nat) (what : Await) (l : List (List Byte)) : (s.askAll p what l).line = s.line :=
  State.line_of rfl rfl rfl rfl
@[simp] theorem State.ask_line (p : Nat) (what : Await) (type addr : Nat) (body : List Byte) :
    (s.ask p what type addr body).line = s.line := State.line_of rfl rfl rfl rfl
@[simp] theorem State.query_line (p : Nat) : (s.query p).line = s.line := State.line_of rfl rfl rfl rfl
@[simp] theorem State.setBrup_line (p st : Nat) : (s.setBrup p st).line = s.line := s.setFld_line _ _
@[simp] theorem State.setStep_line (p step : Nat) : (s.setStep p step).line = s.line := State.line_of rfl rfl rfl rfl
@[simp] theorem State.plcTrigger_line (bit : Nat) : (s.plcTrigger bit).line = s.line := State.line_of rfl rfl rfl rfl

@[simp] theorem State.pathSteps_line (p : Nat) : (s.pathSteps p).line = s.line := by simp [State.pathSteps]

@[simp] theorem State.setHop_line (p h step : Nat) (up : Bool) : (s.setHop p h step up).line = s.line := by simp [State.setHop]

/-! ### Nodes that are lost -/

@[simp] theorem State.tunEnd_line (na result : Nat) : (s.tunEnd na result).line = s.line := by simp [State.tunEnd]

@[simp] theorem State.dropNodeTrigs_line (na : Nat) : (s.dropNodeTrigs na).line = s.line := State.line_of rfl rfl rfl rfl

@[simp] theorem State.delayClear_line (na : Nat) : (s.delayClear na).line = s.line := State.line_of rfl rfl rfl rfl

@[simp] theorem State.delaysClear_line (p n : Nat) : (s.delaysClear p n).line = s.line := by simp [State.delaysClear]

@[simp] theorem State.loseNode_line (p q : Nat) : (s.loseNode p q).line = s.line := by simp [State.loseNode]

@[simp] theorem State.loseFrom_line (p n : Nat) : (s.loseFrom p n).line = s.line := by simp [State.loseFrom]

@[simp] theorem State.discover_line (p : Nat) : (s.discover p).line = s.line := by
  unfold State.discover
  extract_lets a b c d e f
  have hf : f.line = s.line := by simp [f, e, d, c, b, a]
  split
  · rw [State.query_line, hf]
  · rw [State.setPort_line, hf]

/-! ### Rounds and sessions -/

@[simp] theorem State.setRound_line (na : Nat) (r : Option DelayRound) : (s.setRound na r).line = s.line :=
  State.line_of rfl rfl rfl rfl

@[simp] theorem State.timeReq_line (na seq : Nat) : (s.timeReq na seq).line = s.line := State.line_of rfl rfl rfl rfl

@[simp] theorem State.startRound_line (na : Nat) : (s.startRound na).line = s.line := by simp [State.startRound]

@[simp] theorem State.runDue_line (p : Nat) : (s.runDue p).line = s.line := by
  unfold State.runDue
  split <;> simp

@[simp] theorem State.endRound_line (na : Nat) : (s.endRound na).line = s.line := by simp [State.endRound]

@[simp] theorem State.wantSession_line (n : Nat) : (s.wantSession n).line = s.line := by
  simp [State.wantSession, State.enqueueKey]

@[simp] theorem State.firstSession_line (n : Nat) : (s.firstSession n).line = s.line := by simp [State.firstSession]

@[simp] theorem State.portUpCheck_line (p : Nat) : (s.portUpCheck p).line = s.line := by
  unfold State.portUpCheck
  extract_lets nodes
  split <;> simp

/-! ### Triggers -/

@[simp] theorem State.missTrigger_line (na : Nat) : (s.missTrigger na).line = s.line := State.line_of rfl rfl rfl rfl

@[simp] theorem State.slotTrigger_line (p : Nat) (g : TrigBlock) : (s.slotTrigger p g).line = s.line := by
  unfold State.slotTrigger
  extract_lets x
  split <;> simp

@[simp] theorem State.placeTrigger_line (p pos : Nat) (tl : Int) (expo vcMask herd base : Nat) :
    (s.placeTrigger p pos tl expo vcMask herd base).line = s.line := by simp [State.placeTrigger]

@[simp] theorem State.planNode_line (na base n : Nat) : (s.planNode na base n).line = s.line := by simp [State.planNode]

@[simp] theorem State.planTriggers_line (base n : Nat) : (s.planTriggers base n).line = s.line := by simp [State.planTriggers]

@[simp] theorem State.planAhead_line : s.planAhead.line = s.line := by
  unfold State.planAhead
  extract_lets b c t u
  have ht : t.line = s.line := by
    unfold t
    split <;> simp
  have hu : u.line = t.line := by
    unfold u
    split <;> simp
  rw [State.line_mk, hu, ht]

@[simp] theorem State.planLate_line (na : Nat) : (s.planLate na).line = s.line := by simp [State.planLate]

@[simp] theorem State.retrigger_line (a : Int) (skipped : Nat) : (s.retrigger a skipped).line = s.line := by
  simp [State.retrigger, State.dropTrigs]

/-! ### Compare units -/

@[simp] theorem State.setCmp_line (n : Nat) (t : Option CmpTarget) : (s.setCmp n t).line = s.line :=
  State.line_of rfl rfl rfl rfl

@[simp] theorem State.drivePin_line (n : Nat) (level : Bool) (t : Nat) : (s.drivePin n level t).line = s.line := by
  simp [State.drivePin]

@[simp] theorem State.cmpPin_line (n t : Nat) : (s.cmpPin n t).line = s.line := by simp [State.cmpPin]

@[simp] theorem State.paceRequest_line (c : Nat) : (s.paceRequest c).line = s.line := by simp [State.paceRequest]

@[simp] theorem State.paceByCmp_line (n : Nat) : (s.paceByCmp n).line = s.line := by simp [State.paceByCmp]

@[simp] theorem State.cmpFire_line (n t : Nat) : (s.cmpFire n t).line = s.line := by simp [State.cmpFire]

@[simp] theorem State.cmpNext_line (n t floor : Nat) : (s.cmpNext n t floor).line = s.line := by
  unfold State.cmpNext
  split <;> simp

@[simp] theorem State.cmpStep_line (from' n : Nat) : (s.cmpStep from' n).line = s.line := by
  unfold State.cmpStep
  split <;> simp

@[simp] theorem State.cmpStepAll_line (from' : Nat) : (s.cmpStepAll from').line = s.line := by simp [State.cmpStepAll]

@[simp] theorem State.skipPassed_line : s.skipPassed.line = s.line := by
  unfold State.skipPassed
  extract_lets e R m k
  split
  · rfl
  · rw [State.log_line, State.line_mk]

end

end Sys2Proof.Machine
end

section
/-! PTM measurements and delay rounds (R57-R60). -/

namespace Sys2Proof.Machine

/-! ### PTM measurements (R57) -/

/-- With PTM enabled and none in progress, a measurement starts by its first request. -/
theorem State.ptmStart_begins {s : State} (hen : s.ep.ptmEn = true) (hst : s.fld F.TIME_PTM_STAT_STATE ≠ 1) :
    s.ptmStart = ({ (s.setFld F.TIME_PTM_STAT_STATE 1).setFlag F.TIME_PTM_STAT_DISABLED false with
      time := { s.time with ptmT1 := some (st48 s.now), ptmRtt := none } } : State).emit .ptmRequest := by
  rw [State.ptmStart, if_neg hst, if_neg (by simp [hen])]
  rfl

@[simp] theorem State.reached_ep_ptmEn (s : State) (p : Path) : (s.reached p).ep.ptmEn = s.ep.ptmEn := by
  unfold State.reached; split <;> simp

/-- A write of TIME_PTM_CTRL with GO. -/
theorem State.ptmCtrl_go {s : State} {v : Word} (h : bitOn v 16 = true) :
    s.ptmCtrl v = (s.plainWrite A.TIME_PTM_CTRL v).ptmStart := if_pos h

theorem bitOn_or_go (v : Word) : bitOn (v ||| 0x10000#32) 16 = true := by simp [bitOn]

/-- The first response brings the round trip and the second request. -/
theorem State.ptmDone_first {s : State} {t1 : Nat} (ht1 : s.time.ptmT1 = some t1) (hst : s.fld F.TIME_PTM_STAT_STATE = 1)
    (hrtt : s.time.ptmRtt = none) (rtt turn : Nat) (m : BitVec 64) :
    s.ptmDone rtt turn m = ({ s with time := { s.time with ptmRtt := some rtt } } : State).emit .ptmRequest := by
  simp only [State.ptmDone, ht1, hst, hrtt, if_true]

/-- What the second response publishes: the results of the first dialog. -/
def State.ptmResults (s : State) (t1 rtt turn : Nat) (m : BitVec 64) : State :=
  let d := divRound ((rtt : Int) - 16 * turn) 2
  let u := ((s.setPair A.TIME_PTM_T1_LO 16 t1).setPair A.TIME_PTM_MASTER_LO 32 m.toNat).setReg A.TIME_PTM_DELAY (BitVec.ofInt 32 d)
  let u := (u.setFld F.TIME_PTM_STAT_STATE 2).setFld F.TIME_PTM_STAT_SEQ (u.fld F.TIME_PTM_STAT_SEQ + 1)
  { u with time := { u.time with ptmT1 := none, ptmRtt := none } }

theorem State.ptmDone_second {s : State} {t1 first : Nat} (ht1 : s.time.ptmT1 = some t1)
    (hst : s.fld F.TIME_PTM_STAT_STATE = 1) (hrtt : s.time.ptmRtt = some first) (rtt turn : Nat) (m : BitVec 64) :
    s.ptmDone rtt turn m = (s.ptmResults t1 first turn m).raiseIrq 289 := by
  simp only [State.ptmDone, ht1, hst, hrtt, if_true]
  rfl

section
variable (s : State) (t1 rtt turn : Nat) (m : BitVec 64)

/-- A pair leaves every register but its two. -/
theorem State.reg_setPair_other {lo a : Nat} (hlo : lo ≠ a) (hhi : lo + 4 ≠ a) (w v : Nat) :
    (s.setPair lo w v).reg a = s.reg a := by
  rw [State.setPair, State.reg_setReg_other _ _ hhi, State.reg_setReg_other _ _ hlo]

theorem State.reg_setPair_low (lo w v : Nat) : (s.setPair lo w v).reg lo = BitVec.ofNat 32 v := by
  rw [State.setPair, State.reg_setReg_other _ _ (by omega), State.reg_setReg_same]

theorem State.ptmResults_reg {a : Nat} (ha : A.TIME_PTM_STAT ≠ a) : (s.ptmResults t1 rtt turn m).reg a =
    (((s.setPair A.TIME_PTM_T1_LO 16 t1).setPair A.TIME_PTM_MASTER_LO 32 m.toNat).setReg A.TIME_PTM_DELAY
      (BitVec.ofInt 32 (divRound ((rtt : Int) - 16 * turn) 2))).reg a :=
  (State.reg_setFld_other _ F.TIME_PTM_STAT_SEQ _ ha).trans (State.reg_setFld_other _ F.TIME_PTM_STAT_STATE _ ha)

theorem State.ptmResults_delay : (s.ptmResults t1 rtt turn m).reg A.TIME_PTM_DELAY =
    BitVec.ofInt 32 (divRound ((rtt : Int) - 16 * turn) 2) := by
  rw [State.ptmResults_reg _ _ _ _ _ (by decide), State.reg_setReg_same]

theorem State.ptmResults_t1 : (s.ptmResults t1 rtt turn m).reg A.TIME_PTM_T1_LO = BitVec.ofNat 32 t1 := by
  rw [State.ptmResults_reg _ _ _ _ _ (by decide), State.reg_setReg_other _ _ (by decide),
    State.reg_setPair_other _ (by decide) (by decide), State.reg_setPair_low]

theorem State.ptmResults_master : (s.ptmResults t1 rtt turn m).reg A.TIME_PTM_MASTER_LO = BitVec.ofNat 32 m.toNat := by
  rw [State.ptmResults_reg _ _ _ _ _ (by decide), State.reg_setReg_other _ _ (by decide), State.reg_setPair_low]

theorem State.ptmResults_state : (s.ptmResults t1 rtt turn m).fld F.TIME_PTM_STAT_STATE = 2 :=
  (State.fld_setFld_apart _ _ rfl).trans (State.fld_setFld_fits _ _ rfl)

theorem State.ptmResults_seq : (s.ptmResults t1 rtt turn m).fld F.TIME_PTM_STAT_SEQ =
    (s.fld F.TIME_PTM_STAT_SEQ + 1) % 2 ^ F.TIME_PTM_STAT_SEQ.w := by
  refine (State.fld_setFld_fits _ _ rfl).trans (congrArg (fun n => (n + 1) % 2 ^ F.TIME_PTM_STAT_SEQ.w) (State.fld_congr _ ?_))
  show State.reg _ A.TIME_PTM_STAT = _
  rw [State.reg_setReg_other _ _ (by decide), State.reg_setPair_other _ (by decide) (by decide),
    State.reg_setPair_other _ (by decide) (by decide)]
  rfl

end

theorem State.ptmTimeout_busy {s : State} (h : s.fld F.TIME_PTM_STAT_STATE = 1) : s.ptmTimeout =
    ({ (s.setFld F.TIME_PTM_STAT_STATE 3).setFlag F.TIME_PTM_STAT_DISABLED false with
      time := { s.time with ptmT1 := none, ptmRtt := none } }.log 57 noSrc []).raiseIrq 289 := if_pos h

/-! ### Rounds and their attempts (R58, R59) -/

section
variable {s : State} {na : Nat}

theorem State.round_setRound_same (s : State) (na : Nat) (r : DelayRound) : (s.setRound na (some r)).round na = some r :=
  tblOpt_put_same _ _ _

theorem State.startRound_begins (hp : s.flag (F.NODE_ENT_PRESENT na) = true) (hr : s.round na = none)
    (hfw : s.start.fwBusy = false) : s.startRound na =
      (({ s with time := { s.time with due := s.time.due.filter (· != na) } } : State).setRound na
        (some ⟨1, [], none⟩)).timeReq na 1 :=
  if_pos (by simp [hp, hr, hfw])

theorem State.roundOn_next {r : DelayRound} (hr : s.round na = some r) (hl : r.trips.length < 8) (ha : r.attempts < 32) :
    s.roundOn na = (s.setRound na (some { r with attempts := r.attempts + 1, t1 := none })).timeReq na (r.attempts + 1) := by
  simp only [State.roundOn, hr, if_neg (Nat.ne_of_lt hl), State.nextAttempt, if_neg (Nat.not_le.2 ha)]

theorem State.roundOn_fails {r : DelayRound} (hr : s.round na = some r) (hl : r.trips.length < 8) (ha : 32 ≤ r.attempts) :
    s.roundOn na = s.failRound na := by
  simp only [State.roundOn, hr, if_neg (Nat.ne_of_lt hl), State.nextAttempt, if_pos ha]

theorem State.roundOn_publishes {r : DelayRound} (hr : s.round na = some r) (hl : r.trips.length = 8) :
    s.roundOn na = s.publishDelay na r.trips := by
  simp only [State.roundOn, hr, if_pos hl]

/-- A reply to the attempt that waits is one more round trip, and the round goes on. -/
theorem State.timeReply_counts (hs : s.Runs) {seq : Byte} {r : DelayRound} {t1 : Nat} (hr : s.round na = some r)
    (ht1 : r.t1 = some t1) (hseq : r.attempts = seq.toNat) (tta : Int) (age : Nat) : s.timeReply na seq tta age =
      (s.setRound na (some { r with trips := r.trips ++ [((s.now : Int) - age) - t1 - tta], t1 := none })).roundOn na := by
  simp only [State.timeReply, hr, ht1, ne_eq, hseq, not_true_eq_false, if_false]
  exact State.timer_runs (by exact hs) _ _

end

/-! ### A published delay (R60) -/

section
variable (s : State)

@[simp] theorem State.startRound_regs (na : Nat) : (s.startRound na).regs = s.regs := by
  unfold State.startRound
  split <;> rfl

@[simp] theorem State.runDue_regs (p : Nat) : (s.runDue p).regs = s.regs := by
  unfold State.runDue
  extract_lets busy
  split
  · split <;> simp
  · rfl

@[simp] theorem State.endRound_regs (na : Nat) : (s.endRound na).regs = s.regs := State.runDue_regs _ _

theorem State.regs_foldl {α : Type} {f : State → α → State} (l : List α) (hf : ∀ t x, (f t x).regs = t.regs) :
    (l.foldl f s).regs = s.regs := State.foldl_same State.regs hf l s

@[simp] theorem State.slotTrigger_regs (p : Nat) (g : TrigBlock) : (s.slotTrigger p g).regs = s.regs := by
  unfold State.slotTrigger
  extract_lets x
  split <;> rfl

@[simp] theorem State.placeTrigger_regs (p pos : Nat) (tl : Int) (expo vcMask herd base : Nat) :
    (s.placeTrigger p pos tl expo vcMask herd base).regs = s.regs := by
  unfold State.placeTrigger
  split
  · rfl
  · exact s.slotTrigger_regs _ _

@[simp] theorem State.planNode_regs (na base n : Nat) : (s.planNode na base n).regs = s.regs := by
  unfold State.planNode
  split
  · rfl
  · exact s.regs_foldl _ fun t x => t.placeTrigger_regs _ _ _ _ _ _ _

@[simp] theorem State.planLate_regs (na : Nat) : (s.planLate na).regs = s.regs := by
  simp [State.planLate, apply_ite State.regs]

/-- A node's first session is asked for in its session register alone. -/
theorem State.firstSession_reg (n : Nat) {a : Nat} (ha : A.SEC_NODE_STAT n ≠ a) : (s.firstSession n).reg a = s.reg a := by
  unfold State.firstSession State.wantSession
  split
  · split
    · rfl
    · exact State.reg_setFld_other _ _ _ ha
  · rfl

theorem State.portUpCheck_reg (p : Nat) {a : Nat} (hb : A.TRL_BRUP_STAT p ≠ a) (hs : ∀ n, A.SEC_NODE_STAT n ≠ a) :
    (s.portUpCheck p).reg a = s.reg a := by
  unfold State.portUpCheck
  extract_lets nodes
  split
  · exact (State.foldl_same (·.reg a) (fun t q => t.firstSession_reg _ (hs _)) _ _).trans (State.reg_setFld_other _ _ _ hb)
  · rfl

end

/-- A node's delay register lies apart from its port's bring-up, its entry and every session. -/
theorem timeNodeDly_apart {na : Nat} (hna : na < 512) : A.HEP_LINK_STAT ≠ A.TIME_NODE_DLY na ∧
    A.NODE_ENT na ≠ A.TIME_NODE_DLY na ∧ A.TRL_BRUP_STAT (na / 8) ≠ A.TIME_NODE_DLY na ∧
    ∀ n, A.SEC_NODE_STAT n ≠ A.TIME_NODE_DLY na := by
  unfold A.HEP_LINK_STAT A.NODE_ENT A.TRL_BRUP_STAT A.TIME_NODE_DLY A.SEC_NODE_STAT trlBase secNodeBase
  refine ⟨by omega, by omega, by split <;> omega, fun n => ?_⟩
  split <;> omega

/-- The delay register of a node, once its round is published. -/
theorem State.publishDelay_reg (s : State) {na : Nat} (hna : na < 512) (trips : List Int) :
    (s.publishDelay na trips).reg (A.TIME_NODE_DLY na) =
      ((s.setFld (F.TIME_NODE_DLY_DLY na) (s.roundDelay na trips)).setFlag (F.TIME_NODE_DLY_VALID na) true).reg
        (A.TIME_NODE_DLY na) := by
  obtain ⟨hlink, hent, hbrup, hsec⟩ := timeNodeDly_apart hna
  unfold State.publishDelay
  extract_lets d was old jump a b time c e u
  have hb : b.reg (A.TIME_NODE_DLY na) = a.reg (A.TIME_NODE_DLY na) := by
    unfold b
    split
    · exact (a.log_logOnly _ _ _).reg hlink.symm
    · rfl
  have he : e.reg (A.TIME_NODE_DLY na) = b.reg (A.TIME_NODE_DLY na) := by
    unfold e
    split
    · exact State.reg_setFld_other _ _ _ hent
    · rfl
  have hu : u.reg (A.TIME_NODE_DLY na) = a.reg (A.TIME_NODE_DLY na) := by
    rw [State.portUpCheck_reg _ _ hbrup hsec, State.reg, State.endRound_regs]
    exact he.trans hb
  split
  · exact hu
  · rw [State.reg, State.planLate_regs]
    exact hu

@[simp] theorem State.publishDelay_line (s : State) (na : Nat) (trips : List Int) : (s.publishDelay na trips).line = s.line := by
  unfold State.publishDelay
  extract_lets d was old jump a b time c e u
  have hb : b.line = s.line := by simp [b, a]
  have he : e.line = s.line := by simp [e, c, hb]
  have hu : u.line = s.line := by simp [u, he]
  simp [hu]

theorem State.publishDelay_valid (s : State) {na : Nat} (hna : na < 512) (trips : List Int) :
    (s.publishDelay na trips).flag (F.TIME_NODE_DLY_VALID na) = true :=
  (State.flag_congr _ (s.publishDelay_reg hna trips)).trans (State.flag_setFlag_bit _ _ rfl rfl)

theorem State.roundDelay_lt (s : State) (na : Nat) (trips : List Int) : s.roundDelay na trips < 2 ^ 24 := by
  have hpos : (0 : Int) < ((2 ^ 24 : Nat) : Int) := by decide
  exact (Int.toNat_lt' (by decide)).2 (Int.emod_lt_of_pos _ hpos)

theorem State.publishDelay_dly (s : State) {na : Nat} (hna : na < 512) (trips : List Int) :
    (s.publishDelay na trips).fld (F.TIME_NODE_DLY_DLY na) = s.roundDelay na trips := by
  have happart : (F.TIME_NODE_DLY_VALID na).apart (F.TIME_NODE_DLY_DLY na) = true := rfl
  have hfits : (F.TIME_NODE_DLY_DLY na).fits = true := rfl
  rw [State.fld_congr _ (s.publishDelay_reg hna trips), State.fld_setFlag_apart _ _ happart, State.fld_setFld_fits _ _ hfits]
  exact Nat.mod_eq_of_lt (s.roundDelay_lt na trips)

/-! ### The obligation -/

/-- Settles O12: GO, the period and a round that is due begin by their first request; a response and a reply are counted
until the second response, or the eighth round trip, publishes. -/
theorem ptmAndRounds : Obligations.PtmAndRounds := by
  unfold Obligations.PtmAndRounds
  refine ⟨fun s u p v hadm hu hen hst => ?go, fun s hrun hp hen hst => ?period,
    fun s rtt turn m t1 hrun ht1 hst => ⟨fun hrtt => ?first, fun first hrtt => ?second⟩, fun s hrun hst => ?timeout,
    fun s na hs hp hr => ?due, fun s na seq ta age r t1 hs hr ht1 hseq hatt => ⟨fun hl => ?next, fun hl => ?eighth⟩,
    fun s na r hs hr hl => ⟨fun ha => ?again, fun ha => ?fails⟩⟩
  case go =>
    subst hu
    refine congrArg Host.Outcome.next ((State.guarded_admits hadm _).trans ?_)
    obtain ⟨regs, hw, -⟩ := plainWriteFrame (s.reached p) A.TIME_PTM_CTRL (v ||| 0x10000#32)
    have hstat : ((s.reached p).plainWrite A.TIME_PTM_CTRL (v ||| 0x10000#32)).fld F.TIME_PTM_STAT_STATE =
        s.fld F.TIME_PTM_STAT_STATE :=
      (State.fld_congr _ (State.reg_plainWrite_other _ _ (by decide))).trans ((s.reached_logOnly p).fld _ (by decide))
    have htime : ((s.reached p).plainWrite A.TIME_PTM_CTRL (v ||| 0x10000#32)).time = s.time :=
      (congrArg State.time hw).trans (s.reached_time p)
    have hep : ((s.reached p).plainWrite A.TIME_PTM_CTRL (v ||| 0x10000#32)).ep.ptmEn = true :=
      (congrArg (fun t : State => t.ep.ptmEn) hw).trans ((s.reached_ep_ptmEn p).trans hen)
    rw [State.ptmCtrl_go (bitOn_or_go v), State.ptmStart_begins hep (hstat.trans_ne hst)]
    rw [State.now, htime, ← State.now]
  case period =>
    refine congrArg Host.Outcome.next ((State.whenUp_up hrun _).trans ((if_neg hp).trans ?_))
    exact State.ptmStart_begins hen hst
  case first => exact congrArg Host.Outcome.next ((State.whenUp_up hrun _).trans (State.ptmDone_first ht1 hst hrtt rtt turn m))
  case second =>
    have hlog := (s.ptmResults t1 first turn m).raiseIrq_logOnly 289
    refine ⟨_, congrArg Host.Outcome.next ((State.whenUp_up hrun _).trans (State.ptmDone_second ht1 hst hrtt rtt turn m)),
      (hlog.reg (by decide)).trans (State.ptmResults_delay ..), (hlog.reg (by decide)).trans (State.ptmResults_t1 ..),
      (hlog.reg (by decide)).trans (State.ptmResults_master ..), (hlog.fld _ (by decide)).trans (State.ptmResults_state ..),
      (hlog.fld _ (by decide)).trans (State.ptmResults_seq ..), hlog.time, hlog.data⟩
  case timeout => exact congrArg Host.Outcome.next ((State.whenUp_up hrun _).trans (State.ptmTimeout_busy hst))
  case due => exact congrArg Host.Outcome.next ((State.timer_runs hs _ _).trans (State.startRound_begins hp hr hs.2))
  case next =>
    refine ⟨_, congrArg Host.Outcome.next ((State.whenUp_up hs.1 _).trans ((State.timeReply_counts hs hr ht1 hseq _ _).trans
      (State.roundOn_next (State.round_setRound_same ..) ?_ hatt))), State.round_setRound_same .., rfl, rfl⟩
    simpa using Nat.succ_lt_succ hl
  case eighth =>
    refine ⟨_, congrArg Host.Outcome.next ((State.whenUp_up hs.1 _).trans ((State.timeReply_counts hs hr ht1 hseq _ _).trans
      (State.roundOn_publishes (State.round_setRound_same ..) ?_))), State.publishDelay_valid _ na.isLt _,
      State.publishDelay_dly _ na.isLt _, (State.line_eq (State.publishDelay_line ..)).2.1⟩
    simp [hl]
  case again => exact congrArg Host.Outcome.next ((State.timer_runs hs _ _).trans (State.roundOn_next hr hl ha))
  case fails => exact congrArg Host.Outcome.next ((State.timer_runs hs _ _).trans (State.roundOn_fails hr hl ha))

end Sys2Proof.Machine
end

section
/-! Compare units (R49-R52). -/

namespace Sys2Proof.Machine

section
variable (s : State) (n : Nat)

/-! ### Arming and disarming -/

theorem tblOpt_put_none {α : Type} (t : Tbl α) (a : Nat) : tblOpt (tblPut t a none) a = none := by
  have h : tblOpt (tblDel a t) a = none := by
    induction t with
    | nil => rfl
    | cons c t ih =>
      rw [tblDel]
      split
      · exact ih
      · exact (if_neg ‹_›).trans ih
  exact h

theorem State.setCmp_none_target : (s.setCmp n none).cmpTarget n = none := tblOpt_put_none _ _

theorem State.setCmp_armed (t : Option CmpTarget) : (s.setCmp n t).flag (F.TIME_CMP_STAT_ARMED n) = t.isSome :=
  State.flag_setFlag_bit _ _ rfl rfl

variable {s n} {d : Int}

theorem State.cmpArm_tick (hm : s.fld (F.TIME_CMP_CTRL_MODE n) = 3) : s.cmpArm n = s.setCmp n (s.cmpTickFirst n s.now) := by
  simp only [State.cmpArm, hm]

theorem State.cmpArm_ahead (hd : d = sdiff (s.pair (A.TIME_CMP_TGT_LO n) 16) (st48 s.now))
    (hm : s.fld (F.TIME_CMP_CTRL_MODE n) = 1 ∨ s.fld (F.TIME_CMP_CTRL_MODE n) = 2) (hpos : 0 < d)
    (hper : s.fld (F.TIME_CMP_CTRL_MODE n) = 2 → 1600 ≤ s.cmpPeriod n) :
    s.cmpArm n = s.setCmp n (some ⟨s.now + d.toNat, 0⟩) := by
  obtain hm | hm := hm
  · simp [State.cmpArm, hm, ← hd, Int.not_le.2 hpos]
  · simp [State.cmpArm, hm, ← hd, Int.not_le.2 hpos, Nat.not_lt.2 (hper hm)]

theorem State.cmpArm_past (hd : d = sdiff (s.pair (A.TIME_CMP_TGT_LO n) 16) (st48 s.now))
    (hm : s.fld (F.TIME_CMP_CTRL_MODE n) = 1 ∨ s.fld (F.TIME_CMP_CTRL_MODE n) = 2)
    (h : d ≤ 0 ∨ s.fld (F.TIME_CMP_CTRL_MODE n) = 2 ∧ s.cmpPeriod n < 1600) :
    s.cmpArm n = ((s.setCmp n none).setFlag (F.TIME_CMP_STAT_PAST n) true).log 50 n [] := by
  obtain h | ⟨h2, hper⟩ := h
  · obtain hm | hm := hm <;> simp [State.cmpArm, hm, ← hd, h]
  · simp [State.cmpArm, h2, hper]

/-! ### Writes -/

theorem State.cmpTgtHi_arms {v : Word} {u : State} (hu : u = s.plainWrite (A.TIME_CMP_TGT_HI n) v)
    (hm : u.fld (F.TIME_CMP_CTRL_MODE n) = 1 ∨ u.fld (F.TIME_CMP_CTRL_MODE n) = 2) : s.cmpTgtHi n v = u.cmpArm n := by
  subst hu
  exact if_pos hm

theorem State.cmpTgtHi_stores {v : Word} {u : State} (hu : u = s.plainWrite (A.TIME_CMP_TGT_HI n) v)
    (hm : u.fld (F.TIME_CMP_CTRL_MODE n) = 0 ∨ u.fld (F.TIME_CMP_CTRL_MODE n) = 3) : s.cmpTgtHi n v = u := by
  subst hu
  exact if_neg (by omega)

/-- TIME_CMP_CTRL's fields at each unit (R49). -/
theorem rowAt_TIME_CMP_CTRL (n : Fin 64) : ∃ c, rowAt (A.TIME_CMP_CTRL n) = some c ∧
    c.1.fields = [fRW 0 2 0, fRW 2 1 0, fRW 3 1 0, fRW 4 1 0, fRW 5 1 0, fRW 6 1 0, fRW 7 4 1, fRW 11 3 0, fW1S 16 1 0] := by
  have h : ∀ n : Fin 64, (rowAt (A.TIME_CMP_CTRL n)).map (·.1.fields) =
      some [fRW 0 2 0, fRW 2 1 0, fRW 3 1 0, fRW 4 1 0, fRW 5 1 0, fRW 6 1 0, fRW 7 4 1, fRW 11 3 0, fW1S 16 1 0] := by
    decide +kernel
  exact Option.map_eq_some_iff.1 (h n)

/-- MODE reads as it was written. -/
theorem State.plainWrite_cmpMode (s : State) (n : Fin 64) (w : Word) :
    (s.plainWrite (A.TIME_CMP_CTRL n) w).fld (F.TIME_CMP_CTRL_MODE n) = fldGet w 0 2 := by
  obtain ⟨c, hc, hfs⟩ := rowAt_TIME_CMP_CTRL n
  have hreg : (s.plainWrite (A.TIME_CMP_CTRL n) w).reg (A.TIME_CMP_CTRL n) =
      writeFields c.1.fields (s.reg (A.TIME_CMP_CTRL n)) w := by
    simp only [State.plainWrite, hc, State.reg_setReg_same]
  obtain ⟨hfields, -⟩ := accessTypes c.1.fields (s.reg (A.TIME_CMP_CTRL n)) w (hfs ▸ by decide) (hfs ▸ by decide)
  calc (s.plainWrite (A.TIME_CMP_CTRL n) w).fld (F.TIME_CMP_CTRL_MODE n)
    _ = fldGet (writeFields c.1.fields (s.reg (A.TIME_CMP_CTRL n)) w) 0 2 := by rw [← hreg]; rfl
    _ = fldGet w 0 2 := (hfields (fRW 0 2 0) (hfs ▸ List.mem_cons_self ..)).1 rfl

/-- A word without its two low bits. -/
theorem fldGet_clearLow (v : Word) : fldGet (v &&& 0xFFFFFFFC#32) 0 2 = 0 := by
  refine (fldGet_congr (r' := 0#32) fun k _ hk => ?_).trans rfl
  obtain rfl | rfl : k = 0 ∨ k = 1 := by omega
  all_goals simp

/-- A pin that is driven changes the unit's status register alone. -/
theorem State.drivePin_reg (s : State) (n : Nat) (level : Bool) (t : Nat) {a : Nat} (ha : A.TIME_CMP_STAT n ≠ a) :
    (s.drivePin n level t).reg a = s.reg a := by
  unfold State.drivePin
  split
  · rfl
  · exact State.reg_setFld_other _ _ _ ha

theorem State.pinFollow_reg (s : State) (n : Nat) (pol : Bool) {a : Nat} (ha : A.TIME_CMP_STAT n ≠ a) :
    (s.pinFollow n pol).reg a = s.reg a := by
  unfold State.pinFollow
  split
  · exact State.drivePin_reg _ _ _ _ ha
  · split
    · rfl
    · exact State.drivePin_reg _ _ _ _ ha

theorem State.cmpCtrl_arms {v : Word} {u : State}
    (hu : u = (s.plainWrite (A.TIME_CMP_CTRL n) (v ||| 0x10000#32)).pinFollow n (s.pinIdle n))
    (hm : u.fld (F.TIME_CMP_CTRL_MODE n) ≠ 0) : s.cmpCtrl n (v ||| 0x10000#32) = u.cmpArm n := by
  subst hu
  exact (if_neg hm).trans (if_pos (by simp [bitOn]))

theorem State.cmpCtrl_disarms {v : Word} {u : State} {n : Fin 64}
    (hu : u = (s.plainWrite (A.TIME_CMP_CTRL n) (v &&& 0xFFFFFFFC#32)).pinFollow n (s.pinIdle n)) :
    s.cmpCtrl n (v &&& 0xFFFFFFFC#32) = u.setCmp n none := by
  subst hu
  have hctrl : A.TIME_CMP_STAT n ≠ A.TIME_CMP_CTRL n := by simp [A.TIME_CMP_STAT, A.TIME_CMP_CTRL]
  exact if_pos ((State.fld_congr _ (State.pinFollow_reg _ _ _ hctrl)).trans ((s.plainWrite_cmpMode n _).trans (fldGet_clearLow v)))

/-! ### Matches and pulses -/

theorem State.drivePin_fired (s : State) (n : Nat) (level : Bool) (t : Nat) :
    (s.drivePin n level t).flag (F.TIME_CMP_STAT_FIRED n) = s.flag (F.TIME_CMP_STAT_FIRED n) := by
  unfold State.drivePin
  split
  · rfl
  · exact State.flag_setFld_apart _ _ rfl

theorem State.cmpPin_fired (s : State) (n t : Nat) :
    (s.cmpPin n t).flag (F.TIME_CMP_STAT_FIRED n) = s.flag (F.TIME_CMP_STAT_FIRED n) := by
  unfold State.cmpPin
  extract_lets w u u'
  have hu : u.flag (F.TIME_CMP_STAT_FIRED n) = s.flag (F.TIME_CMP_STAT_FIRED n) := by
    unfold u
    split
    · exact State.flag_setFld_apart _ _ rfl
    · exact s.drivePin_fired _ _ _
  split
  · rfl
  · split
    · exact s.drivePin_fired _ _ _
    · exact hu

/-- A pacing request changes its channel's status alone. -/
theorem State.paceRequest_reg (s : State) (c : Nat) {a : Nat} (ha : A.DMA_CH_STAT c ≠ a) :
    (s.paceRequest c).reg a = s.reg a := by
  unfold State.paceRequest
  extract_lets k
  split <;> exact State.reg_setFld_other _ _ _ ha

theorem State.paceByCmp_reg (s : State) (n : Nat) {a : Nat} (ha : ∀ c, A.DMA_CH_STAT c ≠ a) :
    (s.paceByCmp n).reg a = s.reg a := by
  refine State.foldl_same (·.reg a) (fun t c => ?_) _ _
  split
  · exact t.paceRequest_reg c (ha c)
  · rfl

theorem State.cmpFire_fired (s : State) (n : Fin 64) (t : Nat) : (s.cmpFire n t).flag (F.TIME_CMP_STAT_FIRED n) = true := by
  have hn := n.isLt
  unfold State.cmpFire
  extract_lets fired raised
  have hraised : raised.flag (F.TIME_CMP_STAT_FIRED n) = true := by
    unfold raised
    split
    · refine ((fired.raiseIrq_logOnly _).flag _ ?_).trans (State.flag_setFlag_bit _ _ rfl rfl)
      simp only [F.TIME_CMP_STAT_FIRED, A.TIME_CMP_STAT, A.HEP_LINK_STAT]
      omega
    · exact State.flag_setFlag_bit _ _ rfl rfl
  have hpin := (raised.cmpPin_fired n t).trans hraised
  refine (State.flag_congr _ (State.paceByCmp_reg _ _ fun c => ?_)).trans hpin
  simp only [F.TIME_CMP_STAT_FIRED, A.TIME_CMP_STAT, A.DMA_CH_STAT]
  omega

theorem State.cmpMatch_armed {c : CmpTarget} (h : s.cmpTarget n = some c) :
    s.cmpMatch n = ((s.advance c.target).cmpFire n c.target).cmpNext n c.target c.target := by
  simp only [State.cmpMatch, h]

theorem State.cmpNext_once (t : Nat) (h : s.fld (F.TIME_CMP_CTRL_MODE n) = 1) : s.cmpNext n t t = s.setCmp n none := by
  simp only [State.cmpNext, h]

theorem State.cmpNext_periodic (t : Nat) (h : s.fld (F.TIME_CMP_CTRL_MODE n) = 2) (hp : 0 < s.cmpPeriod n) :
    s.cmpNext n t t = s.setCmp n (some ⟨t + s.cmpPeriod n, 0⟩) := by
  simp only [State.cmpNext, h, Nat.max_eq_right hp, if_pos (Nat.lt_add_of_pos_right hp)]

theorem State.cmpNext_tick (t : Nat) (h : s.fld (F.TIME_CMP_CTRL_MODE n) = 3) :
    s.cmpNext n t t = s.setCmp n (s.cmpTickFirst n t) := by
  simp only [State.cmpNext, h]

theorem State.cmpPulseEnd_active {t : Nat} (h : tblOpt s.time.pulseEnd n = some t) :
    s.cmpPulseEnd n = ({ s.advance t with
      time := { (s.advance t).time with pulseEnd := tblPut s.time.pulseEnd n none } } : State).drivePin n (s.pinIdle n) t := by
  simp only [State.cmpPulseEnd, h]
  rfl

end

/-- Settles O10: writes arm and disarm by their unfolded equation; a match fires and goes on by its MODE, and FIRED outlasts
the interrupt, the pin and the pacing requests. -/
theorem compareUnits : Obligations.CompareUnits := by
  unfold Obligations.CompareUnits
  refine ⟨fun s u p n v hadm hu => ⟨fun hm => ?hiArms, fun hm => ?hiStores⟩,
    fun s r u p n v hadm hr => ⟨fun hu hm => ?arms, fun hu => ?off⟩,
    fun s n => ⟨s.setCmp_none_target n, s.setCmp_armed n none⟩,
    fun s n d hd hm => ⟨State.cmpArm_ahead hd hm, State.cmpArm_past hd hm⟩, fun s n => State.cmpArm_tick,
    fun s u n c hrun hc hu => ?fires, fun s n t => ⟨State.cmpNext_once t, State.cmpNext_periodic t, State.cmpNext_tick t⟩,
    fun s n t hrun ht => ?pulse⟩
  case hiArms => exact congrArg Host.Outcome.next ((State.guarded_admits hadm _).trans (State.cmpTgtHi_arms hu hm))
  case hiStores => exact congrArg Host.Outcome.next ((State.guarded_admits hadm _).trans (State.cmpTgtHi_stores hu hm))
  case arms =>
    subst hr
    exact congrArg Host.Outcome.next ((State.guarded_admits hadm _).trans (State.cmpCtrl_arms hu hm))
  case off =>
    subst hr
    exact congrArg Host.Outcome.next ((State.guarded_admits hadm _).trans (State.cmpCtrl_disarms hu))
  case fires =>
    subst hu
    refine ⟨congrArg Host.Outcome.next ((State.whenUp_up hrun _).trans ?_), State.cmpFire_fired _ n _⟩
    rw [State.cmpMatch_armed hc]
  case pulse => exact congrArg Host.Outcome.next ((State.whenUp_up hrun _).trans (State.cmpPulseEnd_active ht))

end Sys2Proof.Machine
end

section
/-! What deliveries, herds and publications leave alone: the always-on island, device time, the links and D3hot. -/

namespace Sys2Proof.Machine

/-- The always-on island, device time, the links and whether the function is in D3hot. -/
def State.bed (s : State) : AonSt × TimeSt × LinkSt × Bool := (s.aon, s.time, s.link, s.ep.d3)

theorem State.bed_eq {s t : State} (h : t.bed = s.bed) : t.aon = s.aon ∧ t.time = s.time ∧
    t.link = s.link ∧ t.ep.d3 = s.ep.d3 := by
  simpa [State.bed] using h

theorem State.bed_of {s t : State} (ha : t.aon = s.aon) (ht : t.time = s.time) (hl : t.link = s.link) (hd : t.ep.d3 = s.ep.d3) :
    t.bed = s.bed := by
  rw [State.bed, ha, ht, hl, hd, State.bed]

@[simp] theorem State.bed_mk {s : State} {regs start recs led e hep data herds modes plc grz dma image sec pwr bus b m j flash bad
    tail fl k sent pend} (hd : e.d3 = s.ep.d3) : State.bed ⟨regs, s.aon, start, s.time, recs, led, s.link, e, hep, data, herds,
      modes, plc, grz, dma, image, sec, pwr, bus, b, m, j, flash, bad, tail, fl, k, sent, pend⟩ = s.bed :=
  State.bed_of rfl rfl rfl hd

@[simp] theorem State.bed_ite (c : Prop) [Decidable c] (s t : State) : (if c then s else t).bed = if c then s.bed else t.bed :=
  apply_ite State.bed ..

@[simp] theorem State.bed_foldl {α : Type} {f : State → α → State} (l : List α) (s : State)
    (hf : ∀ t x, (f t x).bed = t.bed) : (l.foldl f s).bed = s.bed := State.foldl_same State.bed hf l s

theorem State.LogOnly.bed {s t : State} (h : s.LogOnly t) : t.bed = s.bed := State.bed_of h.aon h.time h.link h.ep_d3

section
variable (s : State)

@[simp] theorem State.setReg_bed (a : Nat) (v : Word) : (s.setReg a v).bed = s.bed := State.bed_of rfl rfl rfl rfl
@[simp] theorem State.setFld_bed (f : Fld) (v : Nat) : (s.setFld f v).bed = s.bed := State.bed_of rfl rfl rfl rfl
@[simp] theorem State.setFlag_bed (f : Fld) (b : Bool) : (s.setFlag f b).bed = s.bed := State.bed_of rfl rfl rfl rfl
@[simp] theorem State.setPair_bed (a w v : Nat) : (s.setPair a w v).bed = s.bed := State.bed_of rfl rfl rfl rfl
@[simp] theorem State.emit_bed (o : Out) : (s.emit o).bed = s.bed := State.bed_of rfl rfl rfl rfl
@[simp] theorem State.emits_bed (l : List Out) : (s.emits l).bed = s.bed := State.bed_of rfl rfl rfl rfl
@[simp] theorem State.drawnN_bed (n : Nat) : (s.drawnN n).bed = s.bed := State.bed_of rfl rfl rfl rfl
@[simp] theorem State.drawn_bed : s.drawn.bed = s.bed := State.bed_of rfl rfl rfl rfl
@[simp] theorem State.log_bed (c n : Nat) (d : List Byte) : (s.log c n d).bed = s.bed := (s.log_logOnly c n d).bed
@[simp] theorem State.raiseIrq_bed (n : Nat) : (s.raiseIrq n).bed = s.bed := (s.raiseIrq_logOnly n).bed
@[simp] theorem State.exitL1_bed : s.exitL1.bed = s.bed := s.exitL1_logOnly.bed
@[simp] theorem State.syncInta_bed : s.syncInta.bed = s.bed := s.syncInta_logOnly.bed
@[simp] theorem State.sendMsix_bed (n : Nat) : (s.sendMsix n).bed = s.bed := (s.sendMsix_logOnly n).bed
@[simp] theorem State.sendMsi_bed (n : Nat) : (s.sendMsi n).bed = s.bed := (s.sendMsi_logOnly n).bed
@[simp] theorem State.closeRec_bed : s.closeRec.bed = s.bed := s.closeRec_logOnly.bed
@[simp] theorem State.settleWake_bed : s.settleWake.bed = s.bed := by
  unfold State.settleWake
  split
  · rw [State.emit_bed, State.bed_mk rfl]
  · rfl

@[simp] theorem State.count31_bed (a n : Nat) : (s.count31 a n).bed = s.bed :=
  (s.count31_logOnly a n).elim fun _ h => h.bed.trans (State.bed_of rfl rfl rfl rfl)

end

end Sys2Proof.Machine
end

section
/-! What deliveries, herds and publications leave alone, function by function. -/

namespace Sys2Proof.Machine

section
variable (s : State)

/-! ### Counters, posted writes and completion records -/

@[simp] theorem State.count48_bed (lo n : Nat) : (s.count48 lo n).bed = s.bed := by simp [State.count48]

@[simp] theorem State.chBytes_bed (ch n : Nat) : (s.chBytes ch n).bed = s.bed := by simp [State.chBytes]

@[simp] theorem State.post_bed (a : Nat) (d : List Byte) (ro ep : Bool) :
    (s.post a d ro ep).bed = s.bed := by simp [State.post]

@[simp] theorem State.writeBack_bed (at' status info result ch : Nat) :
    (s.writeBack at' status info result ch).bed = s.bed := by
  simp [State.writeBack]

@[simp] theorem State.countSmall_bed (f : Fld) : (s.countSmall f).bed = s.bed := by simp [State.countSmall]

@[simp] theorem State.highMark_bed (notice cross peak : Fld) (old new high : Nat) (irqEn : Bool) (src : Nat) :
    (s.highMark notice cross peak old new high irqEn src).bed = s.bed := by
  simp [State.highMark]

@[simp] theorem State.cqFill_bed (q n : Nat) : (s.cqFill q n).bed = s.bed := by simp [State.cqFill]

@[simp] theorem State.setCqLag_bed (q n : Nat) : (s.setCqLag q n).bed = s.bed := by simp [State.setCqLag]

@[simp] theorem State.postRec_bed (q kind : Nat) (body : List Byte) : (s.postRec q kind body).bed = s.bed := by
  simp [State.postRec]

@[simp] theorem State.descRecord_bed (c : Nat) (d : Desc) (status cause done fail : Nat) :
    (s.descRecord c d status cause done fail).bed = s.bed := by
  simp [State.descRecord]

@[simp] theorem State.bufRecord_bed (b : HerdBuf) (status : Nat) :
    (s.bufRecord b status).bed = s.bed := by simp [State.bufRecord]

@[simp] theorem State.herdWrites_bed (h : Herd) (outcome late absent : Nat) (block : List Byte) :
    (s.herdWrites h outcome late absent block).bed = s.bed := by
  simp [State.herdWrites]

/-! ### The close of a herd (R22, R25-R27) -/

@[simp] theorem State.firstHerd_bed : s.firstHerd.bed = s.bed := by simp [State.firstHerd]

@[simp] theorem State.setHerd_bed (h : Herd) : (s.setHerd h).bed = s.bed := by simp [State.setHerd]

@[simp] theorem State.assertWake_bed : s.assertWake.bed = s.bed := by simp [State.assertWake]

@[simp] theorem State.wakeHost_bed : s.wakeHost.bed = s.bed := by
  unfold State.wakeHost
  extract_lets a ep b c
  have hc : c.bed = s.bed := by simp [c, b, ep, a]
  rw [State.settleWake_bed, hc]

@[simp] theorem State.parkStream_bed (n : Nat) (c : Nat × OutPlace) : (s.parkStream n c).bed = s.bed := by
  unfold State.parkStream
  extract_lets
  split <;> simp

@[simp] theorem State.parkMeasure_bed (n : Nat) (st : List ((Nat × OutPlace) × Nat)) :
    (s.parkMeasure n st).bed = s.bed := by
  simp [State.parkMeasure]

@[simp] theorem State.closeHerd_bed (n outcome : Nat) : (s.closeHerd n outcome).bed = s.bed := by
  unfold State.closeHerd
  split
  · rfl
  · split
    · rfl
    · extract_lets st late absent first t u
      have ht : t.bed = s.bed := by simp [t, first]
      have hu : u.bed = s.bed := by
        unfold u
        split <;> simp [ht]
      rw [State.parkMeasure_bed, hu]

@[simp] theorem State.closeDue_bed : s.closeDue.bed = s.bed := by simp [State.closeDue]

/-! ### Bursts of a channel (R237, R247) -/

@[simp] theorem State.chGrant_bed (c : Nat) (r : DescRun) : (s.chGrant c r).1.bed = s.bed := by
  unfold State.chGrant
  split <;> simp

@[simp] theorem State.setChan_bed (c : Nat) (x : ChanSt) : (s.setChan c x).bed = s.bed := by simp [State.setChan]

@[simp] theorem State.chSettle_bed (c : Nat) : (s.chSettle c).bed = s.bed := by
  unfold State.chSettle
  split <;> simp

theorem State.readReq_bed {s t : State} {use : TagUse} {a n : Nat} (h : s.readReq use a n = some t) : t.bed = s.bed := by
  unfold State.readReq at h
  split at h
  · cases h
  · obtain ⟨tag, -, rfl⟩ := Option.map_eq_some_iff.1 h
    rw [State.emit_bed, State.bed_mk rfl, State.exitL1_bed]

@[simp] theorem State.chSpend_bed (c n : Nat) : (s.chSpend c n).bed = s.bed := by simp [State.chSpend]

@[simp] theorem State.chAsk_bed (c fuel : Nat) : (State.chAsk c fuel s).bed = s.bed := by
  induction fuel generalizing s with
  | zero => rfl
  | succ fuel ih =>
    rw [State.chAsk]
    split
    · rfl
    · extract_lets upTo stop n
      split
      · rfl
      · split
        · rfl
        · next t h => rw [ih, State.setChan_bed, State.chSpend_bed, State.readReq_bed h]

@[simp] theorem State.chRunSet_bed (c : Nat) (r : DescRun) : (s.chRunSet c r).bed = s.bed := by simp [State.chRunSet]

@[simp] theorem State.hostPut_bed (c : Nat) (d : Desc) (o : Nat) (data : List Byte) (bad : Nat → Bool) :
    (s.hostPut c d o data bad).bed = s.bed := by
  simp [State.hostPut]

@[simp] theorem State.grzBytes_bed (a : Nat) (data : List Byte) (ep : Bool) : (s.grzBytes a data ep).bed = s.bed := by
  simp [State.grzBytes]

@[simp] theorem State.tblPart_bed (o : Nat) (data : List Byte) (ep : Bool) (b : Nat) :
    (s.tblPart o data ep b).bed = s.bed := by
  simp [State.tblPart]

@[simp] theorem State.imageReject_bed (a : Nat) : (s.imageReject a).bed = s.bed := by
  unfold State.imageReject
  extract_lets t
  split
  · exact s.setFlag_bed _ _
  · rw [State.log_bed, State.bed_mk rfl, State.setFlag_bed]

@[simp] theorem State.blockRefused_bed (b : Nat) : (s.blockRefused b).bed = s.bed := by
  unfold State.blockRefused
  extract_lets t key
  split
  · exact s.imageReject_bed _
  · split
    · exact s.count31_bed _ _
    · rw [State.log_bed, State.bed_mk rfl, State.count31_bed]

@[simp] theorem State.tblWrite_bed (o : Nat) (data : List Byte) (ep : Bool) : (s.tblWrite o data ep).bed = s.bed := by
  simp [State.tblWrite]

@[simp] theorem State.intWrite_bed (a : Nat) (data : List Byte) (ep : Bool) : (s.intWrite a data ep).bed = s.bed := by
  simp [State.intWrite]

@[simp] theorem State.intPut_bed (d : Desc) (o : Nat) (data : List Byte) (ep : Bool) :
    (s.intPut d o data ep).bed = s.bed := by
  simp [State.intPut]

@[simp] theorem State.chPush_bed (c : Nat) (r : DescRun) : (s.chPush c r).bed = s.bed := by
  unfold State.chPush
  extract_lets d upTo n bad r' t
  have ht : t.bed = s.bed := s.chSpend_bed _ _
  split
  · exact ht
  · split <;> simp [ht]

@[simp] theorem State.chMove_bed (c : Nat) : (s.chMove c).bed = s.bed := by
  unfold State.chMove
  split <;> simp

@[simp] theorem State.paceMoves_bed : s.paceMoves.bed = s.bed := by simp [State.paceMoves]

/-! ### Publication of a run (R194, R195) -/

@[simp] theorem State.quorumCheck_bed : s.quorumCheck.bed = s.bed := by simp [State.quorumCheck]

@[simp] theorem State.lossNow_bed : s.lossNow.bed = s.bed := by simp [State.lossNow]

@[simp] theorem State.swapRoles_bed (retire promote : List Nat) : (s.swapRoles retire promote).bed = s.bed := by
  simp [State.swapRoles]

@[simp] theorem State.setPool_bed (p : Nat) (x : PoolSt) : (s.setPool p x).bed = s.bed := by simp [State.setPool]

@[simp] theorem State.poolFetch_bed (p fuel : Nat) : (State.poolFetch p fuel s).bed = s.bed := by
  induction fuel generalizing s with
  | zero => rfl
  | succ fuel ih =>
    rw [State.poolFetch]
    split
    · rfl
    · split
      · rfl
      · next t h => rw [ih, State.setPool_bed, State.readReq_bed h]

@[simp] theorem State.poolGo_bed (p : Nat) : (s.poolGo p).bed = s.bed := by simp [State.poolGo]

@[simp] theorem State.applyPools_bed (pools : Tbl PoolReg) :
    (s.applyPools pools).bed = s.bed := by simp [State.applyPools]

@[simp] theorem State.retireSlice_bed (sl : Nat) : (s.retireSlice sl).bed = s.bed := by
  unfold State.retireSlice
  extract_lets t plc u
  have ht : t.bed = s.bed := by simp [t]
  split
  · simp [u, ht]
  · exact ht

@[simp] theorem State.settleLeaving_bed : s.settleLeaving.bed = s.bed := by simp [State.settleLeaving]

@[simp] theorem State.setStr_bed (i : Nat) (x : StreamSt) : (s.setStr i x).bed = s.bed := by simp [State.setStr]

@[simp] theorem State.setQueue_bed (i : Nat) (q : QueueSt) : (s.setQueue i q).bed = s.bed := by simp [State.setQueue]

@[simp] theorem State.queueReset_bed (i : Nat) : (s.queueReset i).bed = s.bed := by simp [State.queueReset]

@[simp] theorem State.onQueue_bed (i : Nat) {act : State → State} (hact : ∀ t, (act t).bed = t.bed) :
    (s.onQueue i act).bed = s.bed := by
  unfold State.onQueue
  split
  · exact hact s
  · exact s.queueReset_bed i

@[simp] theorem State.freeTo_bed (i k : Nat) : (s.freeTo i k).bed = s.bed := by simp [State.freeTo]

@[simp] theorem State.takeRing_bed (i : Nat) : (s.takeRing i).bed = s.bed := by
  unfold State.takeRing
  extract_lets x t
  refine (State.bed_foldl _ _ fun u _ => ?_).trans (s.setStr_bed _ _)
  extract_lets q
  split
  · rfl
  · split
    · rw [State.freeTo_bed, State.bed_ite, State.setStr_bed, ite_self]
    · rfl

@[simp] theorem State.closeRings_bed : s.closeRings.bed = s.bed := by simp [State.closeRings]

@[simp] theorem State.openRings_bed : s.openRings.bed = s.bed := by simp [State.openRings]

@[simp] theorem State.roleRegs_bed : s.roleRegs.bed = s.bed := by simp [State.roleRegs]

@[simp] theorem State.sumRegs_bed (l : Placement) : (s.sumRegs l).bed = s.bed := by simp [State.sumRegs]

@[simp] theorem State.inRegs_bed (old l : Placement) : (s.inRegs old l).bed = s.bed := by simp [State.inRegs]

@[simp] theorem State.outRegs_bed (old l : Placement) : (s.outRegs old l).bed = s.bed := by simp [State.outRegs]

@[simp] theorem State.plcLog_bed (rec' : List Byte) : (s.plcLog rec').bed = s.bed := by simp [State.plcLog]

@[simp] theorem State.publish_bed (herd at' : Nat) : (s.publish herd at').bed = s.bed := by
  unfold State.publish
  split
  · rfl
  · extract_lets old plc a b c gen d e result new plc' f g h
    have hc : c.bed = s.bed := by
      unfold c
      split <;> simp [b, a]
    split
    · rw [State.settleLeaving_bed, hc]
    · have hh : h.bed = s.bed := by simp [h, g, f, e, d, hc]
      rw [State.bed_ite, State.raiseIrq_bed, ite_self, hh]

/-! ### Runs of the placement (R180) -/

@[simp] theorem State.plcTrigger_bed (bit : Nat) : (s.plcTrigger bit).bed = s.bed := by simp [State.plcTrigger]

@[simp] theorem State.linkChange_bed : s.linkChange.bed = s.bed := by simp [State.linkChange]

@[simp] theorem State.nodeChanges_bed : s.nodeChanges.bed = s.bed := by simp [State.nodeChanges]

@[simp] theorem State.strikeRegs_bed : s.strikeRegs.bed = s.bed := by simp [State.strikeRegs]

@[simp] theorem State.returnsNow_bed : s.returnsNow.bed = s.bed := by simp [State.returnsNow]

@[simp] theorem State.legacyTriggers_bed : s.legacyTriggers.bed = s.bed := by simp [State.legacyTriggers]

@[simp] theorem State.plcRefuse_bed (reason : Nat) : (s.plcRefuse reason).bed = s.bed := by simp [State.plcRefuse]

@[simp] theorem State.joinNode_bed (inp : PlcIn) (na : Nat) (r : State × Placement) :
    (State.joinNode inp na r).1.bed = r.1.bed := by
  obtain ⟨t, l⟩ := r
  dsimp only [State.joinNode]
  split
  · rfl
  · split <;> simp

@[simp] theorem State.submitEnd_bed (l : Placement) (staged : Tbl PoolReg) (off : List Nat) (r : Placement × List Nat) :
    (s.submitEnd l staged off r).1.bed = s.bed := by
  unfold State.submitEnd
  split <;> simp

@[simp] theorem State.submitPhase_bed (inp : PlcIn) (l : Placement) : (s.submitPhase inp l).1.bed = s.bed := by
  simp [State.submitPhase]

@[simp] theorem State.refusedRegs_bed (reason : Nat) : (s.refusedRegs reason).bed = s.bed := by simp [State.refusedRegs]

@[simp] theorem State.startRun_bed (causes : Nat) (h : Health) (l : Placement) :
    (s.startRun causes h l).bed = s.bed := by
  unfold State.startRun
  extract_lets inp t joins
  have ht : t.bed = s.bed := by simp [t]
  have hjoin : (joins.foldl (fun r na => State.joinNode inp na r) (t, l)).1.bed = s.bed :=
    List.foldlRecOn (motive := fun r : State × Placement => r.1.bed = s.bed) _ _ ht
      fun r hr na _ => (State.joinNode_bed inp na r).trans hr
  generalize joins.foldl (fun r na => State.joinNode inp na r) (t, l) = r at hjoin
  obtain ⟨u, l⟩ := r
  have hsub : (if u.plc.submit then u.submitPhase inp l else (u, l, none)).1.bed = s.bed := by
    split <;> simp_all
  dsimp only
  generalize (if u.plc.submit then u.submitPhase inp l else (u, l, none)) = r at hsub
  obtain ⟨v, l, pools⟩ := r
  simpa using hsub

@[simp] theorem State.runBoundary_bed (published : Bool) :
    (s.runBoundary published).bed = s.bed := by simp [State.runBoundary]

/-! ### The opening of a herd, its buffers and its lines (R23, R24, R228, R229) -/

@[simp] theorem State.poolAvail_bed (p : Nat) : (s.poolAvail p).bed = s.bed := by simp [State.poolAvail]

@[simp] theorem State.takeBuf_bed (ch p n need fuel : Nat) : (State.takeBuf ch p n need fuel s).1.bed = s.bed := by
  induction fuel generalizing s with
  | zero => rfl
  | succ fuel ih =>
    rw [State.takeBuf]
    split
    · rfl
    · extract_lets t u cause
      have hu : u.bed = s.bed := by simp [u, t]
      split
      · simp [ih, hu]
      · split <;> simp [hu]

@[simp] theorem State.seekBuf_bed (n ch p : Nat) : (s.seekBuf n ch p).bed = s.bed := by
  unfold State.seekBuf
  split
  · rfl
  · next h _ =>
    have htake : (if s.canMaster then State.takeBuf ch p n ((s.layout h.gen).layoutLen ch) 9 s
        else (s, false)).1.bed = s.bed := by
      split <;> simp
    generalize (if s.canMaster then State.takeBuf ch p n ((s.layout h.gen).layoutLen ch) 9 s else (s, false)) = r at htake
    obtain ⟨t, got⟩ := r
    dsimp only
    split
    · simpa using htake
    · split <;> simpa using htake

@[simp] theorem State.takeBufs_bed (n : Nat) : (s.takeBufs n).bed = s.bed := by
  unfold State.takeBufs
  split <;> simp

@[simp] theorem State.openHerd_bed : s.openHerd.bed = s.bed := by simp [State.openHerd]

@[simp] theorem State.closeOldest_bed (fuel : Nat) : (State.closeOldest fuel s).bed = s.bed := by
  induction fuel generalizing s with
  | zero => rfl
  | succ fuel ih =>
    rw [State.closeOldest]
    split
    · rw [ih, State.closeHerd_bed]
    · rfl

@[simp] theorem State.dmaBoundary_bed : s.dmaBoundary.bed = s.bed := by simp [State.dmaBoundary]

@[simp] theorem State.grzRefill_bed : s.grzRefill.bed = s.bed := by simp [State.grzRefill]

@[simp] theorem State.suspectTick_bed : s.suspectTick.bed = s.bed := by simp [State.suspectTick]

@[simp] theorem State.setAudit_bed (n r : Nat) : (s.setAudit n r).bed = s.bed := by
  unfold State.setAudit
  extract_lets au t
  have ht : t.bed = s.bed := s.setFld_bed _ _
  split <;> simp [ht]

@[simp] theorem State.lineFailed_bed (l : OutLine) : (s.lineFailed l).bed = s.bed := by
  unfold State.lineFailed
  extract_lets
  split <;> simp

@[simp] theorem State.dropLate_bed (l : OutLine) : (s.dropLate l).bed = s.bed := by simp [State.dropLate]

@[simp] theorem State.lineDone_bed (l : OutLine) : (s.lineDone l).bed = s.bed := by
  unfold State.lineDone
  extract_lets
  split <;> simp

@[simp] theorem State.lineUnsent_bed (l : OutLine) (h : Herd) (ch : Nat) : (s.lineUnsent l h ch).bed = s.bed := by
  simp [State.lineUnsent]

@[simp] theorem State.writeLine_bed (l : OutLine) (o : OutPlace) (b : HerdBuf) (late : Bool) :
    (s.writeLine l o b late).bed = s.bed := by
  simp [State.writeLine]

@[simp] theorem State.commitLine_bed (l : OutLine) : (s.commitLine l).bed = s.bed := by
  unfold State.commitLine
  split
  · extract_lets ch
    split
    · rfl
    · split
      · simp
      · split
        · simp
        · split
          · simp
          · split <;> simp
  · simp
  · rfl

@[simp] theorem State.forget_bed : s.forget.bed = s.bed := by simp [State.forget]

@[simp] theorem State.settleHerds_bed : s.settleHerds.bed = s.bed := by simp [State.settleHerds]

/-! ### Modes and ports (R31-R38) -/

@[simp] theorem State.modeResult_bed (src result : Nat) :
    (s.modeResult src result).bed = s.bed := by simp [State.modeResult]

@[simp] theorem State.switchDone_bed : s.switchDone.bed = s.bed := by
  unfold State.switchDone
  split <;> simp

@[simp] theorem State.eachPath_bed (act : PathSt → PathSt) : (s.eachPath act).bed = s.bed := by simp [State.eachPath]

@[simp] theorem State.modeRefuse_bed (mode code : Nat) (bad : List Nat) : (s.modeRefuse mode code bad).bed = s.bed := by
  unfold State.modeRefuse
  split <;> simp

@[simp] theorem State.hold_bed (i : Instr) : (s.hold i).bed = s.bed := by simp [State.hold]

/-! ### Work that a mode ends (R36, R215) -/

@[simp] theorem State.closeAll_bed : s.closeAll.bed = s.bed := by simp [State.closeAll]

@[simp] theorem State.grzEnded_bed (status idx : Nat) : (s.grzEnded status idx).bed = s.bed := by
  unfold State.grzEnded
  split <;> simp

@[simp] theorem State.grzFinish_bed (r : GrzReq) (status idx done flags : Nat) (chg : Bool) :
    (s.grzFinish r status idx done flags chg).bed = s.bed := by
  simp [State.grzFinish]

@[simp] theorem State.grzPop_bed : s.grzPop.bed = s.bed := by simp [State.grzPop]

@[simp] theorem State.grzEndPending_bed (status fuel : Nat) : (State.grzEndPending status fuel s).bed = s.bed := by
  induction fuel generalizing s with
  | zero => rfl
  | succ fuel ih =>
    rw [State.grzEndPending]
    extract_lets i
    split
    · rfl
    · rw [ih, State.grzFinish_bed, State.grzPop_bed]

@[simp] theorem State.grzEnd_bed (status : Nat) : (s.grzEnd status).bed = s.bed := by
  unfold State.grzEnd
  split <;> simp

@[simp] theorem State.grzAbortAll_bed : s.grzAbortAll.bed = s.bed := by simp [State.grzAbortAll]

@[simp] theorem State.grzDrop_bed : s.grzDrop.bed = s.bed := by simp [State.grzDrop]

@[simp] theorem State.abandonHerds_bed : s.abandonHerds.bed = s.bed := by simp [State.abandonHerds]

/-! ### Power (R371, R376, R397) -/

@[simp] theorem State.snapshot_bed : s.snapshot.bed = s.bed := s.snapshot_logOnly.bed

@[simp] theorem State.psEn_bed (r : Nat) (on : Bool) : (s.psEn r on).bed = s.bed := by simp [State.psEn]

@[simp] theorem State.gatesOff_bed : s.gatesOff.bed = s.bed := by simp [State.gatesOff]

@[simp] theorem State.powerDown_bed (phase : Phase) : (s.powerDown phase).bed = s.bed := by
  unfold State.powerDown
  extract_lets a b up t
  have hb : b.bed = s.bed := by simp [b, a]
  have ht : t.bed = s.bed := (State.bed_foldl _ _ fun u r => u.psEn_bed r false).trans (b.gatesOff_bed.trans hb)
  rw [State.setFld_bed, State.bed_mk rfl, ht]

@[simp] theorem State.pwrRegs_bed : s.pwrRegs.bed = s.bed := by simp [State.pwrRegs]

@[simp] theorem State.setPc_bed (n st : Nat) : (s.setPc n st).bed = s.bed := by simp [State.setPc]

@[simp] theorem State.pcWait_bed (n delay : Nat) : (s.pcWait n delay).bed = s.bed := by simp [State.pcWait]

/-! ### The end and the return of the leave to issue requests (R269, R270) -/

@[simp] theorem State.chDiscard_bed (c : Nat) : (s.chDiscard c).bed = s.bed := by simp [State.chDiscard]

@[simp] theorem State.setChState_bed (c st : Nat) : (s.setChState c st).bed = s.bed := by simp [State.setChState]

@[simp] theorem State.chHostStop_bed (c : Nat) : (s.chHostStop c).bed = s.bed := by
  unfold State.chHostStop
  split
  · rfl
  · extract_lets a x held b
    have hb : b.bed = s.bed := by
      unfold b
      split <;> simp [a]
    rw [State.setChState_bed, State.setChan_bed, hb]

@[simp] theorem State.poolRewind_bed (p : Nat) : (s.poolRewind p).bed = s.bed := by simp [State.poolRewind]

@[simp] theorem State.grzHostStop_bed : s.grzHostStop.bed = s.bed := by
  unfold State.grzHostStop
  split <;> simp

@[simp] theorem State.dropBufs_bed (keep : Bool) : (s.dropBufs keep).bed = s.bed := by simp [State.dropBufs]

@[simp] theorem State.dropLines_bed : s.dropLines.bed = s.bed := by
  unfold State.dropLines
  extract_lets q
  refine (State.bed_foldl _ _ fun t l => ?_).trans (State.bed_mk rfl)
  split
  · simp
  · rfl

@[simp] theorem State.masterStop_bed : s.masterStop.bed = s.bed := by simp [State.masterStop]

@[simp] theorem State.hostStopBuf_bed (b : HerdBuf × Nat × Bool) :
    (s.hostStopBuf b).bed = s.bed := by simp [State.hostStopBuf]

@[simp] theorem State.chReport_bed (c : Nat) (d : Desc) (status cause done fail : Nat) :
    (s.chReport c d status cause done fail).bed = s.bed := by
  simp [State.chReport]

@[simp] theorem State.chRecord_bed (c event cause : Nat) :
    (s.chRecord c event cause).bed = s.bed := by simp [State.chRecord]

@[simp] theorem State.chTidy_bed (c : Nat) : (s.chTidy c).bed = s.bed := by simp [State.chTidy]

@[simp] theorem State.chFetch_bed (c : Nat) : (s.chFetch c).bed = s.bed := by
  unfold State.chFetch
  extract_lets x
  split
  · rw [State.chTidy_bed]
    cases h : s.readReq (.fetchCh c (s.fld (F.DMA_CH_CI_IDX c))) (s.chFetchAt c) 32 with
    | none => rfl
    | some t => exact State.readReq_bed h
  · exact s.chTidy_bed c

@[simp] theorem State.chGo_bed (c : Nat) : (s.chGo c).bed = s.bed := by simp [State.chGo]

@[simp] theorem State.kick_bed : s.kick.bed = s.bed := by simp [State.kick]

@[simp] theorem State.flushIrq_bed : s.flushIrq.bed = s.bed := by
  simp [State.flushIrq]

@[simp] theorem State.masterGo_bed : s.masterGo.bed = s.bed := by
  unfold State.masterGo
  split
  · rfl
  · extract_lets bufs dma t u cs v w grz x
    have hw : w.bed = s.bed := by simp [w, v, u, t]
    have hx : x.bed = s.bed := by
      unfold x
      split <;> simp [hw]
    rw [State.kick_bed, State.flushIrq_bed, hx]

end

end Sys2Proof.Machine
end

section
/-! What a tick boundary leaves of the always-on island, function by function: all but the herd number (R13, R14). -/

namespace Sys2Proof.Machine

@[simp] theorem State.ite_aon (c : Prop) [Decidable c] (s t : State) : (if c then s else t).aon = if c then s.aon else t.aon :=
  apply_ite State.aon ..

@[simp] theorem State.foldl_aon {α : Type} {f : State → α → State} (l : List α) (s : State)
    (hf : ∀ t x, (f t x).aon = t.aon) : (l.foldl f s).aon = s.aon := State.foldl_same State.aon hf l s

theorem State.bed_aon {s t : State} (h : t.bed = s.bed) : t.aon = s.aon := (State.bed_eq h).1

theorem State.line_aon {s t : State} (h : t.line = s.line) : t.aon = s.aon := (State.line_eq h).1

section
variable (s : State)

/-! ### Ports and triggers -/

@[simp] theorem State.discover_aon (p : Nat) : (s.discover p).aon = s.aon := State.line_aon (s.discover_line p)

@[simp] theorem State.loseFrom_aon (p from' : Nat) : (s.loseFrom p from').aon = s.aon :=
  State.line_aon (s.loseFrom_line p from')

@[simp] theorem State.planAhead_aon : s.planAhead.aon = s.aon := State.line_aon s.planAhead_line

@[simp] theorem State.planTriggers_aon (base n : Nat) : (s.planTriggers base n).aon = s.aon :=
  State.line_aon (s.planTriggers_line base n)

@[simp] theorem State.sendCtl_aon (p type addr : Nat) (body : List Byte) : (s.sendCtl p type addr body).aon = s.aon :=
  State.line_aon (s.sendCtl_line p type addr body)

@[simp] theorem State.setBrup_aon (p st : Nat) : (s.setBrup p st).aon = s.aon := State.line_aon (s.setBrup_line p st)

@[simp] theorem State.setCmp_aon (n : Nat) (t : Option CmpTarget) : (s.setCmp n t).aon = s.aon :=
  State.line_aon (s.setCmp_line n t)

@[simp] theorem State.setPort_aon (p : Nat) (x : PortSt) : (s.setPort p x).aon = s.aon := State.line_aon (s.setPort_line p x)

@[simp] theorem State.setRx_aon (p : Nat) (r : RxSt) : (s.setRx p r).aon = s.aon := State.line_aon (s.setRx_line p r)

@[simp] theorem State.setSensor_aon (p : Nat) (x : SensorSt) : (s.setSensor p x).aon = s.aon :=
  State.line_aon (s.setSensor_line p x)

@[simp] theorem State.setStep_aon (p step : Nat) : (s.setStep p step).aon = s.aon := State.line_aon (s.setStep_line p step)

@[simp] theorem State.setTx_aon (p : Nat) (x : TxSt) : (s.setTx p x).aon = s.aon := State.line_aon (s.setTx_line p x)

/-! ### Deliveries, herds, placement and power -/

@[simp] theorem State.abandonHerds_aon : s.abandonHerds.aon = s.aon := State.bed_aon s.abandonHerds_bed

@[simp] theorem State.closeAll_aon : s.closeAll.aon = s.aon := State.bed_aon s.closeAll_bed

@[simp] theorem State.closeDue_aon : s.closeDue.aon = s.aon := State.bed_aon s.closeDue_bed

@[simp] theorem State.closeOldest_aon (fuel : Nat) : (State.closeOldest fuel s).aon = s.aon :=
  State.bed_aon (State.closeOldest_bed s fuel)

@[simp] theorem State.dmaBoundary_aon : s.dmaBoundary.aon = s.aon := State.bed_aon s.dmaBoundary_bed

@[simp] theorem State.eachPath_aon (act : PathSt → PathSt) : (s.eachPath act).aon = s.aon := State.bed_aon (s.eachPath_bed act)

@[simp] theorem State.engine_aon (i : Instr) {act : State → State} (hact : ∀ t, (act t).aon = t.aon) :
    (s.engine i act).aon = s.aon := by
  unfold State.engine
  split
  · rfl
  · split
    · exact State.bed_aon (s.hold_bed i)
    · exact hact s

@[simp] theorem State.forget_aon : s.forget.aon = s.aon := State.bed_aon s.forget_bed

@[simp] theorem State.grzAbortAll_aon : s.grzAbortAll.aon = s.aon := State.bed_aon s.grzAbortAll_bed

@[simp] theorem State.grzDrop_aon : s.grzDrop.aon = s.aon := State.bed_aon s.grzDrop_bed

@[simp] theorem State.grzRefill_aon : s.grzRefill.aon = s.aon := State.bed_aon s.grzRefill_bed

@[simp] theorem State.linkChange_aon : s.linkChange.aon = s.aon := State.bed_aon s.linkChange_bed

@[simp] theorem State.lossNow_aon : s.lossNow.aon = s.aon := State.bed_aon s.lossNow_bed

@[simp] theorem State.modeRefuse_aon (mode code : Nat) (bad : List Nat) : (s.modeRefuse mode code bad).aon = s.aon :=
  State.bed_aon (s.modeRefuse_bed mode code bad)

@[simp] theorem State.modeResult_aon (src result : Nat) : (s.modeResult src result).aon = s.aon :=
  State.bed_aon (s.modeResult_bed src result)

@[simp] theorem State.nodeChanges_aon : s.nodeChanges.aon = s.aon := State.bed_aon s.nodeChanges_bed

@[simp] theorem State.openHerd_aon : s.openHerd.aon = s.aon := State.bed_aon s.openHerd_bed

@[simp] theorem State.paceMoves_aon : s.paceMoves.aon = s.aon := State.bed_aon s.paceMoves_bed

@[simp] theorem State.pcWait_aon (n delay : Nat) : (s.pcWait n delay).aon = s.aon := State.bed_aon (s.pcWait_bed n delay)

@[simp] theorem State.powerDown_aon (phase : Phase) : (s.powerDown phase).aon = s.aon := State.bed_aon (s.powerDown_bed phase)

@[simp] theorem State.publish_aon (herd at' : Nat) : (s.publish herd at').aon = s.aon := State.bed_aon (s.publish_bed herd at')

@[simp] theorem State.quorumCheck_aon : s.quorumCheck.aon = s.aon := State.bed_aon s.quorumCheck_bed

@[simp] theorem State.returnsNow_aon : s.returnsNow.aon = s.aon := State.bed_aon s.returnsNow_bed

@[simp] theorem State.runBoundary_aon (published : Bool) : (s.runBoundary published).aon = s.aon :=
  State.bed_aon (s.runBoundary_bed published)

@[simp] theorem State.setAudit_aon (n r : Nat) : (s.setAudit n r).aon = s.aon := State.bed_aon (s.setAudit_bed n r)

@[simp] theorem State.setPc_aon (n st : Nat) : (s.setPc n st).aon = s.aon := State.bed_aon (s.setPc_bed n st)

@[simp] theorem State.settleHerds_aon : s.settleHerds.aon = s.aon := State.bed_aon s.settleHerds_bed

@[simp] theorem State.startRun_aon (causes : Nat) (h : Health) (l : Placement) : (s.startRun causes h l).aon = s.aon :=
  State.bed_aon (s.startRun_bed causes h l)

@[simp] theorem State.suspectTick_aon : s.suspectTick.aon = s.aon := State.bed_aon s.suspectTick_bed

@[simp] theorem State.switchDone_aon : s.switchDone.aon = s.aon := State.bed_aon s.switchDone_bed

/-! ### Modes, loops and the grid -/

@[simp] theorem State.herdBoundary_aon (published : Bool) : (s.herdBoundary published).aon = s.aon := by
  simp [State.herdBoundary]

@[simp] theorem State.putField_aon (a : Nat) (m v : Word) : (s.putField a m v).aon = s.aon := by
  unfold State.putField
  extract_lets inc low lo
  split
  · rfl
  · split
    · rfl
    · split
      · simp
      · split
        · split <;> rfl
        · split
          · simp
          · split <;> simp

@[simp] theorem State.putFields_aon (l : List (Nat × Word × Word)) : (s.putFields l).aon = s.aon := by simp [State.putFields]

@[simp] theorem State.incFrom_aon (was : Nat) : (s.incFrom was).aon = s.aon := by simp [State.incFrom]

@[simp] theorem State.applyOverlay_aon (old new : Nat) : (s.applyOverlay old new).aon = s.aon := by
  unfold State.applyOverlay
  split
  · rfl
  · extract_lets back
    have hback : back.aon = s.aon := by
      unfold back
      split <;> simp
    rw [State.incFrom_aon]
    split <;> simp [hback]

@[simp] theorem State.loadEq_aon (p step : Nat) : (s.loadEq p step).aon = s.aon := by simp [State.loadEq]

@[simp] theorem State.unlock_aon (p : Nat) : (s.unlock p).aon = s.aon := by simp [State.unlock]

@[simp] theorem State.rxStep_aon (p step : Nat) : (s.rxStep p step).aon = s.aon := by simp [State.rxStep]

@[simp] theorem State.loopStop_aon (p : Nat) (l : LoopSt) : (s.loopStop p l).aon = s.aon := by simp [State.loopStop]

@[simp] theorem State.loopOff_aon (p : Nat) : (s.loopOff p).aon = s.aon := by
  unfold State.loopOff
  split <;> simp

@[simp] theorem State.leaveService_aon : s.leaveService.aon = s.aon := by simp [State.leaveService]

@[simp] theorem State.leaveMode_aon (old new : Nat) (asked : Bool) : (s.leaveMode old new asked).aon = s.aon := by
  unfold State.leaveMode
  extract_lets t u modes v
  have ht : t.aon = s.aon := by simp [t]
  split <;> simp [u, v, ht]

@[simp] theorem State.replan_aon : s.replan.aon = s.aon := by simp [State.replan]

@[simp] theorem State.cmpRegrid_aon (ts n : Nat) : (s.cmpRegrid ts n).aon = s.aon := by
  unfold State.cmpRegrid
  split <;> simp

@[simp] theorem State.cmpRegridAll_aon (ts : Nat) : (s.cmpRegridAll ts).aon = s.aon := by simp [State.cmpRegridAll]

@[simp] theorem State.portOff_aon (p : Nat) : (s.portOff p).aon = s.aon := by simp [State.portOff]

@[simp] theorem State.startTx_aon (p : Nat) : (s.startTx p).aon = s.aon := by simp [State.startTx]

@[simp] theorem State.portChange_aon (was : List Nat) (p : Nat) : (s.portChange was p).aon = s.aon := by simp [State.portChange]

@[simp] theorem State.pcDown_aon (n st : Nat) : (s.pcDown n st).aon = s.aon := by
  unfold State.pcDown
  split
  · exact s.setPc_aon n st
  · extract_lets u pwr
    have hu : u.aon = s.aon := (State.emit_aon ..).trans (s.setPc_aon n st)
    rw [State.loseFrom_aon]
    exact hu

@[simp] theorem State.pcMode_aon (n : Nat) : (s.pcMode n).aon = s.aon := by simp [State.pcMode]

@[simp] theorem State.switchTo_aon (asked : Bool) (src new : Nat) (h : Health) (l : Placement) :
    (s.switchTo asked src new h l).aon = s.aon := by
  unfold State.switchTo
  extract_lets old was a b c time modes d e f
  have hb : b.aon = s.aon := by simp [b, a]
  have hd : d.aon = s.aon := hb
  have he : e.aon = s.aon := by simp [e, hd]
  have hf : f.aon = s.aon := by simp [f, he]
  split
  · simp [c, hb]
  · rw [State.startRun_aon, hf]

@[simp] theorem State.modeActOn_aon (asked : Bool) (src mode : Nat) : (s.modeActOn asked src mode).aon = s.aon := by
  unfold State.modeActOn
  extract_lets h r
  split <;> simp

@[simp] theorem State.modeBoundary_aon : s.modeBoundary.aon = s.aon := by
  unfold State.modeBoundary
  extract_lets reqs modes t
  clear_value reqs
  split <;> simp [t]

end

end Sys2Proof.Machine
end

section
/-! What an adjustment of device time, and the bursts it lets move, leave of the clock, TIME_STAT and the herds (R48, R247). -/

namespace Sys2Proof.Machine

/-- Device time, the adjustment that waits, TIME_STAT and the herds. -/
def State.dial (s : State) : Nat × Option (Int × Nat) × Word × List Herd := (s.time.tu, s.time.adj, s.reg A.TIME_STAT, s.herds)

theorem State.dial_eq {s t : State} (h : t.dial = s.dial) :
    t.time.tu = s.time.tu ∧ t.time.adj = s.time.adj ∧ t.reg A.TIME_STAT = s.reg A.TIME_STAT ∧ t.herds = s.herds := by
  simpa [State.dial] using h

theorem State.dial_of {s t : State} (hu : t.time.tu = s.time.tu) (ha : t.time.adj = s.time.adj)
    (hr : t.reg A.TIME_STAT = s.reg A.TIME_STAT) (hh : t.herds = s.herds) : t.dial = s.dial := by
  rw [State.dial, hu, ha, hr, hh, State.dial]

@[simp] theorem State.dial_mk {s : State} {aon start time recs led link ep hep data modes plc grz dma image sec pwr bus b m j flash
    bad tail fl k sent pend} (hu : time.tu = s.time.tu) (ha : time.adj = s.time.adj) :
    State.dial ⟨s.regs, aon, start, time, recs, led, link, ep, hep, data, s.herds, modes, plc, grz, dma, image, sec, pwr, bus, b,
      m, j, flash, bad, tail, fl, k, sent, pend⟩ = s.dial := State.dial_of hu ha rfl rfl

@[simp] theorem State.dial_ite (c : Prop) [Decidable c] (s t : State) :
    (if c then s else t).dial = if c then s.dial else t.dial :=
  apply_ite State.dial ..

@[simp] theorem State.dial_foldl {α : Type} {f : State → α → State} (l : List α) (s : State)
    (hf : ∀ t x, (f t x).dial = t.dial) : (l.foldl f s).dial = s.dial := State.foldl_same State.dial hf l s

theorem State.LogOnly.dial {s t : State} (h : s.LogOnly t) : t.dial = s.dial :=
  State.dial_of (congrArg TimeSt.tu h.time) (congrArg TimeSt.adj h.time) (h.reg (by decide)) h.herds

section
variable (s : State)

theorem State.setReg_dial {a : Nat} (v : Word) (h : a ≠ A.TIME_STAT) : (s.setReg a v).dial = s.dial :=
  State.dial_of rfl rfl (State.reg_setReg_other _ _ h) rfl

theorem State.setFld_dial {f : Fld} (v : Nat) (h : f.addr ≠ A.TIME_STAT) : (s.setFld f v).dial = s.dial := s.setReg_dial _ h

theorem State.setFlag_dial {f : Fld} (b : Bool) (h : f.addr ≠ A.TIME_STAT) : (s.setFlag f b).dial = s.dial := s.setFld_dial _ h

@[simp] theorem State.emit_dial (o : Out) : (s.emit o).dial = s.dial := State.dial_of rfl rfl rfl rfl
@[simp] theorem State.log_dial (c n : Nat) (d : List Byte) : (s.log c n d).dial = s.dial := (s.log_logOnly c n d).dial
@[simp] theorem State.raiseIrq_dial (n : Nat) : (s.raiseIrq n).dial = s.dial := (s.raiseIrq_logOnly n).dial
@[simp] theorem State.exitL1_dial : s.exitL1.dial = s.dial := s.exitL1_logOnly.dial

theorem State.count31_dial {a : Nat} (n : Nat) (h : a ≠ A.TIME_STAT) : (s.count31 a n).dial = s.dial := by
  obtain ⟨v, hv⟩ := s.count31_logOnly a n
  exact hv.dial.trans (s.setReg_dial v h)

/-! ### Triggers -/

@[simp] theorem State.setTx_dial (p : Nat) (x : TxSt) : (s.setTx p x).dial = s.dial := State.dial_of rfl rfl rfl rfl

@[simp] theorem State.missTrigger_dial (na : Nat) : (s.missTrigger na).dial = s.dial := State.dial_of rfl rfl rfl rfl

@[simp] theorem State.slotTrigger_dial (p : Nat) (g : TrigBlock) : (s.slotTrigger p g).dial = s.dial := by
  unfold State.slotTrigger
  extract_lets x
  split <;> simp

@[simp] theorem State.placeTrigger_dial (p pos : Nat) (tl : Int) (expo vcMask herd base : Nat) :
    (s.placeTrigger p pos tl expo vcMask herd base).dial = s.dial := by simp [State.placeTrigger]

@[simp] theorem State.planNode_dial (na base n : Nat) : (s.planNode na base n).dial = s.dial := by simp [State.planNode]

@[simp] theorem State.planTriggers_dial (base n : Nat) : (s.planTriggers base n).dial = s.dial := by simp [State.planTriggers]

theorem State.dial_planTo (n : Nat) : ({ s with time := { s.time with planTo := n } } : State).dial = s.dial :=
  State.dial_of rfl rfl rfl rfl

@[simp] theorem State.planAhead_dial : s.planAhead.dial = s.dial := by
  unfold State.planAhead
  extract_lets b c t u
  have ht : t.dial = s.dial := by
    unfold t
    split <;> simp
  have hu : u.dial = t.dial := by
    unfold u
    split <;> simp
  clear_value u
  clear_value t
  clear_value c
  rw [State.dial_planTo, hu, ht]

@[simp] theorem State.retrigger_dial (a : Int) (skipped : Nat) : (s.retrigger a skipped).dial = s.dial := by
  simp [State.retrigger, State.dropTrigs]

/-! ### Compare units -/

theorem timeCmpStat_ne (n : Nat) : A.TIME_CMP_STAT n ≠ A.TIME_STAT := by simp only [A.TIME_CMP_STAT, A.TIME_STAT]; omega

theorem dmaChStat_ne_timeStat (c : Nat) : A.DMA_CH_STAT c ≠ A.TIME_STAT := by simp only [A.DMA_CH_STAT, A.TIME_STAT]; omega

@[simp] theorem State.setCmp_dial (n : Nat) (t : Option CmpTarget) : (s.setCmp n t).dial = s.dial :=
  (State.setFlag_dial _ _ (timeCmpStat_ne n)).trans (State.dial_mk rfl rfl)

/-- A flag of a compare unit leaves the clock. -/
theorem State.cmpFlag_dial {f : Fld} {n : Nat} (hf : f.addr = A.TIME_CMP_STAT n) (b : Bool) : (s.setFlag f b).dial = s.dial :=
  s.setFlag_dial b (hf ▸ timeCmpStat_ne n)

@[simp] theorem State.drivePin_dial (n : Nat) (level : Bool) (t : Nat) : (s.drivePin n level t).dial = s.dial := by
  unfold State.drivePin
  split
  · rfl
  · exact (State.emit_dial ..).trans (s.cmpFlag_dial rfl _)

@[simp] theorem State.cmpPin_dial (n t : Nat) : (s.cmpPin n t).dial = s.dial := by
  unfold State.cmpPin
  extract_lets w u
  have hu : u.dial = s.dial := by
    unfold u
    split
    · exact s.cmpFlag_dial rfl _
    · exact s.drivePin_dial _ _ _
  split
  · rfl
  · split
    · exact s.drivePin_dial _ _ _
    · exact (State.dial_mk rfl rfl).trans hu

@[simp] theorem State.paceRequest_dial (c : Nat) : (s.paceRequest c).dial = s.dial := by
  unfold State.paceRequest
  extract_lets n
  split
  · exact s.setFld_dial _ (dmaChStat_ne_timeStat c)
  · exact s.setFlag_dial _ (dmaChStat_ne_timeStat c)

@[simp] theorem State.paceByCmp_dial (n : Nat) : (s.paceByCmp n).dial = s.dial := by simp [State.paceByCmp]

@[simp] theorem State.cmpFire_dial (n t : Nat) : (s.cmpFire n t).dial = s.dial := by
  have hfired : (s.setFlag (F.TIME_CMP_STAT_FIRED n) true).dial = s.dial := s.cmpFlag_dial rfl _
  simp [State.cmpFire, hfired]

@[simp] theorem State.cmpNext_dial (n t floor : Nat) : (s.cmpNext n t floor).dial = s.dial := by
  unfold State.cmpNext
  split <;> simp

@[simp] theorem State.cmpStep_dial (from' n : Nat) : (s.cmpStep from' n).dial = s.dial := by
  unfold State.cmpStep
  split
  · rfl
  · extract_lets d u
    have hu : u.dial = s.dial := by
      unfold u
      split
      · exact s.cmpFlag_dial rfl _
      · exact (State.cmpFlag_dial _ rfl _).trans (s.cmpFire_dial n _)
    split
    · exact (State.log_dial ..).trans ((State.cmpFlag_dial _ rfl _).trans (s.setCmp_dial n _))
    · split
      · exact s.setCmp_dial n _
      · split
        · rfl
        · exact (u.cmpNext_dial n _ _).trans hu

@[simp] theorem State.cmpStepAll_dial (from' : Nat) : (s.cmpStepAll from').dial = s.dial := by simp [State.cmpStepAll]

@[simp] theorem State.skipPassed_dial : s.skipPassed.dial = s.dial := by
  unfold State.skipPassed
  extract_lets e R m k time
  split
  · rfl
  · exact (State.log_dial ..).trans (State.dial_mk (s := s) rfl rfl)

/-! ### Bursts (R237, R247) -/

@[simp] theorem State.setChan_dial (c : Nat) (x : ChanSt) : (s.setChan c x).dial = s.dial := State.dial_of rfl rfl rfl rfl

@[simp] theorem State.chGrant_dial (c : Nat) (r : DescRun) : (s.chGrant c r).1.dial = s.dial := by
  unfold State.chGrant
  split
  · exact s.setFld_dial _ (dmaChStat_ne_timeStat c)
  · rfl

@[simp] theorem State.chSettle_dial (c : Nat) : (s.chSettle c).dial = s.dial := by
  unfold State.chSettle
  split <;> simp

theorem State.readReq_dial {s t : State} {use : TagUse} {a n : Nat} (h : s.readReq use a n = some t) : t.dial = s.dial := by
  unfold State.readReq at h
  split at h
  · cases h
  · obtain ⟨tag, -, rfl⟩ := Option.map_eq_some_iff.1 h
    rw [State.emit_dial, State.dial_mk rfl rfl, State.exitL1_dial]

@[simp] theorem State.chSpend_dial (c n : Nat) : (s.chSpend c n).dial = s.dial := by simp [State.chSpend]

@[simp] theorem State.chAsk_dial (c fuel : Nat) : (State.chAsk c fuel s).dial = s.dial := by
  induction fuel generalizing s with
  | zero => rfl
  | succ fuel ih =>
    rw [State.chAsk]
    split
    · rfl
    · extract_lets upTo stop n
      split
      · rfl
      · split
        · rfl
        · next t h => rw [ih, State.setChan_dial, State.chSpend_dial, State.readReq_dial h]

@[simp] theorem State.chRunSet_dial (c : Nat) (r : DescRun) : (s.chRunSet c r).dial = s.dial := by
  refine (State.setReg_dial _ _ ?_).trans (s.setChan_dial c _)
  simp only [A.DMA_CH_DONE, A.TIME_STAT]
  omega

theorem State.count48_herds (lo n : Nat) : (s.count48 lo n).herds = s.herds := by
  simp only [State.count48, apply_ite State.herds, State.setPair_herds, State.log_herds, State.setFlag_herds, ite_self]

@[simp] theorem State.chBytes_dial (ch n : Nat) : (s.chBytes ch n).dial = s.dial := by
  obtain ⟨-, htime, -, -⟩ := State.bed_eq (s.chBytes_bed ch n)
  have hlow : A.DMA_CH_BYTES_LO ch ≠ A.TIME_STAT := by simp only [A.DMA_CH_BYTES_LO, A.TIME_STAT]; omega
  have hhigh : A.DMA_CH_BYTES_LO ch + 4 ≠ A.TIME_STAT := by simp only [A.DMA_CH_BYTES_LO, A.TIME_STAT]; omega
  exact State.dial_of (congrArg TimeSt.tu htime) (congrArg TimeSt.adj htime) (s.count48_reg_other n hlow hhigh (by decide))
    (s.count48_herds _ _)

@[simp] theorem State.hostPut_dial (c : Nat) (d : Desc) (o : Nat) (data : List Byte) (bad : Nat → Bool) :
    (s.hostPut c d o data bad).dial = s.dial := by simp [State.hostPut]

theorem State.grzBytes_dial {a : Nat} (data : List Byte) (ep : Bool) (ha : A.GRZ_Q 0 0 ≤ a) :
    (s.grzBytes a data ep).dial = s.dial := by
  unfold State.grzBytes
  extract_lets t o touched full p grz
  refine (State.dial_mk rfl rfl).trans (State.dial_foldl _ _ fun u b => ?_)
  refine u.setReg_dial _ ?_
  simp only [A.GRZ_Q, A.TIME_STAT] at ha ⊢
  omega

@[simp] theorem State.imageReject_dial (a : Nat) : (s.imageReject a).dial = s.dial := by
  unfold State.imageReject
  extract_lets t
  have ht : t.dial = s.dial := s.setFlag_dial _ (by decide)
  split
  · exact ht
  · rw [State.log_dial, State.dial_mk rfl rfl, ht]

@[simp] theorem State.blockRefused_dial (b : Nat) : (s.blockRefused b).dial = s.dial := by
  unfold State.blockRefused
  extract_lets t key
  have ht : t.dial = s.dial := s.count31_dial _ (by decide)
  split
  · exact s.imageReject_dial _
  · split
    · exact ht
    · rw [State.log_dial, State.dial_mk rfl rfl, ht]

@[simp] theorem State.tblPart_dial (o : Nat) (data : List Byte) (ep : Bool) (b : Nat) : (s.tblPart o data ep b).dial = s.dial :=
  State.dial_of rfl rfl rfl rfl

@[simp] theorem State.tblWrite_dial (o : Nat) (data : List Byte) (ep : Bool) : (s.tblWrite o data ep).dial = s.dial := by
  simp [State.tblWrite]

@[simp] theorem State.intWrite_dial (a : Nat) (data : List Byte) (ep : Bool) : (s.intWrite a data ep).dial = s.dial := by
  unfold State.intWrite
  split
  · rfl
  · split
    · next hq => exact s.grzBytes_dial _ _ (by simp_all [inGrzQ])
    · exact s.tblWrite_dial _ _ _

@[simp] theorem State.intPut_dial (d : Desc) (o : Nat) (data : List Byte) (ep : Bool) : (s.intPut d o data ep).dial = s.dial := by
  simp [State.intPut]

@[simp] theorem State.chPush_dial (c : Nat) (r : DescRun) : (s.chPush c r).dial = s.dial := by
  unfold State.chPush
  extract_lets d upTo n bad r' t
  have ht : t.dial = s.dial := s.chSpend_dial _ _
  split
  · exact ht
  · split <;> simp [ht]

@[simp] theorem State.chMove_dial (c : Nat) : (s.chMove c).dial = s.dial := by
  unfold State.chMove
  split <;> simp

@[simp] theorem State.paceMoves_dial : s.paceMoves.dial = s.dial := by simp [State.paceMoves]

end

end Sys2Proof.Machine
end

section
/-! What follows the swap in a publication leaves the run, PLC_STAT.RUN and PLC_GEN as the swap left them (R194, R195). -/

namespace Sys2Proof.Machine

/-- The run in progress, PLC_STAT.RUN and PLC_GEN. -/
def State.publ (s : State) : Option RunSt × Bool × Word := (s.plc.run, s.flag F.PLC_STAT_RUN, s.reg A.PLC_GEN)

theorem State.publ_eq {s t : State} (h : t.publ = s.publ) :
    t.plc.run = s.plc.run ∧ t.flag F.PLC_STAT_RUN = s.flag F.PLC_STAT_RUN ∧ t.reg A.PLC_GEN = s.reg A.PLC_GEN := by
  simpa [State.publ] using h

theorem State.publ_of {s t : State} (hr : t.plc.run = s.plc.run) (hf : t.flag F.PLC_STAT_RUN = s.flag F.PLC_STAT_RUN)
    (hg : t.reg A.PLC_GEN = s.reg A.PLC_GEN) : t.publ = s.publ := by
  rw [State.publ, hr, hf, hg, State.publ]

@[simp] theorem State.publ_mk {s : State} {aon start time recs led link ep hep data herds modes plc grz dma image sec pwr bus b m j
    flash bad tail fl k sent pend} (hr : plc.run = s.plc.run) : State.publ ⟨s.regs, aon, start, time, recs, led, link, ep, hep, data,
      herds, modes, plc, grz, dma, image, sec, pwr, bus, b, m, j, flash, bad, tail, fl, k, sent, pend⟩ = s.publ :=
  State.publ_of hr rfl rfl

@[simp] theorem State.publ_ite (c : Prop) [Decidable c] (s t : State) :
    (if c then s else t).publ = if c then s.publ else t.publ :=
  apply_ite State.publ ..

@[simp] theorem State.publ_foldl {α : Type} {f : State → α → State} (l : List α) (s : State)
    (hf : ∀ t x, (f t x).publ = t.publ) : (l.foldl f s).publ = s.publ := State.foldl_same State.publ hf l s

theorem State.LogOnly.publ {s t : State} (h : s.LogOnly t) : t.publ = s.publ :=
  State.publ_of (congrArg PlcSt.run h.plc) (h.flag _ (by decide)) (h.reg (by decide))

/-! ### Registers beside PLC_STAT and PLC_GEN -/

/-- Neither PLC_STAT nor PLC_GEN. -/
def offPlc (a : Nat) : Prop := a ≠ A.PLC_STAT ∧ a ≠ A.PLC_GEN

theorem offPlc_slc {a n k : Nat} (h : a = 0x800000 + k + n * 0x10000) (hk : k = 0 ∨ k = 0x24) : offPlc a := by
  simp only [offPlc, A.PLC_STAT, A.PLC_GEN]
  omega

theorem offPlc_lstQ {a n k : Nat} (h : a = 0x610000 + k + n * 0x40) (hk : k = 0 ∨ k = 0x1c ∨ k = 0x28) : offPlc a := by
  simp only [offPlc, A.PLC_STAT, A.PLC_GEN]
  omega

theorem offPlc_above {a : Nat} (h : 0xc00010 ≤ a) : offPlc a := by
  simp only [offPlc, A.PLC_STAT, A.PLC_GEN]
  omega

theorem offPlc_below {a : Nat} (h : a < 0xc00008) : offPlc a := by
  simp only [offPlc, A.PLC_STAT, A.PLC_GEN]
  omega

section
variable (s : State)

theorem State.setReg_publ {a : Nat} (v : Word) (h : offPlc a) : (s.setReg a v).publ = s.publ :=
  State.publ_of rfl (State.flag_congr _ (State.reg_setReg_other _ _ h.1)) (State.reg_setReg_other _ _ h.2)

theorem State.setFld_publ {f : Fld} (v : Nat) (h : offPlc f.addr) : (s.setFld f v).publ = s.publ := s.setReg_publ _ h

theorem State.setFlag_publ {f : Fld} (b : Bool) (h : offPlc f.addr) : (s.setFlag f b).publ = s.publ := s.setFld_publ _ h

/-- Another field of PLC_STAT leaves RUN. -/
theorem State.setStat_publ {f : Fld} (v : Nat) (hf : f.addr = A.PLC_STAT) (h : f.apart F.PLC_STAT_RUN = true) :
    (s.setFld f v).publ = s.publ :=
  State.publ_of rfl (State.flag_setFld_apart _ _ h) (State.reg_setFld_other _ _ _ (hf ▸ by decide))

@[simp] theorem State.emit_publ (o : Out) : (s.emit o).publ = s.publ := State.publ_of rfl rfl rfl
@[simp] theorem State.emits_publ (l : List Out) : (s.emits l).publ = s.publ := State.publ_of rfl rfl rfl
@[simp] theorem State.log_publ (c n : Nat) (d : List Byte) : (s.log c n d).publ = s.publ := (s.log_logOnly c n d).publ
@[simp] theorem State.raiseIrq_publ (n : Nat) : (s.raiseIrq n).publ = s.publ := (s.raiseIrq_logOnly n).publ
@[simp] theorem State.exitL1_publ : s.exitL1.publ = s.publ := s.exitL1_logOnly.publ

theorem State.count31_publ {a : Nat} (n : Nat) (h : offPlc a) : (s.count31 a n).publ = s.publ := by
  obtain ⟨v, hv⟩ := s.count31_logOnly a n
  exact hv.publ.trans (s.setReg_publ v h)

/-! ### Roles and pools (R183, R201) -/

@[simp] theorem State.swapRoles_publ (retire promote : List Nat) : (s.swapRoles retire promote).publ = s.publ := by
  unfold State.swapRoles
  extract_lets t
  refine (State.publ_mk rfl).trans (State.publ_foldl _ _ fun u sl => ?_)
  have hsl : offPlc (A.SLC_STAT sl) := offPlc_slc (k := 0) rfl (.inl rfl)
  exact (State.setFlag_publ _ _ hsl).trans (State.setFld_publ _ _ hsl)

@[simp] theorem State.setPool_publ (p : Nat) (x : PoolSt) : (s.setPool p x).publ = s.publ := State.publ_of rfl rfl rfl

theorem State.readReq_publ {s t : State} {use : TagUse} {a n : Nat} (h : s.readReq use a n = some t) : t.publ = s.publ := by
  unfold State.readReq at h
  split at h
  · cases h
  · obtain ⟨tag, -, rfl⟩ := Option.map_eq_some_iff.1 h
    rw [State.emit_publ, State.publ_mk rfl, State.exitL1_publ]

@[simp] theorem State.poolFetch_publ (p fuel : Nat) : (State.poolFetch p fuel s).publ = s.publ := by
  induction fuel generalizing s with
  | zero => rfl
  | succ fuel ih =>
    rw [State.poolFetch]
    split
    · rfl
    · split
      · rfl
      · next t h => rw [ih, State.setPool_publ, State.readReq_publ h]

@[simp] theorem State.poolGo_publ (p : Nat) : (s.poolGo p).publ = s.publ := s.poolFetch_publ p 8

@[simp] theorem State.applyPools_publ (pools : Tbl PoolReg) : (s.applyPools pools).publ = s.publ := by simp [State.applyPools]

@[simp] theorem State.retireSlice_publ (sl : Nat) : (s.retireSlice sl).publ = s.publ := by
  have hstat : offPlc (F.SLC_STAT_STATE sl).addr := offPlc_slc (k := 0) rfl (.inl rfl)
  have hsvc : offPlc (F.SLC_SVC_STAT_STATE sl).addr := offPlc_slc (k := 0x24) rfl (.inr rfl)
  have hlock : offPlc (F.SLC_SVC_STAT_LOCK sl).addr := offPlc_slc (k := 0x24) rfl (.inr rfl)
  unfold State.retireSlice
  extract_lets t plc u
  have ht : t.publ = s.publ := by simp [t, State.setFld_publ, hstat, hsvc]
  split
  · simp [u, State.setFlag_publ, hlock, plc, ht]
  · exact ht

@[simp] theorem State.settleLeaving_publ : s.settleLeaving.publ = s.publ := by
  unfold State.settleLeaving
  refine State.publ_foldl _ _ fun t sl => ?_
  extract_lets moving old u v
  have hu : u.publ = t.publ := t.retireSlice_publ sl
  have hv : v.publ = t.publ := by
    unfold v
    split
    · exact (State.setFld_publ _ _ (offPlc_above (by decide))).trans ((State.setFld_publ _ _ (offPlc_above (by decide))).trans hu)
    · exact hu
  split
  · rfl
  · exact (State.publ_mk rfl).trans hv

/-! ### Rings (R191) -/

@[simp] theorem State.setStr_publ (i : Nat) (x : StreamSt) : (s.setStr i x).publ = s.publ := State.publ_of rfl rfl rfl

theorem State.highMark_publ {notice cross peak : Fld} (hn : offPlc notice.addr) (hc : offPlc cross.addr) (hp : offPlc peak.addr)
    (old new high : Nat) (irqEn : Bool) (src : Nat) : (s.highMark notice cross peak old new high irqEn src).publ = s.publ := by
  unfold State.highMark
  extract_lets t was u
  have ht : t.publ = s.publ := s.setFld_publ _ hp
  have hu : u.publ = s.publ := (State.setFld_publ _ _ hc).trans ((State.setFlag_publ _ _ hn).trans ht)
  split
  · split
    · exact (State.raiseIrq_publ ..).trans hu
    · exact hu
  · exact ht

@[simp] theorem State.setQueue_publ (i : Nat) (q : QueueSt) : (s.setQueue i q).publ = s.publ := by
  have hwm : offPlc (A.LST_Q_WM_STAT i) := offPlc_lstQ (k := 0x1c) rfl (.inr (.inl rfl))
  exact (State.highMark_publ _ hwm hwm hwm ..).trans (s.setStr_publ _ _)

@[simp] theorem State.queueReset_publ (i : Nat) : (s.queueReset i).publ = s.publ := by
  have hres : offPlc (A.LST_Q_RESETS i) := offPlc_lstQ (k := 0x28) rfl (.inr (.inr rfl))
  unfold State.queueReset
  extract_lets x frames q t
  have ht : t.publ = s.publ := (State.setQueue_publ ..).trans (State.setStr_publ ..)
  rw [State.log_publ, State.setFlag_publ _ _ (offPlc_below (by decide)), State.count31_publ _ _ hres, ht]

theorem State.onQueue_publ (i : Nat) {act : State → State} (hact : ∀ t, (act t).publ = t.publ) :
    (s.onQueue i act).publ = s.publ := by
  unfold State.onQueue
  split
  · exact hact s
  · exact s.queueReset_publ i

@[simp] theorem State.freeTo_publ (i k : Nat) : (s.freeTo i k).publ = s.publ := by simp [State.freeTo, State.onQueue_publ]

@[simp] theorem State.takeRing_publ (i : Nat) : (s.takeRing i).publ = s.publ := by
  unfold State.takeRing
  extract_lets x t
  refine (State.publ_foldl _ _ fun u _ => ?_).trans (s.setStr_publ _ _)
  extract_lets q
  split
  · rfl
  · split
    · rw [State.freeTo_publ, State.publ_ite, State.setStr_publ, ite_self]
    · rfl

@[simp] theorem State.openRings_publ : s.openRings.publ = s.publ := by simp [State.openRings, State.onQueue_publ]

@[simp] theorem State.closeRings_publ : s.closeRings.publ = s.publ := by simp [State.closeRings, State.onQueue_publ]

/-! ### The registers of a placement (R194) -/

@[simp] theorem State.outRegs_publ (old l : Placement) : (s.outRegs old l).publ = s.publ := by
  have hstat (n : Nat) : offPlc (A.PLC_OSID_STAT n) := offPlc_above (by simp only [A.PLC_OSID_STAT]; omega)
  have hofs (n : Nat) : offPlc (A.PLC_OSID_OFS n) := offPlc_above (by simp only [A.PLC_OSID_OFS]; omega)
  simp [State.outRegs, State.setReg_publ, hstat, hofs]

@[simp] theorem State.inRegs_publ (old l : Placement) : (s.inRegs old l).publ = s.publ := by
  have hlo (n : Nat) : offPlc (A.PLC_ISID_MAP_LO n) := offPlc_above (by simp only [A.PLC_ISID_MAP_LO]; omega)
  have hhi (n : Nat) : offPlc (A.PLC_ISID_MAP_HI n) := offPlc_above (by simp only [A.PLC_ISID_MAP_HI]; omega)
  have hpages (n : Nat) : offPlc (F.LST_Q_STAT_PAGES n).addr := offPlc_lstQ (k := 0) rfl (.inl rfl)
  simp [State.inRegs, State.setReg_publ, State.setFld_publ, hlo, hhi, hpages]

@[simp] theorem State.roleRegs_publ : s.roleRegs.publ = s.publ :=
  (State.setStat_publ _ _ rfl rfl).trans (State.setStat_publ _ _ rfl rfl)

@[simp] theorem State.sumRegs_publ (l : Placement) : (s.sumRegs l).publ = s.publ := by
  have hstreams (n : Nat) : offPlc (F.SLC_STAT_STREAMS n).addr := offPlc_slc (k := 0) rfl (.inl rfl)
  have hmem (n : Nat) : offPlc (F.SLC_STAT_MEM_USED n).addr := offPlc_slc (k := 0) rfl (.inl rfl)
  have hpool (n : Nat) : offPlc (A.PLC_POOL_STAT n) := offPlc_above (by simp only [A.PLC_POOL_STAT]; omega)
  have hfree : offPlc F.LST_STAT_FREE.addr := offPlc_below (by decide)
  have hshed : offPlc F.GLB_HERD_STAT_SHED.addr := offPlc_below (by decide)
  have hload0 : offPlc A.PLC_LOAD0 := offPlc_above (by decide)
  have hload1 : offPlc A.PLC_LOAD1 := offPlc_above (by decide)
  simp [State.sumRegs, State.setReg_publ, State.setFld_publ, State.setFlag_publ, hstreams, hmem, hpool, hfree, hshed,
    hload0, hload1]

@[simp] theorem State.post_publ (a : Nat) (d : List Byte) (ro ep : Bool) : (s.post a d ro ep).publ = s.publ := by simp [State.post]

@[simp] theorem State.plcLog_publ (rec' : List Byte) : (s.plcLog rec').publ = s.publ := by
  have hlost : offPlc A.PLC_LOG_LOST := offPlc_above (by decide)
  have hidx : offPlc F.PLC_LOG_IDX_IDX.addr := offPlc_above (by decide)
  simp [State.plcLog, State.count31_publ, State.setFld_publ, hlost, hidx]

end

/-! ### A publication in steps -/

/-- The run is over, and its roles and pools are in force. -/
def State.swapped (s : State) (r : RunSt) : State :=
  let u := (({ s with plc := { s.plc with run := none } } : State).setFlag F.PLC_STAT_RUN false).swapRoles r.retire r.promote
  match r.pools with
  | some p => u.applyPools p
  | none => u

/-- The generation counts. -/
def State.counted (s : State) (gen herd : Nat) : State :=
  ((s.setReg A.PLC_GEN (BitVec.ofNat 32 gen)).setFld F.PLC_STAT_GEN_LO (gen % 65536)).setPair A.PLC_GEN_HERD_LO 16 herd

theorem State.swapped_publ (s : State) (r : RunSt) : (s.swapped r).publ = (none, false, s.reg A.PLC_GEN) := by
  have hu (t : State) : ((({ t with plc := { t.plc with run := none } } : State).setFlag F.PLC_STAT_RUN false).swapRoles
      r.retire r.promote).publ = (none, false, t.reg A.PLC_GEN) := by
    rw [State.swapRoles_publ, State.publ, State.flag_setFlag_bit _ _ rfl rfl, State.setFlag,
      State.reg_setFld_other _ _ _ (by decide)]
    rfl
  unfold State.swapped
  extract_lets plc u
  split
  · exact (State.applyPools_publ ..).trans (hu s)
  · exact hu s

theorem State.counted_publ (s : State) (gen herd : Nat) :
    (s.counted gen herd).publ = (s.plc.run, s.flag F.PLC_STAT_RUN, BitVec.ofNat 32 gen) := by
  have hlow : offPlc A.PLC_GEN_HERD_LO := offPlc_above (by decide)
  have hhigh : offPlc (A.PLC_GEN_HERD_LO + 4) := offPlc_above (by decide)
  rw [State.counted, State.setPair, State.setReg_publ _ _ hhigh, State.setReg_publ _ _ hlow, State.setStat_publ _ _ rfl rfl,
    State.publ, State.reg_setReg_same, State.flag_congr F.PLC_STAT_RUN (State.reg_setReg_other s _ (by decide))]
  rfl

/-- A publication without a change of placement. -/
theorem State.publish_same (s : State) {r : RunSt} (h : s.plc.run = some r) (hc : r.change = false) (herd at' : Nat) :
    s.publish herd at' = (s.swapped r).settleLeaving := by
  simp only [State.publish, h, hc]
  rfl

/-- A publication that changes the placement ends as the count leaves the run, RUN and PLC_GEN. -/
theorem State.publish_changed (s : State) {r : RunSt} (h : s.plc.run = some r) (hc : r.change = true) (herd at' : Nat) :
    (s.publish herd at').publ =
      ((s.swapped r).counted ((((s.swapped r).reg A.PLC_GEN).toNat + 1) % 2 ^ 32) herd).publ := by
  unfold State.publish
  split
  · next hnone => rw [hnone] at h; cases h
  · next r' hsome =>
    obtain rfl : r' = r := Option.some.inj (hsome.symm.trans h)
    extract_lets old plc a b c gen d e result new plc' f g k
    have hk : k.publ = e.publ := by
      rw [State.plcLog_publ, State.settleLeaving_publ, State.closeRings_publ, State.openRings_publ, State.sumRegs_publ,
        State.inRegs_publ, State.outRegs_publ]
      exact State.publ_mk rfl
    rw [if_neg (by simp [hc]), State.publ_ite, State.raiseIrq_publ, ite_self, hk]
    rfl

/-- A publication ends the run. -/
theorem State.publish_ends (s : State) {r : RunSt} (h : s.plc.run = some r) (herd at' : Nat) :
    (s.publish herd at').plc.run = none ∧ (s.publish herd at').flag F.PLC_STAT_RUN = false := by
  obtain ⟨hrun, hflag, -⟩ : (s.swapped r).plc.run = none ∧ (s.swapped r).flag F.PLC_STAT_RUN = false ∧
      (s.swapped r).reg A.PLC_GEN = s.reg A.PLC_GEN := by simpa [State.publ] using s.swapped_publ r
  cases hc : r.change with
  | false =>
    obtain ⟨hr, hf, -⟩ := State.publ_eq (State.settleLeaving_publ (s.swapped r))
    rw [State.publish_same s h hc, hr, hf]
    exact ⟨hrun, hflag⟩
  | true =>
    obtain ⟨hr, hf, -⟩ : (s.publish herd at').plc.run = (s.swapped r).plc.run ∧ (s.publish herd at').flag F.PLC_STAT_RUN =
        (s.swapped r).flag F.PLC_STAT_RUN ∧ _ := by
      simpa [State.publ] using (State.publish_changed s h hc herd at').trans (State.counted_publ ..)
    rw [hr, hf]
    exact ⟨hrun, hflag⟩

/-- A publication that changes the placement counts in PLC_GEN. -/
theorem State.publish_counts (s : State) {r : RunSt} (h : s.plc.run = some r) (hc : r.change = true) (herd at' : Nat) :
    (s.publish herd at').reg A.PLC_GEN = BitVec.ofNat 32 (((s.reg A.PLC_GEN).toNat + 1) % 2 ^ 32) := by
  have hgen : (s.swapped r).reg A.PLC_GEN = s.reg A.PLC_GEN := congrArg (fun p => p.2.2) (s.swapped_publ r)
  rw [← hgen]
  exact congrArg (fun p => p.2.2) ((State.publish_changed s h hc herd at').trans (State.counted_publ ..))

end Sys2Proof.Machine
end

section
/-! Device time and the always-on clock (R43, R44, R46, R48). -/

namespace Sys2Proof.Machine

section
variable {s : State} {v : Word}

/-! ### TIME_INC and TIME_ADJ (R46, R48) -/

theorem State.commitInc_legal (h : incOk (fldGet v 0 8 * 2 ^ 32 + s.time.incLo.toNat) = true) : s.commitInc v =
    { s with time := { s.time with incNext := some (fldGet v 0 8 * 2 ^ 32 + s.time.incLo.toNat) } } := if_pos h

theorem State.commitInc_refused (h : incOk (fldGet v 0 8 * 2 ^ 32 + s.time.incLo.toNat) = false) : s.commitInc v =
    (s.setFlag F.TIME_STAT_INC_REJ true).log 46 noSrc [] := if_neg (by rw [h]; decide)

theorem State.commitAdj_waits (h : s.time.adj = none) : s.commitAdj v = ({ s with
    time := { s.time with adj := some (signed 64 (s.time.adjLo.toNat + 2 ^ 32 * v.toNat), 2) } } : State).setFlag
      F.TIME_STAT_ADJ_BUSY true := by
  simp only [State.commitAdj, h]

theorem State.commitAdj_refused (h : s.time.adj ≠ none) : s.commitAdj v =
    (s.setFlag F.TIME_STAT_ADJ_REJ true).log 48 noSrc [] := by
  obtain ⟨a, ha⟩ := Option.ne_none_iff_exists'.1 h
  simp only [State.commitAdj, ha]

/-! ### The adjustment falls due (R48) -/

/-- Device time as an adjustment leaves it, which BUSY and SYNCED show. -/
def State.adjusted (s : State) (a : Int) : State :=
  (({ s with time := { s.time with tu := (((s.time.tu : Int) + a) % (tuMod : Int)).toNat, adj := none } } : State).setFlag
    F.TIME_STAT_ADJ_BUSY false).setFlag F.TIME_STAT_SYNCED true

theorem State.adjusted_busy (s : State) (a : Int) : (s.adjusted a).flag F.TIME_STAT_ADJ_BUSY = false :=
  (State.flag_setFld_apart _ _ rfl).trans (State.flag_setFlag_bit _ _ rfl rfl)

theorem State.adjusted_synced (s : State) (a : Int) : (s.adjusted a).flag F.TIME_STAT_SYNCED = true :=
  State.flag_setFlag_bit _ _ rfl rfl

/-- The grid, the compare units and the triggers follow the step and leave the clock as adjusted. -/
theorem State.applyAdj_dial {a : Int × Nat} (h : s.time.adj = some a) : s.applyAdj.dial = (s.adjusted a.1).dial := by
  simp only [State.applyAdj, h]
  rw [State.planAhead_dial, State.retrigger_dial, State.cmpStepAll_dial, State.skipPassed_dial, State.log_dial]
  rfl

theorem State.applyAdj_line {a : Int × Nat} (h : s.time.adj = some a) : s.applyAdj.line = s.line := by
  simp only [State.applyAdj, h]
  rw [State.planAhead_line, State.retrigger_line, State.cmpStepAll_line, State.skipPassed_line, State.log_line,
    State.setFlag_line, State.setFlag_line, State.line_mk]

/-! ### Seconds (R43, R44, R56) -/

/-- The alarm's check leaves the counter and, but for the log, everything else. -/
theorem State.alarmCheck_sec (s : State) : s.alarmCheck.aon.sec = s.aon.sec := by
  unfold State.alarmCheck
  split
  · rw [State.log_aon]
  · rfl

theorem State.alarmCheck_frame (s : State) : s.alarmCheck.time = s.time ∧ s.alarmCheck.data = s.data ∧
    s.alarmCheck.herds = s.herds ∧ s.alarmCheck.link = s.link ∧ s.alarmCheck.start = s.start ∧
    ∀ a, a ≠ A.HEP_LINK_STAT → s.alarmCheck.reg a = s.reg a := by
  unfold State.alarmCheck
  split
  · have h := State.log_logOnly { s with aon := { s.aon with armed := false, fired := true } } 44 noSrc []
    exact ⟨h.time, h.data, h.herds, h.link, h.start, fun a ha => h.reg ha⟩
  · exact ⟨rfl, rfl, rfl, rfl, rfl, fun _ _ => rfl⟩

/-- The always-on counter loaded with the second that device time reaches. -/
def State.secondLoaded (s : State) (t : Nat) : State :=
  { s.advance t with aon := { (s.advance t).aon with sec := t / tuPerSec % 2 ^ 48 } }

/-- The 10 MHz count is published and restarts. -/
def State.ref10mLatched (s : State) : State :=
  { s.setReg A.TIME_REF10M_CNT (BitVec.ofNat 32 s.time.ref10m) with time := { s.time with ref10m := 0 } }

/-- A second of device time, at `t`, but for the pin. -/
def State.secondTaken (s : State) (t : Nat) : State := (s.secondLoaded t).alarmCheck.ref10mLatched

theorem State.ref10mLatched_reg (s : State) : s.ref10mLatched.reg A.TIME_REF10M_CNT = BitVec.ofNat 32 s.time.ref10m :=
  State.reg_setReg_same ..

theorem State.ref10mLatched_other (s : State) {a : Nat} (h : A.TIME_REF10M_CNT ≠ a) : s.ref10mLatched.reg a = s.reg a :=
  State.reg_setReg_other _ _ h

theorem State.secondLoaded_ref10m (s : State) (t : Nat) : (s.secondLoaded t).time.ref10m = s.time.ref10m := rfl

theorem State.secondTaken_frame (s : State) (t : Nat) : (s.secondTaken t).aon.sec = t / tuPerSec % 2 ^ 48 ∧
    (s.secondTaken t).reg A.TIME_REF10M_CNT = BitVec.ofNat 32 s.time.ref10m ∧ (s.secondTaken t).time.ref10m = 0 ∧
    (s.secondTaken t).fld F.TIME_PPS_CFG_OUT_MS = s.fld F.TIME_PPS_CFG_OUT_MS ∧
    (s.secondTaken t).data = s.data ∧ (s.secondTaken t).herds = s.herds ∧ (s.secondTaken t).link = s.link := by
  obtain ⟨htime, hdata, hherds, hlink, -, hreg⟩ := (s.secondLoaded t).alarmCheck_frame
  refine ⟨State.alarmCheck_sec _, ?_, rfl, ?_, hdata, hherds, hlink⟩
  · rw [State.secondTaken, State.ref10mLatched_reg, htime, State.secondLoaded_ref10m]
  · exact State.fld_congr _ ((State.ref10mLatched_other _ (by decide)).trans (hreg _ (by decide)))

/-- PPS_OUT rises at the second where its width is not 0. -/
def State.ppsRise (s : State) (t : Nat) : State :=
  let w := min 500 (s.fld F.TIME_PPS_CFG_OUT_MS)
  if w = 0 then s
  else ({ s with time := { s.time with ppsOut := some (t + w * 16000000) } } : State).emit (.pin "PPS_OUT" 0 true (st48 t))

theorem State.deviceSecond_eq (s : State) : s.deviceSecond =
    (s.secondTaken ((s.now / tuPerSec + 1) * tuPerSec)).ppsRise ((s.now / tuPerSec + 1) * tuPerSec) := rfl

theorem State.ppsRise_frame (s : State) (t : Nat) : (s.ppsRise t).aon = s.aon ∧ (s.ppsRise t).reg A.TIME_REF10M_CNT =
    s.reg A.TIME_REF10M_CNT ∧ (s.ppsRise t).time.ref10m = s.time.ref10m ∧ (s.ppsRise t).data = s.data ∧
    (s.ppsRise t).herds = s.herds ∧ (s.ppsRise t).link = s.link := by
  unfold State.ppsRise
  extract_lets w
  split <;> exact ⟨rfl, rfl, rfl, rfl, rfl, rfl⟩

theorem State.ppsRise_on (h : s.fld F.TIME_PPS_CFG_OUT_MS ≠ 0) (t : Nat) :
    (s.ppsRise t).time.ppsOut = some (t + min 500 (s.fld F.TIME_PPS_CFG_OUT_MS) * 16000000) := by
  unfold State.ppsRise
  extract_lets w
  rw [if_neg (show w ≠ 0 by omega)]
  rfl

/-! ### The counter while the core is off (R43, R44) -/

theorem State.flashSpoil_aon (s : State) (cmd a : Nat) : (s.flashSpoil cmd a).aon = s.aon := by
  have hpage (l : List Byte) : (s.setPage l).aon = s.aon :=
    State.foldl_same State.aon (fun t i => State.setReg_aon t _ _) _ s
  have hput (t : State) (l : List Byte) : (t.flashPut a l).aon = t.aon := by
    rw [State.flashPut, State.program_aon, State.eraseRange_aon]
  unfold State.flashSpoil
  split
  · rw [State.drawnN_aon, hput, (s.eraseSector_logOnly a).aon]
  · rw [State.drawnN_aon, hput]
  · rw [State.drawnN_aon, hpage]
  · rfl

theorem State.flashCut_aon (s : State) : s.flashCut.aon = s.aon := by
  unfold State.flashCut
  cases h : s.flCmd with
  | none => rfl
  | some c =>
    rw [Option.isSome_some, if_pos rfl, State.flashEnd_late h]
    exact s.flashSpoil_aon _ _

theorem State.pinsLow_aon (s : State) : s.pinsLow.aon = s.aon := by
  unfold State.pinsLow
  extract_lets t
  have ht : t.aon = s.aon := State.foldl_same State.aon (fun u n => by split <;> rfl) _ s
  split
  · exact (State.emit_aon ..).trans ht
  · exact ht

/-- A warm start leaves the always-on island (R314). -/
theorem State.beginStart_aon (s : State) : (s.beginStart 1).aon = s.aon := by
  have hreset : (s.coreReset 1).aon = s.flashCut.pinsLow.aon := by
    rw [State.coreReset_cleared s (by decide)]
    rfl
  exact hreset.trans ((State.pinsLow_aon _).trans s.flashCut_aon)

theorem State.wake_aon (s : State) (toLimp : Bool) : (s.wake toLimp).aon = s.aon := by
  unfold State.wake
  split
  · rfl
  · exact s.beginStart_aon

end

/-! ### The alarm (R44) -/

theorem State.alarmCtrl_arm (s : State) {v : Word} (h : bitOn v 3 = false) : s.alarmCtrl (v ||| 1#32) = { s with
    aon := { s.aon with armed := true, alarm := s.pair A.GLB_AON_ALARM_LO 16, fired := s.aon.fired && !bitOn v 2 } } := by
  have h0 : bitOn (v ||| 1#32) 0 = true := by simp [bitOn]
  have h2 : bitOn (v ||| 1#32) 2 = bitOn v 2 := by simp [bitOn]
  have h3 : bitOn (v ||| 1#32) 3 = false := by simpa [bitOn] using h
  simp only [State.alarmCtrl, h0, h2, h3]
  rfl

theorem State.alarmCtrl_disarm (s : State) {v : Word} (h : bitOn v 0 = false) : s.alarmCtrl (v ||| 8#32) = { s with
    aon := { s.aon with armed := false, fired := s.aon.fired && !bitOn v 2 } } := by
  have h0 : bitOn (v ||| 8#32) 0 = false := by simpa [bitOn] using h
  have h2 : bitOn (v ||| 8#32) 2 = bitOn v 2 := by simp [bitOn]
  have h3 : bitOn (v ||| 8#32) 3 = true := by simp [bitOn]
  simp only [State.alarmCtrl, h0, h2, h3]
  rfl

/-- Settles O9: the writes by their unfolded equations; an adjustment and a second by what their parts leave alone. -/
theorem deviceTime : Obligations.DeviceTime := by
  unfold Obligations.DeviceTime
  refine ⟨fun s r p v hadm hr => ⟨fun hok => ?inc, fun hbad => ?incRefused⟩,
    fun s r p v hadm hr => ⟨fun hnone => ?adj, fun hsome => ?adjRefused⟩, fun s a hrun ha => ?apply, fun s hrun => ?second,
    fun s u hoff hu => ?rc, fun s r p v hadm hr => ⟨fun h => ?arm, fun h => ?disarm⟩⟩
  case inc =>
    subst hr
    rw [← s.reached_time p] at hok ⊢
    exact congrArg Host.Outcome.next ((State.guarded_admits hadm _).trans (State.commitInc_legal hok))
  case incRefused =>
    subst hr
    rw [← s.reached_time p] at hbad
    exact congrArg Host.Outcome.next ((State.guarded_admits hadm _).trans (State.commitInc_refused hbad))
  case adj =>
    subst hr
    rw [← s.reached_time p] at hnone ⊢
    exact congrArg Host.Outcome.next ((State.guarded_admits hadm _).trans (State.commitAdj_waits hnone))
  case adjRefused =>
    subst hr
    rw [← s.reached_time p] at hsome
    exact congrArg Host.Outcome.next ((State.guarded_admits hadm _).trans (State.commitAdj_refused hsome))
  case apply =>
    obtain ⟨htu, hadj, hstat, hherds⟩ := State.dial_eq ((State.paceMoves_dial _).trans (State.applyAdj_dial ha))
    obtain ⟨haon, -, -, -⟩ := State.bed_eq s.applyAdj.paceMoves_bed
    obtain ⟨haon', -, -, -⟩ := State.line_eq (State.applyAdj_line ha)
    refine ⟨_, congrArg Host.Outcome.next (State.whenUp_up hrun _), htu, hadj, ?_, ?_, haon.trans haon', hherds⟩
    · exact (State.flag_congr _ hstat).trans (s.adjusted_busy a.1)
    · exact (State.flag_congr _ hstat).trans (s.adjusted_synced a.1)
  case second =>
    have heq := s.deviceSecond_eq
    have hdiv : (s.now / tuPerSec + 1) * tuPerSec / tuPerSec = s.now / tuPerSec + 1 := Nat.mul_div_cancel _ (by decide)
    generalize (s.now / tuPerSec + 1) * tuPerSec = t at heq hdiv ⊢
    obtain ⟨hsec, hcnt, hzero, hms, hdata, hherds, hlink⟩ := s.secondTaken_frame t
    obtain ⟨haon, hreg, href, hdata', hherds', hlink'⟩ := (s.secondTaken t).ppsRise_frame t
    refine ⟨_, congrArg Host.Outcome.next ((State.whenUp_up hrun _).trans heq), ?_, hreg.trans hcnt, href.trans hzero,
      fun hout => ?_, hdata'.trans hdata, hherds'.trans hherds, hlink'.trans hlink⟩
    · rw [haon, hsec, hdiv]
    · rw [← hms] at hout ⊢
      exact State.ppsRise_on hout _
  case rc =>
    subst hu
    have hgo : (!(s.start.phase == .standby || s.start.phase == .wait)) = false := by
      obtain h | h := hoff <;> simp [h]
    refine ⟨_, rfl, ?_, fun hdue => ?_⟩
    · simp only [State.rcSecond, hgo]
      split
      · contradiction
      · split
        · rw [State.wake_aon, State.alarmCheck_sec]
        · rfl
    · simp only [State.rcSecond, hgo, hdue]
      rfl
  case arm =>
    subst hr
    exact congrArg Host.Outcome.next ((State.guarded_admits hadm _).trans ((State.alarmCtrl_arm _ h).trans (by
      rw [(s.reached_logOnly p).aon])))
  case disarm =>
    subst hr
    exact congrArg Host.Outcome.next ((State.guarded_admits hadm _).trans ((State.alarmCtrl_disarm _ h).trans (by
      rw [(s.reached_logOnly p).aon])))

end Sys2Proof.Machine
end

section
/-! The host link's widths, rates and power states (R20, R275-R280, R288). -/

namespace Sys2Proof.Machine

/-! ### DL_UP through interrupts and the log -/

/-- DL_UP reads as before. -/
structure State.UpStays (s t : State) : Prop where
  flag : t.flag F.HEP_LINK_STAT_DL_UP = s.flag F.HEP_LINK_STAT_DL_UP

theorem State.UpStays.of_reg {s t : State} (h : t.reg A.HEP_LINK_STAT = s.reg A.HEP_LINK_STAT) : s.UpStays t :=
  ⟨State.flag_congr F.HEP_LINK_STAT_DL_UP h⟩

theorem State.UpStays.trans {s t u : State} (h : s.UpStays t) (h' : t.UpStays u) : s.UpStays u := ⟨h'.flag.trans h.flag⟩

theorem State.UpStays.step {s t u : State} (h : s.UpStays t) (hu : u.reg A.HEP_LINK_STAT = t.reg A.HEP_LINK_STAT) :
    s.UpStays u := h.trans (.of_reg hu)

theorem State.UpStays.after {s t u : State} (h : t.UpStays u) (ht : t.reg A.HEP_LINK_STAT = s.reg A.HEP_LINK_STAT) :
    s.UpStays u := State.UpStays.trans (.of_reg ht) h

section
variable (s : State)

theorem State.exitL1_upStays : s.UpStays s.exitL1 := by
  unfold State.exitL1
  split
  · have hwake (t : State) : t.settleWake.flag F.HEP_LINK_STAT_DL_UP = t.flag F.HEP_LINK_STAT_DL_UP := by
      simp only [State.flag, State.settleWake_fld]
    exact ⟨by rw [hwake, State.flag_setFld_apart _ _ rfl, State.flag_setFld_apart _ _ rfl]⟩
  · exact .of_reg rfl

theorem State.syncInta_upStays : s.UpStays s.syncInta := by
  unfold State.syncInta
  extract_lets want
  split
  · exact .of_reg rfl
  · exact s.exitL1_upStays.step rfl

theorem State.raiseIrq_upStays (n : Nat) : s.UpStays (s.raiseIrq n) := by
  unfold State.raiseIrq
  extract_lets _ t
  have h : s.UpStays t := .of_reg rfl
  clear_value t
  split
  · exact h
  · split
    · split
      · exact h.step rfl
      · exact (h.trans t.exitL1_upStays).step rfl
    · split
      · exact h.step rfl
      · exact (h.trans t.exitL1_upStays).step rfl
    · exact h.trans t.syncInta_upStays
    · exact h

theorem State.openRec_upStays (n : Nat) (e : Event) : s.UpStays (State.openRec n s e) := by
  induction n generalizing s e with
  | zero => exact .of_reg rfl
  | succ n ih =>
    unfold State.openRec
    extract_lets slot e' head _ t
    split
    · exact .of_reg rfl
    · split
      · exact (ih ..).after rfl
      · exact (State.raiseIrq_upStays ..).after rfl

theorem State.closeUpTo_upStays (n : Nat) : s.UpStays (State.closeUpTo n s) := by
  induction n generalizing s with
  | zero => exact .of_reg rfl
  | succ n ih =>
    unfold State.closeUpTo
    split
    · exact .of_reg rfl
    · extract_lets _ t
      split
      · exact ((State.openRec_upStays ..).trans (ih _)).after rfl
      · exact .of_reg rfl

theorem State.closeRec_upStays : s.UpStays s.closeRec := s.closeUpTo_upStays _

theorem State.newRec_upStays (e : Event) : s.UpStays (s.newRec e) := by
  unfold State.newRec
  extract_lets t u v
  have h : s.UpStays u := by
    unfold u
    split
    · exact s.closeRec_upStays.step rfl
    · exact s.closeRec_upStays.trans (State.openRec_upStays ..)
  split
  · exact (h.trans (State.closeRec_upStays _)).step rfl
  · exact h

theorem State.logNow_upStays (e : Event) : s.UpStays (s.logNow e) := by
  unfold State.logNow
  split
  · exact .of_reg rfl
  · split
    · exact .of_reg rfl
    · split
      · exact s.newRec_upStays e
      · split
        · exact .of_reg rfl
        · exact (s.newRec_upStays _).step rfl

theorem State.log_upStays (c n : Nat) (d : List Byte) : s.UpStays (s.log c n d) := by
  unfold State.log
  split
  · split <;> exact .of_reg rfl
  · exact s.logNow_upStays _

/-! ### Errors that the link reports (R284) -/

theorem State.UpStays.logUnless {s t : State} (h : s.UpStays t) (was : Bool) (c n : Nat) (d : List Byte) :
    s.UpStays (if was then t else t.log c n d) := by
  split
  · exact h
  · exact h.trans (t.log_upStays c n d)

theorem State.aer_upStays (bit : Nat) (advisory : Bool) (hdr : List Word) : s.UpStays (s.aer bit advisory hdr) := by
  unfold State.aer
  extract_lets h was masked fatal adv logHdr h' seen ep t urOk send u
  have hu : s.UpStays u := by
    unfold u
    split <;> exact .of_reg rfl
  exact hu.logUnless was _ _ _

theorem State.aerCorErr_upStays (bit : Nat) : s.UpStays (s.aerCorErr bit) := by
  unfold State.aerCorErr
  extract_lets was hep ep t u
  have hu : s.UpStays u := by
    unfold u
    split <;> exact .of_reg rfl
  exact hu.logUnless was _ _ _

theorem State.aer_line (bit : Nat) (advisory : Bool) (hdr : List Word) : (s.aer bit advisory hdr).line = s.line := by
  simp [State.aer]

theorem State.aerCorErr_line (bit : Nat) : (s.aerCorErr bit).line = s.line := by simp [State.aerCorErr]

theorem State.linkErr_upStays (e : LinkErr) : s.UpStays (s.linkErr e) := by
  cases e with
  | receiver | badTlp | badDllp | replayRollover | replayTimeout => exact s.aerCorErr_upStays _
  | dlProtocol | flowControl => exact s.aer_upStays _ _ _
  | malformed | overflow => exact (State.aer_upStays _ _ _ _).after rfl

theorem State.linkErr_line (e : LinkErr) : (s.linkErr e).line = s.line := by
  cases e with
  | receiver | badTlp | badDllp | replayRollover | replayTimeout => exact s.aerCorErr_line _
  | dlProtocol | flowControl => exact s.aer_line _ _ _
  | malformed | overflow => exact (State.aer_line _ _ _ _).trans State.line_mk

theorem State.linkErrs_upStays (l : List LinkErr) : s.UpStays (l.foldl State.linkErr s) :=
  ⟨State.foldl_same (·.flag F.HEP_LINK_STAT_DL_UP) (fun t e => (t.linkErr_upStays e).flag) l s⟩

theorem State.linkErrs_line (l : List LinkErr) : (l.foldl State.linkErr s).line = s.line :=
  State.line_foldl l s State.linkErr_line

/-! ### Widths and rates (R275, R276, R288) -/

/-- The link in L0 at a width and a rate. -/
def State.linkTrained (s : State) (width rate : Nat) (flit : Bool) : State :=
  ((((s.setFld F.HEP_LINK_STAT_LSTATE 0).setFlag F.HEP_LINK_STAT_FLIT flit).setFld F.HEP_LINK_STAT_WIDTH width).setFld
    F.HEP_LINK_STAT_RATE rate).setFld F.HEP_LINK_STAT_L0P_W width

theorem State.linkTrained_state (width rate : Nat) (flit : Bool) :
    (s.linkTrained width rate flit).fld F.HEP_LINK_STAT_LSTATE = 0 := by
  simp only [State.linkTrained, State.setFlag]
  rw [State.fld_setFld_apart _ _ rfl, State.fld_setFld_apart _ _ rfl, State.fld_setFld_apart _ _ rfl,
    State.fld_setFld_apart _ _ rfl, State.fld_setFld_fits _ _ rfl]
  rfl

theorem State.linkTrained_width (width : Fin 5) (rate : Nat) (flit : Bool) :
    (s.linkTrained width rate flit).fld F.HEP_LINK_STAT_WIDTH = width := by
  rw [State.linkTrained, State.fld_setFld_apart _ _ rfl, State.fld_setFld_apart _ _ rfl, State.fld_setFld_fits _ _ rfl]
  exact Nat.mod_eq_of_lt (Nat.lt_trans width.isLt (by decide))

theorem State.linkTrained_rate (width : Nat) (rate : Fin 6) (flit : Bool) :
    (s.linkTrained width rate flit).fld F.HEP_LINK_STAT_RATE = rate := by
  rw [State.linkTrained, State.fld_setFld_apart _ _ rfl, State.fld_setFld_fits _ _ rfl]
  exact Nat.mod_eq_of_lt (Nat.lt_trans rate.isLt (by decide))

theorem State.linkTrained_l0p (width : Fin 5) (rate : Nat) (flit : Bool) :
    (s.linkTrained width rate flit).fld F.HEP_LINK_STAT_L0P_W = width := by
  rw [State.linkTrained, State.fld_setFld_fits _ _ rfl]
  exact Nat.mod_eq_of_lt (Nat.lt_trans width.isLt (by decide))

theorem State.linkTrained_up (width rate : Nat) (flit : Bool) :
    (s.linkTrained width rate flit).flag F.HEP_LINK_STAT_DL_UP = s.flag F.HEP_LINK_STAT_DL_UP := by
  simp only [State.linkTrained, State.setFlag]
  rw [State.flag_setFld_apart _ _ rfl, State.flag_setFld_apart _ _ rfl, State.flag_setFld_apart _ _ rfl,
    State.flag_setFld_apart _ _ rfl, State.flag_setFld_apart _ _ rfl]

end

section
variable {s : State}

theorem State.linkUp_trains (h : s.hep.perst = false) (width rate : Nat) (flit : Bool) : s.linkUp width rate flit =
    ((({ s with hep := { s.hep with downSince := none } } : State).setFlag F.HEP_LINK_STAT_DL_UP true).linkTrained width rate
      (flit || rate == 5)).restartBeat.settleWake.syncInta := by
  rw [State.linkUp, if_neg (by simp [h])]
  rfl

theorem State.linkRetrain_trains (h : s.flag F.HEP_LINK_STAT_DL_UP = true) (width rate : Nat) (flit : Bool) :
    s.linkRetrain width rate flit = (s.linkTrained width rate (flit || rate == 5)).settleWake := by
  rw [State.linkRetrain, if_neg (by simp [h])]
  rfl

/-- INTx follows a link in L0 and leaves its register. -/
theorem State.syncInta_linkFld (h : s.fld F.HEP_LINK_STAT_LSTATE = 0) {f : Fld} (hf : f.addr = A.HEP_LINK_STAT) :
    s.syncInta.fld f = s.fld f :=
  State.fld_congr f (hf ▸ s.syncInta_linkStays.reg (by rw [h]; decide))

/-- A link that has trained settles WAKE_N, and INTx follows it. -/
theorem State.settleWake_frame (s : State) : s.settleWake.hep.downSince = s.hep.downSince ∧ s.settleWake.line = s.line := by
  unfold State.settleWake
  split
  · exact ⟨rfl, (State.emit_line ..).trans State.line_mk⟩
  · exact ⟨rfl, rfl⟩

theorem State.linkTrained_line (s : State) (width rate : Nat) (flit : Bool) : (s.linkTrained width rate flit).line = s.line := by
  simp [State.linkTrained]

theorem State.l0p_accepted (hup : s.flag F.HEP_LINK_STAT_DL_UP = true) (hflit : s.flag F.HEP_LINK_STAT_FLIT = true) {width : Nat}
    (hw : width ≤ s.fld F.HEP_LINK_STAT_WIDTH) : s.l0p width = (s.setFld F.HEP_LINK_STAT_L0P_W width).setFld
      F.HEP_LINK_STAT_LSTATE (if width = s.fld F.HEP_LINK_STAT_WIDTH then 0 else 1) := if_neg (by simp [hup, hflit, hw])

end

/-- A link that comes up is in L0 as trained. -/
theorem State.linkUp_frame (s : State) (w : Fin 5) (r : Fin 6) (flit : Bool) {t : State}
    (ht : t = ((({ s with hep := { s.hep with downSince := none } } : State).setFlag F.HEP_LINK_STAT_DL_UP true).linkTrained w r
      flit).restartBeat.settleWake.syncInta) : t.flag F.HEP_LINK_STAT_DL_UP = true ∧ t.fld F.HEP_LINK_STAT_LSTATE = 0 ∧
    t.fld F.HEP_LINK_STAT_WIDTH = w ∧ t.fld F.HEP_LINK_STAT_RATE = r ∧ t.fld F.HEP_LINK_STAT_L0P_W = w ∧
    t.hep.downSince = none ∧ t.data = s.data ∧ t.herds = s.herds := by
  generalize hb : ({ s with hep := { s.hep with downSince := none } } : State).setFlag F.HEP_LINK_STAT_DL_UP true = b at ht
  have hup : b.flag F.HEP_LINK_STAT_DL_UP = true := hb ▸ State.flag_setFlag_bit _ _ rfl rfl
  have hsince : b.hep.downSince = none := by rw [← hb, State.setFlag_hep]
  have hline : b.line = s.line := by rw [← hb, State.setFlag_line, State.line_mk]
  have hstate := State.linkTrained_state b w r flit
  generalize hu : (b.linkTrained w r flit).restartBeat.settleWake = u at ht
  have hfld (f : Fld) : u.fld f = (b.linkTrained w r flit).fld f := hu ▸ State.settleWake_fld _ f
  have hsync (f : Fld) (hf : f.addr = A.HEP_LINK_STAT) : t.fld f = (b.linkTrained w r flit).fld f := by
    rw [ht, State.syncInta_linkFld ((hfld _).trans hstate) hf, hfld]
  obtain ⟨hs, hl⟩ := (b.linkTrained w r flit).restartBeat.settleWake_frame
  rw [hu] at hs hl
  have htl : t.line = s.line := by
    rw [ht, (State.syncInta_logOnly u).line, hl, State.restartBeat, State.line_mk, State.linkTrained_line, hline]
  obtain ⟨-, hdata, hherds, -⟩ := State.line_eq htl
  refine ⟨?_, (hsync _ rfl).trans hstate, (hsync _ rfl).trans (State.linkTrained_width ..),
    (hsync _ rfl).trans (State.linkTrained_rate ..), (hsync _ rfl).trans (State.linkTrained_l0p ..), ?_, hdata, hherds⟩
  · rw [State.flag, hsync _ rfl, ← State.flag, State.linkTrained_up, hup]
  · rw [ht, (State.syncInta_logOnly u).hep_downSince, hs]
    exact hsince

/-! ### D3hot and D0 (R277, R278) -/

theorem State.setD3_d3 (s : State) (b : Bool) : (s.setD3 b).ep.d3 = b := by
  unfold State.setD3
  split
  · assumption
  · extract_lets was ep t up u
    have hu : u.ep.d3 = b := by
      unfold u
      split
      · exact congrArg EpSt.d3 (State.setFld_ep ..)
      · rfl
    have hstop : u.masterStop.ep.d3 = b := (State.bed_eq u.masterStop_bed).2.2.2.trans hu
    have hgo : u.masterGo.ep.d3 = b := (State.bed_eq u.masterGo_bed).2.2.2.trans hu
    split
    · exact hstop
    · split
      · exact hgo
      · exact hu

/-- PowerState in the low bits of a write of PMCSR's first byte. -/
theorem fldGet_powerState (old v : Word) : fldGet ((old &&& ~~~ beMask 1) ||| (v &&& beMask 1)) 0 2 = fldGet v 0 2 := by
  refine fldGet_congr fun k _ hk => ?_
  have hmask : (beMask 1).getLsbD k = true := by
    obtain rfl | rfl : k = 0 ∨ k = 1 := by omega
    all_goals decide
  simp [-BitVec.getLsbD_eq_getElem, hmask]

theorem fldGet_powerOff (v : Word) : fldGet (v &&& ~~~ 3#32) 0 2 = 0 := by
  refine (fldGet_congr (r' := 0#32) fun k _ hk => ?_).trans rfl
  obtain rfl | rfl : k = 0 ∨ k = 1 := by omega
  all_goals simp

theorem State.cfgSet_d3hot (s : State) {v : Word} (wr : Word) (h : fldGet v 0 2 = 3) : (s.cfgSet 0x44 v wr).ep.d3 = true := by
  simp only [State.cfgSet, h]
  exact State.setD3_d3 _ true

theorem State.cfgSet_d0 (s : State) {v : Word} (wr : Word) (h : fldGet v 0 2 = 0) : (s.cfgSet 0x44 v wr).ep.d3 = false := by
  simp only [State.cfgSet, h]
  exact (State.bed_eq (State.settleWake_bed _)).2.2.2.trans (State.setD3_d3 _ false)

section
variable {s : State} (hup : s.start.phase = .run) (h : s.hep.perst = false) (hf : s.hep.flrBusy = false)
include hup h hf

theorem State.cfgWrite_d3hot {v : Word} (hv : fldGet v 0 2 = 3) : (s.cfgWrite 0x44 v 1).ep.d3 = true := by
  obtain ⟨old, e⟩ := State.cfgWrite_takes hup h hf 0x44 v 1
  rw [e]
  exact State.cfgSet_d3hot _ _ ((fldGet_powerState old v).trans hv)

theorem State.cfgWrite_d0 {v : Word} (hv : fldGet v 0 2 = 0) : (s.cfgWrite 0x44 v 1).ep.d3 = false := by
  obtain ⟨old, e⟩ := State.cfgWrite_takes hup h hf 0x44 v 1
  rw [e]
  exact State.cfgSet_d0 _ _ ((fldGet_powerState old v).trans hv)

end

theorem State.canMaster_of_d3 {s : State} (h : s.ep.d3 = true) : s.canMaster = false := by simp [State.canMaster, h]

/-! ### L1 and wakes (R278, R279) -/

theorem State.aspmEntry_enters {s : State} (hen : s.ep.aspmL1 = true) (hidle : s.fld F.HEP_LINK_CFG_L1_IDLE_US ≠ 0)
    (hl : s.fld F.HEP_LINK_STAT_LSTATE = 0 ∨ s.fld F.HEP_LINK_STAT_LSTATE = 1) (htags : s.hep.tags = [])
    (hherds : ∀ h ∈ s.herds, h.closed = true ∨ h.bufs = []) : s.aspmEntry = s.setFld F.HEP_LINK_STAT_LSTATE 2 := by
  have hall : (s.herds.all fun h => h.closed || h.bufs.isEmpty) = true := by simpa using hherds
  exact if_pos (by simp [hen, hidle, hl, htags, hall])

theorem State.aspmEntry_stays {s : State} (h : s.ep.aspmL1 = false ∨ s.hep.tags ≠ []) : s.aspmEntry = s := by
  refine if_neg ?_
  obtain h | h := h <;> simp [h]

theorem State.settleWake_ep (s : State) : s.settleWake.ep = s.ep := by
  unfold State.settleWake
  split <;> rfl

theorem State.wakeHost_pmeSts (s : State) : s.wakeHost.ep.pmeSts = true := by
  unfold State.wakeHost
  extract_lets a ep b c
  rw [State.settleWake_ep]
  unfold c
  split <;> rfl

theorem State.pmCtrl_wakes (s : State) (v : Word) : s.pmCtrl (v ||| 1#32) = s.wakeHost := if_pos (bitOn_or_one v)

/-- Settles O32: a link that comes up or retrains is in L0 as trained, DL_UP outlasting the errors reported first; D3hot and D0
are as written, whatever the right to issue requests stops or starts. -/
theorem hostLinkStates : Obligations.HostLinkStates := by
  unfold Obligations.HostLinkStates
  refine ⟨fun s w r flit hup hp => ?up, fun s w r flit errs hup hdl => ?retrain, fun s w hup hdl hflit hw => ?l0p,
    fun s hup => ⟨fun hen hidle hl htags hherds => ?enter, fun h => ?stay⟩,
    fun s hup hp hf => ⟨⟨_, rfl, ?d3⟩, ⟨_, rfl, ?d0⟩⟩, fun s p v hadm => ?wake, fun s => s.wakeHost_pmeSts⟩
  case up =>
    refine ⟨_, congrArg Host.Outcome.next ((State.whenUp_up hup _).trans (State.linkUp_trains hp w r flit)), ?_⟩
    exact State.linkUp_frame s w r _ rfl
  case retrain =>
    have hdl' := (s.linkErrs_upStays errs).flag.trans hdl
    obtain ⟨-, hdata, hherds, -⟩ := State.line_eq ((State.settleWake_frame _).2.trans
      ((State.linkTrained_line _ w r (flit || r.val == 5)).trans (s.linkErrs_line errs)))
    refine ⟨_, congrArg Host.Outcome.next ((State.whenUp_up hup _).trans (State.linkRetrain_trains hdl' w r flit)), ?_, ?_, ?_, ?_,
      hdata, hherds⟩
    all_goals rw [State.settleWake_fld]
    · exact State.linkTrained_state ..
    · exact State.linkTrained_width ..
    · exact State.linkTrained_rate ..
    · exact State.linkTrained_l0p ..
  case l0p =>
    refine ⟨_, congrArg Host.Outcome.next ((State.whenUp_up hup _).trans (State.l0p_accepted hdl hflit hw)), ?_, ?_, ?_, rfl⟩
    · rw [State.fld_setFld_apart _ _ rfl, State.fld_setFld_fits _ _ rfl]
      exact Nat.mod_eq_of_lt (Nat.lt_trans w.isLt (by decide))
    · rw [State.fld_setFld_fits _ _ rfl]
      split <;> rfl
    · rw [State.fld_setFld_apart _ _ rfl, State.fld_setFld_apart _ _ rfl]
  case enter =>
    exact congrArg Host.Outcome.next ((State.whenUp_up hup _).trans (State.aspmEntry_enters hen hidle hl htags hherds))
  case stay => exact congrArg Host.Outcome.next ((State.whenUp_up hup _).trans (State.aspmEntry_stays h))
  case d3 =>
    have hd3 := State.cfgWrite_d3hot hup hp hf (v := BitVec.ofNat 32 (s.cfgWord 0x44) ||| 3#32) (fldGet_setLow _)
    exact ⟨hd3, State.canMaster_of_d3 hd3, (exec_keeps .powerStateD3hot s _ rfl).pending⟩
  case d0 => exact ⟨State.cfgWrite_d0 hup hp hf (fldGet_powerOff _), (exec_keeps .powerStateD0 s _ rfl).pending⟩
  case wake =>
    exact congrArg Host.Outcome.next ((State.guarded_admits hadm _).trans (State.pmCtrl_wakes _ v))

end Sys2Proof.Machine
end

section
/-! Boundaries, herds, publications and the quorum (R13, R14, R22, R194, R320, R322). -/

namespace Sys2Proof.Machine

/-! ### What the writes at a herd's close leave alone (R25-R29) -/

section
variable (s : State)

@[simp] theorem State.setPair_line (a w v : Nat) : (s.setPair a w v).line = s.line := State.line_of rfl rfl rfl rfl
@[simp] theorem State.emits_line (l : List Out) : (s.emits l).line = s.line := State.line_of rfl rfl rfl rfl
@[simp] theorem State.drawn_line : s.drawn.line = s.line := State.line_of rfl rfl rfl rfl
@[simp] theorem State.exitL1_line : s.exitL1.line = s.line := s.exitL1_logOnly.line
@[simp] theorem State.settleWake_line : s.settleWake.line = s.line := s.settleWake_frame.2

@[simp] theorem State.count48_line (lo n : Nat) : (s.count48 lo n).line = s.line := by simp [State.count48]

@[simp] theorem State.chBytes_line (ch n : Nat) : (s.chBytes ch n).line = s.line := s.count48_line _ _

@[simp] theorem State.post_line (a : Nat) (d : List Byte) (ro ep : Bool) : (s.post a d ro ep).line = s.line := by simp [State.post]

@[simp] theorem State.writeBack_line (at' status info result ch : Nat) : (s.writeBack at' status info result ch).line = s.line :=
  s.post_line _ _ _ _

@[simp] theorem State.highMark_line (notice cross peak : Fld) (old new high : Nat) (irqEn : Bool) (src : Nat) :
    (s.highMark notice cross peak old new high irqEn src).line = s.line := by simp [State.highMark, State.countSmall]

@[simp] theorem State.cqFill_line (q n : Nat) : (s.cqFill q n).line = s.line := by simp [State.cqFill]

@[simp] theorem State.setCqLag_line (q n : Nat) : (s.setCqLag q n).line = s.line := State.line_of rfl rfl rfl rfl

@[simp] theorem State.postRec_line (q kind : Nat) (body : List Byte) : (s.postRec q kind body).line = s.line := by
  simp [State.postRec]

@[simp] theorem State.bufRecord_line (b : HerdBuf) (status : Nat) : (s.bufRecord b status).line = s.line := by
  simp [State.bufRecord, State.descRecord]

@[simp] theorem State.herdWrites_line (h : Herd) (outcome late absent : Nat) (block : List Byte) :
    (s.herdWrites h outcome late absent block).line = s.line := by simp [State.herdWrites]

@[simp] theorem State.firstHerd_line : s.firstHerd.line = s.line := by simp [State.firstHerd]

@[simp] theorem State.assertWake_line : s.assertWake.line = s.line := by simp [State.assertWake]

@[simp] theorem State.wakeHost_line : s.wakeHost.line = s.line := by
  unfold State.wakeHost
  extract_lets a ep b c
  have hc : c.line = s.line := by simp [c, b, a]
  rw [State.settleWake_line, hc]

@[simp] theorem State.parkStream_line (n : Nat) (c : Nat × OutPlace) : (s.parkStream n c).line = s.line := by
  unfold State.parkStream
  extract_lets
  split <;> simp

@[simp] theorem State.parkMeasure_line (n : Nat) (st : List ((Nat × OutPlace) × Nat)) : (s.parkMeasure n st).line = s.line := by
  simp [State.parkMeasure]

end

/-! ### A herd closes (R22, R26) -/

theorem State.herd_of_herds {s t : State} (h : t.herds = s.herds) (n : Nat) : t.herd n = s.herd n := by
  rw [State.herd, h, State.herd]

theorem State.herd_num {s : State} {n : Nat} {h : Herd} (hh : s.herd n = some h) : h.num = n := by
  simpa using List.find?_some hh

/-- A herd that is replaced under its number is found as replaced. -/
theorem State.herd_setHerd {s : State} {n : Nat} {h h' : Herd} (hh : s.herd n = some h) (hn : h'.num = n) :
    (s.setHerd h').herd n = some h' := by
  have hsame : (fun g : Herd => (if g.num = h'.num then h' else g).num == n) = fun g => g.num == n := by
    funext g
    split
    · simp_all
    · rfl
  have hfind : s.herds.find? (fun g => g.num == n) = some h := hh
  have hnum := State.herd_num hh
  show (s.herds.map fun g => if g.num = h'.num then h' else g).find? (fun g => g.num == n) = _
  rw [List.find?_map]
  show Option.map _ (s.herds.find? fun g => (if g.num = h'.num then h' else g).num == n) = _
  rw [hsame, hfind, Option.map_some, if_pos (hnum.trans hn.symm)]

theorem State.closeHerd_closes {s : State} {n : Nat} {h : Herd} (hh : s.herd n = some h) (hc : h.closed = false) (outcome : Nat) :
    (s.closeHerd n outcome).data = s.data ∧ ((s.closeHerd n outcome).herd n).map (·.closed) = some true := by
  unfold State.closeHerd
  split
  · next hnone => rw [hnone] at hh; cases hh
  · next h' hsome =>
    obtain rfl : h' = h := Option.some.inj (hsome.symm.trans hh)
    rw [if_neg (by simp [hc])]
    extract_lets st late absent first t u
    obtain ⟨-, hdata, hherds, -⟩ := State.line_eq (show t.line = s.line by simp [t, first])
    have ht : t.herd n = some h' := (State.herd_of_herds hherds n).trans hh
    have hu : u = t.setHerd { h' with closed := true, waiting := [] } := by simp only [u, ht]
    obtain ⟨-, hdata', hherds', -⟩ := State.line_eq (u.parkMeasure_line n st)
    refine ⟨hdata'.trans ((congrArg State.data hu).trans hdata), ?_⟩
    rw [State.herd_of_herds hherds', hu,
      State.herd_setHerd (h' := { h' with closed := true, waiting := [] }) ht (State.herd_num (h := h') ht)]
    rfl

theorem State.herdDeadline_open {s : State} {n : Nat} {h : Herd} (hh : s.herd n = some h) (hc : h.closed = false) :
    s.herdDeadline n = (s.advance h.deadline).closeHerd n 1 := by
  simp only [State.herdDeadline, hh, hc]
  rfl

/-! ### A boundary (R13, R14) -/

theorem State.tickBoundary_aon (s : State) (limpN : Bool) : (s.tickBoundary limpN).aon = s.countBoundary.aon := by
  unfold State.tickBoundary
  extract_lets a early b modes c due d published e f
  have hb : b.aon = s.countBoundary.aon := by simp [b, a]
  have hc : c.aon = s.countBoundary.aon := by simp [c, hb]
  have hd : d.aon = s.countBoundary.aon := by simp [d, hc]
  have he : e.aon = s.countBoundary.aon := by simp [e, hd]
  have hf : f.aon = s.countBoundary.aon := by simp [f, he]
  simp [he, hf]

/-! ### A publication before its boundary (R194) -/

/-- What a publication starts from, at `b`: the quorum is checked there, and the boundary itself publishes no more. -/
def State.publishAt (s : State) (b : Nat) : State :=
  { (s.advance b).quorumCheck with plc := { (s.advance b).quorumCheck.plc with pubAt := some b } }

theorem State.publishEarly_runs {s : State} {r : RunSt} (h : s.plc.run = some r) (hfw : s.start.fwBusy = false) :
    s.publishEarly = (s.publishAt s.nextBoundary).publish ((s.publishAt s.nextBoundary).aon.herd + 1) s.nextBoundary :=
  if_neg (by simp [h, hfw])

theorem State.publishAt_frame (s : State) (b : Nat) : (s.publishAt b).plc.run = s.plc.run ∧
    (s.publishAt b).reg A.PLC_GEN = s.reg A.PLC_GEN ∧ (s.publishAt b).link = s.link ∧ (s.publishAt b).aon = s.aon := by
  have hpubl : (s.publishAt b).publ = s.publ := by
    have hadvance : (s.advance b).publ = s.publ := State.publ_mk rfl
    have hmet : offPlc F.GLB_HERD_STAT_QUORUM_MET.addr := offPlc_below (by decide)
    have hquorum : (s.advance b).quorumCheck.publ = s.publ := by
      simp [State.quorumCheck, State.setFlag_publ, hmet, hadvance]
    exact (State.publ_mk rfl).trans hquorum
  obtain ⟨haon, -, hlink, -⟩ := State.bed_eq (State.quorumCheck_bed (s.advance b))
  obtain ⟨hrun, -, hgen⟩ := State.publ_eq hpubl
  exact ⟨hrun, hgen, hlink, haon⟩

/-! ### The quorum and power (R320, R322, R380) -/

theorem State.quorumLimit_notes {s : State} (hms : s.fld F.GLB_QUORUM_CFG_QUORUM_MS ≠ 0)
    (hlate : s.flag F.GLB_START_STAT_QUORUM_LATE = false) (hq : s.modes.quorum = false)
    (habs : (s.quorumSet.filter fun o => !s.memberPresent o) ≠ []) : s.quorumLimit =
      (s.setFlag F.GLB_START_STAT_QUORUM_LATE true).log 322 noSrc
        (det 2 (s.quorumSet.filter fun o => !s.memberPresent o).length) := if_neg (by simp [hms, hlate, hq, habs])

theorem State.pcEnqueue_queues {s : State} {n : Nat} (ha : s.pcAllowed n = true) (hp : s.pc n = pcOff ∨ s.pc n = pcRetry) :
    s.pcEnqueue n = ({ s with pwr := { s.pwr with queue := s.pwr.queue ++ [n] } } : State).setPc n pcQueued :=
  if_pos (by simp [ha, hp])

/-- The least of a list, which is one of it. -/
theorem foldl_min_eq {l : List Nat} {t d : Nat} (hd : d ∈ t :: l) (hle : ∀ x ∈ t :: l, d ≤ x) : l.foldl min t = d := by
  induction l generalizing t with
  | nil => exact (List.mem_singleton.1 hd).symm
  | cons x l ih =>
    refine ih (t := min t x) ?_ fun y hy => ?_
    · have ht := hle t (by simp)
      have hx := hle x (by simp)
      obtain rfl | hd := List.mem_cons.1 hd
      · exact List.mem_cons.2 (.inl (Nat.min_eq_left hx).symm)
      · obtain rfl | hd := List.mem_cons.1 hd
        · exact List.mem_cons.2 (.inl (Nat.min_eq_right ht).symm)
        · exact List.mem_cons_of_mem _ hd
    · have ht := hle t (by simp)
      have hx := hle x (by simp)
      obtain rfl | hy := List.mem_cons.1 hy
      · omega
      · exact hle y (by simp [hy])

theorem State.groupOn_due {s : State} {g due : Nat} (hin : ∃ c ∈ s.pwr.due, s.pocGroup c.2 = some g ∧ c.1 = due)
    (hle : ∀ c ∈ s.pwr.due, s.pocGroup c.2 = some g → due ≤ c.1) : s.groupOn g =
      ((s.pwr.due.filter fun c => c.1 = due).foldl (fun l c => setIns c.2 l) []).foldl State.pcEnqueue
        { s with pwr := { s.pwr with due := s.pwr.due.filter fun c => c.1 != due } } := by
  have hmem : due ∈ (s.pwr.due.filter fun c => s.pocGroup c.2 == some g).map (·.1) := by
    obtain ⟨c, hc, hg, rfl⟩ := hin
    exact List.mem_map_of_mem (List.mem_filter.2 ⟨hc, by simp [hg]⟩)
  have hmin : ∀ x ∈ (s.pwr.due.filter fun c => s.pocGroup c.2 == some g).map (·.1), due ≤ x := by
    intro x hx
    obtain ⟨c, hc, rfl⟩ := List.mem_map.1 hx
    obtain ⟨hc, hg⟩ := List.mem_filter.1 hc
    exact hle c hc (by simpa using hg)
  unfold State.groupOn
  split
  · next hnil => rw [hnil] at hmem; cases hmem
  · next t ts hcons =>
    rw [hcons] at hmem hmin
    rw [foldl_min_eq hmem hmin]

/-! ### Discovery begins (R98, R320) -/

theorem State.query_awaits (s : State) (p : Nat) : (s.query p).awaits p .query = true := by
  rw [State.query, State.ask, State.askAll, State.awaits, State.port_setPort_same]
  simp

theorem State.fld_setPort (s : State) (p : Nat) (x : PortSt) (f : Fld) : (s.setPort p x).fld f = s.fld f := rfl

theorem State.fld_sendCtl (s : State) (p type addr : Nat) (body : List Byte) (f : Fld) :
    (s.sendCtl p type addr body).fld f = s.fld f := rfl

theorem State.query_fld (s : State) (p : Nat) (f : Fld) : (s.query p).fld f = s.fld f := rfl

/-- A camera port's discovery begins with DISC QUERY, no node and state 1. -/
theorem State.discover_begins (s : State) {p : Nat} (hp : isLane p = false) : (s.discover p).awaits p .query = true ∧
    (s.discover p).fld (F.TRL_BRUP_STAT_STATE p) = 1 ∧ (s.discover p).fld (F.TRL_BRUP_STAT_NODES p) = 0 := by
  have hstate : (F.TRL_BRUP_STAT_STATE p).apart (F.TRL_BRUP_STAT_NODES p) = true := rfl
  unfold State.discover
  extract_lets a b c port d e
  have hd (g : Fld) : e.fld g = c.fld g := (State.fld_sendCtl ..).trans (State.fld_setPort ..)
  rw [if_pos (by simp [State.discovers, hp])]
  refine ⟨e.query_awaits p, ?_, ?_⟩
  · rw [State.query_fld, hd]
    exact State.fld_setFld_fits _ _ rfl
  · rw [State.query_fld, hd]
    exact (State.fld_setFld_apart _ _ hstate).trans (State.fld_setFld_fits _ _ rfl)

theorem State.bootEnd_discovers {s : State} {p : Nat} (hb : p ∈ s.pwr.boot) (hon : s.portOn p = true)
    (hend : s.sensorEnd p = false) : s.bootEnd p =
      ({ s with pwr := { s.pwr with boot := s.pwr.boot.filter (· != p) } } : State).discover p := by
  refine (if_pos hb).trans (if_pos ?_)
  show (s.portOn p && !s.sensorEnd p) = true
  rw [hon, hend]
  rfl

/-- Settles O8, one command at a time: what a boundary, a herd's close, a publication and a discovery leave alone is what each of
their parts leaves alone. -/
theorem boundariesAndHerds : Obligations.BoundariesAndHerds := by
  unfold Obligations.BoundariesAndHerds
  refine ⟨fun s l hup => ?tick, fun s => ⟨rfl, rfl, rfl, rfl, rfl⟩, fun s n h hup hh hc => ?deadline, fun s r hs hr => ?publish,
    fun s g due hs hin hle => ?group, fun s n => State.pcEnqueue_queues, fun s p hs hb hon hend => ?discovery,
    fun s hup hms hlate hq habs => ?quorum⟩
  case tick =>
    refine ⟨_, rfl, ?_, (exec_keeps (.tickBoundary l) s _ rfl).pending⟩
    rw [State.whenUp_up hup, State.tickBoundary_aon]
    rfl
  case deadline =>
    obtain ⟨hdata, hclosed⟩ := State.closeHerd_closes (s := s.advance h.deadline) hh hc 1
    obtain ⟨haon, -, hlink, -⟩ := State.bed_eq ((s.advance h.deadline).closeHerd_bed n 1)
    exact ⟨_, congrArg Host.Outcome.next ((State.whenUp_up hup _).trans (State.herdDeadline_open hh hc)), rfl, hclosed, hdata,
      hlink, haon⟩
  case publish =>
    obtain ⟨hrun, hgen, hlink, haon⟩ := s.publishAt_frame s.nextBoundary
    have he := State.publishEarly_runs hr hs.2
    generalize s.nextBoundary = b at hrun hgen hlink haon he
    obtain ⟨hnone, hflag⟩ := State.publish_ends _ (hrun.trans hr) ((s.publishAt b).aon.herd + 1) b
    obtain ⟨haon', -, hlink', -⟩ := State.bed_eq ((s.publishAt b).publish_bed ((s.publishAt b).aon.herd + 1) b)
    have hx : exec .placementPublish s = .next ((s.publishAt b).publish ((s.publishAt b).aon.herd + 1) b) :=
      congrArg Host.Outcome.next ((State.whenUp_up hs.1 _).trans he)
    refine ⟨_, hx, hnone, hflag, fun hc => ?_, hlink'.trans hlink, haon'.trans haon, (exec_keeps .placementPublish s _ hx).pending⟩
    rw [State.publish_counts _ (hrun.trans hr) hc, hgen]
  case group => exact congrArg Host.Outcome.next ((State.timer_runs hs _ _).trans (State.groupOn_due hin hle))
  case discovery =>
    have hlane : isLane p = false := by simp [isLane]
    obtain ⟨hawaits, hstate, hnodes⟩ := State.discover_begins
      { s with pwr := { s.pwr with boot := s.pwr.boot.filter (· != p.val) } } hlane
    obtain ⟨-, hdata, hherds, hpwr⟩ := State.line_eq (State.discover_line
      { s with pwr := { s.pwr with boot := s.pwr.boot.filter (· != p.val) } } p)
    exact ⟨_, congrArg Host.Outcome.next ((State.timer_runs hs _ _).trans (State.bootEnd_discovers hb hon hend)),
      congrArg PwrSt.boot hpwr, hstate, hnodes, hawaits, hdata, hherds⟩
  case quorum => exact congrArg Host.Outcome.next ((State.whenUp_up hup _).trans (State.quorumLimit_notes hms hlate hq habs))

end Sys2Proof.Machine
end
